-- ==== Sys2Proof/Word.lean ====
section
/-! DEFINITION. The word types of the memory port and of the drop line. -/

namespace Sys2Proof

/-- A byte of common memory or of a drop line frame. -/
abbrev Byte := BitVec 8

/-- A halfword, 16 bits (00, Numbers and names). -/
abbrev Half := BitVec 16

/-- A word, 32 bits (00, Numbers and names). -/
abbrev Word := BitVec 32

end Sys2Proof
end

