-- ==== Sys2Proof/Syntax.lean ====
section
/-! DEFINITION. The commands of the part: one constructor for each row of spec/opcode_table.json, with its operands,
and the data the commands carry. -/

namespace Sys2Proof

/-- Width of an access of the station computer (R150, R151). -/
inductive Width where
  | byte
  | half
  | word
  deriving DecidableEq, Repr

/-- Journal record kinds (Table 10-6, R181). -/
inductive JournalKind where
  | stage | threshold | rise | channel | sensorDisagree | sensorAgree | depthLost | depthRestored | closureSuppressed
  | supply | budget | shed | restore | adopt
  | pump | pumpTrip | demand | lead | float | runtimeSaturated
  | portal | gate | barrier | obstruction | portalStall | interior | interiorNotClear | portalFault
  | zone | zoneMode | daylight | lampFault | lampHealthy
  | claim
  | unit | lineError | lineQueueFull
  | station | storeFault
  deriving DecidableEq, Repr

/-- A record as a block hands it to the journal writer (R162): the sequence number and the stamp are the writer's. -/
structure JournalRec where
  kind : JournalKind
  subject : Nat
  /-- `none` is the "none" of R179. -/
  fromState : Option Nat
  toState : Option Nat
  /-- Details 1 to 4; those not listed are 0. -/
  details : List Nat
  /-- The record is marked as a fault by the chapter that writes it. -/
  fault : Bool
  deriving DecidableEq, Repr

/-- A completion as an owner hands it to the order reader (R160). -/
structure Completion where
  slot : Nat
  /-- Status code of Table 8-6. -/
  status : Nat
  detail : Nat
  second : Nat
  /-- Result words from word 25 on; those not listed are 0. -/
  results : List Nat
  deriving DecidableEq, Repr

/-- The commands. The comment of each group names its rules. -/
inductive Instr where
  -- resets (R166, R167)
  | powerOnReset
  | partReset (data : Word)
  -- registers (R154)
  | pstatWrite (data : Word)
  | registerWriteDiscarded (addr : Half) (width : Width) (data : Word)
  -- flag page (R151, R153)
  | flagPlainWrite (index : Nat) (data : Word)
  | flagSetViewWrite (index : Nat) (data : Word)
  | flagClearViewWrite (index : Nat) (data : Word)
  | flagTakeViewRead (index : Nat)
  | takeViewWrite (index : Nat) (data : Word)
  | narrowViewAccess (addr : Half) (half : Bool) (isWrite : Bool)
  -- order reader, journal writer, image publisher (R157, R160, R162, R164)
  | orderArrival
  | orderCompletion (c : Completion)
  | journalAppend (r : JournalRec)
  | imageRewriteRequest
  | imageRewriteEnd
  -- orders as their owners take them up, by slot (R21 to R23, R67 to R70, R96 to R98, R115, R116, R147, R148, R177, R178)
  | declareClosure (slot : Nat)
  | standDown (slot : Nat)
  | rebaseChannel (slot : Nat)
  | pumpRun (slot : Nat)
  | pumpStop (slot : Nat)
  | pumpAuto (slot : Nat)
  | pumpClear (slot : Nat)
  | pumpService (slot : Nat)
  | leadSet (slot : Nat)
  | portalReopen (slot : Nat)
  | confirmClear (slot : Nat)
  | portalReset (slot : Nat)
  | zoneSet (slot : Nat)
  | zoneAuto (slot : Nat)
  | unitRetire (slot : Nat)
  | unitRestore (slot : Nat)
  | loadSite (slot : Nat)
  | run (slot : Nat)
  | hold (slot : Nat)
  -- station control (R171, R173)
  | siteStoreJudgement
  /-- `readBack` is what the row is found to hold where it differs from what was written. -/
  | storeRowProgrammed (readBack : Option (List Byte))
  -- drop line (R130, R134)
  | requestTransmitted
  | responseFrameComplete
  | responseWindowExpiry
  | frameGapTimeout
  -- timers of water watch (R8, R15, R17)
  | riseWindowExpiry (channel : Nat)
  | watchDwellExpiry
  | reopenDwellExpiry
  -- notices to the supply budget, by grant entry (R31, R34 to R36, R41, R43)
  | loadRequest (entry : Nat) (cls : Nat) (power : Nat)
  | loadRelease (entry : Nat)
  | loadShrink (entry : Nat) (power : Nat)
  | loadWithdrawal (entry : Nat)
  | classNotice (entry : Nat) (cls : Nat)
  | energisedNotice (entry : Nat)
  | inrushWindowExpiry (entry : Nat)
  | adoptionNotice (entry : Nat) (power : Nat)
  | shedFailure (entry : Nat)
  -- dewatering (R54, R56, R57, R59, R63)
  | pumpGrantNotice (pump : Nat)
  | startConfirmExpiry (pump : Nat)
  | stopConfirmExpiry (pump : Nat)
  | pumpRestExpiry (pump : Nat)
  | pumpShedRequest (pump : Nat)
  -- portals (R77 to R79, R81, R83)
  | warnTimeExpiry (portal : Nat)
  | barrierTravelExpiry (portal : Nat)
  | clearDwellExpiry
  | clearLimitExpiry (portal : Nat)
  | gateGrantNotice (portal : Nat)
  | gateTravelExpiry (portal : Nat)
  | obstructionDwellExpiry (portal : Nat)
  -- lighting (R107, R112)
  | lampGrantNotice (circuit : Nat) (power : Nat)
  | lampShedRequest (circuit : Nat)
  -- poll rounds, plain memory, receiver (R138, R150, R130)
  | pollRoundStart
  | plainMemoryWrite (addr : Half) (width : Width) (data : Word)
  | responseByteReceived (b : Byte)
  deriving DecidableEq, Repr

end Sys2Proof
end

