-- ==== Sys2Proof/Decode.lean ====
section
/-! DEFINITION. Decoding of table words. The rows of spec/opcode_table.json give no bits: a command reaches the part as
an access, a line event or a notice, not as a word. -/

namespace Sys2Proof

/-- No row of the table gives bits, so no word spells a command. -/
def decodeTableWord (_nbits _w : Nat) : Option Instr := none

end Sys2Proof
end

