-- ==== Sys2Proof/Config.lean ====
section
/-! DEFINITION. What the spec leaves to the part or does not state: constants without a body, of which no proof can
know a value. -/

namespace Sys2Proof

/-- The revision half of IDENT (R154, R180): the spec gives the part code only. Log 20. -/
opaque Config.revision : Half

/-- How far beyond the range of its kind's unit the sample of an input without a reading lies (R2, R185): the spec
says beyond the range and no number. Log 21. -/
opaque Config.noReading : Nat → Nat

/-- The unit error code of a response with ERROR set that carries no data byte (R130). Log 22. -/
opaque Config.missingErrorCode : Nat → Byte

/-- How many further sections of the status image are written at a moment of a rewrite (R164): the spec gives their
order and no moment. Log 23. -/
opaque Config.sectionsWritten : Nat → Nat

end Sys2Proof
end

