-- ==== Sys2Proof/Machine/State.lean ====
section
/-! DEFINITION. The state of the part: every record, register, queue, timer and flag that spec/ names, as plain data, with
its value after reset. Times are exact counts of milliseconds since the last reset (log 3). -/

namespace Sys2Proof.Machine

open Sys2Proof

/-! ## Value sets (Table 10-1 and the chapters' tables) -/

/-- Blocks that own orders and place line requests, in the row order of Table 8-4 (R182). -/
inductive Block where
  | waterWatch | dewatering | portals | lighting | dropLine | stationControl
  deriving DecidableEq, Repr

/-- The orders of Table 8-4. -/
inductive OrderCode where
  | declareClosure | standDown | rebaseChannel
  | pumpRun | pumpStop | pumpAuto | pumpClear | pumpService | leadSet
  | portalReopen | confirmClear | portalReset
  | zoneSet | zoneAuto
  | unitRetire | unitRestore
  | loadSite | run | hold
  deriving DecidableEq, Repr

inductive ChannelKind where
  | sumpLevel | depth | rain | luminance | vehicles
  deriving DecidableEq, Repr

inductive Validity where
  | unknown | valid | outOfRange | stale
  deriving DecidableEq, Repr

inductive Role where
  | stop | start1 | start2 | start3 | start4 | high | watch | close | reopen | occupied
  deriving DecidableEq, Repr

inductive Direction where
  | up | down
  deriving DecidableEq, Repr

/-- State of a threshold, with the count of a counting state (R3). -/
inductive ThState where
  | below
  | rising (n : Nat)
  | above
  | falling (n : Nat)
  deriving DecidableEq, Repr

/-- Storm stages (Table 1-6). -/
inductive Stage where
  | dry | watch | alert | closed | draining
  deriving DecidableEq, Repr

/-- Causes of a stage change (Table 1-7). -/
inductive StageCause where
  | reset | siteLoad | rollCall | rainWatch | depthWatch | sumpHigh | depthRise | depthInvalid | closeLevel
  | watchDwell | declareOrder | portalsShut | portalBreach | reopenDwell | standDown | reopened | stationRun
  deriving DecidableEq, Repr

/-- Portal views (R14, R24). -/
inductive View where
  | opened | shut | moving | stalled | unknown
  deriving DecidableEq, Repr

inductive Source where
  | mains | generator | none | unknown
  deriving DecidableEq, Repr

inductive BudgetState where
  | normal | shedding | overload
  deriving DecidableEq, Repr

/-- Kind and owner of a load (Table 2-4): the pump, portal or circuit index. -/
inductive Load where
  | pump (i : Nat)
  | gate (n : Nat)
  | lamp (c : Nat)
  deriving DecidableEq, Repr

inductive EntryState where
  | idle | queued | inrush | held
  deriving DecidableEq, Repr

inductive ShedMark where
  | none | asked | failed
  deriving DecidableEq, Repr

inductive FloatState where
  | inactive | active | unknown
  deriving DecidableEq, Repr

inductive PumpState where
  | outOfService | tripped | idle | resting | waiting | starting | running | stopping | uncommanded
  deriving DecidableEq, Repr

inductive WaitCause where
  | grant | outage | shed | rest
  deriving DecidableEq, Repr

inductive TripReason where
  | startFail | stopFail | overload | feedbackLost
  deriving DecidableEq, Repr

inductive Intent where
  | run | stop
  deriving DecidableEq, Repr

inductive RunView where
  | stopped | running | unknown
  deriving DecidableEq, Repr

inductive GrantView where
  | none | requested | granted
  deriving DecidableEq, Repr

/-- Start pairs of pumps and motion pairs of portals. -/
inductive PairState where
  | none | inFlight | abandoned
  deriving DecidableEq, Repr

inductive StopMark where
  | none | demand | shed | service
  deriving DecidableEq, Repr

inductive Closure where
  | unknown | opened | warning | barring | clearing | gating | shut | ungating | unbarring | stalled
  deriving DecidableEq, Repr

inductive StallReason where
  | gateTravel | barrierTravel | obstructed | unitRefused
  deriving DecidableEq, Repr

inductive Aspect where
  | dark | amber | red | unknown
  deriving DecidableEq, Repr

inductive BarrierState where
  | up | lowering | down | raising | unknown
  deriving DecidableEq, Repr

inductive GateState where
  | stowed | deploying | deployed | stowing | halted | unknown
  deriving DecidableEq, Repr

/-- Motion actions (Table 10-1). -/
inductive Motion where
  | start | deploy | stow | lower | raise
  deriving DecidableEq, Repr

inductive ZoneMode where
  | normal | clearingFull | closure
  deriving DecidableEq, Repr

inductive RunDir where
  | none | up | down
  deriving DecidableEq, Repr

inductive LampFlag where
  | clear | lamp | refused
  deriving DecidableEq, Repr

/-- Claim values, weakest last (chapter 6). -/
inductive ClaimValue where
  | away | panel | ordered | auto
  deriving DecidableEq, Repr

inductive KeyView where
  | normal | panel | unknown
  deriving DecidableEq, Repr

/-- Subject of a claim entry (Table 6-1). -/
inductive ClaimSubject where
  | pump (i : Nat)
  | portal (n : Nat)
  | zone (z : Nat)
  deriving DecidableEq, Repr

/-- Causes of a claim change (Table 6-5). -/
inductive ClaimCause where
  | unitLost | unitJoined | rollCall | keyPanel | keyNormal | order | autoOrder | localReport | restartReport
  deriving DecidableEq, Repr

inductive UnitType where
  | pumpRoom | portal | lamp | sensor | switchboard
  deriving DecidableEq, Repr

inductive RosterState where
  | unseen | present | suspect | lost | retired
  deriving DecidableEq, Repr

/-- Line errors (Table 7-3); a unit error carries its code. -/
inductive LineError where
  | check | gap | timeout | wrongAddress
  | unitError (code : Nat)
  deriving DecidableEq, Repr

inductive Selection where
  | none | selecting | selected | operating
  deriving DecidableEq, Repr

/-- Station states (Table 9-3). -/
inductive StationState where
  | loading | unset | rollCall | held | running
  deriving DecidableEq, Repr

/-- Commands of the drop line (Table 7-1). -/
inductive LineCmd where
  | poll | set | select | operate | halt | deselect
  deriving DecidableEq, Repr

/-! ## The site table (Tables 9-1 and 10-9) -/

structure SiteUnit where
  address : Nat
  type : UnitType
  missLimit : Nat
  deriving DecidableEq, Repr

structure SiteThreshold where
  role : Role
  level : Nat
  direction : Direction
  qualify : Nat
  hysteresis : Nat
  deriving DecidableEq, Repr

structure SiteChannel where
  unit : Nat
  input : Nat
  kind : ChannelKind
  low : Nat
  high : Nat
  /-- Partner channel and tolerance. -/
  partner : Option (Nat × Nat)
  /-- Delta and window in seconds of the rise detector. -/
  rise : Option (Nat × Nat)
  thresholds : List SiteThreshold
  deriving DecidableEq, Repr

structure SiteSump where
  level : Nat
  cutoutUnit : Nat
  cutoutInput : Nat
  highUnit : Nat
  highInput : Nat
  rotation : List Nat
  duty : Nat
  deriving DecidableEq, Repr

structure SitePump where
  unit : Nat
  motor : Nat
  feedback : Nat
  overload : Nat
  sump : Nat
  out : Bool
  confirm : Nat
  rest : Nat
  starts : Nat
  run : Nat
  inrush : Nat
  window : Nat
  key : Nat
  deriving DecidableEq, Repr

structure SitePortal where
  unit : Nat
  signal : Nat
  barrier : Nat
  gate : Nat
  warn : Nat
  clearLimit : Nat
  barrierTravel : Nat
  gateTravel : Nat
  obstruction : Nat
  attempts : Nat
  run : Nat
  inrush : Nat
  window : Nat
  key : Nat
  deriving DecidableEq, Repr

structure SiteZone where
  unit : Nat
  minNormal : Nat
  minStorm : Nat
  closure : Nat
  day : Nat
  night : Nat
  luminance : Nat
  boundaries : List Nat
  stepHysteresis : Nat
  stepQualify : Nat
  offset : Nat
  dayBoundary : Nat
  dayHysteresis : Nat
  dayQualify : Nat
  key : Nat
  deriving DecidableEq, Repr

structure SiteCircuit where
  zone : Nat
  output : Nat
  power : List Nat
  deriving DecidableEq, Repr

structure SiteSupply where
  unit : Nat
  mainsInput : Nat
  generatorInput : Nat
  overloadInput : Nat
  mains : Nat
  generator : Nat
  reserve : Nat
  derate : Nat
  deriving DecidableEq, Repr

/-- A validated site table (R168). -/
structure Site where
  format : Nat
  autorun : Bool
  records : Nat
  roundPeriod : Nat
  watchDwell : Nat
  reopenDwell : Nat
  clearDwell : Nat
  units : List SiteUnit
  channels : List SiteChannel
  sumps : List SiteSump
  pumps : List SitePump
  north : SitePortal
  south : SitePortal
  zones : List SiteZone
  circuits : List SiteCircuit
  supply : SiteSupply
  deriving DecidableEq, Repr

/-! ## Water watch (chapter 1) -/

/-- Threshold record (R3). -/
structure Threshold where
  role : Role
  level : Nat
  direction : Direction
  qualify : Nat
  hysteresis : Nat
  state : ThState
  deriving DecidableEq, Repr

/-- Rise detector of a channel: delta, window in seconds, baseline value and time (R1, R7, R8). -/
structure Rise where
  delta : Nat
  window : Nat
  baseline : Option (Nat × Nat)
  deriving DecidableEq, Repr

/-- Channel record (Table 1-2). -/
structure Channel where
  unit : Nat
  input : Nat
  kind : ChannelKind
  low : Nat
  high : Nat
  value : Nat
  validity : Validity
  lastSample : Option Nat
  partner : Option (Nat × Nat)
  disagree : Bool
  rise : Option Rise
  thresholds : List Threshold
  deriving DecidableEq, Repr

/-- The governing depth while VALID: channel and value (R11). -/
structure GovDepth where
  channel : Nat
  value : Nat
  deriving DecidableEq, Repr

/-- The stage record (R12). -/
structure StageRec where
  stage : Stage
  entered : Nat
  cause : StageCause
  dwellStart : Option Nat
  north : View
  south : View
  suppressed : Bool
  deriving DecidableEq, Repr

structure Water where
  channels : List Channel
  /-- `none` is INVALID. -/
  governing : Option GovDepth
  stage : StageRec
  deriving DecidableEq, Repr

/-! ## Supply budget (chapter 2) -/

/-- Supply record (Table 2-1). The granted sum is computed. -/
structure Supply where
  source : Source
  lastKnown : Option Source
  mains : Bool
  generator : Bool
  overload : Bool
  capacity : Nat
  state : BudgetState
  sequence : Word
  deriving DecidableEq, Repr

/-- Grant table entry (Table 2-4). For PUMP and GATE the requested power is the run power. -/
structure Grant where
  load : Load
  cls : Nat
  state : EntryState
  granted : Nat
  requested : Nat
  inrush : Nat
  window : Nat
  adopted : Bool
  floor : Nat
  mark : ShedMark
  number : Option Word
  energised : Option Nat
  /-- The outage flag, with the time of the outage for detail 3 of RESTORE (R38, R44). -/
  outage : Option Nat
  deriving DecidableEq, Repr

structure Budget where
  supply : Supply
  grants : List Grant
  queue : List Nat
  deriving DecidableEq, Repr

/-! ## Dewatering (chapter 3) -/

structure FloatInput where
  unit : Nat
  input : Nat
  state : FloatState
  deriving DecidableEq, Repr

/-- Sump record (Table 3-1). -/
structure Sump where
  level : Nat
  cutout : FloatInput
  high : FloatInput
  rotation : List Nat
  lead : Nat
  duty : Nat
  storm : Bool
  demand : Nat
  able : Nat
  list : List Nat
  deriving DecidableEq, Repr

/-- Pump record (Table 3-2), with what R54, R57, R61 and R66 imply: the running confirm time, the unit error code of a
trip, the present running period, requests refused full. -/
structure Pump where
  unit : Nat
  motor : Nat
  feedback : Nat
  overloadInput : Nat
  sump : Nat
  state : PumpState
  cause : Option WaitCause
  trip : Option TripReason
  out : Bool
  intent : Option Intent
  running : RunView
  overload : FloatState
  grant : GrantView
  pair : PairState
  mark : StopMark
  lapse : Bool
  startTime : Option Nat
  lastStop : Option Nat
  history : List Nat
  runSeconds : Nat
  confirm : Nat
  rest : Nat
  starts : Nat
  runPower : Nat
  /-- Start of the confirm time that runs (R55, R57). -/
  confirmStart : Option Nat
  /-- Unit error code of the trip, 0 for none (R66). -/
  tripCode : Nat
  /-- Since when the running seconds are not yet added, and the remainder in ms (R61). -/
  runSince : Option Nat
  runRest : Nat
  /-- The RUNTIME_SATURATED record has been written (R61). -/
  saturated : Bool
  /-- The START pair, or a HALT, was refused full and waits for the retry notice (R54, R57). -/
  pairRefused : Bool
  haltRefused : Bool
  deriving DecidableEq, Repr

structure Dewater where
  sumps : List Sump
  pumps : List Pump
  deriving DecidableEq, Repr

/-! ## Portals (chapter 4) -/

/-- Signals sub-record. `again`: a SET missed or refused, to be queued at the next POLL response; `refused`: one refused
full, to be queued at the retry notice (R73). -/
structure Signals where
  wanted : Aspect
  shown : Aspect
  again : Bool
  refused : Bool
  deriving DecidableEq, Repr

/-- Barrier sub-record. -/
structure Barrier where
  state : BarrierState
  pair : PairState
  action : Option Motion
  travel : Option Nat
  /-- The motion of the travel that runs or ran last (the model's own field, log 29). -/
  heading : Motion
  limit : Nat
  conflict : Bool
  pairRefused : Bool
  haltRefused : Bool
  deriving DecidableEq, Repr

/-- Gate sub-record. `halting`: the HALT of the stop procedure has not ended (R80). -/
structure Gate where
  state : GateState
  position : Nat
  obstruction : Bool
  attempts : Nat
  grant : GrantView
  pair : PairState
  action : Option Motion
  stopping : Bool
  halting : Bool
  travel : Option Nat
  dwellStart : Option Nat
  limit : Nat
  dwell : Nat
  attemptLimit : Nat
  conflict : Bool
  pairRefused : Bool
  haltRefused : Bool
  deriving DecidableEq, Repr

/-- Portal record (Table 4-1). -/
structure Portal where
  unit : Nat
  signalOut : Nat
  barrierOut : Nat
  gateOut : Nat
  closure : Closure
  stall : Option StallReason
  interrupted : Option Closure
  stallDetail : Nat
  reopening : Bool
  timer : Option Nat
  clearFault : Bool
  warn : Nat
  clearLimit : Nat
  signals : Signals
  barrier : Barrier
  gate : Gate
  deriving DecidableEq, Repr

/-- Interior record (R78). The confirm flag is the presence of the slot. -/
structure Interior where
  episode : Word
  opened : Bool
  clear : Bool
  confirm : Option Nat
  dwellStart : Option Nat
  deriving DecidableEq, Repr

structure Portals where
  north : Portal
  south : Portal
  interior : Interior
  deriving DecidableEq, Repr

/-! ## Lighting (chapter 5) -/

/-- Selection of a threshold zone (R102). -/
structure StepChoice where
  selected : Nat
  dir : RunDir
  count : Nat
  bound : Nat
  deriving DecidableEq, Repr

/-- Step table of a threshold zone (R100). -/
structure StepTable where
  channel : Nat
  boundaries : List Nat
  hysteresis : Nat
  qualify : Nat
  deriving DecidableEq, Repr

/-- Zone record (Table 5-1). -/
structure Zone where
  circuits : List Nat
  unit : Nat
  mode : ZoneMode
  target : Nat
  /-- `none` is UNKNOWN. -/
  current : Option Nat
  ordered : Option Nat
  minNormal : Nat
  minStorm : Nat
  /-- The minimum safe step in force; absent for EGRESS. -/
  minSafe : Option Nat
  closure : Option Nat
  day : Nat
  night : Nat
  degraded : Bool
  choice : Option StepChoice
  table : Option StepTable
  offset : Nat
  deriving DecidableEq, Repr

/-- Circuit entry (Table 5-2). -/
structure Circuit where
  zone : Nat
  output : Nat
  power : List Nat
  grant : Option Nat
  wanted : Nat
  granted : Nat
  request : Option Nat
  setList : List Nat
  /-- `none` is UNKNOWN. -/
  reported : Option Nat
  fault : LampFlag
  shedHold : Bool
  deriving DecidableEq, Repr

/-- The day decision (R104): ABOVE stands for DAY. -/
structure Day where
  state : ThState
  decider : Option Nat
  boundary : Nat
  hysteresis : Nat
  qualify : Nat
  deriving DecidableEq, Repr

structure Lights where
  zones : List Zone
  circuits : List Circuit
  day : Day
  deriving DecidableEq, Repr

/-! ## Claims (chapter 6) -/

/-- Claim entry (Table 6-1). -/
structure Claim where
  subject : ClaimSubject
  unit : Nat
  key : Nat
  keyView : KeyView
  value : ClaimValue
  slot : Option Nat
  changed : Nat
  deriving DecidableEq, Repr

/-! ## The drop line (chapter 7) -/

/-- Whom a request serves (R139): the block and the record concerned. `gateHalt` tells whether the HALT is the stop
procedure's (R80). -/
inductive ReqFor where
  | pumpStart (i : Nat)
  | pumpHalt (i : Nat)
  | signalSet (n : Nat)
  | barrierPair (n : Nat)
  | barrierHalt (n : Nat)
  | gatePair (n : Nat)
  | gateHalt (n : Nat) (stop : Bool)
  | lampSet (c : Nat)
  | lineItself
  deriving DecidableEq, Repr

/-- What becomes of a request's end at its requester: judged, judged as abandoned (R58, R80), or disregarded (R64, R93,
R113). -/
inductive Fate where
  | live | abandoned | disregarded
  deriving DecidableEq, Repr

structure Requester where
  who : ReqFor
  fate : Fate
  deriving DecidableEq, Repr

/-- What a queue entry asks for (R139). -/
inductive Request where
  | halt
  | pair (m : Motion)
  | set (value : Nat)
  | deselect
  deriving DecidableEq, Repr

/-- Line queue entry (R139). -/
structure QEntry where
  req : Request
  unit : Nat
  output : Nat
  requesters : List Requester
  joined : Nat
  deriving DecidableEq, Repr

/-- What is on the line (R134, R142, R144). -/
inductive ExKind where
  /-- Poll of a round. -/
  | poll
  /-- Poll of the roll call. -/
  | rollPoll
  /-- The broadcast DESELECT of the roll call. -/
  | broadcast
  /-- A SET, HALT or DESELECT of the queue. -/
  | single (e : QEntry)
  | selectOf (e : QEntry)
  | operateOf (e : QEntry)
  deriving DecidableEq, Repr

/-- An exchange (R134): `awaiting` once the request is out; `discard` where a LOAD SITE has overtaken it (R145). -/
structure Exchange where
  kind : ExKind
  unit : Nat
  cmd : LineCmd
  frame : List Byte
  awaiting : Bool
  windowStart : Nat
  discard : Bool
  deriving DecidableEq, Repr

/-- Roster entry (Table 7-3). -/
structure RosterEntry where
  address : Nat
  type : UnitType
  state : RosterState
  missCount : Nat
  missLimit : Nat
  lastGood : Option Nat
  lastError : Option LineError
  selection : Selection
  heard : Bool
  held : Option (List Byte)
  retry : List Block
  deriving DecidableEq, Repr

/-- Poll round record (R138). -/
structure Round where
  number : Word
  start : Nat
  lastAddr : Nat
  inProgress : Bool
  deriving DecidableEq, Repr

/-- The receiver (R130): the frame in progress with its sync byte, the time of its last byte, and whether a frame was
discarded by the gap rule in this window (R134). -/
structure Receiver where
  frame : List Byte
  lastByte : Nat
  gapSeen : Bool
  deriving DecidableEq, Repr

structure Line where
  roster : List RosterEntry
  queue : List QEntry
  /-- Requests that a HALT displaced from the full queue, with the requesters that had given them up: their end is reported at
  the end of the event (the model's own field, log 9; empty between events). -/
  displaced : List QEntry
  exchange : Option Exchange
  /-- The pair in SELECTED, whose OPERATE goes next (R141). -/
  selected : Option QEntry
  rx : Receiver
  round : Round
  /-- A full-queue episode is open (R140). -/
  fullEpisode : Bool
  /-- The broadcast DESELECT of the roll call is still to be sent (R144). -/
  broadcastDue : Bool
  deriving DecidableEq, Repr

/-! ## Station control (chapter 9) -/

/-- The site store (R170): rows, and the check cell's length and CRC words. -/
structure Store where
  rows : List Host.Cell
  checkLength : Word
  checkCrc : Word
  deriving DecidableEq, Repr

/-- Programming of the site store (R171): the LOAD SITE's slot, the working copy with its table, the row being written
and the start of its 5 ms. Its presence is the programming flag. -/
structure Programming where
  slot : Nat
  bytes : List Byte
  site : Site
  row : Nat
  rowStart : Nat
  deriving DecidableEq, Repr

/-- The LOAD SITE that brought the table in force and completes at the end of the roll call: slot and store result
(R177). -/
structure LoadRec where
  slot : Nat
  result : Nat
  deriving DecidableEq, Repr

structure Station where
  state : StationState
  site : Option Site
  programming : Option Programming
  load : Option LoadRec
  /-- The last reset was a power-on reset (R172, detail 2). -/
  powerOn : Bool
  deriving DecidableEq, Repr

/-! ## Orders at their owners -/

/-- An order that its owner holds ACTIVE (R158). `since`: for DECLARE CLOSURE, when it moved the stage to ALERT
(R21). -/
structure Active where
  slot : Nat
  code : OrderCode
  subject : Nat
  since : Nat
  deriving DecidableEq, Repr

/-- A portal view report of R92 that water watch has still to act on, within one step. -/
structure ViewReport where
  portal : Nat
  old : View
  new : View
  reopening : Bool
  deriving DecidableEq, Repr

/-- The records of all blocks outside the memory port. -/
structure Works where
  /-- Station time, exact. -/
  now : Nat
  station : Station
  water : Water
  budget : Budget
  dewater : Dewater
  portals : Portals
  lights : Lights
  claims : List Claim
  line : Line
  active : List Active
  reports : List ViewReport
  /-- Commands handed between blocks, and timers come due, first in first out (log 1). -/
  notices : List Instr
  /-- Counter of the free values drawn. -/
  fresh : Nat
  deriving DecidableEq, Repr

/-! ## The memory port (chapter 8) -/

inductive Standing where
  | waiting | active
  deriving DecidableEq, Repr

/-- Working list entry (R156). `takenUp`: the owner has taken the order up. -/
structure Entry where
  slot : Nat
  /-- Words 0 to 21 of the slot at taking. -/
  snapshot : List Word
  standing : Standing
  taken : Nat
  checked : Bool
  takenUp : Bool
  deriving DecidableEq, Repr

/-- PSTAT (R154). -/
structure Pstat where
  viewForm : Bool
  ownedWord : Bool
  repost : Bool
  deriving DecidableEq, Repr

/-- The rewrite of the status image in progress (R164, R165): sections written so far, and what the header shows. -/
structure Rewrite where
  done : Nat
  time : Nat
  count : Word
  deriving DecidableEq, Repr

structure Port where
  mem : List Host.Cell
  pstat : Pstat
  working : List Entry
  held : Word
  /-- The journal count n (R162). -/
  count : Word
  rewrite : Option Rewrite
  rewritePending : Bool
  /-- The word that the latest state-changing read returned. -/
  readData : Word
  deriving DecidableEq, Repr

/-- The state of the part. -/
structure State where
  port : Port
  works : Works
  store : Store
  /-- Commands waiting, first in first out. -/
  pending : List Instr
  deriving DecidableEq, Repr

/-- Reasons to stop with a fault: none. The spec reports faults in the journal and goes on (chapter 8). -/
inductive Fault where
  deriving DecidableEq, Repr

/-- Reasons to refuse a command. -/
inductive Refusal where
  /-- Raised by `exec` for a command without a meaning yet, by its mnemonic; no arm raises it. Safe. -/
  | notModelled (mnemonic : String)
  deriving DecidableEq, Repr

/-! ## Reset -/

def Signals.reset : Signals := { wanted := .dark, shown := .unknown, again := false, refused := false }

def Barrier.reset : Barrier :=
  { state := .unknown, pair := .none, action := none, travel := none, heading := .lower, limit := 0, conflict := false,
    pairRefused := false, haltRefused := false }

def Gate.reset : Gate :=
  { state := .unknown, position := 0, obstruction := false, attempts := 0, grant := .none, pair := .none,
    action := none, stopping := false, halting := false, travel := none, dwellStart := none, limit := 0, dwell := 0,
    attemptLimit := 0, conflict := false, pairRefused := false, haltRefused := false }

/-- A portal record before a site table is in force (R72). Its site figures are 0 (the model's choice, log 8). -/
def Portal.reset : Portal :=
  { unit := 0, signalOut := 0, barrierOut := 0, gateOut := 0, closure := .unknown, stall := none,
    interrupted := none, stallDetail := 0, reopening := false, timer := none, clearFault := false, warn := 0,
    clearLimit := 0, signals := Signals.reset, barrier := Barrier.reset, gate := Gate.reset }

/-- The interior record after either reset (R78). -/
def Interior.reset : Interior :=
  { episode := 0, opened := false, clear := false, confirm := none, dwellStart := none }

/-- The stage record after either reset (R12). -/
def StageRec.reset : StageRec :=
  { stage := .dry, entered := 0, cause := .reset, dwellStart := none, north := .unknown, south := .unknown,
    suppressed := false }

/-- The supply record after either reset (Table 2-1). -/
def Supply.reset : Supply :=
  { source := .unknown, lastKnown := none, mains := false, generator := false, overload := false, capacity := 0,
    state := .normal, sequence := 0 }

/-- The day decision starts in DAY (R100). That it is DAY with its figures 0 before a site table is in force is the model's choice
(log 8). -/
def Day.reset : Day := { state := .above, decider := none, boundary := 0, hysteresis := 0, qualify := 0 }

/-- The drop line after either reset (R133, R138, R145). That the round record has start time 0 and last address 0, and the
receiver its last byte at time 0, is the model's choice (log 8). -/
def Line.reset : Line :=
  { roster := [], queue := [], displaced := [], exchange := none, selected := none,
    rx := { frame := [], lastByte := 0, gapSeen := false },
    round := { number := 0, start := 0, lastAddr := 0, inProgress := false },
    fullEpisode := false, broadcastDue := false }

/-- All blocks outside the port after a reset, power-on or not (R167, R172 and the chapters). -/
def Works.reset (powerOn : Bool) : Works :=
  { now := 0,
    station := { state := .loading, site := none, programming := none, load := none, powerOn := powerOn },
    water := { channels := [], governing := none, stage := StageRec.reset },
    budget := { supply := Supply.reset, grants := [], queue := [] },
    dewater := { sumps := [], pumps := [] },
    portals := { north := Portal.reset, south := Portal.reset, interior := Interior.reset },
    lights := { zones := [], circuits := [], day := Day.reset },
    claims := [],
    line := Line.reset,
    active := [], reports := [], notices := [], fresh := 0 }

/-- The port after a power-on reset: memory lists nothing, which is zero throughout (R166). -/
def Port.reset : Port :=
  { mem := [], pstat := { viewForm := false, ownedWord := false, repost := false }, working := [], held := 0,
    count := 0, rewrite := none, rewritePending := false, readData := 0 }

/-- The site store of a new part: its check cell clear (R170, R186). -/
def Store.reset : Store := { rows := [], checkLength := 0xFFFFFFFF, checkCrc := 0xFFFFFFFF }

/-- The part right after a power-on reset, with the site store of a new part. -/
def State.reset : State :=
  { port := Port.reset, works := Works.reset true, store := Store.reset, pending := [] }

end Sys2Proof.Machine
end

