-- ==== Sys2Proof/Machine/Ops.lean ====
section
/-! DEFINITION. Shared operations: byte memory in its canonical form, little-endian fields, the two CRCs, lists by index,
and what every block uses to hand on notices, journal records and completions. -/

namespace Sys2Proof.Machine

open Sys2Proof

/-! ## Memory: a list of (address, byte) pairs with strictly rising addresses and no zero byte -/

/-- What an unlisted address reads as: common memory is zero after a power-on reset (R166). -/
def Memory.unlisted : Byte := 0

/-- Read of one byte. -/
def Memory.read : List Host.Cell → Nat → Byte
  | [], _ => Memory.unlisted
  | (b, v) :: t, a => if a < b then Memory.unlisted else if a = b then v else Memory.read t a

/-- Write of one byte; writing what an unlisted address reads as removes the entry. -/
def Memory.write : List Host.Cell → Nat → Byte → List Host.Cell
  | [], a, v => if v = Memory.unlisted then [] else [(a, v)]
  | (b, w) :: t, a, v =>
    if a < b then (if v = Memory.unlisted then (b, w) :: t else (a, v) :: (b, w) :: t)
    else if a = b then (if v = Memory.unlisted then t else (a, v) :: t)
    else (b, w) :: Memory.write t a v

/-- All listed addresses lie at or above `lo`, rise strictly, and list no byte that an unlisted address reads as. -/
def Memory.wfFrom : Nat → List Host.Cell → Bool
  | _, [] => true
  | lo, (a, v) :: t => decide (lo ≤ a) && !(v == Memory.unlisted) && Memory.wfFrom (a + 1) t

/-- The canonical form of a memory. -/
def Memory.wf (m : List Host.Cell) : Bool := Memory.wfFrom 0 m

/-- Write of consecutive bytes from an address on. -/
def Memory.writeBytes : List Host.Cell → Nat → List Byte → List Host.Cell
  | m, _, [] => m
  | m, a, v :: vs => Memory.writeBytes (Memory.write m a v) (a + 1) vs

/-- Read of `n` consecutive bytes. -/
def Memory.readBytes (m : List Host.Cell) (a : Nat) : Nat → List Byte
  | 0 => []
  | n + 1 => Memory.read m a :: Memory.readBytes m (a + 1) n

/-- Write of consecutive bytes that skips addresses outside a range. -/
def Memory.writeWithin (lo hi : Nat) : List Host.Cell → Nat → List Byte → List Host.Cell
  | m, _, [] => m
  | m, a, v :: vs =>
    Memory.writeWithin lo hi (if lo ≤ a ∧ a < hi then Memory.write m a v else m) (a + 1) vs

/-! ## Little-endian fields (R179) -/

/-- The `n` bytes of a field, least significant first. -/
def leBytes : Nat → Nat → List Byte
  | 0, _ => []
  | n + 1, v => BitVec.ofNat 8 v :: leBytes n (v / 256)

/-- The value of a field from its bytes, least significant first. -/
def leValue : List Byte → Nat
  | [] => 0
  | b :: bs => b.toNat + 256 * leValue bs

/-- Bytes of a word. -/
def wordBytes (w : Word) : List Byte :=
  [w.extractLsb' 0 8, w.extractLsb' 8 8, w.extractLsb' 16 8, w.extractLsb' 24 8]

/-- Read of a word, least significant byte at the lowest address (R179). -/
def Memory.readWord (m : List Host.Cell) (a : Nat) : Word :=
  Memory.read m (a + 3) ++ Memory.read m (a + 2) ++ Memory.read m (a + 1) ++ Memory.read m a

/-- Write of a word, least significant byte at the lowest address (R179). -/
def Memory.writeWord (m : List Host.Cell) (a : Nat) (w : Word) : List Host.Cell :=
  Memory.writeBytes m a (wordBytes w)

/-- Write of consecutive words. -/
def Memory.writeWords : List Host.Cell → Nat → List Word → List Host.Cell
  | m, _, [] => m
  | m, a, w :: ws => Memory.writeWords (Memory.writeWord m a w) (a + 4) ws

/-! ## CRCs (R185, R186) -/

/-- One bit of the frame check, most significant bit first. -/
def crc16Bit (r : Half) : Half := if r.msb then (r <<< 1) ^^^ 0x1021 else r <<< 1

/-- `n` times a function. -/
def times {α : Type} (f : α → α) : Nat → α → α
  | 0, x => x
  | n + 1, x => times f n (f x)

/-- One byte taken into the frame check (R185). -/
def crc16Byte (r : Half) (b : Byte) : Half := times crc16Bit 8 (r ^^^ (b.zeroExtend 16 <<< 8))

/-- The check of a frame over its bytes, from 0xFFFF, no final inversion (R185). -/
def crc16 (bs : List Byte) : Half := bs.foldl crc16Byte 0xFFFF

/-- One bit of the CRC-32, least significant bit first (R186). -/
def crc32Bit (r : Word) : Word := if r.getLsbD 0 then (r >>> 1) ^^^ 0xEDB88320 else r >>> 1

/-- One byte taken into the CRC-32. -/
def crc32Byte (r : Word) (b : Byte) : Word := times crc32Bit 8 (r ^^^ b.zeroExtend 32)

/-- The CRC-32 over bytes in ascending address order (R186). -/
def crc32 (bs : List Byte) : Word := ~~~(bs.foldl crc32Byte 0xFFFFFFFF)

/-! ## Lists by index -/

/-- The list with the element at an index changed. -/
def updAt {α : Type} (f : α → α) : Nat → List α → List α
  | _, [] => []
  | 0, x :: xs => f x :: xs
  | n + 1, x :: xs => x :: updAt f n xs

/-- Position of the first element that meets a test. -/
def posOf {α : Type} (p : α → Bool) : List α → Option Nat
  | [] => none
  | x :: xs => if p x then some 0 else (posOf p xs).map (· + 1)

/-- The list less the first element that meets a test. -/
def dropFirst {α : Type} (p : α → Bool) : List α → List α
  | [] => []
  | x :: xs => if p x then xs else x :: dropFirst p xs

/-- Sum of a figure over a list. -/
def sumOf {α : Type} (f : α → Nat) : List α → Nat
  | [] => 0
  | x :: xs => f x + sumOf f xs

/-- Elements paired with their indexes, from `n` on. -/
def indexed {α : Type} : Nat → List α → List (Nat × α)
  | _, [] => []
  | n, x :: xs => (n, x) :: indexed (n + 1) xs

/-- A value inserted into a list sorted by a key, behind those of equal key. -/
def insertBy {α : Type} (key : α → Nat) (x : α) : List α → List α
  | [] => [x]
  | y :: ys => if key x < key y then x :: y :: ys else y :: insertBy key x ys

/-- Sorting by a key; equal keys keep their order. -/
def sortBy {α : Type} (key : α → Nat) (l : List α) : List α := l.foldl (fun acc x => insertBy key x acc) []

/-- Apply an operation for each element in turn. -/
def each {α β : Type} (l : List α) (f : α → β → β) (b : β) : β := l.foldl (fun b a => f a b) b

/-! ## Time -/

/-- A timer that started at `start` has run for `limit` ms. -/
def elapsed (start limit now : Nat) : Bool := decide (start + limit ≤ now)

/-- Station time as the CLOCK register shows it: 32 bits (00, Station time). -/
def clock (t : Nat) : Word := BitVec.ofNat 32 t

/-- Station time as written in records, results and the image: all ones would mean absent (R179). -/
def stamp (t : Nat) : Word := if clock t = 0xFFFFFFFF then 0xFFFFFFFE else clock t

/-! ## Notices -/

/-- Hand a command on: it is taken after those handed on before it (log 1). -/
def Works.send (i : Instr) (w : Works) : Works := { w with notices := w.notices ++ [i] }

/-- Hand a record to the journal writer (R162). -/
def Works.record (kind : JournalKind) (subject : Nat) (fromState toState : Option Nat) (details : List Nat)
    (fault : Bool) (w : Works) : Works :=
  w.send (.journalAppend { kind, subject, fromState, toState, details, fault })

/-- Ask for a rewrite of the status image (R164). -/
def Works.wantImage (w : Works) : Works := w.send .imageRewriteRequest

/-- Hand the completion of an order to the order reader; its owner holds it no longer (R160). -/
def Works.complete (slot status detail second : Nat) (results : List Nat) (w : Works) : Works :=
  { w with active := w.active.filter (fun a => !(a.slot == slot)) }.send
    (.orderCompletion { slot, status, detail, second, results })

/-- Complete every ACTIVE order that meets a test. -/
def Works.completeAll (p : Active → Bool) (f : Active → Works → Works) (w : Works) : Works :=
  each (w.active.filter p) f w

/-- An order becomes ACTIVE at its owner (R158). -/
def Works.hold (a : Active) (w : Works) : Works := { w with active := w.active ++ [a] }

/-- The free value counter, and the works with it advanced. -/
def Works.draw (w : Works) : Nat × Works := (w.fresh, { w with fresh := w.fresh + 1 })

/-- The meaning of a command that touches the blocks outside the port only. -/
def onWorks (f : Works → Works) (s : State) : Host.Outcome State Fault Refusal :=
  .next { s with works := f s.works }

/-- The meaning of a command that touches the port only. -/
def onPort (f : Port → Port) (s : State) : Host.Outcome State Fault Refusal :=
  .next { s with port := f s.port }

end Sys2Proof.Machine
end

