-- ==== Sys2Proof/Machine/Codes.lean ====
section
/-! DEFINITION. Codes of enumerated values (Table 10-1 and the chapters' tables), and the few readings back that the site
table and the slots need. -/

namespace Sys2Proof.Machine

open Sys2Proof

/-- All ones in a byte, halfword and word: an optional field that is absent (R179). -/
def absent8 : Nat := 0xFF
def absent16 : Nat := 0xFFFF
def absent32 : Nat := 0xFFFFFFFF

def flag (b : Bool) : Nat := if b then 1 else 0

def ChannelKind.code : ChannelKind → Nat
  | .sumpLevel => 1 | .depth => 2 | .rain => 3 | .luminance => 4 | .vehicles => 5

def ChannelKind.ofCode : Nat → Option ChannelKind
  | 1 => some .sumpLevel | 2 => some .depth | 3 => some .rain | 4 => some .luminance | 5 => some .vehicles
  | _ => none

/-- The top of the range of a kind's unit (Table 1-1). -/
def ChannelKind.top : ChannelKind → Nat
  | .sumpLevel => 20000 | .depth => 20000 | .rain => 65535 | .luminance => 10000 | .vehicles => 255

/-- Threshold roles a kind may carry (Table 1-1). -/
def ChannelKind.allows : ChannelKind → Role → Bool
  | .sumpLevel, .stop => true | .sumpLevel, .start1 => true | .sumpLevel, .start2 => true
  | .sumpLevel, .start3 => true | .sumpLevel, .start4 => true | .sumpLevel, .high => true
  | .depth, .watch => true | .depth, .close => true | .depth, .reopen => true
  | .rain, .watch => true
  | .vehicles, .occupied => true
  | _, _ => false

def Validity.code : Validity → Nat
  | .unknown => 0 | .valid => 1 | .outOfRange => 2 | .stale => 3

def Role.code : Role → Nat
  | .stop => 1 | .start1 => 2 | .start2 => 3 | .start3 => 4 | .start4 => 5 | .high => 6 | .watch => 7
  | .close => 8 | .reopen => 9 | .occupied => 10

def Role.ofCode : Nat → Option Role
  | 1 => some .stop | 2 => some .start1 | 3 => some .start2 | 4 => some .start3 | 5 => some .start4
  | 6 => some .high | 7 => some .watch | 8 => some .close | 9 => some .reopen | 10 => some .occupied
  | _ => none

def Direction.ofCode : Nat → Option Direction
  | 0 => some .up | 1 => some .down | _ => none

def ThState.code : ThState → Nat
  | .below => 0 | .rising _ => 1 | .above => 2 | .falling _ => 3

/-- The count of a counting state, 0 of a settled one. -/
def ThState.count : ThState → Nat
  | .below => 0 | .rising n => n | .above => 0 | .falling n => n

/-- A threshold's state where the field has room: the count of a counting state in the byte above its code (R179). -/
def ThState.wide (s : ThState) : Nat := s.code + 256 * s.count

def Stage.code : Stage → Nat
  | .dry => 0 | .watch => 1 | .alert => 2 | .closed => 3 | .draining => 4

def StageCause.code : StageCause → Nat
  | .reset => 0 | .siteLoad => 1 | .rollCall => 2 | .rainWatch => 3 | .depthWatch => 4 | .sumpHigh => 5
  | .depthRise => 6 | .depthInvalid => 7 | .closeLevel => 8 | .watchDwell => 9 | .declareOrder => 10
  | .portalsShut => 11 | .portalBreach => 12 | .reopenDwell => 13 | .standDown => 14 | .reopened => 15
  | .stationRun => 16

/-- Portal views (R24). -/
def View.code : View → Nat
  | .opened => 0 | .shut => 1 | .moving => 2 | .stalled => 3 | .unknown => 4

def Source.code : Source → Nat
  | .mains => 0 | .generator => 1 | .none => 2 | .unknown => 3

def BudgetState.code : BudgetState → Nat
  | .normal => 0 | .shedding => 1 | .overload => 2

/-- Load kind. -/
def Load.code : Load → Nat
  | .pump _ => 0 | .gate _ => 1 | .lamp _ => 2

def EntryState.code : EntryState → Nat
  | .idle => 0 | .queued => 1 | .inrush => 2 | .held => 3

def ShedMark.code : ShedMark → Nat
  | .none => 0 | .asked => 1 | .failed => 2

def FloatState.code : FloatState → Nat
  | .inactive => 0 | .active => 1 | .unknown => 2

def PumpState.code : PumpState → Nat
  | .outOfService => 0 | .tripped => 1 | .idle => 2 | .resting => 3 | .waiting => 4 | .starting => 5
  | .running => 6 | .stopping => 7 | .uncommanded => 8

/-- Cause of waiting, absent 0. -/
def WaitCause.code : Option WaitCause → Nat
  | none => 0 | some .grant => 1 | some .outage => 2 | some .shed => 3 | some .rest => 4

/-- Trip reasons (Table 3-4). -/
def TripReason.code : TripReason → Nat
  | .startFail => 1 | .stopFail => 2 | .overload => 3 | .feedbackLost => 4

def Intent.code : Intent → Nat
  | .run => 0 | .stop => 1

def RunView.code : RunView → Nat
  | .stopped => 0 | .running => 1 | .unknown => 2

def GrantView.code : GrantView → Nat
  | .none => 0 | .requested => 1 | .granted => 2

def PairState.code : PairState → Nat
  | .none => 0 | .inFlight => 1 | .abandoned => 2

def StopMark.code : StopMark → Nat
  | .none => 0 | .demand => 1 | .shed => 2 | .service => 3

def Closure.code : Closure → Nat
  | .unknown => 0 | .opened => 1 | .warning => 2 | .barring => 3 | .clearing => 4 | .gating => 5 | .shut => 6
  | .ungating => 7 | .unbarring => 8 | .stalled => 9

/-- Stall reasons (R95). -/
def StallReason.code : StallReason → Nat
  | .gateTravel => 1 | .barrierTravel => 2 | .obstructed => 3 | .unitRefused => 4

def Aspect.code : Aspect → Nat
  | .dark => 0 | .amber => 1 | .red => 2 | .unknown => 3

def Aspect.ofCode : Nat → Aspect
  | 0 => .dark | 1 => .amber | 2 => .red | _ => .unknown

def BarrierState.code : BarrierState → Nat
  | .up => 0 | .lowering => 1 | .down => 2 | .raising => 3 | .unknown => 4

def GateState.code : GateState → Nat
  | .stowed => 0 | .deploying => 1 | .deployed => 2 | .stowing => 3 | .halted => 4 | .unknown => 5

def Motion.code : Motion → Nat
  | .start => 1 | .deploy => 2 | .stow => 3 | .lower => 4 | .raise => 5

def ZoneMode.code : ZoneMode → Nat
  | .normal => 0 | .clearingFull => 1 | .closure => 2

def RunDir.code : RunDir → Nat
  | .none => 0 | .up => 1 | .down => 2

def LampFlag.code : LampFlag → Nat
  | .clear => 0 | .lamp => 1 | .refused => 2

def ClaimValue.code : ClaimValue → Nat
  | .away => 0 | .panel => 1 | .ordered => 2 | .auto => 3

def KeyView.code : KeyView → Nat
  | .normal => 0 | .panel => 1 | .unknown => 2

/-- Claim change causes (Table 6-5). -/
def ClaimCause.code : ClaimCause → Nat
  | .unitLost => 1 | .unitJoined => 2 | .rollCall => 3 | .keyPanel => 4 | .keyNormal => 5 | .order => 6
  | .autoOrder => 7 | .localReport => 8 | .restartReport => 9

def UnitType.code : UnitType → Nat
  | .pumpRoom => 1 | .portal => 2 | .lamp => 3 | .sensor => 4 | .switchboard => 5

def UnitType.ofCode : Nat → Option UnitType
  | 1 => some .pumpRoom | 2 => some .portal | 3 => some .lamp | 4 => some .sensor | 5 => some .switchboard
  | _ => none

def RosterState.code : RosterState → Nat
  | .unseen => 0 | .present => 1 | .suspect => 2 | .lost => 3 | .retired => 4

/-- Line error kind, absent 0. -/
def LineError.code : Option LineError → Nat
  | none => 0 | some .check => 1 | some .gap => 2 | some .timeout => 3 | some .wrongAddress => 4
  | some (.unitError _) => 5

/-- The unit error code of a line error, or 0. -/
def LineError.unitCode : Option LineError → Nat
  | some (.unitError c) => c
  | _ => 0

def Selection.code : Selection → Nat
  | .none => 0 | .selecting => 1 | .selected => 2 | .operating => 3

/-- Station state codes (Table 9-3). -/
def StationState.code : StationState → Nat
  | .loading => 0 | .unset => 1 | .rollCall => 2 | .held => 3 | .running => 4

/-- Drop line command codes (R184). -/
def LineCmd.code : LineCmd → Nat
  | .poll => 0x10 | .set => 0x11 | .select => 0x12 | .operate => 0x13 | .halt => 0x14 | .deselect => 0x15

/-- Block codes (R182). -/
def Block.code : Block → Nat
  | .waterWatch => 1 | .dewatering => 2 | .portals => 3 | .lighting => 4 | .dropLine => 5 | .stationControl => 6

def Standing.code : Standing → Nat
  | .waiting => 0 | .active => 1

/-- Completion status codes (Table 8-6). -/
def Status.doneOk : Nat := 0
def Status.badOrder : Nat := 1
def Status.badSubject : Nat := 2
def Status.refusedState : Nat := 3
def Status.refusedStage : Nat := 4
def Status.refusedClaim : Nat := 5
def Status.stateChanging : Nat := 6
def Status.superseded : Nat := 7
def Status.withdrawn : Nat := 8
def Status.preempted : Nat := 9
def Status.failed : Nat := 10
def Status.siteChanged : Nat := 11
def Status.noSite : Nat := 12

/-- Order codes (Table 10-4). -/
def OrderCode.code : OrderCode → Nat
  | .declareClosure => 0x0101 | .standDown => 0x0102 | .rebaseChannel => 0x0103
  | .pumpRun => 0x0201 | .pumpStop => 0x0202 | .pumpAuto => 0x0203 | .pumpClear => 0x0204
  | .pumpService => 0x0205 | .leadSet => 0x0206
  | .portalReopen => 0x0301 | .confirmClear => 0x0302 | .portalReset => 0x0303
  | .zoneSet => 0x0401 | .zoneAuto => 0x0402
  | .unitRetire => 0x0501 | .unitRestore => 0x0502
  | .loadSite => 0x0601 | .run => 0x0602 | .hold => 0x0603

def OrderCode.all : List OrderCode :=
  [.declareClosure, .standDown, .rebaseChannel, .pumpRun, .pumpStop, .pumpAuto, .pumpClear, .pumpService, .leadSet,
    .portalReopen, .confirmClear, .portalReset, .zoneSet, .zoneAuto, .unitRetire, .unitRestore, .loadSite, .run, .hold]

/-- The order of a code, if Table 10-4 has it. -/
def OrderCode.ofCode (c : Nat) : Option OrderCode := OrderCode.all.find? (fun o => o.code == c)

/-- Owners (Table 8-4). -/
def OrderCode.owner : OrderCode → Block
  | .declareClosure => .waterWatch | .standDown => .waterWatch | .rebaseChannel => .waterWatch
  | .pumpRun => .dewatering | .pumpStop => .dewatering | .pumpAuto => .dewatering | .pumpClear => .dewatering
  | .pumpService => .dewatering | .leadSet => .dewatering
  | .portalReopen => .portals | .confirmClear => .portals | .portalReset => .portals
  | .zoneSet => .lighting | .zoneAuto => .lighting
  | .unitRetire => .dropLine | .unitRestore => .dropLine
  | .loadSite => .stationControl | .run => .stationControl | .hold => .stationControl

/-- Parameter counts (Table 8-4). -/
def OrderCode.params : OrderCode → Nat
  | .pumpService => 1 | .zoneSet => 1 | .loadSite => 1 | _ => 0

/-- The command by which the owner takes an order up (R158). -/
def OrderCode.takeUp (k : Nat) : OrderCode → Instr
  | .declareClosure => .declareClosure k | .standDown => .standDown k | .rebaseChannel => .rebaseChannel k
  | .pumpRun => .pumpRun k | .pumpStop => .pumpStop k | .pumpAuto => .pumpAuto k | .pumpClear => .pumpClear k
  | .pumpService => .pumpService k | .leadSet => .leadSet k
  | .portalReopen => .portalReopen k | .confirmClear => .confirmClear k | .portalReset => .portalReset k
  | .zoneSet => .zoneSet k | .zoneAuto => .zoneAuto k
  | .unitRetire => .unitRetire k | .unitRestore => .unitRestore k
  | .loadSite => .loadSite k | .run => .run k | .hold => .hold k

end Sys2Proof.Machine

/-- Codes of the journal record kinds (Table 10-6). -/
def Sys2Proof.JournalKind.code : Sys2Proof.JournalKind → Nat
  | .stage => 0x01 | .threshold => 0x02 | .rise => 0x03 | .channel => 0x04 | .sensorDisagree => 0x05
  | .sensorAgree => 0x06 | .depthLost => 0x07 | .depthRestored => 0x08 | .closureSuppressed => 0x09
  | .supply => 0x11 | .budget => 0x12 | .shed => 0x13 | .restore => 0x14 | .adopt => 0x15
  | .pump => 0x21 | .pumpTrip => 0x22 | .demand => 0x23 | .lead => 0x24 | .float => 0x25 | .runtimeSaturated => 0x26
  | .portal => 0x31 | .gate => 0x32 | .barrier => 0x33 | .obstruction => 0x34 | .portalStall => 0x35
  | .interior => 0x36 | .interiorNotClear => 0x37 | .portalFault => 0x38
  | .zone => 0x41 | .zoneMode => 0x42 | .daylight => 0x43 | .lampFault => 0x44 | .lampHealthy => 0x45
  | .claim => 0x51
  | .unit => 0x61 | .lineError => 0x62 | .lineQueueFull => 0x63
  | .station => 0x71 | .storeFault => 0x72
end

