-- ==== Sys2Proof/Machine/Operands.lean ====
section
/-! DEFINITION. The operand forms: words of an order slot, the order an owner takes up, the subject of a claim, the windows of
the station computer's address map. -/

namespace Sys2Proof.Machine

open Sys2Proof

/-! ## Slot words (Table 10-3) -/

/-- Offset of an order slot (Table 8-2). -/
def slotBase (k : Nat) : Nat := 0x0100 + 128 * k

def Entry.word (e : Entry) (n : Nat) : Word := e.snapshot.getD n 0

/-- Order code, bits 15 to 0 of word 0. -/
def Entry.codeField (e : Entry) : Nat := (e.word 0).toNat % 65536

/-- Parameter count, bits 23 to 16 of word 0. -/
def Entry.countField (e : Entry) : Nat := (e.word 0).toNat / 65536 % 256

/-- Flags byte, bits 31 to 24 of word 0. -/
def Entry.flagsField (e : Entry) : Nat := (e.word 0).toNat / 16777216

/-- Subject, bits 15 to 0 of word 1. -/
def Entry.subject (e : Entry) : Nat := (e.word 1).toNat % 65536

/-- Tag, bits 31 to 16 of word 1. -/
def Entry.tag (e : Entry) : Nat := (e.word 1).toNat / 65536

/-- First parameter, word 2. -/
def Entry.param (e : Entry) : Nat := (e.word 2).toNat

/-- The order, if its code is one of Table 10-4. -/
def Entry.order (e : Entry) : Option OrderCode := OrderCode.ofCode e.codeField

/-- The owner to which the order is routed (Table 8-4). -/
def Entry.owner (e : Entry) : Option Block := e.order.map OrderCode.owner

/-- An order as its owner takes it up. -/
structure Order where
  slot : Nat
  code : OrderCode
  subject : Nat
  param : Nat
  deriving DecidableEq, Repr

/-- The order of an entry that waits to be taken up. -/
def Entry.waitingOrder (e : Entry) : Option Order :=
  if e.standing = .waiting && !e.takenUp then
    e.order.map (fun c => { slot := e.slot, code := c, subject := e.subject, param := e.param })
  else none

/-- Orders that wait for HELD or RUNNING: those of all owners but station control (Table 9-4), in list order. -/
def waitingJobOrders (l : List Entry) : List Order :=
  (l.filterMap Entry.waitingOrder).filter (fun o => !decide (o.code.owner = .stationControl))

/-- The active record of an order just accepted. -/
def Order.active (o : Order) (since : Nat) : Active :=
  { slot := o.slot, code := o.code, subject := o.subject, since := since }

/-- Complete an order as it is taken up. -/
def Order.finish (o : Order) (status detail second : Nat) (results : List Nat) (w : Works) : Works :=
  w.complete o.slot status detail second results

/-! ## Claims -/

/-- The claim entry of a subject. -/
def Works.claimEntry (w : Works) (s : ClaimSubject) : Option Claim := w.claims.find? (fun c => decide (c.subject = s))

/-- The claim value of a subject; without an entry nobody may command it. -/
def Works.claimOf (w : Works) (s : ClaimSubject) : ClaimValue :=
  match w.claimEntry s with
  | some c => c.value
  | none => .away

/-- AUTO or ORDERED: the owning job commands the subject (Table 6-2). -/
def ClaimValue.commands : ClaimValue → Bool
  | .auto => true | .ordered => true | .panel => false | .away => false

/-! ## Address map (Table 8-1) -/

/-- Windows of the station computer's address space. -/
inductive Window where
  /-- Plain view of a flag word. -/
  | plainFlag (index : Nat)
  /-- Plain view outside the flag page. -/
  | plain
  | setView (index : Nat)
  | clearView (index : Nat)
  | takeView (index : Nat)
  /-- Register number: IDENT 0, RUNCTL 1, PSTAT 2, CLOCK 3. -/
  | register (n : Nat)
  | unmapped
  deriving DecidableEq, Repr

/-- The window an address lies in (R150). -/
def windowOf (a : Nat) : Window :=
  if a < 0x100 then .plainFlag (a / 4)
  else if a < 0x8000 then .plain
  else if a < 0x8100 then .setView ((a - 0x8000) / 4)
  else if a < 0x8200 then .clearView ((a - 0x8100) / 4)
  else if a < 0x8300 then .takeView ((a - 0x8200) / 4)
  else if a < 0x8310 then .register ((a - 0x8300) / 4)
  else .unmapped

/-- The flag word an address reaches through any view. -/
def Window.flagIndex : Window → Option Nat
  | .plainFlag i => some i | .setView i => some i | .clearView i => some i | .takeView i => some i
  | .plain => none | .register _ => none | .unmapped => none

/-- Bytes of an access. -/
def widthBytes : Width → Nat
  | .byte => 1 | .half => 2 | .word => 4

/-! ## Thresholds of a channel -/

/-- State of the threshold of a role, if the channel carries it. -/
def Channel.roleState (c : Channel) (r : Role) : Option ThState :=
  (c.thresholds.find? (fun t => decide (t.role = r))).map Threshold.state

/-- The threshold of a role is ABOVE: the state itself (R3). -/
def Channel.isAbove (c : Channel) (r : Role) : Bool := decide (c.roleState r = some .above)

/-- The threshold of a role is BELOW: the state itself (R3). -/
def Channel.isBelow (c : Channel) (r : Role) : Bool := decide (c.roleState r = some .below)

/-- Works of a portal by index: 0 NORTH, 1 SOUTH (R179). -/
def Works.portal (w : Works) (n : Nat) : Portal := if n = 0 then w.portals.north else w.portals.south

/-- Change of a portal record. -/
def Works.setPortal (n : Nat) (p : Portal) (w : Works) : Works :=
  if n = 0 then { w with portals := { w.portals with north := p } }
  else { w with portals := { w.portals with south := p } }

/-- The view of a portal that water watch holds (R12). -/
def Works.viewOf (w : Works) (n : Nat) : View := if n = 0 then w.water.stage.north else w.water.stage.south

/-- Change of one pump record. -/
def Works.updPump (i : Nat) (f : Pump → Pump) (w : Works) : Works :=
  { w with dewater := { w.dewater with pumps := updAt f i w.dewater.pumps } }

/-- Change of one sump record. -/
def Works.updSump (i : Nat) (f : Sump → Sump) (w : Works) : Works :=
  { w with dewater := { w.dewater with sumps := updAt f i w.dewater.sumps } }

/-- Change of one circuit entry. -/
def Works.updCircuit (i : Nat) (f : Circuit → Circuit) (w : Works) : Works :=
  { w with lights := { w.lights with circuits := updAt f i w.lights.circuits } }

/-- Change of one zone record. -/
def Works.updZone (i : Nat) (f : Zone → Zone) (w : Works) : Works :=
  { w with lights := { w.lights with zones := updAt f i w.lights.zones } }

end Sys2Proof.Machine
end

