-- ==== Sys2Proof/Machine/Budget.lean ====
section
/-! DEFINITION. Supply budget (chapter 2): requests, the grant queue, arbitration, releases, shedding, adoption, and the
meanings of the notices to the budget. The outage stands in Machine/Supply.lean, since the owners answer within it. -/

namespace Sys2Proof.Machine

open Sys2Proof

/-! ## The grant table -/

/-- The granted sum (R30). -/
def grantedSum (b : Budget) : Nat := sumOf Grant.granted b.grants

def Works.setBudget (b : Budget) (w : Works) : Works := { w with budget := b }

/-- Change of one grant entry. -/
def Works.updGrant (i : Nat) (f : Grant → Grant) (w : Works) : Works :=
  w.setBudget { w.budget with grants := updAt f i w.budget.grants }

def Works.setQueue (q : List Nat) (w : Works) : Works := w.setBudget { w.budget with queue := q }

def Works.setSupply (s : Supply) (w : Works) : Works := w.setBudget { w.budget with supply := s }

def Load.isLamp : Load → Bool
  | .lamp _ => true | .pump _ => false | .gate _ => false

def Load.isGate : Load → Bool
  | .gate _ => true | .pump _ => false | .lamp _ => false

/-- The need of a queued entry (R31). -/
def Grant.need (g : Grant) : Nat := if g.load.isLamp then g.requested - g.granted else g.inrush

/-- The claim of the owner of a load (R40). -/
def Works.loadClaim (w : Works) : Load → ClaimValue
  | .pump i => w.claimOf (.pump i)
  | .gate n => w.claimOf (.portal n)
  | .lamp c => match w.lights.circuits[c]? with
    | some x => w.claimOf (.zone x.zone)
    | none => .away

/-- What an entry could give back (R40): a LAMP above its floor, a class 2 PUMP in INRUSH or HELD. -/
def Grant.givesBack (g : Grant) : Bool :=
  match g.load with
  | .lamp _ => decide (g.floor < g.granted)
  | .pump _ => decide (g.cls = 2) && (decide (g.state = .inrush) || decide (g.state = .held))
  | .gate _ => false

/-- Sheddable entries (R40). -/
def Works.sheddable (w : Works) (g : Grant) : Bool :=
  g.givesBack && decide (g.mark = .none) && (w.loadClaim g.load).commands

/-- The relief of an entry (R40). -/
def Grant.relief (g : Grant) : Nat := if g.load.isLamp then g.granted - g.floor else g.granted

/-- The pending relief: the reliefs of the ASKED entries (R40). -/
def pendingRelief (b : Budget) : Nat := sumOf Grant.relief (b.grants.filter (fun g => decide (g.mark = .asked)))

/-- The grant notice to the owner of an entry (R33). -/
def grantNotice (l : Load) (power : Nat) : Instr :=
  match l with
  | .pump i => .pumpGrantNotice i
  | .gate n => .gateGrantNotice n
  | .lamp c => .lampGrantNotice c power

/-! ## The queue (R32) -/

def classOf (b : Budget) (i : Nat) : Nat := match b.grants[i]? with
  | some g => g.cls
  | none => 3

/-- Place of an entry of a class: behind the last of its class, ahead of any higher class number (R32). -/
def joinAt (b : Budget) (i cls : Nat) : List Nat → List Nat
  | [] => [i]
  | j :: js => if cls < classOf b j then i :: j :: js else j :: joinAt b i cls js

def Works.joinQueue (i cls : Nat) (w : Works) : Works := w.setQueue (joinAt w.budget i cls w.budget.queue)

def Works.leaveQueue (i : Nat) (w : Works) : Works := w.setQueue (w.budget.queue.filter (fun j => !(j == i)))

/-! ## Arbitration (R33) -/

/-- The three conditions of R33 for the head. -/
def grantable (b : Budget) (g : Grant) : Bool :=
  decide (b.supply.state = .normal) && b.grants.all (fun e => !decide (e.state = .inrush)) &&
    decide (grantedSum b + g.need ≤ b.supply.capacity)

/-- The head becomes granted (R33, R38). An adopted flag stays set (the model's choice, log 25). -/
def Works.grantHead (i : Nat) (g : Grant) (rest : List Nat) (w : Works) : Works :=
  let n := w.budget.supply.sequence + 1
  let power := if g.load.isLamp then g.requested else g.inrush
  let w := (w.setQueue rest).setSupply { w.budget.supply with sequence := n }
  let w := w.updGrant i (fun g =>
    { g with state := if g.load.isLamp then .held else .inrush, granted := power, number := some n,
             energised := none, outage := none })
  let w := w.send (grantNotice g.load power)
  match g.outage with
  | some t => w.record .restore i none none [g.cls, power, w.now - t] false
  | none => w

/-- Examination of the head; after a LAMP grant the new head is examined at once (R33). -/
def examine : Nat → Works → Works
  | 0, w => w
  | n + 1, w =>
    match w.budget.queue with
    | [] => w
    | i :: rest =>
      match w.budget.grants[i]? with
      | none => w
      | some g =>
        if grantable w.budget g then
          if g.load.isLamp then examine n (w.grantHead i g rest) else w.grantHead i g rest
        else w

def Works.examineHead (w : Works) : Works := examine w.budget.queue.length w

/-- Examination where the queue has a new head (R32). -/
def Works.examineIfNewHead (old : Option Nat) (w : Works) : Works :=
  if w.budget.queue.head? = old then w else w.examineHead

/-! ## Budget state and shedding (R39, R40) -/

/-- The BUDGET record of a change of state (Table 2-8). -/
def Works.setBudgetState (st : BudgetState) (w : Works) : Works :=
  let old := w.budget.supply.state
  if old = st then w else
    (w.setSupply { w.budget.supply with state := st }).record .budget 0 (some old.code) (some st.code)
      [w.budget.supply.capacity, grantedSum w.budget, pendingRelief w.budget,
        (w.budget.grants.filter (fun g => decide (g.mark = .failed))).length] (decide (st = .overload))

/-- Zone of a LAMP load, for the shedding order. -/
def Works.lampZone (w : Works) : Load → Option Nat
  | .lamp c => (w.lights.circuits[c]?).map Circuit.zone
  | .pump _ => none
  | .gate _ => none

/-- Sheddable LAMP entries of two zones, in grant table order (Table 2-7). -/
def Works.lampsToShed (w : Works) (z1 z2 : Nat) : List Nat :=
  (indexed 0 w.budget.grants).filterMap (fun ig =>
    if w.sheddable ig.2 && (decide (w.lampZone ig.2.load = some z1) || decide (w.lampZone ig.2.load = some z2))
    then some ig.1 else none)

/-- The grant number as the key of both orders by grant (R37, Table 2-7): the plain 32-bit number, also across a wrap of the
grant sequence (the model's choice, log 26). -/
def Grant.numberKey (g : Grant) : Nat := match g.number with
  | some n => n.toNat
  | none => 0

/-- Sheddable PUMP entries, newest start first (Table 2-7). -/
def Works.pumpsToShed (w : Works) : List Nat :=
  (sortBy (fun ig => 0x100000000 - Grant.numberKey ig.2)
    ((indexed 0 w.budget.grants).filter (fun ig => w.sheddable ig.2 && !ig.2.load.isLamp))).map Prod.fst

/-- The next entry in the order of Table 2-7. -/
def Works.nextShed (w : Works) : Option Nat :=
  (w.lampsToShed 0 2 ++ w.lampsToShed 1 3 ++ w.lampsToShed 4 4 ++ w.pumpsToShed).head?

/-- Ask an entry to shed: mark, SHED record, shed request (R40). -/
def Works.askShed (i : Nat) (w : Works) : Works :=
  match w.budget.grants[i]? with
  | none => w
  | some g =>
    let w := w.updGrant i (fun g => { g with mark := .asked })
    let w := match g.load with
      | .pump p => w.send (.pumpShedRequest p)
      | .lamp c => w.send (.lampShedRequest c)
      | .gate _ => w
    w.record .shed i (some g.state.code) (some g.state.code) [g.load.code, g.cls, g.granted, g.relief] false

/-- Ask until the pending relief is enough or nothing sheddable is left (R40). -/
def shedLoop : Nat → Works → Works
  | 0, w => w
  | n + 1, w =>
    if grantedSum w.budget ≤ w.budget.supply.capacity + pendingRelief w.budget then w else
      match w.nextShed with
      | none => w
      | some i => shedLoop n (w.askShed i)

/-- Every shed mark becomes NONE (R39). -/
def Works.clearMarks (w : Works) : Works :=
  w.setBudget { w.budget with grants := w.budget.grants.map (fun g => { g with mark := .none }) }

/-- Judgement of the budget state (R39). The BUDGET record of a change to NORMAL is taken after the marks are cleared (the
model's choice, log 25). -/
def Works.judgeBudget (w : Works) : Works :=
  if grantedSum w.budget ≤ w.budget.supply.capacity then
    if w.budget.supply.state = .normal then w.clearMarks else (w.clearMarks.setBudgetState .normal).examineHead
  else if w.budget.grants.any (fun g => decide (g.mark = .asked)) || w.budget.grants.any w.sheddable then
    shedLoop w.budget.grants.length (w.setBudgetState .shedding)
  else w.setBudgetState .overload

/-- Judgement where the state is SHEDDING or OVERLOAD (R35). -/
def Works.judgeIfTight (w : Works) : Works :=
  if w.budget.supply.state = .normal then w else w.judgeBudget

/-! ## Requests (R31) -/

/-- A PUMP or GATE request; a GATE is class 0, a PUMP class 1 or 2. A PUMP request that names another class takes class 2 (the
model's choice, log 25). -/
def Works.motorRequest (i cls : Nat) (g : Grant) (w : Works) : Works :=
  if g.state = .idle then
    let cls := match g.load with
      | .gate _ => 0
      | _ => if cls = 1 then 1 else 2
    ((w.updGrant i (fun g => { g with cls := cls, state := .queued })).joinQueue i cls).examineHead
  else w

/-- State of a LAMP entry that leaves the queue. -/
def lampRest (granted : Nat) : EntryState := if granted = 0 then .idle else .held

/-- A LAMP request carries the total power of the step asked for (R31). One that needs no increase leaves the requested power
as it was (the model's choice, log 25). -/
def Works.lampRequest (i power : Nat) (g : Grant) (w : Works) : Works :=
  if g.granted < power then
    if g.state = .queued then w.updGrant i (fun g => { g with requested := power })
    else ((w.updGrant i (fun g => { g with cls := 3, state := .queued, requested := power })).joinQueue i 3).examineHead
  else
    let old := w.budget.queue.head?
    let w := if g.state = .queued then
        (w.leaveQueue i).updGrant i (fun g => { g with state := lampRest g.granted, outage := none })
      else w
    (w.send (grantNotice g.load g.granted)).examineIfNewHead old

def Works.loadRequest (i cls power : Nat) (w : Works) : Works :=
  match w.budget.grants[i]? with
  | none => w
  | some g => if g.load.isLamp then w.lampRequest i power g else w.motorRequest i cls g

/-! ## Energised notice and inrush window (R34) -/

def Works.energise (i : Nat) (w : Works) : Works :=
  match w.budget.grants[i]? with
  | none => w
  | some g =>
    if g.state = .inrush ∧ g.energised = none then w.updGrant i (fun g => { g with energised := some w.now }) else w

/-- The inrush window of an entry has run out. -/
def Grant.windowOver (g : Grant) (now : Nat) : Bool :=
  decide (g.state = .inrush) && match g.energised with
    | some t => elapsed t g.window now
    | none => false

def Works.windowExpiry (i : Nat) (w : Works) : Works :=
  match w.budget.grants[i]? with
  | none => w
  | some g =>
    if g.windowOver w.now then
      (w.updGrant i (fun g => { g with state := .held, granted := g.requested, energised := none })).examineHead.judgeIfTight
    else w

/-! ## Release, shrink, withdrawal (R35) -/

def Grant.released (g : Grant) : Grant :=
  { g with state := .idle, granted := 0, adopted := false, mark := .none, energised := none, number := none,
           outage := none }

def Works.releaseGranted (i : Nat) (w : Works) : Works := (w.updGrant i Grant.released).examineHead.judgeIfTight

def Works.withdrawQueued (i : Nat) (w : Works) : Works :=
  let old := w.budget.queue.head?
  let w := (w.leaveQueue i).updGrant i (fun g =>
    { g with state := if g.load.isLamp then lampRest g.granted else .idle, outage := none })
  (w.examineIfNewHead old).judgeIfTight

/-- Release and withdrawal meet in all states: each acts as the other where the entry calls for it. -/
def Works.loadRelease (i : Nat) (w : Works) : Works :=
  match w.budget.grants[i]? with
  | none => w
  | some g =>
    match g.state with
    | .idle => w
    | .queued => w.withdrawQueued i
    | .inrush => w.releaseGranted i
    | .held => w.releaseGranted i

def Works.loadWithdrawal (i : Nat) (w : Works) : Works :=
  match w.budget.grants[i]? with
  | none => w
  | some g =>
    match g.state with
    | .idle => w
    | .queued => w.withdrawQueued i
    | .inrush => w.releaseGranted i
    | .held => w.releaseGranted i

/-- The entry after a shrink; an ASKED LAMP at its floor has confirmed its shed (R41). An adopted flag stays set (the model's
choice, log 25). -/
def Grant.shrunk (power : Nat) (g : Grant) : Grant :=
  { g with granted := power,
           state := if g.state = .held then lampRest power else g.state,
           mark := if g.mark = .asked ∧ power ≤ g.floor then .none else g.mark }

def Works.loadShrink (i power : Nat) (w : Works) : Works :=
  match w.budget.grants[i]? with
  | none => w
  | some g =>
    if g.load.isLamp && decide (power < g.granted) && (decide (g.state = .held) || decide (g.state = .queued)) then
      (w.updGrant i (Grant.shrunk power)).examineHead.judgeIfTight
    else w

/-! ## Class notice (R36) -/

/-- A class notice concerns PUMP entries and the classes 1 and 2 only (R36). -/
def Grant.takesClass (cls : Nat) (g : Grant) : Bool :=
  !g.load.isGate && !g.load.isLamp && (decide (cls = 1) || decide (cls = 2))

/-- The class of an entry that is not in the queue changes in place. -/
def Works.classInPlace (i cls : Nat) (w : Works) : Works := w.updGrant i (fun g => { g with cls := cls })

/-- An entry in the queue rejoins it at the end of its new class; the class it has already changes nothing. -/
def Works.classQueued (i cls : Nat) (g : Grant) (w : Works) : Works :=
  if g.cls = cls then w else
    let old := w.budget.queue.head?
    (((w.leaveQueue i).classInPlace i cls).joinQueue i cls).examineIfNewHead old

/-- A class notice, without the judgement that follows a change in place. -/
def Works.classUnjudged (i cls : Nat) (w : Works) : Works :=
  match w.budget.grants[i]? with
  | none => w
  | some g =>
    if g.takesClass cls then (if g.state = .queued then w.classQueued i cls g else w.classInPlace i cls) else w

/-- A class notice; a change in place may change what is sheddable, so the state is judged (R36, R39). -/
def Works.classNotice (i cls : Nat) (w : Works) : Works :=
  match w.budget.grants[i]? with
  | none => w
  | some g =>
    if g.takesClass cls then
      (if g.state = .queued then w.classQueued i cls g else (w.classInPlace i cls).judgeBudget)
    else w

/-! ## Shed failure and adoption (R41, R43) -/

/-- A shed failure: an ASKED entry becomes FAILED and the state is judged (R41). One that reaches an entry whose mark is no
longer ASKED, since R39 or a release cleared it after the request was sent, is discarded (the model's choice, log 25). -/
def Works.shedFailure (i : Nat) (w : Works) : Works :=
  match w.budget.grants[i]? with
  | none => w
  | some g =>
    if g.mark = .asked then (w.updGrant i (fun g => { g with mark := .failed })).judgeBudget else w

/-- The power an adopted entry holds, by its state (R43). -/
def Grant.adoptedPower (power : Nat) (g : Grant) : Nat :=
  match g.state with
  | .idle => power
  | .queued => if g.load.isLamp then max g.granted power else power
  | .inrush => power
  | .held => max g.granted power

/-- The entry of an adoption (R43): the flag, the grant number and the ADOPT record come with a raised power only. -/
def Works.adoptEntry (i power : Nat) (g : Grant) (w : Works) : Works :=
  let new := g.adoptedPower power
  let w := (w.leaveQueue i).updGrant i (fun g =>
    { g with state := .held, granted := new, energised := none, outage := none })
  if g.granted < new then
    let n := w.budget.supply.sequence + 1
    let w := w.setSupply { w.budget.supply with sequence := n }
    let w := w.updGrant i (fun g => { g with adopted := true, number := some n })
    w.record .adopt i (some g.state.code) (some EntryState.held.code)
      [g.load.code, g.granted, new, grantedSum w.budget] false
  else w

/-- Adoption (R43), without the judgement that follows it. -/
def Works.adoptUnjudged (i power : Nat) (w : Works) : Works :=
  match w.budget.grants[i]? with
  | none => w
  | some g =>
    if g.load.isGate then w else
      let old := w.budget.queue.head?
      let w := w.adoptEntry i power g
      if g.state = .inrush then w.examineHead else w.examineIfNewHead old

/-- Adoption, and the judgement of the budget state (R43, R39). -/
def Works.adopt (i power : Nat) (w : Works) : Works :=
  match w.budget.grants[i]? with
  | none => w
  | some g => if g.load.isGate then w else (w.adoptUnjudged i power).judgeBudget

/-! ## Capacity (R27) -/

/-- Table 2-2. -/
def capacityOf (s : Supply) (c : SiteSupply) : Nat :=
  match s.source with
  | .mains => c.mains - c.reserve
  | .generator =>
    if s.overload then c.derate * (c.generator - c.reserve) / 100 else c.generator - c.reserve
  | .none => 0
  | .unknown => if s.lastKnown = some .none then 0 else c.generator - c.reserve

/-- The capacity with the source and inputs as they stand. -/
def Works.newCapacity (w : Works) : Nat :=
  match w.station.site with
  | some s => capacityOf w.budget.supply s.supply
  | none => 0

/-- What follows from a change of capacity: a rise examines the head, a fall judges the state (R27, R39). -/
def Works.capacityChanged (old new : Nat) (w : Works) : Works :=
  if old < new then w.judgeIfTight.examineHead
  else if new < old then w.judgeBudget
  else w

/-- Recomputation of the capacity (R27). -/
def Works.recapacity (w : Works) : Works :=
  let old := w.budget.supply.capacity
  let new := w.newCapacity
  (w.setSupply { w.budget.supply with capacity := new }).capacityChanged old new

/-- The shed floor of a LAMP entry, kept by the lighting controller (R29, R101). The state is judged after each floor, also
where one change of modes gives several, and a floor that rises to the granted power of an ASKED entry leaves its mark (the
model's choices, log 25). -/
def Works.setFloor (i floor : Nat) (w : Works) : Works :=
  (w.updGrant i (fun g => { g with floor := floor })).judgeBudget

/-! ## The commands -/

/-- LOAD_REQUEST (R31). -/
def execLoadRequest (g cls power : Nat) (s : State) : Host.Outcome State Fault Refusal :=
  onWorks (Works.loadRequest g cls power) s

/-- LOAD_RELEASE (R35). -/
def execLoadRelease (g : Nat) (s : State) : Host.Outcome State Fault Refusal := onWorks (Works.loadRelease g) s

/-- LOAD_SHRINK (R35). -/
def execLoadShrink (g power : Nat) (s : State) : Host.Outcome State Fault Refusal :=
  onWorks (Works.loadShrink g power) s

/-- LOAD_WITHDRAWAL (R35). -/
def execLoadWithdrawal (g : Nat) (s : State) : Host.Outcome State Fault Refusal :=
  onWorks (Works.loadWithdrawal g) s

/-- CLASS_NOTICE (R36). -/
def execClassNotice (g cls : Nat) (s : State) : Host.Outcome State Fault Refusal :=
  onWorks (Works.classNotice g cls) s

/-- ENERGISED_NOTICE (R34). -/
def execEnergisedNotice (g : Nat) (s : State) : Host.Outcome State Fault Refusal := onWorks (Works.energise g) s

/-- INRUSH_WINDOW_EXPIRY (R34). -/
def execInrushWindowExpiry (g : Nat) (s : State) : Host.Outcome State Fault Refusal :=
  onWorks (Works.windowExpiry g) s

/-- ADOPTION_NOTICE (R43). -/
def execAdoptionNotice (g power : Nat) (s : State) : Host.Outcome State Fault Refusal := onWorks (Works.adopt g power) s

/-- SHED_FAILURE (R41). -/
def execShedFailure (g : Nat) (s : State) : Host.Outcome State Fault Refusal := onWorks (Works.shedFailure g) s

end Sys2Proof.Machine
end

