-- ==== Sys2Proof/Machine/LineQueue.lean ====
section
/-! DEFINITION. The line queue of the drop line (R139, R140): joining, replacement, refusal when full; and the input images of
POLL responses (Table 10-10). -/

namespace Sys2Proof.Machine

open Sys2Proof

/-! ## Records of the line -/

def Works.setLine (l : Line) (w : Works) : Works := { w with line := l }

/-- The queue; a full-queue episode closes at 16 entries or fewer (R140). -/
def Works.setLineQueue (q : List QEntry) (w : Works) : Works :=
  w.setLine { w.line with queue := q, fullEpisode := w.line.fullEpisode && decide (16 < q.length) }

def Works.rosterEntry (w : Works) (u : Nat) : Option RosterEntry := w.line.roster.find? (fun r => r.address == u)

def Works.updRoster (u : Nat) (f : RosterEntry → RosterEntry) (w : Works) : Works :=
  w.setLine { w.line with roster := w.line.roster.map (fun r => if r.address = u then f r else r) }

/-- Roster state of a unit; a unit not in the roster is as good as unseen. -/
def Works.unitState (w : Works) (u : Nat) : RosterState :=
  match w.rosterEntry u with
  | some r => r.state
  | none => .unseen

/-- PRESENT or SUSPECT. -/
def RosterState.inHand : RosterState → Bool
  | .present => true | .suspect => true | .unseen => false | .lost => false | .retired => false

/-! ## Requests -/

/-- The block of a requester. -/
def ReqFor.block : ReqFor → Block
  | .pumpStart _ => .dewatering | .pumpHalt _ => .dewatering
  | .signalSet _ => .portals | .barrierPair _ => .portals | .barrierHalt _ => .portals
  | .gatePair _ => .portals | .gateHalt _ _ => .portals
  | .lampSet _ => .lighting
  | .lineItself => .dropLine

/-- Place of a class in the queue (R139). -/
def Request.cls : Request → Nat
  | .halt => 1 | .pair _ => 2 | .set _ => 3 | .deselect => 4

/-- The command a queue entry shows, in the status image and in a LINE_QUEUE_FULL record: of a pair its SELECT (the model's
choice, log 31). -/
def Request.cmd : Request → LineCmd
  | .halt => .halt | .pair _ => .select | .set _ => .set | .deselect => .deselect

/-- The value of a queue entry: a step or an aspect of a SET, an action of a pair (R139). -/
def Request.value : Request → Nat
  | .halt => absent8 | .pair m => m.code | .set v => v | .deselect => absent8

def QEntry.block (e : QEntry) : Block :=
  match e.requesters with
  | r :: _ => r.who.block
  | [] => .dropLine

/-- Place of a joining entry: behind the last of its class, ahead of any later class (R139). -/
def joinLine (e : QEntry) : List QEntry → List QEntry
  | [] => [e]
  | x :: xs => if e.req.cls < x.req.cls then e :: x :: xs else x :: joinLine e xs

def Request.isSet : Request → Bool
  | .set _ => true | .halt => false | .pair _ => false | .deselect => false

def Request.isHalt : Request → Bool
  | .halt => true | .set _ => false | .pair _ => false | .deselect => false

def Request.isDeselect : Request → Bool
  | .deselect => true | .halt => false | .pair _ => false | .set _ => false

/-- The list less the last element equal to a value: the SET that waited in the line queue. -/
def dropLast1 (v : Nat) (l : List Nat) : List Nat := (dropFirst (fun x => x == v) l.reverse).reverse

/-- The end of a waiting SET of a circuit that never went out: its step leaves the SET list (R108). -/
def Works.setLeaves (r : Requester) (v : Nat) (w : Works) : Works :=
  match r.who with
  | .lampSet c =>
    if r.fate = .live then
      w.updCircuit c (fun x => { x with setList := dropLast1 v x.setList })
    else w
  | _ => w

/-- A requester that still wants its request learns that it was refused full; what it then waits for stands in its own record
(R73, R54, R57, R80, R87). -/
def Works.refusedFull (r : Requester) (w : Works) : Works :=
  match r.who with
  | .pumpStart i => w.updPump i (fun p => { p with pairRefused := true })
  | .pumpHalt i => w.updPump i (fun p => { p with haltRefused := true })
  | .signalSet n => let p := w.portal n
    w.setPortal n { p with signals := { p.signals with refused := true } }
  | .barrierPair n => let p := w.portal n
    w.setPortal n { p with barrier := { p.barrier with pairRefused := true } }
  | .barrierHalt n => let p := w.portal n
    w.setPortal n { p with barrier := { p.barrier with haltRefused := true } }
  | .gatePair n => let p := w.portal n
    w.setPortal n { p with gate := { p.gate with pairRefused := true } }
  | .gateHalt n _ => let p := w.portal n
    w.setPortal n { p with gate := { p.gate with haltRefused := true } }
  | .lampSet _ => w
  | .lineItself => w

/-- Entry of a job in a unit's retry list, at most once (R140). -/
def Works.addRetry (u : Nat) (b : Block) (w : Works) : Works :=
  if b = .dropLine then w else
    w.updRoster u (fun r => if r.retry.contains b then r else { r with retry := r.retry ++ [b] })

/-- The requesters of a request that have given it up. -/
def QEntry.givenUp (e : QEntry) : List Requester := e.requesters.filter (fun r => !decide (r.fate = .live))

/-- A displaced request that was given up has ended without execution (R143); its requesters hear of it at the end of the
event (the model's choice of the place, log 9). -/
def Works.displace (e : QEntry) (w : Works) : Works :=
  if e.givenUp.isEmpty then w
  else w.setLine { w.line with displaced := w.line.displaced ++ [{ e with requesters := e.givenUp }] }

/-- Refusal of a request: reports, retry list, and the record of the first refusal of an episode (R140); the subject of that
record is 0 (the model's choice, log 31). -/
def Works.refuse (e : QEntry) (w : Works) : Works :=
  let w := each e.requesters (fun r w => (if r.fate = .live then w.refusedFull r else w).addRetry e.unit r.who.block) w
  let w := w.displace e
  if w.line.fullEpisode then w else
    (w.setLine { w.line with fullEpisode := true }).record .lineQueueFull 0 none none
      [e.unit, e.req.cmd.code, e.block.code] true

/-- A request that takes a new place (R139, R140). -/
def Works.joinNew (e : QEntry) (w : Works) : Bool × Works :=
  if w.line.queue.length < 32 then (true, w.setLineQueue (joinLine e w.line.queue)) else (false, w.refuse e)

/-- A HALT in a full queue displaces a last entry that is no HALT (R140). -/
def Works.joinHalt (e : QEntry) (w : Works) : Bool × Works :=
  if w.line.queue.length < 32 then (true, w.setLineQueue (joinLine e w.line.queue))
  else match w.line.queue.getLast? with
    | none => (false, w.refuse e)
    | some last =>
      if last.req.isHalt then (false, w.refuse e)
      else
        let w := each last.requesters (fun r w => w.setLeaves r last.req.value) w
        let w := (w.setLine { w.line with queue := joinLine e w.line.queue.dropLast }).refuse last
        (true, w)

/-- Whether an entry asks for the same unit and output. -/
def sameOutput (e x : QEntry) : Bool := x.unit == e.unit && x.output == e.output

/-- A request joins the line queue (R139, R140): the Bool says whether it was accepted. A SET that takes an older one's place
brings its own time of joining (the model's choice, log 31). -/
def Works.enqueue (e : QEntry) (w : Works) : Bool × Works :=
  match e.req with
  | .set _ =>
    match w.line.queue.find? (fun x => x.req.isSet && sameOutput e x) with
    | some old =>
      let w := each old.requesters (fun r w => w.setLeaves r old.req.value) w
      (true, w.setLineQueue (w.line.queue.map (fun x => if x.req.isSet && sameOutput e x then e else x)))
    | none => w.joinNew e
  | .halt =>
    if w.line.queue.any (fun x => x.req.isHalt && sameOutput e x) then
      (true, w.setLineQueue (w.line.queue.map (fun x =>
        if x.req.isHalt && sameOutput e x then { x with requesters := x.requesters ++ e.requesters } else x)))
    else w.joinHalt e
  | .pair _ => w.joinNew e
  | .deselect =>
    if w.line.queue.any (fun x => x.req.isDeselect && x.unit == e.unit) then (true, w) else w.joinNew e

def Works.request (r : Request) (u out : Nat) (who : ReqFor) (w : Works) : Bool × Works :=
  w.enqueue { req := r, unit := u, output := out, requesters := [{ who := who, fate := .live }], joined := w.now }

/-! ## Fate of requests whose requester gives them up (R58, R80, R64, R93, R113) -/

/-- A request once given up is not taken back. -/
def Fate.worse : Fate → Fate → Fate
  | .disregarded, _ => .disregarded
  | _, .disregarded => .disregarded
  | .abandoned, _ => .abandoned
  | .live, f => f

def QEntry.give (who : ReqFor) (f : Fate) (e : QEntry) : QEntry :=
  { e with requesters := e.requesters.map (fun r => if r.who = who then { r with fate := Fate.worse r.fate f } else r) }

def ExKind.give (who : ReqFor) (f : Fate) : ExKind → ExKind
  | .single e => .single (e.give who f)
  | .selectOf e => .selectOf (e.give who f)
  | .operateOf e => .operateOf (e.give who f)
  | .poll => .poll
  | .rollPoll => .rollPoll
  | .broadcast => .broadcast

/-- Mark what a requester has waiting or on the line. -/
def Works.giveUp (who : ReqFor) (f : Fate) (w : Works) : Works :=
  w.setLine { w.line with
    queue := w.line.queue.map (QEntry.give who f)
    exchange := w.line.exchange.map (fun x => { x with kind := x.kind.give who f })
    selected := w.line.selected.map (QEntry.give who f) }

/-- A request of a requester that was abandoned, its end still to be judged. -/
def QEntry.abandonedOf (who : ReqFor) (e : QEntry) : Bool :=
  e.requesters.any (fun r => decide (r.who = who) && decide (r.fate = .abandoned))

/-- The queue entry that an exchange serves. -/
def ExKind.entry : ExKind → Option QEntry
  | .single e => some e
  | .selectOf e => some e
  | .operateOf e => some e
  | .poll => none
  | .rollPoll => none
  | .broadcast => none

/-- An abandoned request of a requester has not come to its end: it waits, stands selected or is on the line. -/
def Line.abandonedRuns (who : ReqFor) (l : Line) : Bool :=
  l.queue.any (QEntry.abandonedOf who) || l.selected.any (QEntry.abandonedOf who) ||
    (l.exchange.bind (fun x => x.kind.entry)).any (QEntry.abandonedOf who)

/-! ## How a pair ends (R143) -/

inductive PairEnd where
  /-- OPERATE acknowledged, or missed. -/
  | executed (acknowledged : Bool)
  | refused (code : Nat)
  /-- SELECT missed. -/
  | missed
  | withheld
  | removed
  deriving DecidableEq, Repr

/-- How a SET or HALT ends (R143). -/
inductive ReqEnd where
  | acknowledged
  | refused (code : Nat)
  | missed
  | removed
  deriving DecidableEq, Repr

/-! ## Input images (Table 10-10) -/

def imgByte (img : List Byte) (n : Nat) : Nat := (img.getD n 0).toNat

def bitAt (v k : Nat) : Bool := v / 2 ^ k % 2 == 1

/-- Length of a unit type's input image. -/
def UnitType.imageLength : UnitType → Nat
  | .pumpRoom => 13 | .portal => 13 | .lamp => 10 | .sensor => 18 | .switchboard => 1

/-- Digital input of an image. -/
def UnitType.digital (t : UnitType) (img : List Byte) (k : Nat) : Bool :=
  match t with
  | .pumpRoom => bitAt (imgByte img 2) k
  | .sensor => bitAt (imgByte img 0) k
  | .switchboard => bitAt (imgByte img 0) k
  | .portal => false
  | .lamp => false

/-- Key of an image in panel position. -/
def UnitType.keyPanel (t : UnitType) (img : List Byte) (k : Nat) : Bool :=
  match t with
  | .pumpRoom => bitAt (imgByte img 3) k
  | .portal => bitAt (imgByte img 3) k
  | .lamp => bitAt (imgByte img 9) k
  | .sensor => false
  | .switchboard => false

/-- Analog inputs of an image: number of inputs, byte of the no-reading bits, first data byte. -/
def UnitType.analogs : UnitType → Nat × Nat × Nat
  | .pumpRoom => (4, 4, 5)
  | .portal => (4, 4, 5)
  | .sensor => (8, 1, 2)
  | .lamp => (0, 0, 0)
  | .switchboard => (0, 0, 0)

/-- An analog input: `none` where its no-reading bit is set. -/
def UnitType.analog (t : UnitType) (img : List Byte) (k : Nat) : Option Nat :=
  let (_, bits, base) := t.analogs
  if bitAt (imgByte img bits) k then none
  else some (imgByte img (base + 2 * k) + 256 * imgByte img (base + 2 * k + 1))

end Sys2Proof.Machine
end

