-- ==== Sys2Proof/Machine/Dewatering.lean ====
section
/-! DEFINITION. Dewatering controller (chapter 3): demand, calling and dismissing, starts, stops, trips, settlement, outage and
shedding answers, and what each pump order does. -/

namespace Sys2Proof.Machine

open Sys2Proof

/-! ## Figures and limits -/

/-- The target of a sump (R46). -/
def Sump.target (s : Sump) : Nat := min s.demand s.able

/-- A pump that counts as able to run (R50). -/
def Pump.able (p : Pump) : Bool :=
  !(decide (p.state = .outOfService) || decide (p.state = .tripped) || decide (p.state = .uncommanded) ||
    decide (p.intent = some .stop))

/-- Starts within the last 3 600 s. -/
def Pump.recentStarts (p : Pump) (now : Nat) : Nat := (p.history.filter (fun t => decide (now ≤ t + 3600000))).length

/-- The minimum rest has passed and the starts per hour allow a start (R54, R59). -/
def Pump.restAllows (p : Pump) (now : Nat) : Bool :=
  (match p.lastStop with
    | none => true
    | some t => elapsed t (1000 * p.rest) now) &&
  decide (p.recentStarts now < p.starts)

/-- IDLE where the rest allows, RESTING otherwise (R52, R57). -/
def Pump.restState (p : Pump) (now : Nat) : PumpState := if p.restAllows now then .idle else .resting

/-- The start history with a start appended: older ones removed, at most 30 kept (R55). -/
def startHistory (now : Nat) (h : List Nat) : List Nat :=
  let h := h.filter (fun t => decide (now ≤ t + 3600000))
  (if h.length < 30 then h else h.drop (h.length - 29)) ++ [now]

/-- The demand of R50, in the order of its table. -/
def demandOf (s : Sump) (c : Option Channel) : Nat :=
  if s.cutout.state = .active then 0 else
    match c with
    | none => s.demand
    | some c =>
      if c.validity ≠ .valid then (if s.high.state = .active then s.duty else s.demand)
      else if c.isBelow .stop then 0
      else if c.isAbove .start1 then
        if s.storm then s.duty
        else
          let k := ([Role.start1, .start2, .start3, .start4].filter c.isAbove).length
          max s.demand (min s.duty k)
      else s.demand

/-! ## Records -/

/-- Cause of waiting or stop mark, as the state has one (Table 3-5). The status image shows 0 too where the state has neither,
whatever stop mark the record holds (the model's choice, log 27). -/
def Pump.causeOrMark (p : Pump) : Nat :=
  match p.state with
  | .waiting => WaitCause.code p.cause
  | .stopping => p.mark.code
  | _ => 0

/-- Able count counted again, demand set: a DEMAND record for a change of demand or target (R50). -/
def Works.setFigures (si demand : Nat) (w : Works) : Works :=
  match w.dewater.sumps[si]? with
  | none => w
  | some s =>
    let able := (w.dewater.pumps.filter (fun p => p.sump == si && p.able)).length
    let n := { s with demand := demand, able := able }
    let w := w.updSump si (fun s => { s with demand := demand, able := able })
    if s.demand = demand ∧ s.target = n.target then w
    else w.record .demand si (some s.demand) (some demand) [flag s.storm, n.target, able, s.list.length] false

/-- The able count counted again (R50). -/
def Works.recount (si : Nat) (w : Works) : Works :=
  match w.dewater.sumps[si]? with
  | none => w
  | some s => w.setFigures si s.demand

/-- Optional times in result words (R179). -/
def timeWord (t : Option Nat) : Nat :=
  match t with
  | none => absent32
  | some t => (stamp t).toNat

/-- The second detail of FAILED detail 1 (Table 3-4). -/
def Pump.tripSecond (p : Pump) : Nat := match p.trip with
  | some r => r.code
  | none => 0

/-- The ACTIVE orders of a pump are judged against its state (R67, R68, R70). An order that completes DONE_OK at once carries the
same result words as one that was ACTIVE (the model's choice, log 17). -/
def Works.judgePumpOrders (i : Nat) (w : Works) : Works :=
  match w.dewater.pumps[i]? with
  | none => w
  | some p =>
    w.completeAll (fun a => a.subject == i) (fun a w =>
      match a.code, p.state with
      | .pumpRun, .running => w.complete a.slot Status.doneOk 0 0 [0, timeWord p.startTime]
      | .pumpRun, .tripped => w.complete a.slot Status.failed 1 p.tripSecond [p.tripCode]
      | .pumpStop, .resting => w.complete a.slot Status.doneOk 0 0 [0, timeWord p.lastStop, p.runSeconds]
      | .pumpStop, .idle => w.complete a.slot Status.doneOk 0 0 [0, timeWord p.lastStop, p.runSeconds]
      | .pumpStop, .tripped => w.complete a.slot Status.failed 1 p.tripSecond [p.tripCode]
      | .pumpService, .outOfService => w.complete a.slot Status.doneOk 0 0 []
      | .pumpService, .tripped => w.complete a.slot Status.failed 1 p.tripSecond [p.tripCode]
      | _, _ => w)

/-- A change of a pump record with what follows from a change of its state: the PUMP and PUMP_TRIP records (R71), the able
count (R50) and the pump's ACTIVE orders. -/
def Works.movePump (i : Nat) (f : Pump → Pump) (w : Works) : Works :=
  match w.dewater.pumps[i]? with
  | none => w
  | some p =>
    let q := f p
    let w := w.updPump i (fun _ => q)
    let w := if p.state = q.state ∧ p.cause = q.cause then w else
      w.record .pump i (some p.state.code) (some q.state.code)
        [q.causeOrMark, (w.claimOf (.pump i)).code, q.grant.code, q.runSeconds] false
    let w := if q.state = .tripped ∧ p.state ≠ .tripped then
        w.record .pumpTrip i (some p.state.code) (some q.state.code)
          [q.tripSecond, q.tripCode, q.running.code, q.overload.code] true
      else w
    (w.recount q.sump).judgePumpOrders i

/-! ## The grant of a pump -/

/-- The class of a pump: 1 for the first member of its sump's list (R52). -/
def Works.pumpClass (w : Works) (i : Nat) : Nat :=
  match w.dewater.pumps[i]? with
  | none => 2
  | some p => match w.dewater.sumps[p.sump]? with
    | some s => if s.list.head? = some i then 1 else 2
    | none => 2

/-- A request with the pump's class (R52); pump entries stand first in the grant table (R29). -/
def Works.requestPump (i : Nat) (w : Works) : Works :=
  match w.dewater.pumps[i]? with
  | none => w
  | some p => w.send (.loadRequest i (w.pumpClass i) p.runPower)

/-- The grant is released, or a request withdrawn. -/
def Works.dropPumpGrant (i : Nat) (w : Works) : Works :=
  match w.dewater.pumps[i]? with
  | none => w
  | some p =>
    let w := match p.grant with
      | .none => w
      | .requested => w.send (.loadWithdrawal i)
      | .granted => w.send (.loadRelease i)
    w.updPump i (fun p => { p with grant := .none })

/-- The grant is kept, or the load adopted (R64, R65). -/
def Works.keepOrAdoptPump (i : Nat) (w : Works) : Works :=
  match w.dewater.pumps[i]? with
  | none => w
  | some p =>
    if p.grant = .granted then w
    else (w.send (.adoptionNotice i p.runPower)).updPump i (fun p => { p with grant := .granted })

/-- A shed failure where the grant entry is marked ASKED (R57, R64). -/
def Works.failShed (i : Nat) (w : Works) : Works :=
  match w.budget.grants[i]? with
  | none => w
  | some g => if g.mark = .asked then w.send (.shedFailure i) else w

/-! ## The start order list -/

/-- A pump joins its sump's list at the end. -/
def Works.joinList (i : Nat) (w : Works) : Works :=
  match w.dewater.pumps[i]? with
  | none => w
  | some p => w.updSump p.sump (fun s => { s with list := s.list ++ [i] })

/-- A pump leaves its sump's list; a new first member gets a class notice of class 1 (R52). -/
def Works.leaveList (i : Nat) (w : Works) : Works :=
  match w.dewater.pumps[i]? with
  | none => w
  | some p =>
    match w.dewater.sumps[p.sump]? with
    | none => w
    | some s =>
      let l := s.list.filter (fun j => !(j == i))
      let w := w.updSump p.sump (fun s => { s with list := l })
      match l.head? with
      | some j => if s.list.head? = some j then w else w.send (.classNotice j 1)
      | none => w

def Works.inList (w : Works) (i : Nat) : Bool := w.dewater.sumps.any (fun s => s.list.contains i)

/-! ## Commands to the motor -/

/-- A HALT for a pump's output. -/
def Works.haltPump (i : Nat) (w : Works) : Works :=
  match w.dewater.pumps[i]? with
  | none => w
  | some p =>
    let w := w.updPump i (fun p => { p with haltRefused := false })
    (w.request .halt p.unit p.motor (.pumpHalt i)).2

/-- A START pair for a pump's output. -/
def Works.queueStart (i : Nat) (w : Works) : Works :=
  match w.dewater.pumps[i]? with
  | none => w
  | some p =>
    let w := w.updPump i (fun p => { p with pair := .inFlight, pairRefused := false })
    (w.request (.pair .start) p.unit p.motor (.pumpStart i)).2

/-! ## Lead (R53) -/

/-- Positions after `lead`, wrapping round, without `lead` itself. -/
def positionsAfter (lead n : Nat) : List Nat := (List.range (n - 1)).map (fun k => (lead + 1 + k) % n)

/-- The lead index moves to a position; a LEAD record says why: 0 advance, 1 LEAD SET (Table 3-5). -/
def Works.setLead (si lead why : Nat) (w : Works) : Works :=
  match w.dewater.sumps[si]? with
  | none => w
  | some s =>
    (w.updSump si (fun s => { s with lead := lead })).record .lead si (some s.lead) (some lead)
      [s.rotation.getD lead 0, why] false

/-- The lead advances after a stop when the sump is at rest (R53). -/
def Works.advanceLead (si : Nat) (w : Works) : Works :=
  match w.dewater.sumps[si]? with
  | none => w
  | some s =>
    if s.demand = 0 ∧ s.list = [] ∧
        !(w.dewater.pumps.any (fun p => p.sump == si && decide (p.state = .stopping))) then
      match (positionsAfter s.lead s.rotation.length).find? (fun k =>
          match w.dewater.pumps[s.rotation.getD k 0]? with
          | some p => !(decide (p.state = .outOfService) || decide (p.state = .tripped))
          | none => false) with
      | some k => w.setLead si k 0
      | none => w
    else w

/-! ## Abandoned pairs that end without execution (R58) -/

/-- A pump stopped for shedding waits and requests again (R58, R63). -/
def Works.waitShed (i : Nat) (w : Works) : Works :=
  let w := w.dropPumpGrant i
  (w.movePump i (fun p => { p with state := .waiting, cause := some .shed, mark := .none, grant := .requested,
                                   confirmStart := none })).requestPump i

/-- The abandoned START pair of a pump ended without execution (R58). It changes nothing where a second pair of the pump is
already in flight (the model's choice, log 27). -/
def Works.abandonedUnexecuted (i : Nat) (w : Works) : Works :=
  match w.dewater.pumps[i]? with
  | none => w
  | some p =>
    if p.pair = .inFlight then w else
      let w := w.updPump i (fun p => { p with pair := .none, pairRefused := false })
      match p.state with
      | .stopping =>
        match p.mark with
        | .shed => w.waitShed i
        | .service => (w.dropPumpGrant i).movePump i (fun p => { p with state := .outOfService, mark := .none })
        | _ => ((w.dropPumpGrant i).movePump i (fun p => { p with state := .idle, mark := .none })).advanceLead p.sump
      | .waiting =>
        if p.grant = .requested then (w.send (.loadWithdrawal i)).requestPump i else w
      | _ => w

/-- A pair in flight is abandoned (R58); one that was refused full never went out, and ends without execution (the model's
choice, log 27). -/
def Works.abandonStart (i : Nat) (w : Works) : Works :=
  match w.dewater.pumps[i]? with
  | none => w
  | some p =>
    let w := (w.updPump i (fun p => { p with pair := .abandoned })).giveUp (.pumpStart i) .abandoned
    if p.pairRefused then w.abandonedUnexecuted i else w

/-! ## Calling and dismissing (R52) -/

/-- Dismissal of a pump (R52): its stop mark is DEMAND in every case. -/
def Works.dismiss (i : Nat) (w : Works) : Works :=
  match w.dewater.pumps[i]? with
  | none => w
  | some p =>
    let w := w.leaveList i
    match p.state with
    | .waiting =>
      if p.pair = .inFlight then
        (w.movePump i (fun p => { p with state := .stopping, cause := none, mark := .demand,
                                         confirmStart := none })).abandonStart i
      else if p.cause = some .rest then
        w.movePump i (fun p => { p with state := .resting, cause := none, mark := .demand })
      else
        (w.dropPumpGrant i).movePump i (fun p => { p with state := p.restState w.now, cause := none, mark := .demand })
    | .starting =>
      (w.movePump i (fun p => { p with state := .stopping, mark := .demand, confirmStart := none,
                                       lapse := false })).haltPump i
    | .running =>
      (w.movePump i (fun p => { p with state := .stopping, mark := .demand, confirmStart := none,
                                       lapse := false })).haltPump i
    | .stopping => w.updPump i (fun p => { p with mark := .demand })
    | _ => w

/-- A called pump joins the list and requests power (R52); a stop mark that its dismissal left is NONE again (the model's
choice, log 27). -/
def Works.callPump (i : Nat) (w : Works) : Works :=
  let w := w.joinList i
  (w.movePump i (fun p => { p with state := .waiting, cause := some .grant, grant := .requested, mark := .none })).requestPump i

/-- The newest member of a list whose claim is AUTO. -/
def Works.newestAuto (w : Works) (l : List Nat) : Option Nat :=
  l.reverse.find? (fun i => decide (w.claimOf (.pump i) = .auto))

/-- A pump of the sump that an ordered intent RUN wants called (R52): of several the one of the lowest index (the model's
choice, log 27). -/
def Works.orderedToCall (w : Works) (si : Nat) (s : Sump) : Option Nat :=
  ((indexed 0 w.dewater.pumps).find? (fun ip =>
    ip.2.sump == si && decide (ip.2.intent = some .run) && decide (ip.2.state = .idle) &&
      !(s.list.contains ip.1))).map Prod.fst

/-- The first IDLE pump with claim AUTO from the lead onward, wrapping round (R52). -/
def Works.demandToCall (w : Works) (s : Sump) : Option Nat :=
  ((s.rotation.drop s.lead ++ s.rotation.take s.lead).find? (fun i =>
    decide (w.claimOf (.pump i) = .auto) && match w.dewater.pumps[i]? with
      | some p => decide (p.state = .idle)
      | none => false))

/-- One change of serving, if one applies (R52). -/
def Works.serveOnce (si : Nat) (w : Works) : Option Works :=
  match w.dewater.sumps[si]? with
  | none => none
  | some s =>
    let auto := w.newestAuto s.list
    match if s.target < s.list.length then auto else none with
    | some i => some (w.dismiss i)
    | none =>
      let wanted := if s.cutout.state = .active then none else w.orderedToCall si s
      match wanted with
      | some i =>
        if s.list.length < s.duty then some (w.callPump i)
        else match auto with
          | some j => some ((w.dismiss j).callPump i)
          | none => none
      | none => none

/-- A call for demand, if one applies (R52). -/
def Works.callForDemand (si : Nat) (w : Works) : Option Works :=
  match w.dewater.sumps[si]? with
  | none => none
  | some s =>
    if s.list.length < s.target ∧ w.station.state = .running ∧ s.cutout.state ≠ .active then
      (w.demandToCall s).map (fun i => w.callPump i)
    else none

/-- Serving repeats its changes until none applies (R52); every change dismisses or calls a pump, and 64 are more than the
pumps of a sump allow. -/
def serveLoop (si : Nat) : Nat → Works → Works
  | 0, w => w
  | n + 1, w =>
    match w.serveOnce si with
    | some w => serveLoop si n w
    | none => match w.callForDemand si with
      | some w => serveLoop si n w
      | none => w

/-- Serving is judged in HELD and RUNNING (R52). -/
def Works.serve (si : Nat) (w : Works) : Works :=
  if w.station.state = .held ∨ w.station.state = .running then serveLoop si 64 w else w

/-- Serving of every sump, where one event concerns both: sump 0 first (the model's choice, log 27). -/
def Works.serveAll (w : Works) : Works := each (List.range w.dewater.sumps.length) Works.serve w

/-- The figures of a sump by R50, without the serving that follows. -/
def Works.refigure (si : Nat) (w : Works) : Works :=
  match w.dewater.sumps[si]? with
  | none => w
  | some s => w.setFigures si (demandOf s (w.water.channels[s.level]?))

/-- Demand judged again, with serving (R50). -/
def Works.judgeDemand (si : Nat) (w : Works) : Works := (w.refigure si).serve si

/-- The cutout has become ACTIVE (R51): the whole list is dismissed, newest member first. Serving is still to be judged. -/
def Works.cutoutActive (si : Nat) (w : Works) : Works :=
  match w.dewater.sumps[si]? with
  | none => w
  | some s => each s.list.reverse Works.dismiss (w.setFigures si 0)

/-- The duty mode follows the stage (R50). Where it changes for both sumps, sump 0 is judged first (the model's choice,
log 27). -/
def Works.dutyFromStage (w : Works) : Works :=
  let storm := match w.water.stage.stage with
    | .dry => false | .watch => false | .alert => true | .closed => true | .draining => true
  each (List.range w.dewater.sumps.length) (fun si w =>
    match w.dewater.sumps[si]? with
    | none => w
    | some s => if s.storm = storm then w
      else (w.updSump si (fun s => { s with storm := storm })).judgeDemand si) w

/-- A change of a sump's level channel (Table 1-5). Of two sumps on one channel, sump 0 is judged first (the model's choice,
log 27). -/
def Works.levelChanged (c : Nat) (w : Works) : Works :=
  each (indexed 0 w.dewater.sumps) (fun is w => if is.2.level = c then w.judgeDemand is.1 else w) w

/-! ## Run seconds and running view (R61) -/

/-- The elapsed running time is added; the count saturates and says so once. -/
def Works.addRun (i : Nat) (w : Works) : Works :=
  match w.dewater.pumps[i]? with
  | none => w
  | some p =>
    match p.runSince with
    | none => w
    | some t =>
      let ms := (w.now - t) + p.runRest
      let secs := min (p.runSeconds + ms / 1000) 4294967295
      let w' := w.updPump i (fun p => { p with runSeconds := secs, runRest := ms % 1000, runSince := some w.now,
                                               saturated := p.saturated || decide (secs = 4294967295) })
      if secs = 4294967295 ∧ !p.saturated then w'.record .runtimeSaturated i none none [secs] false else w'

/-- The running view changes. -/
def Works.setRunning (i : Nat) (v : RunView) (w : Works) : Works :=
  match w.dewater.pumps[i]? with
  | none => w
  | some p =>
    if p.running = v then w
    else if p.running = .running then
      (w.addRun i).updPump i (fun p => { p with running := v, runSince := none })
    else w.updPump i (fun p => { p with running := v, runSince := if v = .running then some w.now else none })

/-! ## Stops and trips -/

/-- A pump has stopped under supervision (R57, R63). -/
def Works.pumpStopped (i : Nat) (w : Works) : Works :=
  match w.dewater.pumps[i]? with
  | none => w
  | some p =>
    let w := w.updPump i (fun p => { p with confirmStart := none, lastStop := some w.now })
    let w := match p.mark with
      | .shed => w.waitShed i
      | .service => (w.dropPumpGrant i).movePump i (fun p => { p with state := .outOfService, mark := .none })
      | _ =>
        ((w.dropPumpGrant i).movePump i (fun p => { p with state := p.restState w.now, mark := .none })).advanceLead p.sump
    w.serve p.sump

/-- A trip with a HALT: the grant is released, the pump leaves the list, another may be called (R60). -/
def Works.tripPump (i : Nat) (r : TripReason) (w : Works) : Works :=
  match w.dewater.pumps[i]? with
  | none => w
  | some p =>
    let w := ((w.haltPump i).dropPumpGrant i).leaveList i
    (w.movePump i (fun p => { p with state := .tripped, cause := none, trip := some r, tripCode := 0,
                                     confirmStart := none, lapse := false, mark := .none })).serve p.sump

/-! ## Reports from the pump room (R49) -/

/-- A pump item: the views, then the rule of the pump's state. The model's choices (log 27): an overload that comes with the
first running report trips the pump from STARTING, one that comes with a second report of not running trips it OVERLOAD, and the
overload view is taken by its level, so a pump that a settlement admitted RUNNING with the view already ACTIVE trips OVERLOAD at
its first item (R60). -/
def Works.pumpItem (i : Nat) (running overload : Bool) (w : Works) : Works :=
  match w.dewater.pumps[i]? with
  | none => w
  | some p =>
    let w := (w.setRunning i (if running then .running else .stopped)).updPump i
      (fun p => { p with overload := if overload then .active else .inactive })
    match p.state with
    | .starting =>
      if overload then w.tripPump i .overload
      else if running then
        (w.movePump i (fun p => { p with state := .running, confirmStart := none })).serve p.sump
      else w
    | .running =>
      if overload then w.tripPump i .overload
      else if running then w.updPump i (fun p => { p with lapse := false })
      else if p.lapse then w.tripPump i .feedbackLost
      else w.updPump i (fun p => { p with lapse := true })
    | .stopping => if !running && p.confirmStart.isSome then w.pumpStopped i else w
    | .uncommanded =>
      if running && decide (p.grant = .none) then w.keepOrAdoptPump i
      else if !running && decide (p.grant = .granted) then w.dropPumpGrant i
      else w
    | .tripped =>
      if !running && decide (p.running ≠ .stopped) && decide (p.grant ≠ .none) then w.dropPumpGrant i
      else if running && decide (p.trip = some .stopFail) && decide (p.grant = .none) then w.keepOrAdoptPump i
      else w
    | _ => w

/-- State of a float. -/
def Sump.floatState (s : Sump) (high : Bool) : FloatState := if high then s.high.state else s.cutout.state

/-- A change of a float: FLOAT record, then the cutout by R51 and the high float by R50. Serving is still to be judged. -/
def Works.takeFloat (si : Nat) (high : Bool) (v : FloatState) (w : Works) : Works :=
  match w.dewater.sumps[si]? with
  | none => w
  | some s =>
    let old := s.floatState high
    if old = v then w else
      let w := w.updSump si (fun s =>
        if high then { s with high := { s.high with state := v } } else { s with cutout := { s.cutout with state := v } })
      let w := w.record .float si (some old.code) (some v.code) [flag high] false
      if !high && decide (v = .active) then w.cutoutActive si else w.refigure si

/-- A change of a float, with the serving it calls for (R52). -/
def Works.setFloat (si : Nat) (high : Bool) (v : FloatState) (w : Works) : Works :=
  match w.dewater.sumps[si]? with
  | none => w
  | some s => if s.floatState high = v then w else (w.takeFloat si high v).serve si

def floatOf (b : Bool) : FloatState := if b then .active else .inactive

/-- The float items of a response, in sump order (R49). Of the two floats of one sump the cutout is taken first, with the serving
that it calls for (the model's choice, log 27). -/
def Works.floatItems (u : Nat) (t : UnitType) (img : List Byte) (w : Works) : Works :=
  each (indexed 0 w.dewater.sumps) (fun is w =>
    let w := if is.2.cutout.unit = u then w.setFloat is.1 false (floatOf (t.digital img is.2.cutout.input)) else w
    if is.2.high.unit = u then w.setFloat is.1 true (floatOf (t.digital img is.2.high.input)) else w) w

/-- The float items of a response that brings settlements, ahead of these and of the serving (R121, R49, R65); the cutout float
first, as in `floatItems`. -/
def Works.floatsAhead (u : Nat) (t : UnitType) (img : List Byte) (w : Works) : Works :=
  each (indexed 0 w.dewater.sumps) (fun is w =>
    let w := if is.2.cutout.unit = u then w.takeFloat is.1 false (floatOf (t.digital img is.2.cutout.input)) else w
    if is.2.high.unit = u then w.takeFloat is.1 true (floatOf (t.digital img is.2.high.input)) else w) w

/-- The items of a response of a unit that carries pumps or floats: floats, then pumps (R49). -/
def Works.dewaterArrival (u : Nat) (t : UnitType) (img : List Byte) (w : Works) : Works :=
  each (indexed 0 w.dewater.pumps) (fun ip w =>
    if ip.2.unit = u then w.pumpItem ip.1 (bitAt (imgByte img 0) ip.2.feedback) (bitAt (imgByte img 1) ip.2.overloadInput)
    else w) (w.floatItems u t img)

/-- A unit became UNSEEN, LOST or RETIRED: its floats and views are UNKNOWN (R49), the views ahead of the floats (the model's
choice, log 27). -/
def Works.dewaterLost (u : Nat) (w : Works) : Works :=
  let w := each (indexed 0 w.dewater.pumps) (fun ip w =>
    if ip.2.unit = u then (w.setRunning ip.1 .unknown).updPump ip.1 (fun p => { p with overload := .unknown }) else w) w
  each (indexed 0 w.dewater.sumps) (fun is w =>
    let w := if is.2.cutout.unit = u then w.setFloat is.1 false .unknown else w
    if is.2.high.unit = u then w.setFloat is.1 true .unknown else w) w

/-- The views of a pump as a response gives them, ahead of its settlement (R121, R65). -/
def Works.pumpViews (i : Nat) (img : List Byte) (w : Works) : Works :=
  match w.dewater.pumps[i]? with
  | none => w
  | some p =>
    (w.setRunning i (if bitAt (imgByte img 0) p.feedback then .running else .stopped)).updPump i
      (fun p => { p with overload := floatOf (bitAt (imgByte img 1) p.overloadInput) })

/-! ## Grant notices and ends of requests (R54, R55, R57, R58) -/

/-- PUMP_GRANT_NOTICE (R54). -/
def Works.pumpGranted (i : Nat) (w : Works) : Works :=
  match w.dewater.pumps[i]? with
  | none => w
  | some p =>
    if p.state = .waiting ∧ p.grant = .requested then
      let w := w.updPump i (fun p => { p with grant := .granted })
      if p.restAllows w.now then w.queueStart i
      else
        ((w.dropPumpGrant i).movePump i (fun p => { p with state := .waiting, cause := some .rest })).serve p.sump
    else w

/-- The abandoned START pair of a pump was executed: energised notice, HALT, and a supervised stop (R58). A request that the
outage put back into the queue is withdrawn, since a pump in STOPPING holds a grant or none (Table 3-3). The stop mark of a
pump that waited is SHED while it is in the list and DEMAND otherwise, that of one that PUMP SERVICE took OUT_OF_SERVICE is
SERVICE, and a second pair that is already in flight is abandoned too (the model's choices, log 27). -/
def Works.abandonedExecuted (i : Nat) (w : Works) : Works :=
  match w.dewater.pumps[i]? with
  | none => w
  | some p =>
    let w := if p.pair = .inFlight then (w.updPump i (fun p => { p with pair := .abandoned })).giveUp (.pumpStart i) .abandoned
      else w.updPump i (fun p => { p with pair := .none })
    let w := (w.send (.energisedNotice i)).haltPump i
    match p.state with
    | .stopping => w
    | .tripped => w
    | .uncommanded => w
    | .outOfService =>
      w.movePump i (fun p => { p with state := .stopping, mark := .service, confirmStart := none })
    | _ =>
      let w := if p.grant = .requested then w.dropPumpGrant i else w
      w.movePump i (fun p => { p with state := .stopping, cause := none, confirmStart := none, lapse := false,
                                      mark := if w.inList i then .shed else .demand })

/-- The end of a START pair (R55, R58, R64). One that R64 disregards still ends in an energised notice where the grant is kept
(R34), so that no entry stays in INRUSH; the budget discards a stale one. That it is this notice and no release, however the
pair ended, is the model's choice (log 27). -/
def Works.startPairEnd (i : Nat) (f : Fate) (e : PairEnd) (w : Works) : Works :=
  match w.dewater.pumps[i]? with
  | none => w
  | some p =>
    match f with
    | .disregarded =>
      if p.pair = .abandoned then
        let w := w.updPump i (fun p => { p with pair := .none })
        if p.grant = .granted then w.send (.energisedNotice i) else w
      else w
    | .abandoned =>
      match e with
      | .executed _ => (w.abandonedExecuted i).serve p.sump
      | _ => (w.abandonedUnexecuted i).serve p.sump
    | .live =>
      match e with
      | .executed _ =>
        (((w.updPump i (fun p => { p with pair := .none, startTime := some w.now,
                                          history := startHistory w.now p.history,
                                          confirmStart := some w.now })).movePump i
          (fun p => { p with state := .starting, cause := none })).send (.energisedNotice i)).serve p.sump
      | .refused code =>
        let w := (w.updPump i (fun p => { p with pair := .none })).dropPumpGrant i
        if code = 1 ∨ code = 2 ∨ code = 6 then
          ((w.leaveList i).movePump i (fun p => { p with state := .tripped, cause := none, trip := some .startFail,
                                                         tripCode := code })).serve p.sump
        else
          (w.movePump i (fun p => { p with state := .waiting, cause := some .grant, grant := .requested })).requestPump i
      | .missed =>
        let w := (w.updPump i (fun p => { p with pair := .none })).dropPumpGrant i
        (w.movePump i (fun p => { p with state := .waiting, cause := some .grant, grant := .requested })).requestPump i
      | .withheld => w
      | .removed => w.updPump i (fun p => { p with pair := .none })

/-- The end of a HALT: the confirm time of a stop starts (R57). While an abandoned START pair still runs to its end, the HALT
of the stop is yet to be queued (R58), and the end of an earlier one does not count; a pair whose end is disregarded (R64)
delays nothing. -/
def Works.pumpHaltEnd (i : Nat) (w : Works) : Works :=
  if w.line.abandonedRuns (.pumpStart i) then w
  else w.updPump i (fun p =>
    if p.state = .stopping ∧ p.confirmStart = none then { p with confirmStart := some w.now } else p)

/-- Retry notice to the dewatering controller (R54, R57, R140). -/
def Works.dewaterRetry (u : Nat) (w : Works) : Works :=
  each (indexed 0 w.dewater.pumps) (fun ip w =>
    if ip.2.unit = u then
      let w := if ip.2.haltRefused then w.haltPump ip.1 else w
      if ip.2.pairRefused then
        match ip.2.pair with
        | .inFlight => w.queueStart ip.1
        | _ => w.updPump ip.1 (fun p => { p with pairRefused := false })
      else w
    else w) w

/-! ## Ends of timers (R56, R57, R59) -/

def Pump.confirmOver (p : Pump) (now : Nat) : Bool := match p.confirmStart with
  | some t => elapsed t (1000 * p.confirm) now
  | none => false

/-- START_CONFIRM_EXPIRY (R56). -/
def Works.startConfirmExpiry (i : Nat) (w : Works) : Works :=
  match w.dewater.pumps[i]? with
  | none => w
  | some p => if p.state = .starting ∧ p.confirmOver w.now then w.tripPump i .startFail else w

/-- STOP_CONFIRM_EXPIRY (R57): the grant is kept, since the motor may still draw power. Where the running view is STOPPED (reported
before the HALT ended) nothing happens: the pump goes on waiting for its next report, and one of running then trips it STOP_FAIL
at once (the model's choice, log 27). -/
def Works.stopConfirmExpiry (i : Nat) (w : Works) : Works :=
  match w.dewater.pumps[i]? with
  | none => w
  | some p =>
    if p.state = .stopping ∧ p.confirmOver w.now ∧ p.running ≠ .stopped then
      let w := (w.failShed i).leaveList i
      (w.movePump i (fun p => { p with state := .tripped, trip := some .stopFail, tripCode := 0,
                                       confirmStart := none, mark := .none })).serve p.sump
    else w

/-- PUMP_REST_EXPIRY (R59). -/
def Works.pumpRestExpiry (i : Nat) (w : Works) : Works :=
  match w.dewater.pumps[i]? with
  | none => w
  | some p =>
    if p.restAllows w.now then
      match p.state with
      | .resting => (w.movePump i (fun p => { p with state := .idle })).serve p.sump
      | .waiting =>
        if p.cause = some .rest then
          (w.movePump i (fun p => { p with cause := some .grant, grant := .requested })).requestPump i
        else w
      | _ => w
    else w

/-! ## Outage, shedding (R62, R63) -/

/-- The answer of a pump at an outage: RESTORE is `true` (R62). A WAITING pump whose grant notice is still on its way answers
RESTORE too and waits with cause OUTAGE (the model's choice, log 26). -/
def Works.pumpOutage (i : Nat) (w : Works) : Bool × Works :=
  match w.dewater.pumps[i]? with
  | none => (false, w)
  | some p =>
    match p.state with
    | .starting =>
      (true, (w.movePump i (fun p => { p with state := .waiting, cause := some .outage, confirmStart := none,
                                              lapse := false, lastStop := some w.now, grant := .requested, mark := .none })).haltPump i)
    | .running =>
      (true, (w.movePump i (fun p => { p with state := .waiting, cause := some .outage, confirmStart := none,
                                              lapse := false, lastStop := some w.now, grant := .requested, mark := .none })).haltPump i)
    | .waiting =>
      if p.pair = .inFlight then
        (true, (w.movePump i (fun p => { p with cause := some .outage, grant := .requested })).abandonStart i)
      else if p.grant = .none then (false, w)
      else (true, w.movePump i (fun p => { p with cause := some .outage, grant := .requested }))
    | _ => (false, w.updPump i (fun p => { p with grant := .none }))

/-- PUMP_SHED_REQUEST (R63). -/
def Works.pumpShed (i : Nat) (w : Works) : Works :=
  match w.dewater.pumps[i]? with
  | none => w
  | some p =>
    match p.state with
    | .starting =>
      (w.movePump i (fun p => { p with state := .stopping, mark := .shed, confirmStart := none, lapse := false })).haltPump i
    | .running =>
      (w.movePump i (fun p => { p with state := .stopping, mark := .shed, confirmStart := none, lapse := false })).haltPump i
    | .waiting =>
      if p.pair = .inFlight then
        ((w.movePump i (fun p => { p with state := .stopping, cause := none, mark := .shed,
                                          confirmStart := none })).abandonStart i).serve p.sump
      else w.send (.shedFailure i)
    | .stopping => w
    | _ => w.send (.shedFailure i)

/-! ## Panels, loss and settlement (R64, R65) -/

/-- Any ACTIVE order of a pump completes PREEMPTED (R64). -/
def Works.preemptPump (i : Nat) (v : ClaimValue) (w : Works) : Works :=
  w.completeAll (fun a => a.subject == i && decide (a.code.owner = .dewatering))
    (fun a w => w.complete a.slot Status.preempted v.code 0 [])

/-- The claim of a pump became PANEL or LOCAL (R64). Serving follows once every change of the event is handed. The model's
choices (log 27): a start pair that was refused full becomes NONE at once, since it has no end on the line; a grant kept beside a
start pair that is already ABANDONED has its energised notice when that pair ends (R34); PANEL with the running view UNKNOWN
settles the grant as LOCAL does; the stop mark becomes NONE; the PUMP record is handed after the grant is settled. -/
def Works.uncommandPump (i : Nat) (v : ClaimValue) (w : Works) : Works :=
  match w.dewater.pumps[i]? with
  | none => w
  | some p =>
    let w := (w.preemptPump i v).leaveList i
    let w := w.giveUp (.pumpStart i) .disregarded
    let w := w.failShed i
    let kept := decide (p.grant = .granted) && !(decide (v = .panel) && decide (p.running = .stopped))
    let w := if v = .panel ∧ p.running = .running then w.keepOrAdoptPump i
      else if v = .panel ∧ p.running = .stopped then w.dropPumpGrant i
      else if p.grant = .requested then w.dropPumpGrant i
      else w
    let w := if kept && decide (p.pair = .inFlight) then w.send (.energisedNotice i) else w
    (w.movePump i (fun p => { p with state := .uncommanded, cause := none, confirmStart := none, lapse := false,
                                     intent := none, mark := .none, haltRefused := false, pairRefused := false,
                                     pair := if p.pair = .inFlight then (if p.pairRefused then .none else .abandoned) else p.pair }))

/-- The settlement of a pump that leaves UNCOMMANDED (R65): the first row that applies. A running view UNKNOWN counts as
STOPPED (the model's choice, log 27). The class notice of a pump that is admitted goes ahead of its adoption (log 27).
Serving follows once every pump of the event is settled. -/
def Works.settlePump (i : Nat) (w : Works) : Works :=
  match w.dewater.pumps[i]? with
  | none => w
  | some p =>
    match w.dewater.sumps[p.sump]? with
    | none => w
    | some s =>
      let isRunning := decide (p.running = .running)
      let admitted := isRunning && p.trip.isNone && !p.out && !decide (s.cutout.state = .active) &&
        decide (s.list.length < s.duty)
      let w := if admitted then
          let w := w.joinList i
          w.send (.classNotice i (w.pumpClass i))
        else w
      let w := if isRunning then w.keepOrAdoptPump i
        else (w.dropPumpGrant i).updPump i (fun p => { p with lastStop := some (p.lastStop.getD w.now) })
      let stop := fun (m : StopMark) (w : Works) =>
        (w.movePump i (fun p => { p with state := .stopping, mark := m, confirmStart := none })).haltPump i
      if p.trip.isSome then w.movePump i (fun p => { p with state := .tripped })
      else if p.out then
        if isRunning then stop .service w else w.movePump i (fun p => { p with state := .outOfService })
      else if !isRunning then w.movePump i (fun p => { p with state := p.restState w.now })
      else if admitted then w.movePump i (fun p => { p with state := .running, lapse := false })
      else stop .demand w

/-! ## Pump orders (R66 to R70) -/

/-- Result word 25 of a failure by a trip (R66). -/
def Works.failTripped (o : Order) (p : Pump) (w : Works) : Works := o.finish Status.failed 1 p.tripSecond [p.tripCode] w

/-- An accepted order supersedes the ACTIVE PUMP RUN, PUMP STOP and PUMP SERVICE of its pump (R66). -/
def Works.supersedePump (o : Order) (w : Works) : Works :=
  w.completeAll (fun a => a.subject == o.subject &&
      (decide (a.code = .pumpRun) || decide (a.code = .pumpStop) || decide (a.code = .pumpService)))
    (fun a w => w.complete a.slot Status.superseded o.slot 0 [])

/-- Roster state code of a unit, for CLAIM records. -/
def Works.unitStateCode (w : Works) (u : Nat) : Nat := (w.unitState u).code

/-- A claim value changes: changed time and CLAIM record (R129). -/
def Works.setClaim (s : ClaimSubject) (v : ClaimValue) (slot : Option Nat) (cause : ClaimCause) (detail2 : Nat)
    (w : Works) : Works :=
  match posOf (fun c => decide (c.subject = s)) w.claims with
  | none => w
  | some k =>
    match w.claims[k]? with
    | none => w
    | some c =>
      let w := { w with claims := updAt (fun c => { c with value := v, slot := slot, changed := w.now }) k w.claims }
      w.record .claim k (some c.value.code) (some v.code) [cause.code, detail2, c.unit, w.unitStateCode c.unit] false

/-- The claim becomes or stays ORDERED with the order's slot (R125). -/
def Works.orderClaim (s : ClaimSubject) (slot : Nat) (w : Works) : Works :=
  if w.claimOf s = .ordered then
    { w with claims := w.claims.map (fun c => if c.subject = s then { c with slot := some slot } else c) }
  else w.setClaim s .ordered (some slot) .order slot

/-- The claim returns from ORDERED to AUTO by an order (R125). -/
def Works.autoClaim (s : ClaimSubject) (slot : Nat) (w : Works) : Works :=
  if w.claimOf s = .ordered then w.setClaim s .auto none .autoOrder slot else w

/-- PUMP RUN (R67). -/
def Works.pumpRunOrder (o : Order) (w : Works) : Works :=
  match w.dewater.pumps[o.subject]? with
  | none => w
  | some p =>
    let v := w.claimOf (.pump o.subject)
    if !v.commands then o.finish Status.refusedClaim v.code 0 [] w
    else if p.state = .tripped then w.failTripped o p
    else if p.state = .outOfService then o.finish Status.failed 2 0 [] w
    else
      let w := (w.supersedePump o).orderClaim (.pump o.subject) o.slot
      let w := (w.hold (o.active 0)).updPump o.subject (fun p => { p with intent := some .run })
      ((w.recount p.sump).judgePumpOrders o.subject).serve p.sump

/-- PUMP STOP (R68). -/
def Works.pumpStopOrder (o : Order) (w : Works) : Works :=
  match w.dewater.pumps[o.subject]? with
  | none => w
  | some p =>
    let v := w.claimOf (.pump o.subject)
    if !v.commands then o.finish Status.refusedClaim v.code 0 [] w
    else if p.state = .tripped then w.failTripped o p
    else if p.state = .outOfService then o.finish Status.failed 2 0 [] w
    else
      let w := (w.supersedePump o).orderClaim (.pump o.subject) o.slot
      let w := (w.hold (o.active 0)).updPump o.subject (fun p => { p with intent := some .stop })
      let w := w.recount p.sump
      let w := if w.inList o.subject then w.dismiss o.subject else w
      (w.judgePumpOrders o.subject).serve p.sump

/-- PUMP AUTO (R69). -/
def Works.pumpAutoOrder (o : Order) (w : Works) : Works :=
  match w.dewater.pumps[o.subject]? with
  | none => w
  | some p =>
    let v := w.claimOf (.pump o.subject)
    if !v.commands then o.finish Status.refusedClaim v.code 0 [] w
    else
      let w := (w.autoClaim (.pump o.subject) o.slot).updPump o.subject (fun p => { p with intent := none })
      let w := w.completeAll (fun a => a.subject == o.subject &&
          (decide (a.code = .pumpRun) || decide (a.code = .pumpStop) || decide (a.code = .pumpService)))
        (fun a w => w.complete a.slot Status.failed 3 o.slot [])
      (o.finish Status.doneOk 0 0 [] (w.recount p.sump)).serve p.sump

/-- PUMP CLEAR (R69). -/
def Works.pumpClearOrder (o : Order) (w : Works) : Works :=
  match w.dewater.pumps[o.subject]? with
  | none => w
  | some p =>
    if p.state ≠ .tripped then o.finish Status.failed 4 p.state.code [] w
    else
      let w := if p.trip = some .stopFail ∧ p.running ≠ .stopped then
          (w.movePump o.subject (fun p => { p with state := .stopping, mark := .demand, trip := none, tripCode := 0,
                                                   confirmStart := none })).haltPump o.subject
        else
          (w.dropPumpGrant o.subject).movePump o.subject (fun p => { p with state := p.restState w.now, trip := none,
                                                                            tripCode := 0 })
      (o.finish Status.doneOk 0 0 [] w).serve p.sump

/-- A pump goes out of service by its state (R70). -/
def Works.pumpOut (i : Nat) (p : Pump) (w : Works) : Works :=
  match p.state with
  | .idle => w.movePump i (fun p => { p with state := .outOfService })
  | .resting => w.movePump i (fun p => { p with state := .outOfService })
  | .tripped => (w.dropPumpGrant i).movePump i (fun p => { p with state := .outOfService, trip := none, tripCode := 0 })
  | .waiting =>
    if p.pair = .inFlight then
      let w := if w.inList i then w.leaveList i else w
      (w.movePump i (fun p => { p with state := .stopping, cause := none, mark := .service,
                                       confirmStart := none })).abandonStart i
    else
      ((w.leaveList i).dropPumpGrant i).movePump i (fun p => { p with state := .outOfService, cause := none, mark := .demand })
  | .starting =>
    ((w.leaveList i).movePump i (fun p => { p with state := .stopping, mark := .service, confirmStart := none,
                                                   lapse := false })).haltPump i
  | .running =>
    ((w.leaveList i).movePump i (fun p => { p with state := .stopping, mark := .service, confirmStart := none,
                                                   lapse := false })).haltPump i
  | .stopping => (w.leaveList i).updPump i (fun p => { p with mark := .service })
  | .outOfService => w
  | .uncommanded => w

/-- PUMP SERVICE (R70). The model's choices (log 27): the claim is judged ahead of the parameter, and an order that fails on its
parameter supersedes nothing. -/
def Works.pumpServiceOrder (o : Order) (w : Works) : Works :=
  match w.dewater.pumps[o.subject]? with
  | none => w
  | some p =>
    let v := w.claimOf (.pump o.subject)
    if !v.commands then o.finish Status.refusedClaim v.code 0 [] w
    else if o.param = 1 then
      if p.state = .tripped ∧ p.trip = some .stopFail then w.failTripped o p
      else
        let w := (w.supersedePump o).orderClaim (.pump o.subject) o.slot
        let w := (w.hold (o.active 0)).updPump o.subject (fun p => { p with intent := none, out := true })
        let w := (w.recount p.sump).pumpOut o.subject p
        (w.judgePumpOrders o.subject).serve p.sump
    else if o.param = 0 then
      let w := w.supersedePump o
      if p.state = .outOfService then
        let w := (w.orderClaim (.pump o.subject) o.slot).movePump o.subject
          (fun p => { p with out := false, intent := some .stop, state := p.restState w.now })
        (o.finish Status.doneOk 0 0 [] w).serve p.sump
      else o.finish Status.doneOk 0 0 [] w
    else o.finish Status.failed 5 o.param [] w

/-- LEAD SET (R70). -/
def Works.leadSetOrder (o : Order) (w : Works) : Works :=
  match w.dewater.pumps[o.subject]? with
  | none => w
  | some p =>
    if p.state = .outOfService then o.finish Status.failed 2 0 [] w
    else if p.state = .tripped then w.failTripped o p
    else
      let w := match w.dewater.sumps[p.sump]? with
        | none => w
        | some s => match posOf (fun i => i == o.subject) s.rotation with
          | some k => w.setLead p.sump k 1
          | none => w
      o.finish Status.doneOk 0 0 [] w

end Sys2Proof.Machine
end

