-- ==== Sys2Proof/Machine/Thresholds.lean ====
section
/-! DEFINITION. How thresholds advance (R3 to R6): the day decision of lighting follows the same table (R104). -/

namespace Sys2Proof.Machine

open Sys2Proof

/-- A count that reaches the qualify count settles (R4, R5). -/
def countUp (n qualify : Nat) (counting : Nat → ThState) (settled : ThState) : ThState :=
  if n < qualify then counting n else settled

/-- An UP threshold at a sample (Table 1-3). -/
def upStep (level hysteresis qualify : Nat) (s : ThState) (v : Nat) : ThState :=
  match s with
  | .below => if level ≤ v then countUp 1 qualify .rising .above else .below
  | .rising n => if level ≤ v then countUp (n + 1) qualify .rising .above else .below
  | .above => if v + hysteresis < level then countUp 1 qualify .falling .below else .above
  | .falling n => if v + hysteresis < level then countUp (n + 1) qualify .falling .below else .above

/-- A DOWN threshold at a sample (Table 1-4). -/
def downStep (level hysteresis qualify : Nat) (s : ThState) (v : Nat) : ThState :=
  match s with
  | .above => if v ≤ level then countUp 1 qualify .falling .below else .above
  | .falling n => if v ≤ level then countUp (n + 1) qualify .falling .below else .above
  | .below => if level + hysteresis < v then countUp 1 qualify .rising .above else .below
  | .rising n => if level + hysteresis < v then countUp (n + 1) qualify .rising .above else .below

/-- A threshold at a sample that leaves its channel VALID (R6). -/
def Threshold.next (t : Threshold) (v : Nat) : ThState :=
  match t.direction with
  | .up => upStep t.level t.hysteresis t.qualify t.state v
  | .down => downStep t.level t.hysteresis t.qualify t.state v

/-- The settled state of a threshold state: what a count counts away from (R3). -/
def ThState.settled : ThState → ThState
  | .below => .below | .rising _ => .below | .above => .above | .falling _ => .above

/-- The initial state of a threshold (R3). -/
def Direction.initial : Direction → ThState
  | .up => .below
  | .down => .above

end Sys2Proof.Machine
end

