-- ==== Sys2Proof/Machine/Lighting.lean ====
section
/-! DEFINITION. Lighting controller (chapter 5): modes, selections, the day decision, target steps, the driving of the
circuits, lamp faults, outage and shedding answers, claim changes, and what the zone orders do. -/

namespace Sys2Proof.Machine

open Sys2Proof

/-! ## Steps and powers -/

/-- Power of a circuit at a step. -/
def Circuit.powerAt (c : Circuit) (step : Nat) : Nat := c.power.getD step 0

/-- The highest step, not above a step, whose power does not exceed a limit; step 0 has power 0 (R101). -/
def highestStep (power : List Nat) (limit : Nat) : Nat → Nat
  | 0 => 0
  | k + 1 => if power.getD (k + 1) 0 ≤ limit then k + 1 else highestStep power limit k

/-- The drive step (R107). -/
def Circuit.drive (c : Circuit) : Nat :=
  match c.grant with
  | none => c.wanted
  | some _ => highestStep c.power c.granted c.wanted

/-- The covered step (R109). -/
def Circuit.covered (c : Circuit) : Nat := c.setList.foldl max (max (c.reported.getD 0) c.drive)

/-- A circuit is healthy while its fault flag is CLEAR (R101). -/
def Circuit.healthy (c : Circuit) : Bool := decide (c.fault = .clear)

/-- The zone record of a circuit, with its claim. -/
def Works.zoneOf (w : Works) (c : Circuit) : Option Zone := w.lights.zones[c.zone]?

/-- Circuits of a zone. -/
def Works.zoneCircuits (w : Works) (z : Nat) : List Circuit := w.lights.circuits.filter (fun c => c.zone == z)

/-- Indexes of the circuits of a zone, in site table order. -/
def Works.circuitsOf (w : Works) (z : Nat) : List Nat :=
  ((indexed 0 w.lights.circuits).filter (fun ic => ic.2.zone == z)).map Prod.fst

/-- The wanted step of a healthy circuit (R107). -/
def Circuit.wantedIn (c : Circuit) (z : Zone) : Nat :=
  if c.shedHold then min z.target (z.minSafe.getD 7) else z.target

/-- A step as journal records and the image show it (R179). -/
def stepCode (s : Option Nat) : Nat := s.getD 255

/-! ## The orders of a zone (R115) -/

/-- Every circuit of a zone is faulted. -/
def Works.zoneDark (w : Works) (z : Nat) : Bool := (w.zoneCircuits z).all (fun c => !c.healthy)

/-- ZONE SET as it stands is judged against the zone: FAILED detail 1, DONE_OK, or neither. -/
def Works.judgeZoneSet (z : Nat) (w : Works) : Works :=
  match w.lights.zones[z]? with
  | none => w
  | some x =>
    w.completeAll (fun a => decide (a.code = .zoneSet) && a.subject == z) (fun a w =>
      if w.zoneDark z then w.complete a.slot Status.failed 1 (w.zoneCircuits z).length []
      else if x.current = some x.target then w.complete a.slot Status.doneOk 0 0 [x.target, (stamp w.now).toNat]
      else w)

/-! ## The current step (R109) -/

/-- The current step that the circuits of a zone show; the last value where they disagree. -/
def currentStep (circuits : List Circuit) (last : Option Nat) : Option Nat :=
  let healthy := circuits.filter Circuit.healthy
  if healthy.any (fun c => decide (c.reported = none)) then none
  else match healthy with
    | [] => some 0
    | c :: cs => if cs.all (fun d => decide (d.reported = c.reported)) then c.reported else last

/-- Judgement of a zone's current step: a ZONE record at a change, and the ACTIVE ZONE SET. -/
def Works.judgeCurrent (z : Nat) (w : Works) : Works :=
  match w.lights.zones[z]? with
  | none => w
  | some x =>
    let new := currentStep (w.zoneCircuits z) x.current
    if new = x.current then w else
      let w := w.updZone z (fun x => { x with current := new })
      (w.record .zone z (some (stepCode x.current)) (some (stepCode new))
        [x.target, x.mode.code, (w.claimOf (.zone z)).code, flag x.degraded] false).judgeZoneSet z

/-! ## Requests, SETs and shrinks (R107 to R109) -/

/-- The claim of a circuit's zone lets the controller command it. -/
def Works.commandsCircuit (w : Works) (c : Circuit) : Bool := (w.claimOf (.zone c.zone)).commands

/-- The request of a circuit follows its wanted step (R107). -/
def Works.judgeRequest (c : Nat) (w : Works) : Works :=
  match w.lights.circuits[c]? with
  | none => w
  | some x =>
    match x.grant with
    | none => w
    | some g =>
      let p := x.powerAt x.wanted
      if x.healthy && w.commandsCircuit x && (decide (x.granted < p) || x.request.isSome) &&
          !decide (x.request = some p) then
        (w.updCircuit c (fun x => { x with request := some p })).send (.loadRequest g 3 p)
      else w

/-- A SET of a step for a circuit; an accepted one is appended to the SET list (R108). -/
def Works.queueSet (c step : Nat) (w : Works) : Works :=
  match w.lights.circuits[c]? with
  | none => w
  | some x =>
    match w.zoneOf x with
    | none => w
    | some z =>
      let (accepted, w) := w.request (.set step) z.unit x.output (.lampSet c)
      if accepted then w.updCircuit c (fun x => { x with setList := x.setList ++ [step] }) else w

/-- The SET condition of R108. -/
def Works.judgeSet (c : Nat) (w : Works) : Works :=
  match w.lights.circuits[c]? with
  | none => w
  | some x =>
    let last := match x.setList.getLast? with
      | some s => some s
      | none => x.reported
    if x.healthy && w.commandsCircuit x && !decide (last = some x.drive) then w.queueSet c x.drive else w

/-- The wanted step of a circuit set to what its zone asks for; its request is judged at a change (R107). -/
def Works.judgeWanted (c : Nat) (w : Works) : Works :=
  match w.lights.circuits[c]? with
  | none => w
  | some x =>
    match w.zoneOf x with
    | none => w
    | some z =>
      let n := x.wantedIn z
      if x.healthy && !decide (n = x.wanted) then
        (w.updCircuit c (fun x => { x with wanted := n })).judgeRequest c
      else w

/-- The power that the part's view of a grant should not exceed: that of the covered step, or, in hand control, of the
reported step (R109, R113). -/
def Works.shrinkTo (w : Works) (x : Circuit) : Nat :=
  match w.claimOf (.zone x.zone) with
  | .panel => x.powerAt (x.reported.getD 0)
  | .away => x.granted
  | .ordered => x.powerAt x.covered
  | .auto => x.powerAt x.covered

/-- A shed hold ends when the granted power is no more than that of the minimum safe step; the wanted step then returns to
the target and asks again (R112). -/
def Works.endHold (c : Nat) (w : Works) : Works :=
  match w.lights.circuits[c]? with
  | none => w
  | some x =>
    match w.zoneOf x with
    | none => w
    | some z =>
      if x.shedHold && decide (x.granted ≤ x.powerAt (z.minSafe.getD 7)) then
        ((w.updCircuit c (fun x => { x with shedHold := false })).judgeWanted c).judgeSet c
      else w

/-- The shrink of R109. -/
def Works.judgeShrink (c : Nat) (w : Works) : Works :=
  match w.lights.circuits[c]? with
  | none => w
  | some x =>
    match x.grant with
    | none => w
    | some g =>
      let p := w.shrinkTo x
      if p < x.granted then
        ((w.updCircuit c (fun x => { x with granted := p })).send (.loadShrink g p)).endHold c
      else w

/-- Wanted, drive and covered steps of a circuit judged by R107 to R109. -/
def Works.judgeCircuit (c : Nat) (w : Works) : Works := ((w.judgeWanted c).judgeSet c).judgeShrink c

/-- The wanted step of a healthy circuit has to follow its zone (R106, R107). -/
def Works.wantedMoves (w : Works) (c : Nat) : Bool :=
  match w.lights.circuits[c]? with
  | none => false
  | some x =>
    match w.zoneOf x with
    | none => false
    | some z => x.healthy && !decide (x.wantedIn z = x.wanted)

/-- A circuit whose wanted step changes is judged by R107 to R109; the others stand. -/
def Works.followTarget (c : Nat) (w : Works) : Works := if w.wantedMoves c then w.judgeCircuit c else w

/-- As `judgeCircuit`, with the request judged whether the wanted step changes or not; in hand control it makes no request and
no SET, and the grant follows the report (R113). -/
def Works.settleCircuit (c : Nat) (w : Works) : Works := (((w.judgeWanted c).judgeRequest c).judgeSet c).judgeShrink c

/-! ## Target steps (R106) -/

/-- Target of a threshold zone, of INTERIOR and of EGRESS (Table 5-4). -/
def Zone.ownTarget (z : Zone) (isDay : Bool) : Nat :=
  match z.ordered with
  | some s => s
  | none =>
    match z.mode with
    | .clearingFull => 7
    | .closure => z.closure.getD 0
    | .normal => match z.choice with
      | some c => c.selected
      | none => if isDay then z.day else z.night

/-- Target of a transition zone from those of its threshold zone and of INTERIOR (Table 5-4). -/
def Zone.transitionTarget (z : Zone) (thr int : Nat) : Nat :=
  match z.ordered with
  | some s => min s thr
  | none =>
    match z.mode with
    | .normal => min (max (thr - z.offset) int) thr
    | .clearingFull => min 7 thr
    | .closure => min (z.closure.getD 0) thr

/-- DAY or NIGHT: the settled state of the decision (R104). -/
def Day.isDay (d : Day) : Bool := decide (d.state.settled = .above)

/-- The target of every zone, threshold zones, INTERIOR and EGRESS first. -/
def Lights.targets (l : Lights) : List Nat :=
  let own := l.zones.map (fun z => z.ownTarget l.day.isDay)
  (indexed 0 l.zones).map (fun iz =>
    if iz.1 = 1 ∨ iz.1 = 3 then iz.2.transitionTarget (own.getD (iz.1 - 1) 0) (own.getD 4 0) else own.getD iz.1 0)

/-- The zones whose target is no longer the one that Table 5-4 gives. -/
def Works.movedTargets (w : Works) : List Nat :=
  (indexed 0 w.lights.zones).filterMap (fun iz =>
    if w.lights.targets.getD iz.1 0 = iz.2.target then none else some iz.1)

/-- The target of every zone computed again, ahead of all circuits (R106, R107). -/
def Works.setTargets (w : Works) : Works :=
  { w with lights := { w.lights with
    zones := (indexed 0 w.lights.zones).map (fun iz => { iz.2 with target := w.lights.targets.getD iz.1 0 }) } }

/-- Every circuit in index order, once an event has computed the targets: one of a settled zone by the fifth step of R113, any
other where its wanted step changes (R107). -/
def Works.followCircuits (settled : List Nat) (w : Works) : Works :=
  each (List.range w.lights.circuits.length) (fun c w =>
    match w.lights.circuits[c]? with
    | some x => if settled.contains x.zone then w.settleCircuit c else w.followTarget c
    | none => w) w

/-- Targets computed again: zones first, then the circuits in index order, then the orders of the zones that changed. -/
def Works.retarget (w : Works) : Works := each w.movedTargets Works.judgeZoneSet (w.setTargets.followCircuits [])

/-! ## Modes (R105) -/

/-- The view of a zone's own portal; INTERIOR and EGRESS have none. -/
def Works.zoneView (w : Works) (z : Nat) : Option View :=
  if z < 2 then some w.water.stage.north else if z < 4 then some w.water.stage.south else none

/-- Table 5-3. -/
def zoneMode (z : Nat) (stage : Stage) (view : Option View) : ZoneMode :=
  if 5 ≤ z then .normal
  else match stage with
    | .dry => .normal
    | .watch => .normal
    | .alert =>
      if z = 4 then .clearingFull
      else if view = some .shut then .closure
      else if z % 2 = 0 then .normal else .clearingFull
    | .closed => .closure
    | .draining => if z = 4 ∨ view = some .shut then .closure else .normal

/-- The minimum safe step in force in a mode (Table 5-1). -/
def Zone.safeIn (z : Zone) (m : ZoneMode) : Option Nat :=
  match z.minSafe with
  | none => none
  | some _ => some (match m with
    | .normal => z.minNormal
    | .clearingFull => z.minStorm
    | .closure => z.minStorm)

/-- The shed floors of a zone's circuits given to the budget (R101). -/
def Works.giveFloors (z : Nat) (w : Works) : Works :=
  match w.lights.zones[z]? with
  | none => w
  | some x =>
    match x.minSafe with
    | none => w
    | some s =>
      each (w.circuitsOf z) (fun c w =>
        match w.lights.circuits[c]? with
        | none => w
        | some k => match k.grant with
          | none => w
          | some g => w.setFloor g (k.powerAt s)) w

/-- The view of a zone's portal in a record: absent is all ones (R179). -/
def viewDetail : Option View → Nat
  | some v => v.code
  | none => absent32

/-- A zone's mode judged again: ZONE_MODE record, minimum safe step and floors. -/
def Works.judgeMode (z : Nat) (w : Works) : Works :=
  match w.lights.zones[z]? with
  | none => w
  | some x =>
    let m := zoneMode z w.water.stage.stage (w.zoneView z)
    if m = x.mode then w else
      let safe := x.safeIn m
      let w := w.updZone z (fun x => { x with mode := m, minSafe := safe })
      let w := w.record .zoneMode z (some x.mode.code) (some m.code)
        [w.water.stage.stage.code, viewDetail (w.zoneView z), stepCode safe, x.target] false
      if safe = x.minSafe then w else w.giveFloors z

/-- The modes of all zones judged again, then the targets (R105). -/
def Works.judgeModes (w : Works) : Works :=
  (each (List.range w.lights.zones.length) Works.judgeMode w).retarget

/-! ## Luminance (R102 to R104) -/

/-- Number of boundaries at or below a sample. -/
def upIndex (t : StepTable) (v : Nat) : Nat := (t.boundaries.filter (fun b => decide (b ≤ v))).length

/-- Number of boundaries B with the sample at or above B less the hysteresis. -/
def downIndex (t : StepTable) (v : Nat) : Nat := (t.boundaries.filter (fun b => decide (b ≤ v + t.hysteresis))).length

/-- A run that reaches the qualify count moves the selected step; count 0 and the bound that remains are the model's choice
(log 30). -/
def StepChoice.settle (c : StepChoice) (qualify : Nat) : StepChoice :=
  if qualify ≤ c.count then { selected := c.bound, dir := .none, count := 0, bound := c.bound } else c

/-- The selection at a VALID sample (R102). -/
def StepChoice.next (t : StepTable) (c : StepChoice) (v : Nat) : StepChoice :=
  let up := upIndex t v
  let down := downIndex t v
  if c.selected < up then
    (if c.dir = RunDir.up then { c with count := c.count + 1, bound := min c.bound up }
     else { c with dir := .up, count := 1, bound := up }).settle t.qualify
  else if down < c.selected then
    (if c.dir = RunDir.down then { c with count := c.count + 1, bound := max c.bound down }
     else { c with dir := .down, count := 1, bound := down }).settle t.qualify
  else { c with dir := .none, count := 0 }

/-- The selection where the channel is not VALID (R103); count 0 and the bound that remains are the model's choice (log 30). -/
def StepChoice.full (c : StepChoice) : StepChoice := { selected := 7, dir := .none, count := 0, bound := c.bound }

/-- Change of the selection of the zones that follow a luminance channel. -/
def Works.updChoices (ch : Nat) (f : StepTable → StepChoice → StepChoice) (w : Works) : Works :=
  { w with lights := { w.lights with zones := w.lights.zones.map (fun z =>
    match z.table, z.choice with
    | some t, some c => if t.channel = ch then { z with choice := some (f t c) } else z
    | _, _ => z) } }

def Works.setDay (d : Day) (w : Works) : Works := { w with lights := { w.lights with day := d } }

/-- The luminance channel of a threshold zone while it is VALID. -/
def Works.validLuminance (w : Works) (z : Nat) : Option Nat :=
  match w.lights.zones[z]? with
  | none => none
  | some x => match x.table with
    | none => none
    | some t => match w.water.channels[t.channel]? with
      | some c => if c.validity = .valid then some t.channel else none
      | none => none

/-- The deciding channel (R104). -/
def Works.dayDecider (w : Works) : Option Nat :=
  match w.validLuminance 0 with
  | some c => some c
  | none => w.validLuminance 2

/-- A change of the deciding channel drops a count in progress (R104). -/
def Works.judgeDecider (w : Works) : Works :=
  let d := w.lights.day
  let n := w.dayDecider
  if d.decider = n then w else w.setDay { d with state := d.state.settled, decider := n }

/-- The day decision at a VALID sample of its deciding channel (R104). -/
def Works.judgeDay (ch v : Nat) (w : Works) : Works :=
  let d := w.lights.day
  if d.decider = some ch then
    let n := upStep d.boundary d.hysteresis d.qualify d.state v
    let w := w.setDay { d with state := n }
    if n.settled = d.state.settled then w
    else w.record .daylight 4 (some (flag d.isDay)) (some (flag (!d.isDay))) [ch, v] false
  else w

/-- A change of validity of a luminance channel (R103, R104). -/
def Works.luminanceValidity (ch : Nat) (valid : Bool) (w : Works) : Works :=
  (if valid then w.judgeDecider else (w.updChoices ch (fun _ c => c.full)).judgeDecider).retarget

/-- A VALID sample of a luminance channel (R102, R104). -/
def Works.luminanceSample (ch v : Nat) (w : Works) : Works :=
  ((w.updChoices ch (fun t c => c.next t v)).judgeDay ch v).retarget

/-! ## Grant notices (R107) -/

/-- LAMP_GRANT_NOTICE (R107). -/
def Works.lampGranted (c power : Nat) (w : Works) : Works :=
  match w.lights.circuits[c]? with
  | none => w
  | some x =>
    match x.grant with
    | none => w
    | some g =>
      if x.healthy && w.commandsCircuit x then
        ((w.updCircuit c (fun x => { x with granted := power, request := none })).judgeSet c).judgeShrink c
      else
        (w.updCircuit c (fun x => { x with granted := 0, request := none })).send (.loadRelease g)

/-! ## Lamp faults (R110) -/

/-- Number of faulted circuits of a zone. -/
def Works.faultedIn (w : Works) (z : Nat) : Nat := ((w.zoneCircuits z).filter (fun c => !c.healthy)).length

/-- The grant of a circuit is given back: a request withdrawn, a grant released (R110). -/
def Works.dropLampGrant (c : Nat) (w : Works) : Works :=
  match w.lights.circuits[c]? with
  | none => w
  | some x =>
    match x.grant with
    | none => w
    | some g =>
      let w := if x.request.isSome then w.send (.loadWithdrawal g) else w
      let w := if 0 < x.granted then w.send (.loadRelease g) else w
      w.updCircuit c (fun x => { x with granted := 0, request := none, shedHold := false })

/-- A circuit's flag is set with its grant given back and its LAMP_FAULT record; a flag that stands already does not change
(R110). -/
def Works.markFault (c : Nat) (f : LampFlag) (code : Nat) (w : Works) : Works :=
  match w.lights.circuits[c]? with
  | none => w
  | some x =>
    if x.fault = f then w else
      let w := (w.dropLampGrant c).updCircuit c (fun x => { x with fault := f, shedHold := false })
      let w := w.updZone x.zone (fun z => { z with degraded := true })
      w.record .lampFault c (some x.fault.code) (some f.code)
        [x.zone, stepCode x.reported, code, w.faultedIn x.zone] true

/-- A circuit faults, and its zone's current step is judged (R110, R109). -/
def Works.faultCircuit (c : Nat) (f : LampFlag) (code : Nat) (w : Works) : Works :=
  match w.lights.circuits[c]? with
  | none => w
  | some x =>
    if x.fault = f then w else ((w.markFault c f code).judgeZoneSet x.zone).judgeCurrent x.zone

/-- A circuit's flag becomes CLEAR (R110). -/
def Works.clearFault (c : Nat) (w : Works) : Works :=
  match w.lights.circuits[c]? with
  | none => w
  | some x =>
    if x.healthy then w else
      let w := w.updCircuit c (fun x => { x with fault := .clear })
      let w := w.record .lampHealthy c (some x.fault.code) (some LampFlag.clear.code) [x.zone, stepCode x.reported] false
      w.updZone x.zone (fun z => { z with degraded := decide (0 < w.faultedIn x.zone) })

/-- A circuit becomes healthy and asks for its power again (R110). -/
def Works.healCircuit (c : Nat) (w : Works) : Works :=
  match w.lights.circuits[c]? with
  | none => w
  | some x =>
    let w := (w.clearFault c).judgeCurrent x.zone
    ((w.settleCircuit c).judgeZoneSet x.zone)

/-- The lamp fault flag of a response (R110). -/
def Works.judgeLampFault (c : Nat) (active : Bool) (w : Works) : Works :=
  match w.lights.circuits[c]? with
  | none => w
  | some x =>
    match x.fault, active with
    | .clear, true => w.faultCircuit c .lamp 0
    | .lamp, false => w.healCircuit c
    | _, _ => w

/-! ## Ends of SETs (R108) -/

/-- A reported step, with the zone's current step judged. -/
def Works.setReported (c : Nat) (step : Option Nat) (w : Works) : Works :=
  match w.lights.circuits[c]? with
  | none => w
  | some x => (w.updCircuit c (fun x => { x with reported := step })).judgeCurrent x.zone

/-- The SET list less the oldest SET of a step. -/
def Works.setEnded (c step : Nat) (w : Works) : Works :=
  w.updCircuit c (fun x => { x with setList := dropFirst (fun s => s == step) x.setList })

/-- The end of a SET of a circuit (R108). -/
def Works.lampSetEnd (c step : Nat) (f : Fate) (e : ReqEnd) (w : Works) : Works :=
  match f with
  | .live =>
    let w := w.setEnded c step
    match e with
    | .acknowledged => ((w.setReported c (some step)).judgeSet c).judgeShrink c
    | .missed => w.judgeShrink c
    | .removed => w
    | .refused code =>
      if code = 1 ∨ code = 2 ∨ code = 6 then w.faultCircuit c .refused code else w.judgeShrink c
  | .abandoned => w
  | .disregarded => w

/-! ## POLL responses of lamp units (R108, R113) -/

/-- The step of an output in a response; a unit has steps 0 to 7 only. -/
def lampStep (img : List Byte) (k : Nat) : Nat := min 7 (imgByte img k)

/-- Adoption of what a circuit draws beyond its grant (R113, R43). -/
def Works.adoptCircuit (c : Nat) (w : Works) : Works :=
  match w.lights.circuits[c]? with
  | none => w
  | some x =>
    match x.grant with
    | none => w
    | some g =>
      let p := x.powerAt (x.reported.getD 0)
      if x.healthy && decide (x.granted < p) then
        (w.updCircuit c (fun x => { x with granted := p })).send (.adoptionNotice g p)
      else w

/-- One output of a response (R108, R110); in hand control the grant follows the report (R113). -/
def Works.lampItem (img : List Byte) (c : Nat) (w : Works) : Works :=
  match w.lights.circuits[c]? with
  | none => w
  | some x =>
    let w := w.judgeLampFault c (bitAt (imgByte img 8) x.output)
    let w := match w.lights.circuits[c]? with
      | some y => if y.setList = [] then w.setReported c (some (lampStep img x.output)) else w
      | none => w
    match w.claimOf (.zone x.zone) with
    | .panel => (w.adoptCircuit c).judgeShrink c
    | .away => w
    | _ => (w.judgeSet c).judgeShrink c

/-- Circuits on a lamp unit, in output index order. -/
def Works.unitCircuits (w : Works) (u : Nat) : List Nat :=
  (sortBy (fun ic => ic.2.output) ((indexed 0 w.lights.circuits).filter (fun ic =>
    match w.zoneOf ic.2 with
    | some z => z.unit == u
    | none => false))).map Prod.fst

/-- LAMP_RESPONSE (R108). -/
def Works.lampArrival (u : Nat) (img : List Byte) (w : Works) : Works :=
  each (w.unitCircuits u) (Works.lampItem img) w

/-- Retry notice to the lighting controller: the SET conditions of the unit's circuits (R108, R140). -/
def Works.lightingRetry (u : Nat) (w : Works) : Works := each (w.unitCircuits u) Works.judgeSet w

/-! ## Outage and shedding (R111, R112) -/

/-- What an owner answers at an outage (R37). -/
inductive OutageAnswer where
  | restore (power : Nat)
  | release
  deriving DecidableEq, Repr

/-- The lamps of a circuit have lost their supply: granted power 0, step 0, and a SET of step 0 where one may relight (R111). A
faulted circuit is sent none, since R110 skips it for SETs (the model's choice, log 30). -/
def Works.lampDark (c : Nat) (w : Works) : Works :=
  match w.lights.circuits[c]? with
  | none => w
  | some x =>
    let lit := decide (0 < x.reported.getD 0) || !x.setList.isEmpty
    let w := w.updCircuit c (fun x => { x with granted := 0, shedHold := false })
    let w := if w.commandsCircuit x && lit && x.healthy then w.queueSet c 0 else w
    w.setReported c (some 0)

/-- A circuit whose entry was HELD answers the outage. -/
def Works.lampOutage (c : Nat) (w : Works) : OutageAnswer × Works :=
  match w.lights.circuits[c]? with
  | none => (.release, w)
  | some x =>
    let w := w.lampDark c
    match w.zoneOf x with
    | none => (.release, w)
    | some z =>
      if x.healthy && w.commandsCircuit x then
        let p := x.powerAt z.target
        let w := w.updCircuit c (fun x => { x with wanted := z.target, request := if p = 0 then none else some p })
        if p = 0 then (.release, w) else (.restore p, w)
      else (.release, w.updCircuit c (fun x => { x with request := none }))

/-- A circuit whose entry was QUEUED at the outage: its request stands. -/
def Works.lampOutageQueued (c : Nat) (w : Works) : Works := (w.lampDark c).judgeWanted c

/-- LAMP_SHED_REQUEST (R112). -/
def Works.lampShed (c : Nat) (w : Works) : Works :=
  match w.lights.circuits[c]? with
  | none => w
  | some x =>
    match x.grant with
    | none => w
    | some g =>
      if x.healthy && w.commandsCircuit x then
        let w := (w.updCircuit c (fun x => { x with shedHold := true })).endHold c
        w.settleCircuit c
      else w.send (.shedFailure g)

/-! ## Claim changes (R113) -/

/-- A circuit taken out of the controller's hands. -/
def Works.uncommandCircuit (v : ClaimValue) (c : Nat) (w : Works) : Works :=
  match w.lights.circuits[c]? with
  | none => w
  | some x =>
    let w := w.giveUp (.lampSet c) .disregarded
    let w := match x.grant with
      | none => w
      | some g =>
        let w := match w.budget.grants[g]? with
          | some e => if e.mark = ShedMark.asked then w.send (.shedFailure g) else w
          | none => w
        if x.request.isSome then w.send (.loadWithdrawal g) else w
    w.updCircuit c (fun x => { x with setList := [], request := none, shedHold := false,
                                      reported := if v = ClaimValue.away then none else x.reported })

/-- The steps that a settlement takes as reported: those of the POLL response of the circuit's unit, or those last reported
(R113, R127). -/
def Works.lampReports (w : Works) (images : Nat → Option (List Byte)) : List (Option Nat) :=
  w.lights.circuits.map (fun c => match (w.zoneOf c).map Zone.unit with
    | none => c.reported
    | some u => match images u with
      | some i => some (lampStep i c.output)
      | none => c.reported)

/-- A reported step is taken as reported at a settlement (R113 step 1). -/
def Works.takeReport (reports : List (Option Nat)) (c : Nat) (w : Works) : Works :=
  w.updCircuit c (fun x => { x with reported := reports.getD c x.reported })

/-- The steps of a POLL response are taken as reported by the circuits in hand control, ahead of what follows from the claim
changes it brings (R121, R113). -/
def Works.panelReports (reports : List (Option Nat)) (w : Works) : Works :=
  each (List.range w.lights.circuits.length) (fun c w =>
    match w.lights.circuits[c]? with
    | some x => if w.claimOf (.zone x.zone) = .panel then w.takeReport reports c else w
    | none => w) w

/-- The claim of a zone became PANEL or LOCAL (R113). The targets are computed once every zone of the event has lost its ordered
step (R106, R107); the adoptions and shrinks of its circuits come with the POLL response that brings the change (`lampItem`).
The model's choices (log 30): a change to PANEL that another response brings shrinks the circuits whose wanted step moves to the
step last reported, and leaves the others to the next POLL response; a zone without a healthy circuit has current step 0 also as
it becomes LOCAL (R109); the ZONE record comes before the target without the ordered step and shows the old one. -/
def Works.uncommandZone (z : Nat) (v : ClaimValue) (w : Works) : Works :=
  let w := w.completeAll (fun a => decide (a.code = .zoneSet) && a.subject == z)
    (fun a w => w.complete a.slot Status.preempted v.code 0 [])
  let w := each (w.circuitsOf z) (Works.uncommandCircuit v) w
  (w.updZone z (fun x => { x with ordered := none })).judgeCurrent z

/-- The fault flag of a circuit at a settlement: REFUSED is cleared, then the response judges it (R113 step 3). -/
def Works.settleFault (img : Option (List Byte)) (c : Nat) (w : Works) : Works :=
  match w.lights.circuits[c]? with
  | none => w
  | some x =>
    let w := if x.fault = .refused then w.clearFault c else w
    match img, w.lights.circuits[c]? with
    | some i, some y =>
      let active := bitAt (imgByte i 8) x.output
      if y.healthy && active then w.markFault c .lamp 0
      else if decide (y.fault = .lamp) && !active then w.clearFault c
      else w
    | _, _ => w

/-- The settlement of a zone, each of its first four steps over all circuits of the zone (R113); the reports are followed so at a
reconciliation under PANEL too (Table 6-3). The fifth step is `followCircuits`, for all zones of the event together. -/
def Works.settleZone (reports : List (Option Nat)) (img : Option (List Byte)) (z : Nat) (w : Works) : Works :=
  let w := each (w.circuitsOf z) (Works.takeReport reports) w
  let w := each (w.circuitsOf z) Works.adoptCircuit w
  (each (w.circuitsOf z) (Works.settleFault img) w).judgeCurrent z

/-! ## Zone orders (R114 to R116) -/

/-- ZONE SET (R115). The claim is judged ahead of the parameter (the model's choice, log 30). -/
def Works.zoneSetOrder (o : Order) (w : Works) : Works :=
  let z := o.subject
  let v := w.claimOf (.zone z)
  if !v.commands then o.finish Status.refusedClaim v.code 0 [] w
  else if 7 < o.param then o.finish Status.failed 5 o.param [] w
  else
    let w := w.completeAll (fun a => decide (a.code = .zoneSet) && a.subject == z)
      (fun a w => w.complete a.slot Status.superseded o.slot 0 [])
    let w := (w.orderClaim (.zone z) o.slot).updZone z (fun x => { x with ordered := some o.param })
    (w.retarget.hold (o.active 0)).judgeZoneSet z

/-- ZONE AUTO (R116). -/
def Works.zoneAutoOrder (o : Order) (w : Works) : Works :=
  let z := o.subject
  let v := w.claimOf (.zone z)
  if !v.commands then o.finish Status.refusedClaim v.code 0 [] w
  else
    let w := w.completeAll (fun a => decide (a.code = .zoneSet) && a.subject == z)
      (fun a w => w.complete a.slot Status.failed 3 o.slot [])
    let w := ((w.autoClaim (.zone z) o.slot).updZone z (fun x => { x with ordered := none })).retarget
    match w.lights.zones[z]? with
    | some x => o.finish Status.doneOk 0 0 [x.target] w
    | none => o.finish Status.doneOk 0 0 [] w

end Sys2Proof.Machine
end

