-- ==== Sys2Proof/Machine/Portals.lean ====
section
/-! DEFINITION. Portal controller (chapter 4): closure states and their works, the stopping of a gate, arrivals, drift,
obstruction, stalls, reversal, claim changes, reconstruction, the interior record, and what the portal orders do. -/

namespace Sys2Proof.Machine

open Sys2Proof

/-! ## Records -/

def Works.updPortal (n : Nat) (f : Portal → Portal) (w : Works) : Works := w.setPortal n (f (w.portal n))

def Works.updSignals (n : Nat) (f : Signals → Signals) (w : Works) : Works :=
  w.updPortal n (fun p => { p with signals := f p.signals })

def Works.updBarrier (n : Nat) (f : Barrier → Barrier) (w : Works) : Works :=
  w.updPortal n (fun p => { p with barrier := f p.barrier })

def Works.updGate (n : Nat) (f : Gate → Gate) (w : Works) : Works :=
  w.updPortal n (fun p => { p with gate := f p.gate })

def Works.setInterior (i : Interior) (w : Works) : Works := { w with portals := { w.portals with interior := i } }

/-- The four closing states (section 4.2). -/
def Closure.closing : Closure → Bool
  | .warning => true | .barring => true | .clearing => true | .gating => true
  | .unknown => false | .opened => false | .shut => false | .ungating => false | .unbarring => false | .stalled => false

/-- The view given to water watch (Table 4-3). -/
def Closure.view : Closure → View
  | .unknown => .unknown | .opened => .opened | .shut => .shut | .stalled => .stalled
  | .warning => .moving | .barring => .moving | .clearing => .moving | .gating => .moving
  | .ungating => .moving | .unbarring => .moving

/-- The claim of a portal is AUTO: the controller may send it commands (R75). -/
def Works.portalAuto (w : Works) (n : Nat) : Bool := decide (w.claimOf (.portal n) = .auto)

/-- A portal in a closing state is suspended outside RUNNING (R76). -/
def Works.suspended (w : Works) (n : Nat) : Bool :=
  (w.portal n).closure.closing && !decide (w.station.state = .running)

/-- The controller may send the portal commands other than a HALT. -/
def Works.mayCommand (w : Works) (n : Nat) : Bool := w.portalAuto n && !w.suspended n

/-- The grant entry of a gate drive: after the pumps' (R29). -/
def Works.gateEntry (w : Works) (n : Nat) : Nat := w.dewater.pumps.length + n

def Works.portalFault (n kind code : Nat) (w : Works) : Works := w.record .portalFault n none none [kind, code] true

/-- A gate state, with its GATE record at a change. -/
def Works.setGate (n : Nat) (s : GateState) (w : Works) : Works :=
  let g := (w.portal n).gate
  if g.state = s then w
  else (w.updGate n (fun g => { g with state := s })).record .gate n (some g.state.code) (some s.code)
    [g.position, flag g.obstruction, g.grant.code] false

/-- The action of a barrier pair, 0 without one. -/
def actionCode : Option Motion → Nat
  | some m => m.code
  | none => 0

/-- A barrier state, with its BARRIER record at a change. -/
def Works.setBarrier (n : Nat) (s : BarrierState) (w : Works) : Works :=
  let b := (w.portal n).barrier
  if b.state = s then w
  else (w.updBarrier n (fun b => { b with state := s })).record .barrier n (some b.state.code) (some s.code)
    [actionCode b.action] false

/-! ## The interior record (R78) -/

/-- The VEHICLES channel. -/
def Works.vehicles (w : Works) : Option Channel := w.water.channels.find? (fun c => decide (c.kind = .vehicles))

def Works.vehicleCount (w : Works) : Nat := match w.vehicles with
  | some c => c.value
  | none => 0

/-- The three conditions of the clear dwell, in an open episode. -/
def Works.dwellHolds (w : Works) : Bool :=
  let i := w.portals.interior
  i.opened && !i.clear && match w.vehicles with
    | some c => decide (c.validity = .valid) && c.isBelow .occupied
    | none => false

/-- The clear dwell starts, runs on or lapses. -/
def Works.judgeClearDwell (w : Works) : Works :=
  let i := w.portals.interior
  w.setInterior { i with dwellStart := if w.dwellHolds then some (i.dwellStart.getD w.now) else none }

/-- The interior clear flag changes, with an INTERIOR record (causes of Table 4-5). -/
def Works.setClear (b : Bool) (cause : Nat) (w : Works) : Works :=
  let i := w.portals.interior
  if i.clear = b then w
  else (w.setInterior { i with clear := b }).record .interior 0 (some (flag i.clear)) (some (flag b))
    [i.episode.toNat, cause, w.vehicleCount] false

/-- An episode opens when a portal leaves OPEN or UNKNOWN for another state than OPEN. -/
def Works.openEpisode (old new : Closure) (w : Works) : Works :=
  let i := w.portals.interior
  if !i.opened && (decide (old = .opened) || decide (old = .unknown)) && !decide (new = .opened) then
    (w.setInterior { i with episode := i.episode + 1, opened := true, clear := false, confirm := none }).judgeClearDwell
  else w

/-- An episode closes when both portals are OPEN. -/
def Works.closeEpisode (w : Works) : Works :=
  if w.portals.interior.opened && decide (w.portals.north.closure = .opened) &&
      decide (w.portals.south.closure = .opened) then
    let w := w.setClear false 4
    w.setInterior { w.portals.interior with opened := false, confirm := none, dwellStart := none }
  else w

/-! ## Changes of closure state -/

/-- The ACTIVE PORTAL REOPEN of a portal completes. -/
def Works.endReopen (n status detail second : Nat) (results : List Nat) (w : Works) : Works :=
  w.completeAll (fun a => decide (a.code = .portalReopen) && a.subject == n)
    (fun a w => w.complete a.slot status detail second results)

/-- Code of a stall reason, 0 without one. -/
def stallCode : Option StallReason → Nat
  | some r => r.code
  | none => 0

/-- What entry to a state resets (R79, R89). -/
def Portal.entered (c : Closure) (p : Portal) : Portal :=
  match c with
  | .opened => { p with reopening := false, gate := { p.gate with attempts := 0 } }
  | .clearing => { p with clearFault := false }
  | _ => p

/-- The stage record takes a portal's view (R14). -/
def Works.setView (n : Nat) (v : View) (w : Works) : Works :=
  let s := w.water.stage
  { w with water := { w.water with stage := if n = 0 then { s with north := v } else { s with south := v } } }

/-- The view of a portal given to water watch if it changed, with the kind of a departure from SHUT (R92). -/
def Works.reportView (n : Nat) (old new : Closure) (reopening : Bool) (w : Works) : Works :=
  if old.view = new.view then w
  else
    let w := w.setView n new.view
    { w with reports := w.reports ++ [{ portal := n, old := old.view, new := new.view, reopening := reopening }] }

/-- The attempt count is set to 0 ahead of SHUT (R81), so the PORTAL record of the change holds it as 0; the same where the work
or a panel leads to SHUT (the model's choice, log 29). -/
def Works.attemptsBefore (n : Nat) (c : Closure) (w : Works) : Works :=
  if c = .shut then w.updGate n (fun g => { g with attempts := 0 }) else w

/-- A change of closure state, its work still to be done: PORTAL record, view, order, episode. -/
def Works.changeClosure (n : Nat) (c : Closure) (w : Works) : Works :=
  if (w.portal n).closure = c then w else
    let w := w.attemptsBefore n c
    let p := w.portal n
    let fourth := if p.closure = .stalled then stallCode p.stall else p.gate.attempts
    let w := w.record .portal n (some p.closure.code) (some c.code)
      [p.barrier.state.code, p.gate.state.code, p.gate.position, fourth] false
    let w := w.updPortal n (fun p => Portal.entered c
      { p with closure := c, timer := none, stall := none, interrupted := none, stallDetail := 0 })
    let w := w.reportView n p.closure c (p.reopening && decide (p.closure = .shut) && decide (c = .ungating))
    let w := if c = .opened then w.endReopen n Status.doneOk 0 0 [(stamp w.now).toNat] else w
    (w.openEpisode p.closure c).closeEpisode

/-! ## Commands -/

/-- The wanted aspect, and a SET of it (R73). -/
def Works.setAspect (n : Nat) (a : Aspect) (w : Works) : Works :=
  let w := w.updSignals n (fun s => { s with wanted := a })
  if w.portalAuto n then
    let w := w.updSignals n (fun s => { s with again := false, refused := false })
    let p := w.portal n
    (w.request (.set a.code) p.unit p.signalOut (.signalSet n)).2
  else w

/-- A HALT of the barrier, while the claim is AUTO. -/
def Works.haltBarrier (n : Nat) (w : Works) : Works :=
  if w.portalAuto n then
    let w := w.updBarrier n (fun b => { b with haltRefused := false })
    let p := w.portal n
    (w.request .halt p.unit p.barrierOut (.barrierHalt n)).2
  else w

/-- A HALT of the gate, by the stop procedure or not, while the claim is AUTO. -/
def Works.haltGate (n : Nat) (stop : Bool) (w : Works) : Works :=
  if w.portalAuto n then
    let w := w.updGate n (fun g => { g with haltRefused := false, halting := g.halting || stop })
    let p := w.portal n
    (w.request .halt p.unit p.gateOut (.gateHalt n stop)).2
  else w

/-- A motion pair of the barrier. -/
def Works.queueBarrier (n : Nat) (m : Motion) (w : Works) : Works :=
  let w := w.updBarrier n (fun b => { b with pair := .inFlight, action := some m, pairRefused := false })
  let p := w.portal n
  (w.request (.pair m) p.unit p.barrierOut (.barrierPair n)).2

/-- A motion pair of the gate. -/
def Works.queueGate (n : Nat) (m : Motion) (w : Works) : Works :=
  let w := w.updGate n (fun g => { g with pair := .inFlight, action := some m, pairRefused := false })
  let p := w.portal n
  (w.request (.pair m) p.unit p.gateOut (.gatePair n)).2

/-- The gate's grant is released, or its request withdrawn. -/
def Works.dropGateGrant (n : Nat) (w : Works) : Works :=
  let g := (w.portal n).gate
  let w := match g.grant with
    | .none => w
    | .requested => w.send (.loadWithdrawal (w.gateEntry n))
    | .granted => w.send (.loadRelease (w.gateEntry n))
  w.updGate n (fun g => { g with grant := .none })

/-- A request for the gate in class 0, once no stop is in progress (R81). While the obstruction dwell runs none is sent, also
where the work is performed again (the model's choice, log 29). -/
def Works.requestGate (n : Nat) (w : Works) : Works :=
  let g := (w.portal n).gate
  if g.grant = .none ∧ g.stopping = false ∧ g.dwellStart = none ∧ g.pair ≠ .inFlight then
    let power := match w.budget.grants[w.gateEntry n]? with
      | some e => e.requested
      | none => 0
    (w.updGate n (fun g => { g with grant := .requested })).send (.loadRequest (w.gateEntry n) 0 power)
  else w

/-- The moving state of a barrier action. -/
def barrierMoving : Motion → BarrierState
  | .raise => .raising
  | _ => .lowering

/-- A barrier moving by an action is sent a HALT. -/
def Works.haltMoving (n : Nat) (m : Motion) (w : Works) : Works :=
  if (w.portal n).barrier.state = barrierMoving m then w.haltBarrier n else w

/-- The pair of a barrier in flight is abandoned, and its travel ends; one that was refused full becomes NONE at once (the
model's choice, log 29). -/
def Works.dropBarrierPair (n : Nat) (w : Works) : Works :=
  let b := (w.portal n).barrier
  let w := if b.pair = .inFlight then
      if b.pairRefused then w.updBarrier n (fun b => { b with pair := .none, action := none, pairRefused := false })
      else (w.updBarrier n (fun b => { b with pair := .abandoned })).giveUp (.barrierPair n) .abandoned
    else w
  w.updBarrier n (fun b => { b with travel := none })

/-- The motion of a barrier is given up: a HALT where it moves that way, its pair in flight abandoned (R86, R90, R91). -/
def Works.abandonBarrier (n : Nat) (m : Motion) (w : Works) : Works := (w.haltMoving n m).dropBarrierPair n

/-- A pair or a travel of the part's own moves the barrier by an action. -/
def Barrier.moves (b : Barrier) (m : Motion) : Bool :=
  if b.pair = .inFlight then decide (b.action = some m) else b.travel.isSome && decide (b.heading = m)

/-- The other action of a barrier. -/
def otherMotion : Motion → Motion
  | .raise => .lower
  | _ => .raise

/-- A motion pair of the barrier (R77, R89). The model's choices (log 29): none is queued while a pair or a travel of the same
action is under way (R76), and one of the other action is given up first, as R90 and R91 give one up. -/
def Works.moveBarrier (n : Nat) (m : Motion) (w : Works) : Works :=
  let b := (w.portal n).barrier
  if b.moves m then w
  else (if b.moves (otherMotion m) then w.abandonBarrier n (otherMotion m) else w).queueBarrier n m

/-! ## Stopping the gate (R80) -/

/-- The flag clears once the grant view is NONE and neither pair nor HALT remains. -/
def Works.clearStop (n : Nat) (w : Works) : Works :=
  w.updGate n (fun g =>
    if g.grant = .none ∧ g.pair = .none ∧ g.halting = false then { g with stopping := false } else g)

/-- The start of the stop procedure, by the gate's position. The model's choices (log 29): a pair that was refused full becomes
NONE at once, and a grant whose gate is still reported at an end is given back with no HALT. -/
def Works.beginStop (n : Nat) (w : Works) : Works :=
  let g := (w.portal n).gate
  let w := w.updGate n (fun g => { g with travel := none, dwellStart := none, stopping := true })
  if g.pair = .inFlight then
    if g.pairRefused then
      (w.dropGateGrant n).updGate n (fun g => { g with pair := .none, action := none, pairRefused := false })
    else (w.updGate n (fun g => { g with pair := .abandoned })).giveUp (.gatePair n) .abandoned
  else
    match g.grant with
    | .none => w
    | .requested => w.dropGateGrant n
    | .granted =>
      if g.state = .deploying ∨ g.state = .stowing ∨ (g.state = .unknown ∧ g.travel.isSome) then w.haltGate n true
      else w.dropGateGrant n

/-- The gate is stopped; without the claim AUTO no HALT is sent and a pair's end is disregarded. -/
def Works.stopGate (n : Nat) (w : Works) : Works :=
  let g := (w.portal n).gate
  if w.portalAuto n then
    if g.stopping then w.updGate n (fun g => { g with travel := none, dwellStart := none })
    else (w.beginStop n).clearStop n
  else
    let w := (w.dropGateGrant n).updGate n (fun g => { g with travel := none, dwellStart := none })
    if g.pair = .inFlight then
      if g.pairRefused then w.updGate n (fun g => { g with pair := .none, action := none, pairRefused := false })
      else (w.updGate n (fun g => { g with pair := .abandoned })).giveUp (.gatePair n) .disregarded
    else w

/-! ## The works (R75) -/

/-- The work of BARRING once RED is shown (R77). -/
def Works.barringGo (n : Nat) (w : Works) : Option Closure × Works :=
  let p := w.portal n
  if p.signals.shown = .red then
    if p.barrier.state = .down then (some .clearing, w) else (none, w.moveBarrier n .lower)
  else (none, w)

/-- One performance of the work of the present state, with the state it leads to at once. The whole work of GATING or
UNGATING waits while a stop is in progress (R80). -/
def Works.workStep (n : Nat) (w : Works) : Option Closure × Works :=
  if !w.mayCommand n then (none, w) else
    match (w.portal n).closure with
    | .unknown => (none, w)
    | .stalled => (none, w)
    | .opened =>
      let w := w.setAspect n .dark
      let p := w.portal n
      (none, if p.gate.state ≠ .stowed ∨ p.barrier.state ≠ .up then w.portalFault n 5 0 else w)
    | .warning =>
      let w := w.setAspect n .amber
      (none, w.updPortal n (fun p => if p.signals.shown = .amber then { p with timer := some w.now } else p))
    | .barring => (w.setAspect n .red).barringGo n
    | .clearing =>
      let w := (w.setAspect n .red).updPortal n
        (fun p => if p.clearFault then p else { p with timer := some w.now })
      (if w.portals.interior.clear then some .gating else none, w)
    | .gating =>
      if (w.portal n).gate.stopping then (none, w) else
      let w := w.setAspect n .red
      let p := w.portal n
      if p.gate.state = .deployed then
        (some .shut, w.updGate n (fun g => { g with travel := none }))
      else if p.barrier.state ≠ .down then (some .barring, w.stopGate n)
      else (none, w.requestGate n)
    | .shut =>
      let w := (w.setAspect n .red).dropGateGrant n
      (if (w.portal n).gate.state = .deployed then none else some .gating, w)
    | .ungating =>
      if (w.portal n).gate.stopping then (none, w) else
      let w := w.setAspect n .red
      if (w.portal n).gate.state = .stowed then (some .unbarring, w) else (none, w.requestGate n)
    | .unbarring =>
      let w := w.setAspect n .red
      let p := w.portal n
      if p.gate.state ≠ .stowed then (some .ungating, w)
      else if p.barrier.state = .up then (some .opened, w)
      else (none, w.moveBarrier n .raise)

/-- A work and the works of the states it leads to; no chain of them is longer than five states. -/
def workLoop (n : Nat) : Nat → Works → Works
  | 0, w => w
  | k + 1, w =>
    match w.workStep n with
    | (none, w) => w
    | (some c, w) => workLoop n k (w.changeClosure n c)

/-- The work of the present state. -/
def Works.work (n : Nat) (w : Works) : Works := workLoop n 8 w

/-- A change of closure state with its work. -/
def Works.enter (n : Nat) (c : Closure) (w : Works) : Works := (w.changeClosure n c).work n

/-- The stop has come to its end: the work of GATING or UNGATING that waited for it. -/
def Works.endStop (n : Nat) (w : Works) : Works :=
  let w' := w.clearStop n
  if (w.portal n).gate.stopping && !(w'.portal n).gate.stopping &&
      (decide ((w'.portal n).closure = .gating) || decide ((w'.portal n).closure = .ungating)) then w'.work n
  else w'

/-! ## Stall (R88) -/

/-- A portal enters STALLED from its present state. -/
def Works.stall (n : Nat) (r : StallReason) (detail : Nat) (w : Works) : Works :=
  let p := w.portal n
  let g := p.gate
  let w := if g.grant ≠ .none ∨ g.pair = .inFlight ∨ g.travel.isSome then w.stopGate n else w
  let w := if p.barrier.travel.isSome ∨ p.barrier.pair = .inFlight then
      ((w.haltMoving n .lower).haltMoving n .raise).dropBarrierPair n
    else w
  let w := w.updGate n (fun g => { g with travel := none, dwellStart := none })
  let w := (w.changeClosure n .stalled).updPortal n (fun q =>
    { q with stall := some r, interrupted := some p.closure, stallDetail := detail })
  let w := w.record .portalStall n (some p.closure.code) (some Closure.stalled.code)
    [r.code, detail, g.position, p.barrier.state.code] true
  w.endReopen n Status.failed 1 r.code []

/-! ## Signals (R73) -/

/-- The shown aspect changes: the warn time and the LOWER of BARRING wait on it (R77). A suspended portal stays in BARRING, also
where its barrier is DOWN already (the model's choice, log 29). -/
def Works.shown (n : Nat) (a : Aspect) (w : Works) : Works :=
  if (w.portal n).signals.shown = a then w else
    let w := w.updSignals n (fun s => { s with shown := a })
    if !w.mayCommand n then w else
      match (w.portal n).closure, a with
      | .warning, .amber => w.updPortal n (fun p => { p with timer := some w.now })
      | .barring, .red =>
        match w.barringGo n with
        | (some c, w) => w.enter n c
        | (none, w) => w
      | _, _ => w

/-- SIGNAL_SET_END (R73). -/
def Works.signalSetEnd (n value : Nat) (e : ReqEnd) (w : Works) : Works :=
  match e with
  | .acknowledged => w.shown n (Aspect.ofCode value)
  | .missed => w.updSignals n (fun s => { s with again := true })
  | .refused code => (w.updSignals n (fun s => { s with again := true })).portalFault n 4 code
  | .removed => w

/-- A SET missed or refused is queued again if the wanted aspect still differs from the shown one (R73); of a STALLED portal too,
which by R88 does nothing further (the model's choice, log 29). -/
def Works.signalsAgain (n : Nat) (w : Works) : Works :=
  let s := (w.portal n).signals
  if s.wanted = s.shown then w.updSignals n (fun s => { s with again := false, refused := false })
  else if w.mayCommand n then w.setAspect n s.wanted
  else w

/-! ## Ends of pairs and HALTs (R77, R80, R81, R87) -/

/-- Refusals that stall a portal (R87). -/
def refusalStalls (code : Nat) : Bool := code == 1 || code == 2 || code == 5 || code == 6

/-- The moving state of a gate action. -/
def gateMoving : Motion → GateState
  | .stow => .stowing
  | _ => .deploying

/-- A SHUT portal whose gate leaves DEPLOYED goes back to GATING (R81, R93). -/
def Works.shutBreach (n : Nat) (w : Works) : Works :=
  let p := w.portal n
  if p.closure = .shut ∧ p.gate.state ≠ .deployed then w.enter n .gating else w

/-- An abandoned gate pair ended without execution (R80, R85). -/
def Works.gateUnexecuted (n : Nat) (w : Works) : Works :=
  let g := (w.portal n).gate
  if g.pair = .inFlight then w else
    let w := (w.dropGateGrant n).updGate n (fun g => { g with pair := .none, action := none })
    let w := w.clearStop n
    let p := w.portal n
    if p.gate.stopping = false ∧ (p.closure = .gating ∨ p.closure = .ungating) then w.work n else w

/-- An abandoned gate pair was executed: energised notice and HALT (R80). -/
def Works.gateExecutedAbandoned (n : Nat) (m : Motion) (w : Works) : Works :=
  let w := w.setGate n (gateMoving m)
  let w := w.updGate n (fun g =>
    if g.pair = .abandoned then { g with pair := .none, action := none, stopping := true } else { g with stopping := true })
  ((w.send (.energisedNotice (w.gateEntry n))).haltGate n true).shutBreach n

/-- A gate pair ended without execution (R87). -/
def Works.gateRefused (n : Nat) (stalls : Option Nat) (w : Works) : Works :=
  let w := (w.dropGateGrant n).updGate n (fun g => { g with pair := .none, action := none })
  match stalls with
  | some code => w.stall n .unitRefused code
  | none => w.work n

/-- The action of a closure state on its gate. -/
def gateAction : Closure → Option Motion
  | .gating => some .deploy
  | .ungating => some .stow
  | _ => none

/-- A grant that came while a disregarded pair was still under way is used once that pair has ended (R81). -/
def Works.gateResume (n : Nat) (w : Works) : Works :=
  let p := w.portal n
  match gateAction p.closure with
  | none => w
  | some m =>
    if p.gate.grant = .granted ∧ p.gate.pair = .none ∧ p.gate.travel = none ∧ p.gate.stopping = false ∧
        w.mayCommand n = true then w.queueGate n m
    else w

/-- The end of a gate pair. That of a disregarded pair ends a stop that waited for it, too (R80). -/
def Works.gatePairEnd (n : Nat) (m : Motion) (f : Fate) (e : PairEnd) (w : Works) : Works :=
  match f with
  | .disregarded =>
    ((w.updGate n (fun g => if g.pair = .abandoned then { g with pair := .none, action := none } else g)).endStop n).gateResume n
  | .abandoned =>
    match e with
    | .executed _ => w.gateExecutedAbandoned n m
    | .refused _ => w.gateUnexecuted n
    | .missed => w.gateUnexecuted n
    | .withheld => w.gateUnexecuted n
    | .removed => w.gateUnexecuted n
  | .live =>
    match e with
    | .executed _ =>
      let w := w.setGate n (gateMoving m)
      (w.updGate n (fun g => { g with pair := .none, action := none, travel := some w.now })).send
        (.energisedNotice (w.gateEntry n))
    | .refused code => w.gateRefused n (if refusalStalls code then some code else none)
    | .missed => w.gateRefused n none
    | .withheld => w.gateRefused n none
    | .removed => w.updGate n (fun g => { g with pair := .none, action := none })

/-- The end of a HALT of the stop procedure: the grant is released (R80). -/
def Works.gateHaltEnd (n : Nat) (stop : Bool) (f : Fate) (w : Works) : Works :=
  if stop && !decide (f = .disregarded) then
    ((w.dropGateGrant n).updGate n (fun g => { g with halting := false })).endStop n
  else w

/-- The pair of a barrier queued again while the portal may command, whatever its closure state (R87). -/
def Works.barrierAgain (n : Nat) (m : Motion) (w : Works) : Works := if w.mayCommand n then w.queueBarrier n m else w

/-- The end of a barrier pair (R77, R87). One WITHHELD leads to the work of the present state, UNBARRING or not (the model's
choice, log 29). -/
def Works.barrierPairEnd (n : Nat) (m : Motion) (f : Fate) (e : PairEnd) (w : Works) : Works :=
  let ended := fun (w : Works) => w.updBarrier n (fun b => { b with pair := .none, action := none })
  let left := fun (w : Works) =>
    w.updBarrier n (fun b => if b.pair = .abandoned then { b with pair := .none, action := none } else b)
  match f with
  | .disregarded => left w
  | .abandoned =>
    match e with
    | .executed _ => (left (w.setBarrier n (barrierMoving m))).haltBarrier n
    | .refused _ => left w
    | .missed => left w
    | .withheld => left w
    | .removed => left w
  | .live =>
    match e with
    | .executed _ =>
      let w := ended (w.setBarrier n (barrierMoving m))
      w.updBarrier n (fun b => { b with travel := some w.now, heading := m })
    | .refused code =>
      if refusalStalls code then (ended w).stall n .unitRefused code else (ended w).barrierAgain n m
    | .missed => (ended w).barrierAgain n m
    | .withheld => (ended w).work n
    | .removed => ended w

/-! ## Arrivals (R74) -/

/-- Inputs of a barrier or a gate in a response. -/
structure EndSwitches where
  opened : Bool
  closed : Bool
  toClosed : Bool
  toOpen : Bool
  deriving DecidableEq, Repr

def endSwitches (b : Nat) : EndSwitches :=
  { opened := bitAt b 0, closed := bitAt b 1, toClosed := bitAt b 2, toOpen := bitAt b 3 }

def EndSwitches.conflict (e : EndSwitches) : Bool := e.opened && e.closed

/-- Table 4-2, barrier. -/
def EndSwitches.barrier (e : EndSwitches) : BarrierState :=
  match e.opened, e.closed with
  | true, true => .unknown
  | false, true => .down
  | true, false => .up
  | false, false => match e.toClosed, e.toOpen with
    | true, false => .lowering
    | false, true => .raising
    | _, _ => .unknown

/-- Table 4-2, gate. -/
def EndSwitches.gate (e : EndSwitches) : GateState :=
  match e.opened, e.closed with
  | true, true => .unknown
  | false, true => .deployed
  | true, false => .stowed
  | false, false => match e.toClosed, e.toOpen with
    | true, false => .deploying
    | false, true => .stowing
    | _, _ => .halted

/-- The barrier inputs of a response copied, without judgement. -/
def Works.takeBarrier (n : Nat) (img : List Byte) (w : Works) : Works :=
  let e := endSwitches (imgByte img 0)
  let w := if e.conflict && !(w.portal n).barrier.conflict then w.portalFault n 1 0 else w
  (w.updBarrier n (fun b => { b with conflict := e.conflict })).setBarrier n e.barrier

/-- The gate inputs of a response copied, without judgement. -/
def Works.takeGate (n : Nat) (img : List Byte) (w : Works) : Works :=
  let e := endSwitches (imgByte img 1)
  let w := if e.conflict && !(w.portal n).gate.conflict then w.portalFault n 1 0 else w
  (w.updGate n (fun g => { g with conflict := e.conflict, position := min 100 (imgByte img 2),
                                  obstruction := bitAt (imgByte img 1) 4 })).setGate n e.gate

/-- The barrier stands at the end to which its travel or the closure state brings it, in whatever state the portal is: its
travel ends (R77, R89). -/
def Portal.arrives (p : Portal) : Bool :=
  match p.barrier.state with
  | .down => decide (p.barrier.heading = .lower) || decide (p.closure = .barring)
  | .up => decide (p.barrier.heading = .raise) || decide (p.closure = .unbarring)
  | _ => false

/-- A change of the barrier judged for the closure state (R77, R86, R89): `own` where a pair or travel of the part's own
was running. -/
def Works.judgeBarrier (n : Nat) (old : BarrierState) (own : Bool) (w : Works) : Works :=
  let p := w.portal n
  let new := p.barrier.state
  if old = new ∨ w.portalAuto n = false then w
  else
  let w := if p.arrives then w.updBarrier n (fun b => { b with travel := none }) else w
  if new = .down ∧ p.closure = .barring then
    if p.barrier.travel.isSome ∧ p.barrier.heading = .lower ∨ p.signals.shown = .red then w.enter n .clearing else w
  else if new = .up ∧ p.closure = .unbarring then w.enter n .opened
  else if old = .down ∧ own = false then
    match p.closure with
    | .clearing => w.enter n .barring
    | .gating => (w.stopGate n).enter n .barring
    | .shut => w.portalFault n 2 0
    | _ => w
  else w

/-- The gate has reached the end its state brings it to: the grant is given back (R81, R89); where its pair is still in flight,
the pair is abandoned and the grant kept until that pair ends, and an obstruction dwell runs on (the model's choices, log 29). -/
def Works.gateArrived (n : Nat) (w : Works) : Works :=
  let w := if (w.portal n).gate.pair = .inFlight then w.stopGate n else w.dropGateGrant n
  w.updGate n (fun g => { g with travel := none })

/-- A change of the gate judged for the closure state while the claim is AUTO (R81, R86, R89). -/
def Works.judgeGateAuto (n : Nat) (old : GateState) (own : Bool) (w : Works) : Works :=
  let p := w.portal n
  let new := p.gate.state
  match p.closure with
  | .gating =>
    if new = .deployed then
      (w.gateArrived n).enter n .shut
    else w
  | .ungating => if new = .stowed then (w.gateArrived n).enter n .unbarring else w
  | .shut => w.shutBreach n
  | .unbarring =>
    if old = .stowed ∧ own = false then (w.abandonBarrier n .raise).enter n .ungating else w
  | .opened => if old = .stowed ∧ own = false then w.portalFault n 3 0 else w
  | .warning => if old = .stowed ∧ own = false then w.portalFault n 3 0 else w
  | .barring => if old = .stowed ∧ own = false then w.portalFault n 3 0 else w
  | .clearing => if old = .stowed ∧ own = false then w.portalFault n 3 0 else w
  | .unknown => w
  | .stalled => w

/-- A change of the gate judged for the closure state; under PANEL two observations count (R93). Any state other than DEPLOYED
counts as the breach of a SHUT portal there, also where the gate was UNKNOWN before (the model's choice, log 29). -/
def Works.judgeGate (n : Nat) (old : GateState) (own : Bool) (w : Works) : Works :=
  let p := w.portal n
  if p.gate.state = old then w else
    match w.claimOf (.portal n) with
    | .auto => w.judgeGateAuto n old own
    | .panel =>
      if p.closure = .gating ∧ p.gate.state = .deployed then w.enter n .shut else w.shutBreach n
    | .ordered => w
    | .away => w

/-- An obstruction during a travel of the part's own (R83). -/
def Works.judgeObstruction (n : Nat) (w : Works) : Works :=
  let p := w.portal n
  let g := p.gate
  if g.obstruction ∧ g.travel.isSome ∧ (p.closure = .gating ∨ p.closure = .ungating) then
    let w := (w.dropGateGrant n).updGate n (fun g => { g with travel := none })
    let w := w.record .obstruction n none none
      [g.attempts, g.position, if p.closure = .gating then Motion.deploy.code else Motion.stow.code] false
    if g.attempts = g.attemptLimit then w.stall n .obstructed 0
    else w.updGate n (fun g => { g with dwellStart := some w.now })
  else w

/-- PORTAL_ARRIVAL (R74): the barrier whole, then the gate, then a SET to be queued again. The state of the gate is judged ahead
of its obstruction flag, so a gate that arrives with the flag set writes no OBSTRUCTION record (the model's choice, log 29). -/
def Works.portalArrival (n : Nat) (img : List Byte) (w : Works) : Works :=
  let b := (w.portal n).barrier
  let w := (w.takeBarrier n img).judgeBarrier n b.state (decide (b.pair ≠ .none) || b.travel.isSome)
  let g := (w.portal n).gate
  let w := (w.takeGate n img).judgeGate n g.state (decide (g.pair ≠ .none) || g.travel.isSome)
  let w := w.judgeObstruction n
  if (w.portal n).signals.again then w.signalsAgain n else w

/-- Portals on a unit, NORTH first. -/
def Works.portalsOn (w : Works) (u : Nat) : List Nat := [0, 1].filter (fun n => (w.portal n).unit == u)

/-- The unit became UNSEEN, LOST or RETIRED: the sub-records are UNKNOWN (R74). -/
def Works.portalLost (n : Nat) (w : Works) : Works :=
  let w := (w.setBarrier n .unknown).setGate n .unknown
  let w := (w.updBarrier n (fun b => { b with conflict := false })).updGate n (fun g => { g with conflict := false })
  w.updSignals n (fun s => { s with shown := .unknown })

/-- Retry notice to the portal controller (R73, R80, R87, R140). A barrier pair that was refused full is still wanted while the
portal may command, also where the barrier has meanwhile reached its end (the model's choice, log 29). -/
def Works.portalRetry (n : Nat) (w : Works) : Works :=
  let p := w.portal n
  let w := if p.gate.haltRefused then w.haltGate n p.gate.halting else w
  let w := if p.barrier.haltRefused then w.haltBarrier n else w
  let w := if p.barrier.pairRefused then
      match p.barrier.action, w.mayCommand n with
      | some m, true => w.queueBarrier n m
      | _, _ => w.updBarrier n (fun b => { b with pair := .none, action := none, pairRefused := false })
    else w
  let w := if p.gate.pairRefused then
      match p.gate.action, w.mayCommand n with
      | some m, true => w.queueGate n m
      | _, _ => (w.dropGateGrant n).updGate n (fun g => { g with pair := .none, action := none, pairRefused := false })
    else w
  if p.signals.refused then w.signalsAgain n else w

/-! ## Grant and timers (R77, R79, R81, R83) -/

/-- GATE_GRANT_NOTICE (R81). While a stop or an abandoned pair has not ended, no new pair is queued: their end gives the
grant back (R80). A portal suspended in HELD gives it back at once, since it may send no pair (R76). -/
def Works.gateGranted (n : Nat) (w : Works) : Works :=
  let p := w.portal n
  match gateAction p.closure with
  | none => w
  | some m =>
    if p.gate.grant = .requested then
      let w := w.updGate n (fun g => { g with grant := .granted })
      if p.gate.stopping ∨ p.gate.pair = .abandoned then w
      else if w.mayCommand n then w.queueGate n m
      else w.dropGateGrant n
    else w

/-- A timer in seconds that started at a time has run out. -/
def ranOut (start : Option Nat) (seconds now : Nat) : Bool := match start with
  | some t => elapsed t (1000 * seconds) now
  | none => false

/-- WARN_TIME_EXPIRY (R77). -/
def Works.warnExpiry (n : Nat) (w : Works) : Works :=
  let p := w.portal n
  if p.closure = .warning ∧ ranOut p.timer p.warn w.now ∧ w.suspended n = false then w.enter n .barring else w

/-- BARRIER_TRAVEL_EXPIRY (R77, R89). In a state other than BARRING and UNBARRING the barrier is halted and the travel ends
with no stall (the model's choice, log 29). -/
def Works.barrierTravelExpiry (n : Nat) (w : Works) : Works :=
  let p := w.portal n
  if ranOut p.barrier.travel p.barrier.limit w.now then
    let w := (w.haltBarrier n).updBarrier n (fun b => { b with travel := none })
    if p.closure = .barring ∨ p.closure = .unbarring then w.stall n .barrierTravel 0 else w
  else w

/-- CLEAR_LIMIT_EXPIRY (R79). -/
def Works.clearLimitExpiry (n : Nat) (w : Works) : Works :=
  let p := w.portal n
  if p.closure = .clearing ∧ ranOut p.timer p.clearLimit w.now ∧ w.suspended n = false then
    let occupied := match w.vehicles with
      | some c => (c.roleState .occupied).map ThState.wide
      | none => none
    (w.updPortal n (fun p => { p with clearFault := true, timer := none })).record .interiorNotClear n none none
      [w.portals.interior.episode.toNat, w.vehicleCount, occupied.getD 0] true
  else w

/-- GATE_TRAVEL_EXPIRY (R81, R89). -/
def Works.gateTravelExpiry (n : Nat) (w : Works) : Works :=
  let p := w.portal n
  if ranOut p.gate.travel p.gate.limit w.now ∧ (p.closure = .gating ∨ p.closure = .ungating) then
    (w.stopGate n).stall n .gateTravel 0
  else w

/-- OBSTRUCTION_DWELL_EXPIRY (R83), in whatever state the portal is by then (the model's choice, log 29). -/
def Works.obstructionDwellExpiry (n : Nat) (w : Works) : Works :=
  let g := (w.portal n).gate
  if ranOut g.dwellStart g.dwell w.now then
    (w.updGate n (fun g => { g with dwellStart := none, attempts := g.attempts + 1 })).work n
  else w

/-- A portal in CLEARING finds the interior clear (R79). -/
def Works.clearToGating (n : Nat) (w : Works) : Works :=
  if (w.portal n).closure = .clearing ∧ w.portals.interior.clear ∧ w.mayCommand n then w.enter n .gating else w

/-- CLEAR_DWELL_EXPIRY (R78, R79): `limit` is the clear dwell in seconds. -/
def Works.clearDwellExpiry (w : Works) : Works :=
  let limit := match w.station.site with
    | some s => s.clearDwell
    | none => 0
  if ranOut w.portals.interior.dwellStart limit w.now then
    let w := (w.setClear true 1).judgeClearDwell
    (w.clearToGating 0).clearToGating 1
  else w

/-! ## Vehicles (R78, R84) -/

/-- A vehicle takes a portal in GATING back to CLEARING (R84). -/
def Works.vehicleStop (n : Nat) (w : Works) : Works :=
  if (w.portal n).closure = .gating then (w.stopGate n).enter n .clearing else w

/-- A change of the VEHICLES channel: `above` for an OCCUPIED event to ABOVE. -/
def Works.vehiclesChanged (above : Bool) (w : Works) : Works :=
  if above && w.portals.interior.opened then
    let w := w.setClear false 3
    let w := w.setInterior { w.portals.interior with confirm := none }
    ((w.judgeClearDwell).vehicleStop 0).vehicleStop 1
  else w.judgeClearDwell

/-! ## Outage (R85) -/

/-- The answer of a gate whose entry was in INRUSH or HELD: RESTORE is `true`. One whose grant notice is still on the way
answers RESTORE and stays as it is, and the grant view of one that was granted becomes REQUESTED ahead of its change to HALTED
(the model's choices, log 26); a pair that was refused full becomes NONE at once (log 29). -/
def Works.gateOutage (n : Nat) (w : Works) : Bool × Works :=
  let g := (w.portal n).gate
  match g.grant with
  | .none => (false, w)
  | .requested => (true, w)
  | .granted =>
    if g.stopping then (false, w.updGate n (fun g => { g with grant := .none }))
    else
      let moving := decide (g.state = .deploying) || decide (g.state = .stowing)
      let w := if g.pair = .inFlight then
          if g.pairRefused then w.updGate n (fun g => { g with pair := .none, action := none, pairRefused := false })
          else (w.updGate n (fun g => { g with pair := .abandoned })).giveUp (.gatePair n) .abandoned
        else w
      let w := w.updGate n (fun g => { g with travel := none, grant := .requested })
      let w := w.setGate n .halted
      (true, if moving then w.haltGate n false else w)

/-! ## The stage (R76, R90, R91) -/

/-- The closure sequence begins: OPEN, ALERT and RUNNING together (R76). -/
def Works.beginSequence (n : Nat) (w : Works) : Works :=
  if (w.portal n).closure = .opened ∧ w.water.stage.stage = .alert ∧ w.station.state = .running then w.enter n .warning
  else w

/-- The stage has changed to ALERT (R90). -/
def Works.portalAlert (n : Nat) (w : Works) : Works :=
  let back := fun (w : Works) => w.endReopen n Status.failed 2 w.water.stage.stage.code []
  let turned := fun (w : Works) =>
    w.updPortal n (fun p => { p with reopening := false, gate := { p.gate with attempts := 0 } })
  match (w.portal n).closure with
  | .opened => w.beginSequence n
  | .ungating => (back (turned (w.stopGate n))).enter n .gating
  | .unbarring => (back (turned (w.abandonBarrier n .raise))).enter n .barring
  | _ => w

/-- STAND DOWN reverses the portal (R91). -/
def Works.portalReverse (n : Nat) (w : Works) : Works :=
  let turned := fun (w : Works) => w.updGate n (fun g => { g with attempts := 0 })
  match (w.portal n).closure with
  | .warning => w.enter n .opened
  | .barring => (turned (w.abandonBarrier n .lower)).enter n .unbarring
  | .clearing => (turned (w.abandonBarrier n .lower)).enter n .unbarring
  | .gating => (turned (w.stopGate n)).enter n .ungating
  | .shut => (turned w).enter n .ungating
  | _ => w

/-- The station enters RUNNING (R76). -/
def Works.portalRun (n : Nat) (w : Works) : Works :=
  if (w.portal n).closure.closing then w.work n else w.beginSequence n

/-- The station enters HELD: the timers of a closing state do not run (R76). A pair or SET that waits in the line queue stays
there and goes out in HELD (the model's choice, log 29). -/
def Works.portalHold (n : Nat) (w : Works) : Works :=
  w.updPortal n (fun p => if p.closure.closing then { p with timer := none } else p)

/-! ## Claim changes, settlement, reconstruction (R93, R94) -/

/-- The claim of a portal became PANEL or LOCAL (R93). The stop in progress flag clears at once, though an ABANDONED pair
remains (the model's choice, log 29). -/
def Works.uncommandPortal (n : Nat) (v : ClaimValue) (w : Works) : Works :=
  let w := w.endReopen n Status.preempted v.code 0 []
  let w := (w.giveUp (.gatePair n) .disregarded).giveUp (.barrierPair n) .disregarded
  let w := (w.giveUp (.gateHalt n true) .disregarded).giveUp (.gateHalt n false) .disregarded
  let w := w.dropGateGrant n
  let w := w.updGate n (fun g =>
    { g with pair := if g.pair = .inFlight then (if g.pairRefused then PairState.none else .abandoned) else g.pair,
             action := if g.pair = .inFlight ∧ g.pairRefused then none else g.action,
             pairRefused := false, haltRefused := false, stopping := false, halting := false, travel := none,
             dwellStart := none })
  let w := w.updBarrier n (fun b =>
    { b with pair := if b.pair = .inFlight then (if b.pairRefused then PairState.none else .abandoned) else b.pair,
             action := if b.pair = .inFlight ∧ b.pairRefused then none else b.action,
             pairRefused := false, haltRefused := false, travel := none })
  let w := w.updSignals n (fun s => { s with shown := .unknown, again := false, refused := false })
  w.updPortal n (fun p => { p with timer := none })

/-- Table 4-4. -/
def reconstructed (g : GateState) (b : BarrierState) : Closure :=
  match g, b with
  | .deployed, _ => .shut
  | .stowed, .up => .opened
  | .stowed, .down => .clearing
  | .stowed, _ => .barring
  | _, _ => .gating

/-- A gate found moving is sent a HALT at once (R94). -/
def Works.haltFound (n : Nat) (w : Works) : Works :=
  let g := (w.portal n).gate
  if g.state = .deploying ∨ g.state = .stowing then w.haltGate n false else w

/-- Reconstruction of a portal record from its sub-records (R94). One that is then OPEN begins the sequence where the stage is
ALERT in RUNNING (R76). -/
def Works.reconstruct (n : Nat) (w : Works) : Works :=
  let p := w.portal n
  ((w.haltFound n).enter n (reconstructed p.gate.state p.barrier.state)).beginSequence n

/-- The settlement of a portal whose claim has become AUTO, with the sub-records that a POLL response gives (R94). Where a rejoin
brings no image, its response having ERROR set, the sub-records settle it as they stand (the model's choice, log 29). -/
def Works.settlePortal (n : Nat) (img : Option (List Byte)) (w : Works) : Works :=
  let w := match img with
    | some i => (w.takeBarrier n i).takeGate n i
    | none => w
  if (w.portal n).closure = .unknown then w.reconstruct n else (w.haltFound n).work n

/-! ## Portal orders (R95 to R98) -/

/-- PORTAL REOPEN (R96). -/
def Works.portalReopenOrder (o : Order) (w : Works) : Works :=
  let n := o.subject
  let st := w.water.stage.stage
  let v := w.claimOf (.portal n)
  let p := w.portal n
  if st ≠ .draining then o.finish Status.refusedStage st.code 0 [] w
  else if !v.commands then o.finish Status.refusedClaim v.code 0 [] w
  else if p.closure ≠ .shut then o.finish Status.failed 3 p.closure.code [] w
  else ((w.hold (o.active 0)).updPortal n (fun p => { p with reopening := true })).enter n .ungating

/-- CONFIRM CLEAR (R97). -/
def Works.confirmClearOrder (o : Order) (w : Works) : Works :=
  let i := w.portals.interior
  if !i.opened then o.finish Status.refusedStage w.water.stage.stage.code 0 [] w
  else
    let w := (w.setInterior { i with confirm := some o.slot }).setClear true 2
    let w := o.finish Status.doneOk 0 0 [i.episode.toNat] w.judgeClearDwell
    (w.clearToGating 0).clearToGating 1

/-- PORTAL RESET (R98). Result word 25 holds the interrupted state, also where the work or R90 leads on within the event (the
model's choice, log 29). -/
def Works.portalResetOrder (o : Order) (w : Works) : Works :=
  let n := o.subject
  let st := w.water.stage.stage
  let v := w.claimOf (.portal n)
  let p := w.portal n
  if st ≠ .alert ∧ st ≠ .draining then o.finish Status.refusedStage st.code 0 [] w
  else if !v.commands then o.finish Status.refusedClaim v.code 0 [] w
  else if p.closure ≠ .stalled then o.finish Status.failed 3 p.closure.code [] w
  else
    let c := p.interrupted.getD .unknown
    let w := (w.updGate n (fun g => { g with attempts := 0 })).enter n c
    let w := if st = .alert ∧ (c = .opened ∨ c = .ungating ∨ c = .unbarring) then w.portalAlert n else w
    o.finish Status.doneOk 0 0 [c.code] w

end Sys2Proof.Machine
end

