-- ==== Sys2Proof/Machine/Supply.lean ====
section
/-! DEFINITION. The source of supply (section 2.1) and the outage (section 2.3), in which the owners answer at once. -/

namespace Sys2Proof.Machine

open Sys2Proof

/-! ## Source (R26 to R28) -/

/-- The SUPPLY record of a change of source (Table 2-8). -/
def Works.recordSource (old : Source) (w : Works) : Works :=
  let s := w.budget.supply
  w.record .supply 0 (some old.code) (some s.source.code)
    [s.capacity, grantedSum w.budget, flag s.mains + 2 * flag s.generator + 4 * flag s.overload,
      match s.lastKnown with
      | some l => l.code
      | none => absent32] false

/-- A change of source without an outage: source and capacity set, the record, then what the capacity brings. A rise examines
the head in every row of Table 2-3 that comes here (the model's choice where the row says no grant changes, log 25). -/
def Works.setSource (new : Source) (w : Works) : Works :=
  let s := w.budget.supply
  let w := w.setSupply { s with source := new }
  let cap := w.newCapacity
  let w := w.setSupply { w.budget.supply with capacity := cap }
  (w.recordSource s.source).capacityChanged s.capacity cap

/-! ## Outage (R37) -/

/-- The entry was in INRUSH or HELD. -/
def Grant.served (g : Grant) : Bool := decide (g.state = .inrush) || decide (g.state = .held)

/-- An entry after step 1 of the outage. -/
def Grant.dark (g : Grant) : Grant :=
  { g with granted := if g.served || g.load.isLamp then 0 else g.granted, energised := none, mark := .none,
           adopted := false }

/-- The grant entry that a grant notice concerns. -/
def Works.noticeEntry (w : Works) (i : Instr) : Option Nat :=
  match i with
  | .pumpGrantNotice p => some p
  | .gateGrantNotice n => some (w.gateEntry n)
  | .lampGrantNotice c _ => match w.lights.circuits[c]? with
    | some x => x.grant
    | none => none
  | _ => none

/-- Grant notices on their way for entries that the outage takes back are void; one on its way for a LAMP entry that is QUEUED at
the outage is not (the model's choices, log 12). -/
def Works.voidGrants (served : List Nat) (w : Works) : Works :=
  { w with notices := w.notices.filter (fun i => match w.noticeEntry i with
      | some e => !served.contains e
      | none => true) }

/-- The owner of an entry answers. -/
def Works.ownerAnswer (l : Load) (w : Works) : OutageAnswer × Works :=
  match l with
  | .pump p =>
    let (restore, w) := w.pumpOutage p
    (if restore then .restore 0 else .release, w)
  | .gate n =>
    let (restore, w) := w.gateOutage n
    (if restore then .restore 0 else .release, w)
  | .lamp c => w.lampOutage c

/-- An answered entry: QUEUED with the outage flag, or IDLE. -/
def Grant.answered (a : OutageAnswer) (now : Nat) (g : Grant) : Grant :=
  match a with
  | .restore p =>
    { g with state := .queued, outage := some now, requested := if g.load.isLamp then p else g.requested }
  | .release => g.released

/-- Steps 2 and 3 for one entry that was INRUSH or HELD. -/
def Works.answerEntry (i : Nat) (w : Works) : Works :=
  match w.budget.grants[i]? with
  | none => w
  | some g =>
    let (a, w) := w.ownerAnswer g.load
    w.updGrant i (Grant.answered a w.now)

/-- The outage notice to the owner of an entry that was QUEUED. -/
def Works.tellQueued (i : Nat) (w : Works) : Works :=
  match w.budget.grants[i]? with
  | none => w
  | some g => match g.load with
    | .lamp c => w.lampOutageQueued c
    | .pump _ => w
    | .gate _ => w

/-- The queue after the outage: in each class the restored entries by grant number, then those already queued. -/
def queueAfter (b : Budget) (restored queued : List Nat) : List Nat :=
  let key := fun i => match b.grants[i]? with
    | some g => g.numberKey
    | none => 0
  let sorted := sortBy key restored
  [0, 1, 2, 3].flatMap (fun c =>
    sorted.filter (fun i => classOf b i == c) ++ queued.filter (fun i => classOf b i == c))

/-- OUTAGE (R37): the source becomes NONE. The model's choices (log 26): an entry still QUEUED from an earlier outage keeps that
outage's time; the SUPPLY record takes its granted sum after step 1, and is handed ahead of the BUDGET record. -/
def Works.outage (w : Works) : Works :=
  let old := w.budget.supply.source
  let queued := w.budget.queue
  let served := ((indexed 0 w.budget.grants).filter (fun ig => ig.2.served)).map Prod.fst
  let w := w.setSupply { w.budget.supply with source := .none, capacity := 0 }
  let w := w.setBudget { w.budget with grants := w.budget.grants.map Grant.dark }
  let w := (w.recordSource old).setBudgetState .normal
  let w := w.voidGrants served
  let w := each served Works.answerEntry w
  let restored := served.filter (fun i => match w.budget.grants[i]? with
    | some g => decide (g.state = .queued)
    | none => false)
  let w := w.setQueue (queueAfter w.budget restored queued)
  each queued Works.tellQueued w

/-- A transfer, or the loss of supply: the outage, then the new source unless it is NONE. -/
def Works.transfer (new : Source) (w : Works) : Works :=
  if new = .none then w.outage else w.outage.setSource new

/-- SOURCE_CHANGE (Table 2-3): from the source held, with the last known source as it was before the response. -/
def Works.changeSource (last : Option Source) (new : Source) (w : Works) : Works :=
  match w.budget.supply.source with
  | .mains => w.transfer new
  | .generator => w.transfer new
  | .none => w.setSource new
  | .unknown =>
    match last with
    | none => if new = .none then w.outage else w.setSource new
    | some l => if l = new ∨ l = .none then w.setSource new else w.transfer new

/-- The source that the inputs report (R26). -/
def reportedSource (mains generator : Bool) : Source :=
  if generator then .generator else if mains then .mains else .none

/-- SWITCHBOARD_RESPONSE (R26). The last known source is set ahead of the change, so detail 4 of its SUPPLY record shows the
source newly reported (the model's choice, log 26). -/
def Works.switchboardArrival (img : List Byte) (w : Works) : Works :=
  match w.station.site with
  | none => w
  | some s =>
    let mains := UnitType.switchboard.digital img s.supply.mainsInput
    let generator := UnitType.switchboard.digital img s.supply.generatorInput
    let overload := UnitType.switchboard.digital img s.supply.overloadInput
    let old := w.budget.supply
    let new := reportedSource mains generator
    let w := w.setSupply { old with mains := mains, generator := generator, overload := overload,
                                    lastKnown := some new }
    if old.source = new then w.recapacity else w.changeSource old.lastKnown new

/-- The switchboard unit became UNSEEN, LOST or RETIRED (R26). -/
def Works.switchboardLost (w : Works) : Works :=
  if w.budget.supply.source = .unknown then w else w.setSource .unknown

end Sys2Proof.Machine
end

