-- ==== Sys2Proof/Machine/Claims.lean ====
section
/-! DEFINITION. The claim table (chapter 6): key views, changes of value, rejoin, forced reconciliation, and the handing of each
change to the owning job and the supply budget (R124). -/

namespace Sys2Proof.Machine

open Sys2Proof

/-! ## Entries -/

def Works.updClaims (f : Claim → Claim) (w : Works) : Works := { w with claims := w.claims.map f }

/-- Claim entries of a unit, in index order. -/
def Works.unitClaims (w : Works) (u : Nat) : List Claim := w.claims.filter (fun c => c.unit == u)

/-- A new value for the entry of a subject. -/
structure NewClaim where
  subject : ClaimSubject
  value : ClaimValue
  deriving DecidableEq, Repr

/-! ## Key views (R121) -/

/-- The key positions of a POLL response. -/
def Works.pollKeys (u : Nat) (t : UnitType) (img : List Byte) (w : Works) : Works :=
  w.updClaims (fun c =>
    if c.unit = u then { c with keyView := if t.keyPanel img c.key then .panel else .normal } else c)

/-- The PANEL flag of another response: it tells the key only where all entries of the unit name the same one. -/
def Works.flagKeys (u : Nat) (w : Works) : Works :=
  match w.unitClaims u with
  | [] => w
  | c :: cs =>
    if cs.all (fun d => d.key == c.key) then
      w.updClaims (fun d => if d.unit = u then { d with keyView := .panel } else d)
    else w

/-! ## Handing a change (R124) -/

/-- The owning job takes a change of value. `images` gives the input image of a unit where a POLL response brought the
change; `reports` the lamp steps of the settlement; `joined` where the change is a reconciliation. What a zone's change asks of
the circuits follows once every subject has been told (`handClaims`). A portal that joins under PANEL in UNKNOWN stays so (the
model's choice, log 33). -/
def Works.handClaim (images : Nat → Option (List Byte)) (reports : List (Option Nat)) (joined : Bool) (n : NewClaim)
    (w : Works) : Works :=
  match w.claimEntry n.subject with
  | none => w
  | some c =>
    let img := images c.unit
    match n.subject, n.value with
    | .pump i, .auto => (match img with
      | some b => w.pumpViews i b
      | none => w).settlePump i
    | .pump i, .panel => (match img with
      | some b => w.pumpViews i b
      | none => w).uncommandPump i .panel
    | .pump i, v => w.uncommandPump i v
    | .portal p, .auto => w.settlePortal p img
    | .portal p, v => w.uncommandPortal p v
    | .zone z, .auto => w.settleZone reports img z
    | .zone z, .panel => if joined then w.settleZone reports img z else w.uncommandZone z .panel
    | .zone z, v => w.uncommandZone z v

/-- The floats of the responses that bring the changes (R121, R49). -/
def Works.takeFloats (images : Nat → Option (List Byte)) (w : Works) : Works :=
  each w.line.roster (fun r w => match images r.address with
    | some i => w.floatsAhead r.address r.type i
    | none => w) w

/-- The zones among the subjects of an event. -/
def zonesOf (l : List NewClaim) : List Nat :=
  l.filterMap (fun n => match n.subject with
    | .zone z => some z
    | .pump _ => none
    | .portal _ => none)

/-- What the subjects of an event lose: those that become PANEL or LOCAL are told, the reported steps of hand control ahead of
them (R121, R113). At a reconciliation nothing is left to lose: the loss of the unit has been told before. -/
def Works.tellLosses (images : Nat → Option (List Byte)) (reports : List (Option Nat)) (joined : Bool) (gone : List NewClaim)
    (w : Works) : Works :=
  if joined then w else each gone (Works.handClaim images reports false) (w.panelReports reports)

/-- The settlements of an event: at a reconciliation the subjects under PANEL first, then the floats of the response, then the
subjects that become AUTO (log 32). -/
def Works.tellSettlements (images : Nat → Option (List Byte)) (reports : List (Option Nat)) (joined : Bool)
    (gone back : List NewClaim) (w : Works) : Works :=
  let w := if joined then each gone (Works.handClaim images reports true) w else w
  each back (Works.handClaim images reports joined) (w.takeFloats images)

/-- Changes to PANEL and LOCAL go first, then the target of every zone is computed, then the subjects are settled, then the
circuits follow in one pass, those of settled zones after the first four steps of R113, and the orders of the zones whose target
moved are judged (log 32). Each group goes in the order of the claim table: pumps, portals, zones, each by index (R118, R65).
Serving and the judgement of the budget follow once every subject is settled. -/
def Works.handClaims (images : Nat → Option (List Byte)) (reports : List (Option Nat)) (joined : Bool)
    (l : List NewClaim) (w : Works) : Works :=
  let gone := l.filter (fun n => !decide (n.value = .auto))
  let back := l.filter (fun n => decide (n.value = .auto))
  let told := w.tellLosses images reports joined gone
  let w := if (zonesOf l).isEmpty then told.tellSettlements images reports joined gone back
    else each told.movedTargets Works.judgeZoneSet
      ((told.setTargets.tellSettlements images reports joined gone back).followCircuits
        (zonesOf (if joined then l else back)))
  w.serveAll.judgeBudget

/-- Values set with their CLAIM records, all before any job is told (R126, R128). -/
def Works.setClaims (cause : ClaimCause) (l : List NewClaim) (w : Works) : Works :=
  each l (fun n w => w.setClaim n.subject n.value none cause absent16) w

/-! ## Loss of a unit (R120) -/

/-- UNIT_LOST_CLAIMS (R120). -/
def Works.claimsLost (u : Nat) (w : Works) : Works :=
  let lost := ((w.unitClaims u).filter (fun c => !decide (c.value = .away))).map
    (fun c => { subject := c.subject, value := ClaimValue.away : NewClaim })
  let w := w.updClaims (fun c => if c.unit = u then { c with keyView := .unknown } else c)
  if lost.isEmpty then w else
    (w.setClaims .unitLost lost).handClaims (fun _ => none) [] false lost

/-! ## Panel keys (R122, R123) -/

/-- The entries of a unit whose value a key view changes. -/
def Works.keyChanges (u : Nat) (w : Works) : List NewClaim :=
  (w.unitClaims u).filterMap (fun c =>
    match c.keyView, c.value with
    | .panel, .auto => some { subject := c.subject, value := .panel }
    | .panel, .ordered => some { subject := c.subject, value := .panel }
    | .normal, .panel => some { subject := c.subject, value := .auto }
    | _, _ => none)

/-- KEY_PANEL and KEY_NORMAL for the entries of a unit that is PRESENT or SUSPECT. -/
def Works.judgeKeys (u : Nat) (images : Nat → Option (List Byte)) (w : Works) : Works :=
  let l := w.keyChanges u
  if l.isEmpty then w else
    let w := w.setClaims .keyPanel (l.filter (fun n => decide (n.value = .panel)))
    let w := w.setClaims .keyNormal (l.filter (fun n => decide (n.value = .auto)))
    w.handClaims images (w.lampReports images) false l

/-! ## Rejoin and reconciliation (R126 to R128) -/

/-- The value a key view gives. -/
def Claim.joined (c : Claim) : NewClaim :=
  { subject := c.subject, value := if c.keyView = .panel then .panel else .auto }

/-- UNIT_REJOIN, and the reconciliation at the end of the roll call: the entries of units, with their images. -/
def Works.reconcile (units : List Nat) (cause : ClaimCause) (images : Nat → Option (List Byte)) (w : Works) : Works :=
  let l := (w.claims.filter (fun c => units.contains c.unit)).map Claim.joined
  if l.isEmpty then w else
    let w := w.setClaims cause l
    w.handClaims images (w.lampReports images) true l

/-- The CLAIM record of a forced reconciliation, written whether the value changes or not (R127). -/
def Works.forceClaim (old : List Claim) (cause : ClaimCause) (n : NewClaim) (w : Works) : Works :=
  match posOf (fun (c : Claim) => decide (c.subject = n.subject)) old with
  | none => w
  | some k =>
    match old[k]? with
    | none => w
    | some c =>
      let w := { w with claims := updAt (fun d =>
        { d with value := n.value, slot := none, changed := if c.value = n.value then c.changed else w.now }) k w.claims }
      w.record .claim k (some c.value.code) (some n.value.code) [cause.code, absent16, c.unit, w.unitStateCode c.unit] false

/-- FORCED_RECONCILIATION (R127): every entry of the unit as if the unit had been lost, then its value from the key view. The
targets and the circuits follow with the settlements, once for the whole event (R107). -/
def Works.forceReconcile (u : Nat) (cause : ClaimCause) (images : Nat → Option (List Byte)) (w : Works) : Works :=
  let old := w.claims
  let l := (w.unitClaims u).map Claim.joined
  if l.isEmpty then w else
    let reports := w.lampReports images
    let w := w.updClaims (fun c => if c.unit = u then { c with value := .away, slot := none } else c)
    let w := each l (fun n w => w.handClaim (fun _ => none) [] false { n with value := .away }) w
    let w := each l (Works.forceClaim old cause) w
    w.handClaims images reports true l

end Sys2Proof.Machine
end

