-- ==== Sys2Proof/Machine/Storm.lean ====
section
/-! DEFINITION. The storm stage (sections 1.6 to 1.8): the governing depth, the watch and closure causes, the dwells, the
portal reports, and what the stage orders do. -/

namespace Sys2Proof.Machine

open Sys2Proof

/-! ## The governing depth (R11) -/

def Works.setWater (x : Water) (w : Works) : Works := { w with water := x }

def Works.setStage (s : StageRec) (w : Works) : Works := w.setWater { w.water with stage := s }

/-- The stage machine makes its own changes in HELD and RUNNING (R19). -/
def Works.stageRuns (w : Works) : Bool := decide (w.station.state = .held) || decide (w.station.state = .running)

/-- The better of two governing depths: the higher value, the earlier where equal. -/
def betterDepth (best : Option GovDepth) (ic : Nat × Channel) : Option GovDepth :=
  if ic.2.kind = .depth ∧ ic.2.validity = .valid then
    match best with
    | none => some { channel := ic.1, value := ic.2.value }
    | some b => if b.value < ic.2.value then some { channel := ic.1, value := ic.2.value } else some b
  else best

/-- The governing depth of a channel table. -/
def governingOf (cs : List Channel) : Option GovDepth := (indexed 0 cs).foldl betterDepth none

/-- The governing channel. -/
def Works.govChannel (w : Works) : Option Channel :=
  match w.water.governing with
  | some g => w.water.channels[g.channel]?
  | none => none

/-- The governing depth's CLOSE threshold is ABOVE. -/
def Works.closeAbove (w : Works) : Bool := match w.govChannel with
  | some c => c.isAbove .close
  | none => false

/-- The governing depth is VALID and its REOPEN threshold is BELOW (R17). -/
def Works.reopenBelow (w : Works) : Bool := match w.govChannel with
  | some c => c.isBelow .reopen
  | none => false

/-- The governing depth in millimetres, 65 535 when INVALID (R24). -/
def Works.depthDetail (w : Works) : Nat := match w.water.governing with
  | some g => g.value
  | none => absent16

/-- The governing depth recomputed, with the records of its loss and recovery (R11). The record goes ahead of the judgement of
the stage, so DEPTH_LOST shows the stage before a change that the same event brings (the model's choice, log 37). -/
def Works.recomputeDepth (w : Works) : Works :=
  let old := w.water.governing
  let new := governingOf w.water.channels
  let w := w.setWater { w.water with governing := new }
  match old, new with
  | some _, none =>
    if w.stageRuns then w.record .depthLost 0 none none [w.water.stage.stage.code] true else w
  | none, some g => w.record .depthRestored 0 none none [g.channel, g.value] false
  | _, _ => w

/-! ## Causes (R15, R16) -/

/-- What the stage machine reads of the channels. -/
structure Facts where
  rain : Bool
  depth : Bool
  sumpHigh : Bool
  close : Bool
  governing : Option Nat
  deriving DecidableEq, Repr

/-- Some channel of a kind has the threshold of a role ABOVE. -/
def Works.someAbove (w : Works) (k : ChannelKind) (r : Role) : Bool :=
  w.water.channels.any (fun c => decide (c.kind = k) && c.isAbove r)

def Works.facts (w : Works) : Facts :=
  { rain := w.someAbove .rain .watch, depth := w.someAbove .depth .watch, sumpHigh := w.someAbove .sumpLevel .high,
    close := w.closeAbove, governing := w.water.governing.map GovDepth.channel }

/-- A watch cause is present (R15). -/
def Facts.watch (f : Facts) : Bool := f.rain || f.depth || f.sumpHigh || f.close || f.governing.isNone

/-- The watch cause that an event brought about; of several the first in the order of Table 1-7. -/
def watchCause (old new : Facts) (rise : Bool) : Option StageCause :=
  if new.rain && !old.rain then some .rainWatch
  else if new.depth && !old.depth then some .depthWatch
  else if new.sumpHigh && !old.sumpHigh then some .sumpHigh
  else if rise then some .depthRise
  else if new.governing.isNone && old.governing.isSome then some .depthInvalid
  else if new.close && !old.close then some .closeLevel
  else none

/-- A closure cause (R16): CLOSE becoming ABOVE, or the governing channel changing to one whose CLOSE is ABOVE. -/
def closureCause (old new : Facts) : Bool := new.close && (!old.close || !decide (old.governing = new.governing))

/-! ## Changes of stage (R13) -/

/-- The dwell start that the stage and the conditions ask for (R15, R17). -/
def Works.dwellFor (w : Works) : Option Nat :=
  let s := w.water.stage
  let go := match s.stage with
    | .watch => !w.facts.watch
    | .closed => w.reopenBelow
    | .dry => false
    | .alert => false
    | .draining => false
  if go then some (s.dwellStart.getD w.now) else none

def Works.judgeDwell (w : Works) : Works := w.setStage { w.water.stage with dwellStart := w.dwellFor }

/-- Water watch judges its own ACTIVE orders against the new stage (R21, R22). -/
def Works.judgeStageOrders (w : Works) : Works :=
  let st := w.water.stage.stage
  w.completeAll (fun a => decide (a.code = .declareClosure) || decide (a.code = .standDown)) (fun a w =>
    match a.code, st with
    | .declareClosure, .closed => w.complete a.slot Status.doneOk 0 0 [(stamp a.since).toNat]
    | .declareClosure, .alert => w
    | .declareClosure, _ => w.complete a.slot Status.failed st.code 0 []
    | _, .alert => w.complete a.slot Status.failed 2 0 []
    | _, _ => w)

/-- STAGE_CHANGE (R13): the record, then the three jobs, the image, and the orders. -/
def Works.changeStage (st : Stage) (cause : StageCause) (w : Works) : Works :=
  let s := w.water.stage
  if s.stage = st then w else
    let w := (w.setStage { s with stage := st, entered := w.now, cause := cause, dwellStart := none }).judgeDwell
    let w := w.record .stage 0 (some s.stage.code) (some st.code) [cause.code, w.depthDetail, s.north.code, s.south.code]
      false
    let w := w.dutyFromStage
    let w := if st = .alert then (w.portalAlert 0).portalAlert 1 else w
    (w.judgeModes.wantImage).judgeStageOrders

/-- A closure cause by the stage (R16, R17). In HELD and DRY it names the change to WATCH, whatever watch cause comes with it
(the model's choice, log 37). -/
def Works.closure (w : Works) : Works :=
  let s := w.water.stage
  match s.stage with
  | .draining =>
    if s.north = .shut ∧ s.south = .shut then w.changeStage .closed .closeLevel else w.changeStage .alert .closeLevel
  | .alert => w
  | .closed => w
  | _ =>
    if w.station.state = .running then w.changeStage .alert .closeLevel
    else
      let w := if s.suppressed then w else
        (w.setStage { s with suppressed := true }).record .closureSuppressed 0 none none [s.stage.code, w.depthDetail]
          true
      if s.stage = .dry then w.changeStage .watch .closeLevel else w

/-- The stage machine after an event at the channels, against the facts before it; `rise` for a RISE event of a DEPTH
channel (R15 to R18). The suppressed flag clears where CLOSE goes from ABOVE to FALLING(1), which by R3 is not ABOVE, and a
return to ABOVE is then a closure cause of its own (the model's choice, log 37). -/
def Works.judgeStage (old : Facts) (rise : Bool) (w : Works) : Works :=
  if !w.stageRuns then w else
    let new := w.facts
    let s := w.water.stage
    let w := w.setStage { s with suppressed := s.suppressed && new.close }
    let w := if closureCause old new then w.closure else w
    let w := match w.water.stage.stage, watchCause old new rise with
      | .dry, some c => w.changeStage .watch c
      | _, _ => w
    let w := if rise ∧ w.water.stage.stage = .watch then w.setStage { w.water.stage with dwellStart := none } else w
    w.judgeDwell

/-! ## Portal reports (R14) -/

/-- The ACTIVE STAND DOWN at a report (R22). -/
def Works.standDownReport (r : ViewReport) (w : Works) : Works :=
  let s := w.water.stage
  w.completeAll (fun a => decide (a.code = .standDown)) (fun a w =>
    if s.north = .opened ∧ s.south = .opened then w.complete a.slot Status.doneOk 0 0 []
    else if r.new = .stalled then w.complete a.slot Status.failed (r.portal + 1) View.stalled.code []
    else w)

/-- The stage machine at a report. -/
def Works.stageReport (r : ViewReport) (w : Works) : Works :=
  let s := w.water.stage
  let both := fun (v : View) => decide (s.north = v) && decide (s.south = v)
  let leaves := decide (r.old = .shut) && !decide (r.new = .shut)
  let w := match s.stage with
    | .alert => if both .shut then w.changeStage .closed .portalsShut else w
    | .closed => if leaves then w.changeStage .alert .portalBreach else w
    | .draining =>
      if leaves && !r.reopening then w.changeStage .alert .portalBreach
      else if both .opened then w.changeStage .watch .reopened
      else w
    | .dry => w
    | .watch => w
  w.standDownReport r

/-- The reports of a step are acted on in order; lighting gets each report too (R105), after water watch has acted on it (the
model's choice, log 14). -/
def reportLoop : Nat → Works → Works
  | 0, w => w
  | n + 1, w =>
    match w.reports with
    | [] => w
    | r :: rest =>
      let w := { w with reports := rest }
      let w := if w.stageRuns then w.stageReport r else w
      reportLoop n w.judgeModes

/-- A portal changes its view a few times in one step at most; 32 reports are more than a step can bring. -/
def Works.runReports (w : Works) : Works := reportLoop 32 w

/-! ## Timers -/

/-- A dwell of the site table, in seconds. -/
def Works.siteTime (w : Works) (f : Site → Nat) : Nat := match w.station.site with
  | some s => f s
  | none => 0

/-- WATCH_DWELL_EXPIRY (R15). -/
def Works.watchDwellExpiry (w : Works) : Works :=
  let s := w.water.stage
  if s.stage = .watch ∧ ranOut s.dwellStart (w.siteTime Site.watchDwell) w.now then w.changeStage .dry .watchDwell else w

/-- REOPEN_DWELL_EXPIRY (R17). -/
def Works.reopenDwellExpiry (w : Works) : Works :=
  let s := w.water.stage
  if s.stage = .closed ∧ ranOut s.dwellStart (w.siteTime Site.reopenDwell) w.now then
    w.changeStage .draining .reopenDwell
  else w

/-! ## Station state (R16, R19) -/

/-- The station enters RUNNING by the RUN order: a suppressed closure acts (R16). -/
def Works.stageRun (w : Works) : Works :=
  let s := w.water.stage
  if s.suppressed then
    (w.setStage { s with suppressed := false }).changeStage .alert .stationRun
  else w

/-- The stage that the portal views give at the end of the roll call (R19). -/
def rollCallStage (n s : View) : Stage :=
  if n = .shut ∧ s = .shut then .closed
  else if n = .opened ∧ s = .opened then .dry
  else .alert

/-- The stage set at the end of the roll call (R19). -/
def Works.stageFromPortals (w : Works) : Works :=
  let s := w.water.stage
  let w := w.changeStage (rollCallStage s.north s.south) .rollCall
  w.setStage { w.water.stage with cause := .rollCall }

/-- The conditions that stand at the end of the roll call, judged once the station is in HELD or RUNNING (R11, R19). R175 places
DEPTH_LOST in none of its steps: it is written here, ahead of a change of DRY to WATCH (the model's choice, log 33). -/
def Works.judgeStanding (w : Works) : Works :=
  let w := if w.water.governing.isNone then w.record .depthLost 0 none none [w.water.stage.stage.code] true else w
  if w.water.stage.stage = .dry then
    let none' : Facts := { rain := false, depth := false, sumpHigh := false, close := false, governing := some 0 }
    w.judgeStage none' false
  else w.judgeDwell

/-! ## Stage orders (R20 to R23) -/

/-- DECLARE CLOSURE (R21). -/
def Works.declareOrder (o : Order) (w : Works) : Works :=
  let s := w.water.stage
  if w.station.state ≠ .running then o.finish Status.refusedState w.station.state.code 0 [] w
  else
    match s.stage with
    | .alert => o.finish Status.refusedStage s.stage.code 0 [] w
    | .closed => o.finish Status.refusedStage s.stage.code 0 [] w
    | .draining => o.finish Status.refusedStage s.stage.code 0 [] w
    | _ => ((w.setStage { s with suppressed := false }).hold (o.active w.now)).changeStage .alert .declareOrder

/-- STAND DOWN (R22). -/
def Works.standDownOrder (o : Order) (w : Works) : Works :=
  let s := w.water.stage
  if s.stage ≠ .alert then o.finish Status.refusedStage s.stage.code 0 [] w
  else if w.closeAbove then o.finish Status.refusedStage 2 1 [] w
  else
    let w := w.changeStage .watch .standDown
    let lost := fun (v : View) => decide (v = .stalled) || decide (v = .unknown)
    let w := if s.north = .opened ∧ s.south = .opened then o.finish Status.doneOk 0 0 [] w
      else if lost s.north then o.finish Status.failed 1 s.north.code [] w
      else if lost s.south then o.finish Status.failed 2 s.south.code [] w
      else w.hold (o.active 0)
    (w.portalReverse 0).portalReverse 1

/-- Change of one channel record. -/
def Works.updChannel (c : Nat) (f : Channel → Channel) (w : Works) : Works :=
  w.setWater { w.water with channels := updAt f c w.water.channels }

/-- The baseline of a rise detector. -/
def Channel.anchor (b : Option (Nat × Nat)) (c : Channel) : Channel :=
  { c with rise := c.rise.map (fun r => { r with baseline := b }) }

/-- REBASE CHANNEL (R23). -/
def Works.rebaseOrder (o : Order) (w : Works) : Works :=
  match w.water.channels[o.subject]? with
  | none => w
  | some c =>
    match c.rise with
    | none => o.finish Status.failed 2 0 [] w
    | some _ =>
      if c.validity = .valid then
        o.finish Status.doneOk 0 0 [] (w.updChannel o.subject (Channel.anchor (some (c.value, w.now))))
      else o.finish Status.failed 1 0 [] (w.updChannel o.subject (Channel.anchor none))

end Sys2Proof.Machine
end

