-- ==== Sys2Proof/Machine/Samples.lean ====
section
/-! DEFINITION. Measuring channels (sections 1.1 to 1.5): the arrival of a sample, thresholds, rise detection, partners, the
hand-on to the other blocks, the loss of a channel's unit. -/

namespace Sys2Proof.Machine

open Sys2Proof

/-! ## Validity (R2) -/

/-- The validity that a sample gives its channel. -/
def Channel.validityAt (c : Channel) (v : Nat) : Validity :=
  if c.low ≤ v ∧ v ≤ c.high then .valid else .outOfRange

/-- The CHANNEL record of a change of validity. -/
def Works.recordValidity (c : Nat) (old new : Validity) (value : Nat) (w : Works) : Works :=
  if old = new then w else w.record .channel c (some old.code) (some new.code) [value] false

/-! ## Thresholds (R6) -/

/-- Roles whose events are journalled (R6). -/
def Role.journalled : Role → Bool
  | .watch => true | .close => true | .reopen => true | .high => true
  | .stop => false | .start1 => false | .start2 => false | .start3 => false | .start4 => false | .occupied => false

/-- The THRESHOLD record of a threshold event. -/
def Works.recordThreshold (c v : Nat) (t : Threshold) (w : Works) : Works :=
  let n := t.next v
  if t.role.journalled && !decide (t.state.settled = n.settled) then
    w.record .threshold c (some t.state.settled.code) (some n.settled.code) [t.role.code, v] false
  else w

/-- The thresholds of a channel at a VALID sample. -/
def Channel.advance (v : Nat) (c : Channel) : Channel :=
  { c with thresholds := c.thresholds.map (fun t => { t with state := t.next v }) }

/-- The thresholds of a channel that turns STALE drop their counts. -/
def Channel.dropCounts (c : Channel) : Channel :=
  { c with thresholds := c.thresholds.map (fun t => { t with state := t.state.settled }) }

/-! ## Rise detection (R7) -/

/-- The sample emits a RISE. -/
def Channel.rises (c : Channel) (v : Nat) : Bool :=
  match c.rise with
  | none => false
  | some r => match r.baseline with
    | none => false
    | some (b, _) => decide (b + r.delta ≤ v)

/-- The baseline after a VALID sample. -/
def Rise.after (v now : Nat) (r : Rise) : Rise :=
  match r.baseline with
  | none => { r with baseline := some (v, now) }
  | some (b, _) => if b + r.delta ≤ v ∨ v < b then { r with baseline := some (v, now) } else r

/-- The RISE record and the baseline at a VALID sample. -/
def Works.riseSample (c v : Nat) (w : Works) : Works :=
  match w.water.channels[c]? with
  | none => w
  | some x =>
    let w' := w.updChannel c (fun x => { x with rise := x.rise.map (Rise.after v w.now) })
    match x.rises v, x.rise with
    | true, some r => match r.baseline with
      | some (b, t) => w'.record .rise c none none [b, v, w.now - t] false
      | none => w'
    | _, _ => w'

/-! ## Partners (R9) -/

def absDiff (a b : Nat) : Nat := if a ≤ b then b - a else a - b

/-- The disagreement flag of both partners. -/
def Works.setDisagree (c p : Nat) (b : Bool) (w : Works) : Works :=
  (w.updChannel c (fun x => { x with disagree := b })).updChannel p (fun x => { x with disagree := b })

/-- The comparison with the partner at a VALID sample. -/
def Works.comparePartner (c : Nat) (w : Works) : Works :=
  match w.water.channels[c]? with
  | none => w
  | some x =>
    match x.partner with
    | none => w
    | some (p, tolerance) =>
      match w.water.channels[p]? with
      | none => w
      | some y =>
        if y.validity ≠ .valid then w else
          let differ := decide (tolerance < absDiff x.value y.value)
          let lo := min c p
          let hi := max c p
          if differ && !x.disagree then
            let w := w.setDisagree c p true
            w.record .sensorDisagree lo none none
              [hi, if c ≤ p then x.value else y.value, if c ≤ p then y.value else x.value] true
          else if !differ && x.disagree then (w.setDisagree c p false).record .sensorAgree lo none none [hi] false
          else w

/-! ## Hand-on (Table 1-5) -/

/-- Some threshold of a channel changed its settled state. -/
def settledChanged (old new : List Threshold) : Bool :=
  !decide (old.map (fun t => t.state.settled) = new.map (fun t => t.state.settled))

/-- What water watch hands on after an event at a channel, which was `old` before it; `rise` for a RISE event. The stage is
judged at every such event, so a RAIN WATCH or a SUMP_LEVEL HIGH that leaves ABOVE for FALLING(1) lapses there (R3, R15; read
by inference, log 37). -/
def Works.handOn (c : Nat) (old : Channel) (facts : Facts) (rise : Bool) (w : Works) : Works :=
  match w.water.channels[c]? with
  | none => w
  | some new =>
    let validityChanged := !decide (old.validity = new.validity)
    match new.kind with
    | .sumpLevel =>
      let w := if validityChanged || settledChanged old.thresholds new.thresholds then w.levelChanged c else w
      w.judgeStage facts false
    | .depth => w.recomputeDepth.judgeStage facts rise
    | .rain => w.judgeStage facts false
    | .luminance =>
      let valid := decide (new.validity = .valid)
      let w := if validityChanged then w.luminanceValidity c valid else w
      if valid then w.luminanceSample c new.value else w
    | .vehicles =>
      let was := old.roleState .occupied
      let is := new.roleState .occupied
      if validityChanged || !decide (was = is) then
        w.vehiclesChanged (decide (is.map ThState.settled = some .above) &&
          !decide (was.map ThState.settled = some .above))
      else w

/-- SAMPLE_ARRIVAL (R2): the sample is taken whole before the next. -/
def Works.sample (c v : Nat) (w : Works) : Works :=
  match w.water.channels[c]? with
  | none => w
  | some x =>
    let facts := w.facts
    let validity := x.validityAt v
    let valid := decide (validity = .valid)
    let w := w.updChannel c (fun x => { x with value := v, lastSample := some w.now, validity := validity })
    let w := w.recordValidity c x.validity validity v
    if valid then
      let w := each x.thresholds (Works.recordThreshold c v) (w.updChannel c (Channel.advance v))
      ((w.riseSample c v).comparePartner c).handOn c x facts (x.rises v)
    else w.handOn c x facts false

/-- What an analog input gives: without a reading, a sample beyond the range of the kind's unit (R185). -/
def Works.reading (t : UnitType) (img : List Byte) (k : Nat) (kind : ChannelKind) (w : Works) : Nat × Works :=
  match t.analog img k with
  | some v => (v, w)
  | none => (kind.top + 1 + Config.noReading w.draw.1, w.draw.2)

/-- One analog input of a response; without a channel it is discarded (R10). Of two channels that name the same input the
first in table order has the arrival (the model's choice, log 37). -/
def Works.analogItem (u : Nat) (t : UnitType) (img : List Byte) (k : Nat) (w : Works) : Works :=
  match posOf (fun (c : Channel) => c.unit == u && c.input == k) w.water.channels with
  | none => w
  | some c =>
    match w.water.channels[c]? with
    | none => w
    | some x =>
      let (v, w) := w.reading t img k x.kind
      w.sample c v

/-- The analog inputs of a response in input index order (R10). -/
def Works.analogArrival (u : Nat) (t : UnitType) (img : List Byte) (w : Works) : Works :=
  each (List.range t.analogs.1) (fun k w => w.analogItem u t img k) w

/-- CHANNEL_STALE (R2, R6, R8): the loss notice of a channel's unit. -/
def Works.channelLost (c : Nat) (w : Works) : Works :=
  match w.water.channels[c]? with
  | none => w
  | some x =>
    if x.validity = .stale then w else
      let facts := w.facts
      let w := w.updChannel c (fun x => (Channel.anchor none x).dropCounts)
      let w := w.updChannel c (fun x => { x with validity := .stale })
      (w.recordValidity c x.validity .stale x.value).handOn c x facts false

/-- The loss notice to every channel of a unit, one channel after another, each judged whole: the LUMINANCE channels last, the
others first, each group in index order (the model's choice, log 37). The selections of the LUMINANCE channels are at full ahead
of all, so that the first target steps computed in the event are those of all of them (R103, R106, R107). -/
def Works.channelsLost (u : Nat) (w : Works) : Works :=
  let l := (indexed 0 w.water.channels).filter (fun ic => ic.2.unit == u && !decide (ic.2.validity = .stale))
  let lums := l.filter (fun ic => decide (ic.2.kind = .luminance))
  let w := each lums (fun ic w => w.updChoices ic.1 (fun _ c => c.full)) w
  each (l.filter (fun ic => !decide (ic.2.kind = .luminance)) ++ lums) (fun ic w => w.channelLost ic.1) w

/-- RISE_WINDOW_EXPIRY (R8). -/
def Works.riseExpiry (c : Nat) (w : Works) : Works :=
  match w.water.channels[c]? with
  | none => w
  | some x =>
    match x.rise with
    | none => w
    | some r => match r.baseline with
      | none => w
      | some (_, t) =>
        if ranOut (some t) r.window w.now then
          w.updChannel c (Channel.anchor (if x.validity = .valid then some (x.value, w.now) else none))
        else w

end Sys2Proof.Machine
end

