-- ==== Sys2Proof/Machine/RollCall.lean ====
section
/-! DEFINITION. Changes of roster state with their notices (R135, R137), changes of station state (R172, R176), and the end of
the roll call (R144, R128, R175). -/

namespace Sys2Proof.Machine

open Sys2Proof

/-! ## Ends of requests (R143) -/

/-- The end of a pair reported to one requester. -/
def Works.reportPair (m : Motion) (e : PairEnd) (r : Requester) (w : Works) : Works :=
  match r.who with
  | .pumpStart i => w.startPairEnd i r.fate e
  | .barrierPair n => w.barrierPairEnd n m r.fate e
  | .gatePair n => w.gatePairEnd n m r.fate e
  | _ => w

/-- The end of a SET, HALT or DESELECT reported to one requester. -/
def Works.reportReq (value : Nat) (e : ReqEnd) (r : Requester) (w : Works) : Works :=
  match r.who with
  | .pumpHalt i => w.pumpHaltEnd i
  | .signalSet n => w.signalSetEnd n value e
  | .gateHalt n stop => w.gateHaltEnd n stop r.fate
  | .lampSet c => w.lampSetEnd c value r.fate e
  | _ => w

/-- The end of a queue entry reported to all its requesters. -/
def Works.reportEntry (q : QEntry) (pair : PairEnd) (req : ReqEnd) (w : Works) : Works :=
  match q.req with
  | .pair m => each q.requesters (Works.reportPair m pair) w
  | r => each q.requesters (Works.reportReq r.value req) w

/-! ## Notices of a roster change (R135) -/

/-- The switchboard unit of the site table in force. -/
def Works.isSwitchboard (w : Works) (u : Nat) : Bool := match w.station.site with
  | some s => s.supply.unit == u
  | none => false

/-- A unit became UNSEEN, LOST or RETIRED (R135). The sub-records of its portals become UNKNOWN, and the claims of the unit become
LOCAL after them (R74). The channels follow, and then the pump views and the floats (the model's choice, log 27). `stale` for LOST
and RETIRED, which turn channels STALE (R2). -/
def Works.unitGone (u : Nat) (stale : Bool) (w : Works) : Works :=
  let w := each (w.portalsOn u) Works.portalLost w
  let w := w.claimsLost u
  let w := if stale then w.channelsLost u else w
  let w := w.dewaterLost u
  if w.isSwitchboard u then w.switchboardLost else w

/-- Every request of a unit leaves the line queue and is reported removed (R137). -/
def Works.removeRequests (u : Nat) (w : Works) : Works :=
  let gone := w.line.queue.filter (fun q => q.unit == u)
  let w := w.setLineQueue (w.line.queue.filter (fun q => !(q.unit == u)))
  let w := each gone (fun q w => w.reportEntry q .removed .removed) w
  w.updRoster u (fun r => { r with retry := [], selection := .none })

/-- Causes of a UNIT record (Table 7-6). -/
inductive UnitCause where
  | misses | goodResponse | rollCall | retire | restore
  deriving DecidableEq, Repr

def UnitCause.code : UnitCause → Nat
  | .misses => 1 | .goodResponse => 2 | .rollCall => 3 | .retire => 4 | .restore => 5

/-- The UNIT record of a change of roster state, from the entry as it stands after it. -/
def Works.recordUnit (u : Nat) (old : RosterState) (cause : UnitCause) (w : Works) : Works :=
  match w.rosterEntry u with
  | none => w
  | some r =>
    w.record .unit u (some old.code) (some r.state.code) [r.type.code, r.missCount, LineError.code r.lastError, cause.code]
      (decide (r.state = .lost))

/-! ## Station state (R172, R176) -/

/-- Causes of a STATION record. -/
inductive StationCause where
  | storeValid | storeNotValid | loadSite | autorunSet | autorunClear | run | hold
  deriving DecidableEq, Repr

def StationCause.code : StationCause → Nat
  | .storeValid => 1 | .storeNotValid => 2 | .loadSite => 3 | .autorunSet => 4 | .autorunClear => 5 | .run => 6 | .hold => 7

def Works.setStation (s : Station) (w : Works) : Works := { w with station := s }

/-- A change of station state: STATION record, then the image (R172). `third` and `fourth` are its last two details. -/
def Works.enterState (new : StationState) (cause : StationCause) (third fourth : Nat) (w : Works) : Works :=
  let old := w.station.state
  let second := if old = .loading then (if w.station.powerOn then 1 else 2) else 0
  ((w.setStation { w.station with state := new }).record .station 0 (some old.code) (some new.code)
    [cause.code, second, third, fourth] (decide (new = .unset))).wantImage

/-- What the jobs do as the station enters RUNNING (R176). -/
def Works.jobsRun (w : Works) : Works := ((w.portalRun 0).portalRun 1).serveAll

/-- What the jobs do as the station enters HELD (R176). -/
def Works.jobsHold (w : Works) : Works := ((w.portalHold 0).portalHold 1).serveAll

/-! ## Poll rounds (R138) -/

/-- A round starts. Until its first poll the address last polled is 0 (the model's choice, log 8). -/
def Works.startRound (w : Works) : Works :=
  w.setLine { w.line with round := { w.line.round with start := w.now, lastAddr := 0, inProgress := true } }

/-! ## The end of the roll call -/

/-- The roll call decides a unit: PRESENT if heard, LOST otherwise (R144). -/
def Works.decideUnit (r : RosterEntry) (w : Works) : Works :=
  let w := w.updRoster r.address (fun r => { r with state := if r.heard then .present else .lost })
  let w := w.recordUnit r.address r.state .rollCall
  if r.heard then w else w.unitGone r.address true

/-- A portal under PANEL whose unit answered is reconstructed too (R94, R128; log 33), from its sub-records as they stand where
the answer had ERROR set (the model's choice, log 29). -/
def Works.reconstructPanel (images : Nat → Option (List Byte)) (n : Nat) (w : Works) : Works :=
  if w.claimOf (.portal n) = .panel ∧ (w.portal n).closure = .unknown then
    match images (w.portal n).unit with
    | some i => ((w.takeBarrier n i).takeGate n i).reconstruct n
    | none => w.reconstruct n
  else w

/-- Notices that the supply budget takes within the end of the roll call: adoptions and the classes that go with them. -/
def ofReconciliation : Instr → Bool
  | .adoptionNotice _ _ => true
  | .classNotice _ _ => true
  | _ => false

/-- One of them, without the judgement of the budget state. -/
def Works.takeOfReconciliation (i : Instr) (w : Works) : Works :=
  match i with
  | .adoptionNotice g p => w.adoptUnjudged g p
  | .classNotice g c => w.classUnjudged g c
  | _ => w

/-- The adoptions reach the supply budget within the event, all of them before it judges its state (R45, R128, R175). -/
def Works.takeAdoptions (w : Works) : Works :=
  (each (w.notices.filter ofReconciliation) Works.takeOfReconciliation
    { w with notices := w.notices.filter (fun i => !ofReconciliation i) }).judgeBudget

/-- The reconciliation at the end of the roll call (R128, R144). The units are decided by ascending address, the record and the
loss notices of each before those of the next (the model's choice, log 33). -/
def Works.rollCallReconcile (w : Works) : Works :=
  let roster := sortBy RosterEntry.address w.line.roster
  let heard := roster.filter RosterEntry.heard
  let images : Nat → Option (List Byte) := fun u => (heard.find? (fun r => r.address == u)).bind RosterEntry.held
  let w := each roster Works.decideUnit w
  let w := w.setLine { w.line with roster := w.line.roster.map (fun r => { r with heard := false, held := none }) }
  let w := each heard (fun r w => match r.held with
    | some i => w.floatItems r.address r.type i
    | none => w) w
  let w := w.reconcile (heard.map RosterEntry.address) .rollCall images
  let w := ((w.reconstructPanel images 0).reconstructPanel images 1).runReports
  w.takeAdoptions

/-- The LOAD SITE that brought the table completes (R177). -/
def Works.completeLoad (w : Works) : Works :=
  match w.station.load with
  | none => w
  | some l =>
    let records := match w.station.site with
      | some s => s.records
      | none => 0
    (w.setStation { w.station with load := none }).complete l.slot Status.doneOk 0 0
      [l.result, records, w.station.state.code]

/-- The end of the roll call up to what the jobs do (R175 steps 1 to 5). -/
def Works.rollCallDecide (w : Works) : Works :=
  let autorun := match w.station.site with
    | some s => s.autorun
    | none => false
  let w := w.rollCallReconcile.stageFromPortals
  let w := if autorun then w.enterState .running .autorunSet 0 absent16 else w.enterState .held .autorunClear 0 absent16
  let w := w.judgeStanding.runReports
  (if autorun then w.jobsRun else w.jobsHold).runReports

/-- The last steps of the end of the roll call (R175 steps 6 and 7). -/
def Works.rollCallFinish (w : Works) : Works := w.completeLoad.startRound

end Sys2Proof.Machine
end

