-- ==== Sys2Proof/Machine/DropLine.lean ====
section
/-! DEFINITION. The drop line (chapter 7): frames, the receiver, exchanges and their ends, the roll call's polls, the line
arbiter, select-before-operate, poll rounds, and what the unit orders do. -/

namespace Sys2Proof.Machine

open Sys2Proof

/-! ## Frames (R130, R184, R185) -/

/-- The sync byte (R184). -/
def syncByte : Byte := 0xC3

/-- The address of a BROADCAST (R130). -/
def broadcastAddress : Nat := 31

/-- Mode codes: ADDRESSED 1, BROADCAST 2, SELECTED 3 (R184). -/
def modeCode (unit : Nat) (c : LineCmd) : Nat :=
  if unit = broadcastAddress then 2
  else match c with
    | .operate => 3
    | _ => 1

/-- A request frame: sync, mode, address, command, length, parameters, check with its most significant byte first. -/
def requestFrame (unit : Nat) (c : LineCmd) (params : List Nat) : List Byte :=
  let body := ([modeCode unit c, unit, c.code, params.length] ++ params).map (BitVec.ofNat 8)
  let check := crc16 body
  syncByte :: body ++ [check.extractLsb' 8 8, check.extractLsb' 0 8]

/-- Bytes that a response frame in progress calls for: head, data, check; `none` before its length byte is in. -/
def frameLength (f : List Byte) : Option Nat :=
  if 5 ≤ f.length then some (imgByte f 4 + 7) else none

/-- A frame is complete when it holds as many bytes as its length field calls for (R130). -/
def frameComplete (f : List Byte) : Bool := match frameLength f with
  | some n => decide (n ≤ f.length)
  | none => false

/-- The check of a completed frame is right (R185). -/
def checkRight (f : List Byte) : Bool :=
  let n := imgByte f 4 + 5
  let check := crc16 ((f.drop 1).take (n - 1))
  f.getD n 0 == check.extractLsb' 8 8 && f.getD (n + 1) 0 == check.extractLsb' 0 8

/-- Data of a completed frame. -/
def frameData (f : List Byte) : List Byte := (f.drop 5).take (imgByte f 4)

/-- Status flags of a response (R184). -/
structure Status4 where
  error : Bool
  isLocal : Bool
  panel : Bool
  restarted : Bool
  deriving DecidableEq, Repr

def statusOf (b : Nat) : Status4 :=
  { error := bitAt b 0, isLocal := bitAt b 1, panel := bitAt b 2, restarted := bitAt b 3 }

/-- How an exchange ends (R134). -/
inductive ExEnd where
  | good (status : Status4) (data : List Byte)
  | miss (e : LineError)
  deriving DecidableEq, Repr

/-! ## Exchanges -/

/-- The first byte of a request goes on the line. -/
def Works.startExchange (k : ExKind) (unit : Nat) (c : LineCmd) (params : List Nat) (w : Works) : Works :=
  w.setLine { w.line with exchange := some { kind := k, unit := unit, cmd := c, frame := requestFrame unit c params,
                                             awaiting := false, windowStart := 0, discard := false } }

/-- Parameters of a queued request in a frame (R184). -/
def QEntry.params (e : QEntry) : List Nat :=
  match e.req with
  | .halt => [e.output]
  | .pair m => [e.output, m.code]
  | .set v => [e.output, v]
  | .deselect => []

/-! ## Interlock (R82, R142) -/

/-- The interlock condition of a pair holds: DEPLOY wants the barrier DOWN, RAISE the gate STOWED. -/
def Works.interlockHolds (e : QEntry) (w : Works) : Bool :=
  e.requesters.all (fun r =>
    match e.req, r.who with
    | .pair .deploy, .gatePair n => decide ((w.portal n).barrier.state = .down)
    | .pair .raise, .barrierPair n => decide ((w.portal n).gate.state = .stowed)
    | _, _ => true)

/-- Selection state of a unit (R142). -/
def Works.setSelection (u : Nat) (s : Selection) (w : Works) : Works := w.updRoster u (fun r => { r with selection := s })

/-- The head of the queue is sent; a pair whose condition fails ends WITHHELD (R142). The Bool says whether the line is now
taken. -/
def Works.sendHead (e : QEntry) (rest : List QEntry) (w : Works) : Bool × Works :=
  let w := w.setLineQueue rest
  match e.req with
  | .pair _ =>
    if w.interlockHolds e then
      (true, (w.setSelection e.unit .selecting).startExchange (.selectOf e) e.unit .select e.params)
    else (false, w.reportEntry e .withheld .removed)
  | r => (true, w.startExchange (.single e) e.unit r.cmd e.params)

/-! ## Rounds (R138) -/

/-- The unit of the least address above another that is not RETIRED. -/
def nextPoll (roster : List RosterEntry) (above : Nat) : Option Nat :=
  ((sortBy RosterEntry.address roster).find? (fun r =>
    decide (above < r.address) && !decide (r.state = .retired))).map RosterEntry.address

/-- A poll of the round is on the line. -/
def Line.polling (l : Line) : Bool := match l.exchange with
  | some x => decide (x.kind = .poll)
  | none => false

/-- The round in progress has no unit left to poll, and no poll of it is on the line. -/
def Line.roundOver (l : Line) : Bool := l.round.inProgress && !l.polling && (nextPoll l.roster l.round.lastAddr).isNone

/-- A round ends. -/
def Works.endRound (w : Works) : Works :=
  let r := w.line.round
  (w.setLine { w.line with round := { r with number := r.number + 1, inProgress := false } }).wantImage

/-- A round with no unit left to poll ends. -/
def Works.endIfOver (w : Works) : Works := if w.line.roundOver then w.endRound else w

/-- A round whose last poll has ended ends, and the next starts at once if its time has come; a round that finds no unit to
poll ends at its start. -/
def Works.judgeRound (w : Works) : Works :=
  if w.line.roundOver then
    let w := w.endRound
    if elapsed w.line.round.start (w.siteTime Site.roundPeriod) w.now then w.startRound.endIfOver else w
  else w

/-- POLL_ROUND_START (R138). -/
def Works.pollRoundStart (w : Works) : Works :=
  let r := w.line.round
  if w.stageRuns && !r.inProgress && elapsed r.start (w.siteTime Site.roundPeriod) w.now then w.startRound else w

/-! ## The roll call's polls (R144) -/

/-- The unit that the roll call polls next. -/
def nextRollCall (roster : List RosterEntry) : Option Nat :=
  ((sortBy RosterEntry.address roster).find? (fun r =>
    !r.heard && decide (r.missCount < r.missLimit))).map RosterEntry.address

/-! ## The arbiter (R141) -/

/-- The roll call is over: the broadcast is out, no unit is left to poll, and the line is free (R144). -/
def Works.rollCallOver (w : Works) : Bool :=
  decide (w.station.state = .rollCall) && w.line.exchange.isNone && !w.line.broadcastDue &&
    (nextRollCall w.line.roster).isNone

/-- One choice on a free line; `none` where there is nothing to send. -/
def Works.choose (w : Works) : Option Works :=
  match w.station.state with
  | .loading => none
  | .unset => none
  | .rollCall =>
    if w.line.broadcastDue then
      some ((w.setLine { w.line with broadcastDue := false }).startExchange .broadcast broadcastAddress .deselect [])
    else match nextRollCall w.line.roster with
      | some u => some (w.startExchange .rollPoll u .poll [])
      | none => none
  | _ =>
    match w.line.selected with
    | some e =>
      some (((w.setLine { w.line with selected := none }).setSelection e.unit .operating).startExchange (.operateOf e)
        e.unit .operate e.params)
    | none =>
      match w.line.queue with
      | e :: rest => some (w.sendHead e rest).2
      | [] =>
        match w.line.round.inProgress, nextPoll w.line.roster w.line.round.lastAddr with
        | true, some u =>
          some ((w.setLine { w.line with round := { w.line.round with lastAddr := u } }).startExchange .poll u .poll [])
        | _, _ => none

/-- An exchange or a pair of a unit is under way (R147). -/
def Works.busy (w : Works) (u : Nat) : Bool :=
  (match w.line.exchange with
    | some x => x.unit == u
    | none => false) ||
  (match w.line.selected with
    | some e => e.unit == u
    | none => false)

/-- The retirement of a unit (R147). -/
def Works.retireUnit (slot u : Nat) (w : Works) : Works :=
  match w.rosterEntry u with
  | none => w
  | some r =>
    if r.state = .retired then w.complete slot Status.doneOk 0 0 [r.state.code] else
    let w := w.updRoster u (fun r => { r with state := .retired })
    let w := ((w.recordUnit u r.state .retire).unitGone u true).removeRequests u
    w.complete slot Status.doneOk 0 0 [r.state.code]

/-- ACTIVE UNIT RETIRE orders whose unit has come free (R147). -/
def Works.judgeRetire (w : Works) : Works :=
  w.completeAll (fun a => decide (a.code = .unitRetire)) (fun a w =>
    if w.busy a.subject then w else w.retireUnit a.slot a.subject)

/-- The ends of displaced requests that had been given up, each without execution (R140, R143). -/
def Works.endDisplaced (w : Works) : Works :=
  each w.line.displaced (fun q w => w.reportEntry q .removed .removed) (w.setLine { w.line with displaced := [] })

/-- Portal reports and ends of displaced requests follow one another until neither is left; an event displaces fewer than 64
requests. -/
def drainLoop : Nat → Works → Works
  | 0, w => w.runReports
  | n + 1, w =>
    let w := w.runReports
    if w.line.displaced.isEmpty then w else drainLoop n w.endDisplaced

/-- What the line's choices wait for: portal reports and the ends of displaced requests (log 9). -/
def Works.drain (w : Works) : Works := drainLoop 64 w

/-- Choices follow one another until the line is taken or nothing is left to send; a choice that takes no place on the line
ends a pair, and 64 are more than the queue allows. -/
def arbitrateLoop : Nat → Works → Works
  | 0, w => w
  | n + 1, w =>
    let w := w.drain.judgeRound
    if w.line.exchange.isSome then w
    else match w.choose with
      | some w => arbitrateLoop n w
      | none => w

/-- What ends every event but the roll call's last: waiting retirements, then portal reports, the ends of displaced requests
and the line arbiter (log 9). -/
def Works.settle (w : Works) : Works := arbitrateLoop 64 w.judgeRetire

/-! ## Request and receiver (R130, R134) -/

/-- REQUEST_TRANSMITTED (R134). -/
def Works.requestTransmitted (w : Works) : Works :=
  match w.line.exchange with
  | none => w
  | some x =>
    if x.awaiting then w
    else if x.unit = broadcastAddress then w.setLine { w.line with exchange := none }
    else w.setLine { w.line with exchange := some { x with awaiting := true, windowStart := w.now },
                                 rx := { frame := [], lastByte := w.now, gapSeen := false } }

/-- A response is awaited. -/
def Line.awaits (l : Line) : Bool := match l.exchange with
  | some x => x.awaiting
  | none => false

/-- The frame in progress is discarded by the gap rule (R130). -/
def Receiver.gap (r : Receiver) : Receiver := { r with frame := [], gapSeen := true }

/-- More than 2 ms have passed since the last byte of a frame in progress. -/
def Receiver.overGap (r : Receiver) (now : Nat) : Bool :=
  !r.frame.isEmpty && !frameComplete r.frame && decide (r.lastByte + 2 < now)

/-- The receiver takes a byte. -/
def Receiver.take (b : Byte) (now : Nat) (r : Receiver) : Receiver :=
  let r := if r.overGap now then r.gap else r
  if r.frame.isEmpty then (if b = syncByte then { r with frame := [b], lastByte := now } else r)
  else { r with frame := r.frame ++ [b], lastByte := now }

/-- RESPONSE_BYTE_RECEIVED (R130). -/
def Works.byteReceived (b : Byte) (w : Works) : Works :=
  if w.line.awaits && !frameComplete w.line.rx.frame then
    let rx := w.line.rx.take b w.now
    let w := w.setLine { w.line with rx := rx }
    if frameComplete rx.frame then w.send .responseFrameComplete else w
  else w

/-- FRAME_GAP_TIMEOUT (R130). -/
def Works.gapTimeout (w : Works) : Works :=
  let r := w.line.rx
  if w.line.awaits && !r.frame.isEmpty && !frameComplete r.frame && decide (r.lastByte + 2 ≤ w.now) then
    w.setLine { w.line with rx := r.gap }
  else w

/-! ## Judgement of a frame (R134) -/

/-- The type of a unit in the roster. -/
def Works.unitType (w : Works) (u : Nat) : UnitType := match w.rosterEntry u with
  | some r => r.type
  | none => .sensor

/-- How a completed frame ends the exchange. A frame with a right check in answer to a POLL that has another address or command
echo, and a wrong data length too, is a WRONG_ADDRESS miss (the model's choice, log 31). -/
def Works.judgeFrame (x : Exchange) (f : List Byte) (w : Works) : ExEnd :=
  if !checkRight f then .miss .check
  else if !(imgByte f 2 == x.unit && imgByte f 3 == x.cmd.code) then .miss .wrongAddress
  else if decide (x.cmd = .poll) && !(imgByte f 4 == (w.unitType x.unit).imageLength) then .miss .check
  else .good (statusOf (imgByte f 1)) (frameData f)

/-- The line error of a unit, with a LINE_ERROR record where the field was absent (R134). -/
def Works.lineError (x : Exchange) (e : LineError) (state : RosterState) (w : Works) : Works :=
  match w.rosterEntry x.unit with
  | none => w
  | some r =>
    let w := w.updRoster x.unit (fun r => { r with lastError := some e })
    if r.lastError.isSome then w
    else w.record .lineError x.unit none none
      [LineError.code (some e), LineError.unitCode (some e), x.cmd.code, state.code] false

/-- The error code of a response with ERROR set; without a data byte a free value (log 22). -/
def Works.errorCode (data : List Byte) (w : Works) : Nat × Works :=
  match data with
  | b :: _ => (b.toNat, w)
  | [] => ((Config.missingErrorCode w.draw.1).toNat, w.draw.2)

/-! ## Hand-on of a good response (R136) -/

/-- The inputs of a POLL image to the blocks that name them. -/
def Works.handInputs (u : Nat) (t : UnitType) (img : List Byte) (w : Works) : Works :=
  let w := w.analogArrival u t img
  let w := match t with
    | .pumpRoom => w.dewaterArrival u t img
    | .sensor => w.floatItems u t img
    | _ => w
  let w := match t with
    | .portal => each (w.portalsOn u) (fun n (w : Works) => w.portalArrival n img) w
    | .lamp => w.lampArrival u img
    | _ => w
  if w.isSwitchboard u then w.switchboardArrival img else w

/-- Retry notices to the jobs of a unit's retry list (R140). -/
def Works.retryNotices (u : Nat) (w : Works) : Works :=
  match w.rosterEntry u with
  | none => w
  | some r =>
    each r.retry (fun b w => match b with
      | .dewatering => w.dewaterRetry u
      | .portals => each (w.portalsOn u) Works.portalRetry w
      | .lighting => w.lightingRetry u
      | _ => w) (w.updRoster u (fun r => { r with retry := [] }))

/-- A DESELECT after a missed SELECT or OPERATE, while the unit is PRESENT or SUSPECT (R142). -/
def Works.deselect (u : Nat) (w : Works) : Works :=
  if (w.unitState u).inHand then (w.request .deselect u 0 .lineItself).2 else w

/-- The end of the exchange's request, reported to its requester (R142, R143). -/
def Works.reportEnd (k : ExKind) (u : Nat) (good : Option (Option Nat)) (w : Works) : Works :=
  let reqEnd : ReqEnd := match good with
    | none => .missed
    | some none => .acknowledged
    | some (some c) => .refused c
  match k with
  | .single e => w.reportEntry e .missed reqEnd
  | .selectOf e =>
    match good with
    | some none => (w.setSelection u .selected).setLine
        { (w.setSelection u .selected).line with selected := some e }
    | some (some c) => (w.setSelection u .none).reportEntry e (.refused c) reqEnd
    | none => ((w.setSelection u .none).reportEntry e .missed reqEnd).deselect u
  | .operateOf e =>
    match good with
    | some none => (w.setSelection u .none).reportEntry e (.executed true) reqEnd
    | some (some c) => (w.setSelection u .none).reportEntry e (.refused c) reqEnd
    | none => ((w.setSelection u .none).reportEntry e (.executed false) reqEnd).deselect u
  | .poll => w
  | .rollPoll => w
  | .broadcast => w

/-- The line is free: the exchange taken off it, with what it served as its requesters now stand. -/
def Works.freeLine (k : ExKind) (w : Works) : ExKind × Works :=
  let now := match w.line.exchange with
    | some x => x.kind
    | none => k
  (now, w.setLine { w.line with exchange := none, rx := { w.line.rx with frame := [] } })

/-! ## Ends of ordinary exchanges (R135, R136) -/

/-- The claim table at a good response (R121, R126, R127). The PANEL flag of a POLL response with ERROR set counts as that of a
response to another command (the model's choice, log 31). -/
def Works.claimsResponse (x : Exchange) (t : UnitType) (was : RosterState) (st : Status4) (img : Option (List Byte))
    (w : Works) : Works :=
  let u := x.unit
  let images : Nat → Option (List Byte) := fun v => if v = u then img else none
  let w := match img with
    | some i => w.pollKeys u t i
    | none => if st.panel then w.flagKeys u else w
  if !was.inHand then w.reconcile [u] .unitJoined images
  else if st.restarted then w.forceReconcile u .restartReport images
  else if st.isLocal then w.forceReconcile u .localReport images
  else w.judgeKeys u images

/-- A good response (R136). -/
def Works.goodResponse (x : Exchange) (st : Status4) (data : List Byte) (w : Works) : Works :=
  match w.rosterEntry x.unit with
  | none => (w.freeLine x.kind).2
  | some r =>
    let u := x.unit
    let isPoll := decide (x.cmd = .poll)
    let img := if isPoll && !st.error then some data else none
    let (code, w) := if st.error then (let (c, w) := w.errorCode data; (some c, w)) else (none, w)
    let w := match code with
      | some c => w.lineError x (.unitError c) .present
      | none => w
    let w := w.updRoster u (fun r => { r with state := .present, missCount := 0, lastGood := some w.now })
    let w := if r.state.inHand then w else w.recordUnit u r.state .goodResponse
    let w := w.claimsResponse x r.type r.state st img
    let w := match img with
      | some i => w.handInputs u r.type i
      | none => w
    let (k, w) := w.freeLine x.kind
    let w := w.reportEnd k u (some code)
    if isPoll then w.retryNotices u else w

/-- The roster state after a miss (Table 7-4). -/
def RosterEntry.afterMiss (r : RosterEntry) : RosterEntry :=
  match r.state with
  | .present =>
    if 1 < r.missLimit then { r with state := .suspect, missCount := 1 } else { r with state := .lost, missCount := 1 }
  | .lost => r
  | .retired => r
  | _ => if r.missCount + 1 < r.missLimit then { r with missCount := r.missCount + 1 }
    else { r with state := .lost, missCount := r.missLimit }

/-- A miss (R135, R137). -/
def Works.missed (x : Exchange) (e : LineError) (w : Works) : Works :=
  match w.rosterEntry x.unit with
  | none => (w.freeLine x.kind).2
  | some r =>
    let u := x.unit
    let n := r.afterMiss
    let w := w.lineError x e n.state
    let w := w.updRoster u RosterEntry.afterMiss
    let lost := decide (n.state = .lost) && !decide (r.state = .lost)
    let w := if lost then ((w.recordUnit u r.state .misses).unitGone u true).removeRequests u else w
    let (k, w) := w.freeLine x.kind
    w.reportEnd k u none

/-! ## Responses of the roll call (R144) -/

/-- A good response in the roll call. With ERROR set it hands on no image, and its PANEL flag sets key views as in
`claimsResponse` (the model's choice, log 31). -/
def Works.rollGood (x : Exchange) (st : Status4) (data : List Byte) (w : Works) : Works :=
  match w.rosterEntry x.unit with
  | none => (w.freeLine x.kind).2
  | some r =>
    let u := x.unit
    let w := if st.error then
        let (c, w) := w.errorCode data
        w.lineError x (.unitError c) r.state
      else w
    let w := w.updRoster u (fun r => { r with heard := true, missCount := 0, lastGood := some w.now,
                                              held := if st.error then none else some data })
    let w := if st.error then (if st.panel then w.flagKeys u else w) else
      let w := (w.pollKeys u r.type data).analogArrival u r.type data
      if w.isSwitchboard u then w.switchboardArrival data else w
    (w.freeLine x.kind).2

/-- A miss in the roll call. -/
def Works.rollMissed (x : Exchange) (e : LineError) (w : Works) : Works :=
  match w.rosterEntry x.unit with
  | none => (w.freeLine x.kind).2
  | some r =>
    let w := w.lineError x e r.state
    let w := w.updRoster x.unit (fun r => { r with missCount := r.missCount + 1 })
    (w.freeLine x.kind).2

/-! ## The two ends -/

/-- An exchange ends; a result that a LOAD SITE has overtaken is discarded (R145). -/
def Works.endExchange (x : Exchange) (e : ExEnd) (w : Works) : Works :=
  if x.discard then (w.freeLine x.kind).2
  else match x.kind, e with
    | .rollPoll, .good st data => w.rollGood x st data
    | .rollPoll, .miss k => w.rollMissed x k
    | .broadcast, _ => (w.freeLine x.kind).2
    | _, .good st data => w.goodResponse x st data
    | _, .miss k => w.missed x k

/-- RESPONSE_FRAME_COMPLETE (R134). -/
def Works.responseComplete (w : Works) : Works :=
  match w.line.exchange with
  | none => w
  | some x =>
    if x.awaiting && frameComplete w.line.rx.frame then w.endExchange x (w.judgeFrame x w.line.rx.frame) else w

/-- RESPONSE_WINDOW_EXPIRY (R134). -/
def Works.windowExpired (w : Works) : Works :=
  match w.line.exchange with
  | none => w
  | some x =>
    if x.awaiting && !frameComplete w.line.rx.frame && elapsed x.windowStart 25 w.now then
      w.endExchange x (.miss (if w.line.rx.gapSeen then .gap else .timeout))
    else w

/-! ## Unit orders (R146 to R148) -/

/-- UNIT RETIRE (R147). -/
def Works.unitRetireOrder (o : Order) (w : Works) : Works :=
  match w.rosterEntry o.subject with
  | none => w
  | some r =>
    let st := w.water.stage.stage
    let closing := decide (st = .alert) || decide (st = .closed) || decide (st = .draining)
    if decide (r.type = .portal) && closing then o.finish Status.refusedStage st.code 0 [r.state.code] w
    else if r.state = .retired then o.finish Status.doneOk 0 0 [r.state.code] w
    else w.hold (o.active 0)

/-- UNIT RESTORE (R148). -/
def Works.unitRestoreOrder (o : Order) (w : Works) : Works :=
  match w.rosterEntry o.subject with
  | none => w
  | some r =>
    if r.state ≠ .retired then o.finish Status.failed 1 r.state.code [r.state.code] w
    else
      let w := w.updRoster o.subject (fun r =>
        { r with state := .unseen, missCount := 0, lastError := none, retry := [] })
      let w := (w.recordUnit o.subject r.state .restore).unitGone o.subject false
      o.finish Status.doneOk 0 0 [r.state.code] w

end Sys2Proof.Machine
end

