-- ==== Sys2Proof/WellFormed.lean ====
section
/-! DEFINITION. Which commands are well formed: their operands lie in the ranges the spec gives them. The meanings are
total on the others too. -/

namespace Sys2Proof

/-- Offsets of the three further views of the flag page (Table 8-1). -/
def viewBase : Nat := 0x8000

/-- First address after the take view; the registers begin here (Table 8-1). -/
def registerBase : Nat := 0x8300

/-- The registers end here; what lies above is unmapped (Table 8-1). -/
def unmappedBase : Nat := 0x8310

/-- An order slot (R156). -/
def slotOk (k : Nat) : Bool := decide (k < 32)

/-- A word of the flag page (R151). -/
def flagIndexOk (w : Nat) : Bool := decide (w < 64)

/-- An index of the grant table (R29). -/
def entryOk (g : Nat) : Bool := decide (g < 33)

/-- A power in 0.1 kVA (Table 0-3). -/
def powerOk (p : Nat) : Bool := decide (p < 65536)

/-- A priority class (Table 2-4). -/
def classOk (c : Nat) : Bool := decide (c < 4)

/-- A register write without behaviour of its own (R154), or a write to the unmapped addresses (R150). -/
def discardedWriteOk (a : Nat) (w : Width) (d : Word) : Bool :=
  decide (registerBase ≤ a) &&
    (decide (unmappedBase ≤ a) ||
      match w with
      | .word => !((a == 0x8308) || (a == 0x8304 && d.toNat % 256 == 1))
      | .byte => true
      | .half => true)

/-- A narrow access that R151 refuses: in the set, clear and take views, or in words 0 to 7 of the plain view. -/
def narrowRefused (a : Nat) : Bool :=
  decide (a < 32) || (decide (viewBase ≤ a) && decide (a < registerBase))

/-- A store that R150 takes as plain: outside the flag page, or a narrow one to its words 8 to 63. -/
def plainStoreOk (a : Nat) (w : Width) : Bool :=
  decide (a < viewBase) &&
    match w with
    | .word => decide (256 ≤ a)
    | .byte => decide (32 ≤ a)
    | .half => decide (32 ≤ a)

/-- Ranges of a journal record (R181). -/
def JournalRec.ok (r : JournalRec) : Bool := decide (r.subject < 65536) && decide (r.details.length ≤ 4)

/-- Ranges of a completion (R160, R161, R180). -/
def Completion.ok (c : Completion) : Bool :=
  slotOk c.slot && decide (c.status ≤ 12) && decide (c.detail < 65536) && decide (c.results.length ≤ 6)

/-- What a row is found to hold is a row of 64 bytes (R170). -/
def rowOk : Option (List Byte) → Bool
  | none => true
  | some bs => bs.length == 64

/-- Well formed commands. -/
def Instr.wellFormed : Instr → Bool
  | .powerOnReset => true
  | .partReset d => d.toNat % 256 == 1
  | .pstatWrite _ => true
  | .registerWriteDiscarded a w d => discardedWriteOk a.toNat w d
  | .flagPlainWrite w _ => flagIndexOk w
  | .flagSetViewWrite w _ => flagIndexOk w
  | .flagClearViewWrite w _ => flagIndexOk w
  | .flagTakeViewRead w => flagIndexOk w
  | .takeViewWrite w _ => flagIndexOk w
  | .narrowViewAccess a _ _ => narrowRefused a.toNat
  | .orderArrival => true
  | .orderCompletion c => c.ok
  | .journalAppend r => r.ok
  | .imageRewriteRequest => true
  | .imageRewriteEnd => true
  | .declareClosure k => slotOk k
  | .standDown k => slotOk k
  | .rebaseChannel k => slotOk k
  | .pumpRun k => slotOk k
  | .pumpStop k => slotOk k
  | .pumpAuto k => slotOk k
  | .pumpClear k => slotOk k
  | .pumpService k => slotOk k
  | .leadSet k => slotOk k
  | .portalReopen k => slotOk k
  | .confirmClear k => slotOk k
  | .portalReset k => slotOk k
  | .zoneSet k => slotOk k
  | .zoneAuto k => slotOk k
  | .unitRetire k => slotOk k
  | .unitRestore k => slotOk k
  | .loadSite k => slotOk k
  | .run k => slotOk k
  | .hold k => slotOk k
  | .siteStoreJudgement => true
  | .storeRowProgrammed r => rowOk r
  | .requestTransmitted => true
  | .responseFrameComplete => true
  | .responseWindowExpiry => true
  | .frameGapTimeout => true
  | .riseWindowExpiry c => decide (c < 24)
  | .watchDwellExpiry => true
  | .reopenDwellExpiry => true
  | .loadRequest g c p => entryOk g && classOk c && powerOk p
  | .loadRelease g => entryOk g
  | .loadShrink g p => entryOk g && powerOk p
  | .loadWithdrawal g => entryOk g
  | .classNotice g c => entryOk g && classOk c
  | .energisedNotice g => entryOk g
  | .inrushWindowExpiry g => entryOk g
  | .adoptionNotice g p => entryOk g && powerOk p
  | .shedFailure g => entryOk g
  | .pumpGrantNotice p => decide (p < 8)
  | .startConfirmExpiry p => decide (p < 8)
  | .stopConfirmExpiry p => decide (p < 8)
  | .pumpRestExpiry p => decide (p < 8)
  | .pumpShedRequest p => decide (p < 8)
  | .warnTimeExpiry n => decide (n < 2)
  | .barrierTravelExpiry n => decide (n < 2)
  | .clearDwellExpiry => true
  | .clearLimitExpiry n => decide (n < 2)
  | .gateGrantNotice n => decide (n < 2)
  | .gateTravelExpiry n => decide (n < 2)
  | .obstructionDwellExpiry n => decide (n < 2)
  | .lampGrantNotice c p => decide (c < 24) && powerOk p
  | .lampShedRequest c => decide (c < 24)
  | .pollRoundStart => true
  | .plainMemoryWrite a w _ => plainStoreOk a.toNat w
  | .responseByteReceived _ => true

end Sys2Proof
end

