-- ==== Sys2Proof/Machine/Flags.lean ====
section
/-! DEFINITION. The common memory port (sections 8.1 to 8.3): flag words and their four views, registers, attention, plain
stores, what a read returns, and the meanings of these accesses. -/

namespace Sys2Proof.Machine

open Sys2Proof

/-! ## Flag words (R153) -/

def posted : Nat := 0
def done : Nat := 1
def withdraw : Nat := 2
def notify : Nat := 3
def attn : Nat := 4
def attnMask : Nat := 5
def journalCount : Nat := 6
def imageGen : Nat := 7

/-- A flag word. -/
def Port.flag (p : Port) (w : Nat) : Word := Memory.readWord p.mem (4 * w)

/-- Change of a flag word; there are 64 (R151). -/
def Port.setFlag (w : Nat) (v : Word) (p : Port) : Port :=
  if w < 64 then { p with mem := Memory.writeWord p.mem (4 * w) v } else p

/-- Bits of ATTN set (R155). -/
def Port.raise (bits : Word) (p : Port) : Port := p.setFlag attn (p.flag attn ||| bits)

/-- ATTN bits (R180). -/
def attnJournal : Word := 0x01
def attnStage : Word := 0x02
def attnFault : Word := 0x04
def attnSupply : Word := 0x08
def attnStation : Word := 0x10
def attnMisuse : Word := 0x20
def attnLine : Word := 0x40

/-! ## PSTAT: each setting also sets MISUSE (R151, R153, R157) -/

def Port.viewForm (p : Port) : Port := { p with pstat := { p.pstat with viewForm := true } }.raise attnMisuse

def Port.ownedWord (p : Port) : Port := { p with pstat := { p.pstat with ownedWord := true } }.raise attnMisuse

def Port.repost (p : Port) : Port := { p with pstat := { p.pstat with repost := true } }.raise attnMisuse

/-- PSTAT as read (R180). -/
def Pstat.word (s : Pstat) : Word :=
  BitVec.ofNat 32 (flag s.viewForm + 2 * flag s.ownedWord + 4 * flag s.repost)

/-- PSTAT after a word write: each bit written as 1 is cleared (R154). -/
def Pstat.clear (d : Word) (s : Pstat) : Pstat :=
  { viewForm := s.viewForm && !d.getLsbD 0, ownedWord := s.ownedWord && !d.getLsbD 1,
    repost := s.repost && !d.getLsbD 2 }

/-! ## Word accesses of the views (R151, R153) -/

/-- The two words that only the part writes (Table 8-3). -/
def partsOwn (w : Nat) : Bool := w == journalCount || w == imageGen

/-- Plain write. -/
def Port.plainWrite (w : Nat) (d : Word) (p : Port) : Port :=
  if partsOwn w then p.ownedWord
  else if w = done then
    let old := p.flag done
    let p := p.setFlag done (old &&& d)
    if d &&& ~~~old = 0 then p else p.ownedWord
  else p.setFlag w d

/-- Write through the set view. -/
def Port.setWrite (w : Nat) (d : Word) (p : Port) : Port :=
  if partsOwn w || w == done then p.ownedWord else p.setFlag w (p.flag w ||| d)

/-- Write through the clear view. -/
def Port.clearWrite (w : Nat) (d : Word) (p : Port) : Port :=
  if partsOwn w then p.ownedWord else p.setFlag w (p.flag w &&& ~~~d)

/-- Read through the take view. -/
def Port.takeRead (w : Nat) (p : Port) : Port :=
  let p := { p with readData := p.flag w }
  if partsOwn w then p.ownedWord else p.setFlag w 0

/-- A write to POSTED or WITHDRAW through any view is an arrival at the order reader (R151). -/
def arrivalAt (w : Nat) (s : State) : State :=
  if w = posted ∨ w = withdraw then { s with works := s.works.send .orderArrival } else s

/-- A write access to a flag word. -/
def flagWrite (w : Nat) (f : Port → Port) (s : State) : Host.Outcome State Fault Refusal :=
  .next (arrivalAt w { s with port := f s.port })

/-- FLAG_PLAIN_WRITE (R153). -/
def execFlagPlainWrite (w : Nat) (d : Word) (s : State) : Host.Outcome State Fault Refusal :=
  flagWrite w (Port.plainWrite w d) s

/-- FLAG_SET_VIEW_WRITE (R151). -/
def execFlagSetViewWrite (w : Nat) (d : Word) (s : State) : Host.Outcome State Fault Refusal :=
  flagWrite w (Port.setWrite w d) s

/-- FLAG_CLEAR_VIEW_WRITE (R151). -/
def execFlagClearViewWrite (w : Nat) (d : Word) (s : State) : Host.Outcome State Fault Refusal :=
  flagWrite w (Port.clearWrite w d) s

/-- FLAG_TAKE_VIEW_READ (R151): no arrival. -/
def execFlagTakeViewRead (w : Nat) (s : State) : Host.Outcome State Fault Refusal := onPort (Port.takeRead w) s

/-- Write through the take view; "every write" to the part's own words also sets OWNED_WORD (R153). -/
def Port.takeWrite (w : Nat) (p : Port) : Port := if partsOwn w then p.viewForm.ownedWord else p.viewForm

/-- TAKE_VIEW_WRITE (R151): the data is discarded; to POSTED or WITHDRAW it is an arrival all the same. -/
def execTakeViewWrite (w : Nat) (_d : Word) (s : State) : Host.Outcome State Fault Refusal :=
  flagWrite w (Port.takeWrite w) s

/-! ## Narrow accesses (R151) -/

/-- A refused narrow access: a write is discarded, a read returns 0. -/
def Port.narrow (isWrite : Bool) (p : Port) : Port := (if isWrite then p else { p with readData := 0 }).viewForm

/-- NARROW_VIEW_ACCESS (R151). -/
def execNarrowViewAccess (a : Half) (_half isWrite : Bool) (s : State) : Host.Outcome State Fault Refusal :=
  if narrowRefused a.toNat then
    match (windowOf a.toNat).flagIndex with
    | some w => if isWrite then flagWrite w (Port.narrow true) s else onPort (Port.narrow false) s
    | none => onPort (Port.narrow isWrite) s
  else .next s

/-! ## Plain stores (R150) -/

/-- The bytes of an access, least significant first (R179). -/
def accessBytes (w : Width) (d : Word) : List Byte := (wordBytes d).take (widthBytes w)

/-- A plain store; it never reaches words 0 to 7 of the flag page nor leaves common memory. -/
def Port.store (a : Nat) (w : Width) (d : Word) (p : Port) : Port :=
  { p with mem := Memory.writeWithin 32 viewBase p.mem a (accessBytes w d) }

/-- PLAIN_MEMORY_WRITE (R150). -/
def execPlainMemoryWrite (a : Half) (w : Width) (d : Word) (s : State) : Host.Outcome State Fault Refusal :=
  onPort (Port.store a.toNat w d) s

/-! ## Registers (R154) -/

/-- PSTAT_WRITE (R154). -/
def execPstatWrite (d : Word) (s : State) : Host.Outcome State Fault Refusal :=
  onPort (fun p => { p with pstat := p.pstat.clear d }) s

/-- A narrow write into the registers. -/
def narrowRegister (a : Nat) : Width → Bool
  | .word => false
  | .byte => decide (registerBase ≤ a) && decide (a < unmappedBase)
  | .half => decide (registerBase ≤ a) && decide (a < unmappedBase)

/-- REGISTER_WRITE_DISCARDED (R154, and R150 for the unmapped addresses). -/
def execRegisterWriteDiscarded (a : Half) (w : Width) (_d : Word) (s : State) : Host.Outcome State Fault Refusal :=
  if narrowRegister a.toNat w then onPort Port.viewForm s else .next s

/-! ## What the station computer sees -/

/-- A register as read (Table 10-2): IDENT, RUNCTL, PSTAT, CLOCK. -/
def State.register (s : State) : Nat → Word
  | 0 => (0x0420 : Half) ++ Config.revision
  | 1 => BitVec.ofNat 32 s.works.station.state.code
  | 2 => s.port.pstat.word
  | 3 => clock s.works.now
  | _ => 0

/-- A word read that changes nothing: plain, set and clear views, registers, unmapped addresses (R150, R151, R154). The
value that a take view read returns stands in `readData`. -/
def State.busRead (s : State) (a : Nat) : Word :=
  match windowOf a with
  | .plainFlag w => s.port.flag w
  | .plain => Memory.readWord s.port.mem a
  | .setView w => s.port.flag w
  | .clearView w => s.port.flag w
  | .takeView w => s.port.flag w
  | .register n => s.register n
  | .unmapped => 0

/-- A byte read that is not refused: plain memory from word 8 on, registers, unmapped addresses. -/
def State.busReadByte (s : State) (a : Nat) : Byte :=
  match windowOf a with
  | .register n => (s.register n).extractLsb' (8 * (a % 4)) 8
  | .unmapped => 0
  | _ => Memory.read s.port.mem a

/-- The attention output (R155). Bits 7 to 31 of ATTN have no cause and mask nothing (R180). -/
def Port.attention (p : Port) : Bool :=
  !(p.flag done &&& p.flag notify == 0) || !(p.flag attn &&& p.flag attnMask &&& 0x7F == 0)

end Sys2Proof.Machine
end

