-- ==== Sys2Proof/Machine/OrderReader.lean ====
section
/-! DEFINITION. The order reader (section 8.4): arrivals, checks, routing, withdrawals, completions, and how an owner takes an
order up; and what ends the event of a block. -/

namespace Sys2Proof.Machine

open Sys2Proof

/-! ## Held mask and working list (R156) -/

/-- The bit of a slot in a word of 32. -/
def slotBit (k : Nat) : Word := BitVec.ofNat 32 (2 ^ k)

def Port.isHeld (k : Nat) (p : Port) : Bool := p.held.getLsbD k

def Port.entry (k : Nat) (p : Port) : Option Entry := p.working.find? (fun e => e.slot == k)

/-- Change of the entry of a slot. -/
def Port.updEntry (k : Nat) (f : Entry → Entry) (p : Port) : Port :=
  { p with working := p.working.map (fun e => if e.slot = k then f e else e) }

/-! ## Completion (R160) -/

/-- Words 22 to 31 of a slot (Table 10-3). -/
def resultWords (now : Nat) (e : Entry) (c : Completion) : List Word :=
  let r := fun n => BitVec.ofNat 32 (c.results.getD n 0)
  [BitVec.ofNat 16 c.detail ++ BitVec.ofNat 16 c.status, BitVec.ofNat 32 c.second, stamp now,
    r 0, r 1, r 2, r 3, r 4, r 5, BitVec.ofNat 16 e.tag ++ BitVec.ofNat 16 e.codeField]

/-- The one act that gives a slot back: held bit, entry, DONE bit (R160). -/
def Port.release (k : Nat) (p : Port) : Port :=
  { p with held := p.held &&& ~~~(slotBit k),
           working := p.working.filter (fun e => !(e.slot == k)) }.setFlag done (p.flag done ||| slotBit k)

/-- A completion is taken; without an entry it is discarded (R160). -/
def Port.complete (now : Nat) (c : Completion) (p : Port) : Port :=
  match p.entry c.slot with
  | none => p
  | some e =>
    { p with mem := Memory.writeWords p.mem (slotBase c.slot + 88) (resultWords now e c) }.release c.slot

/-- The order reader completes an order itself (R158, R159). -/
def completeSlot (k status detail second : Nat) (s : State) : State :=
  { s with port := s.port.complete s.works.now { slot := k, status, detail, second, results := [] } }

/-- ORDER_COMPLETION (R160). -/
def execOrderCompletion (c : Completion) (s : State) : Host.Outcome State Fault Refusal :=
  onPort (Port.complete s.works.now c) s

/-! ## Subjects (R158) -/

/-- The subject of an order exists in the site table in force, which the records of the blocks mirror. -/
def Works.subjectExists (w : Works) (c : OrderCode) (subject : Nat) : Bool :=
  match c with
  | .declareClosure => subject == 0
  | .standDown => subject == 0
  | .rebaseChannel => decide (subject < w.water.channels.length)
  | .pumpRun => decide (subject < w.dewater.pumps.length)
  | .pumpStop => decide (subject < w.dewater.pumps.length)
  | .pumpAuto => decide (subject < w.dewater.pumps.length)
  | .pumpClear => decide (subject < w.dewater.pumps.length)
  | .pumpService => decide (subject < w.dewater.pumps.length)
  | .leadSet => decide (subject < w.dewater.pumps.length)
  | .portalReopen => decide (subject < 2)
  | .confirmClear => subject == 0
  | .portalReset => decide (subject < 2)
  | .zoneSet => decide (subject < w.lights.zones.length)
  | .zoneAuto => decide (subject < w.lights.zones.length)
  | .unitRetire => w.line.roster.any (fun r => r.address == subject)
  | .unitRestore => w.line.roster.any (fun r => r.address == subject)
  | .loadSite => subject == 0
  | .run => subject == 0
  | .hold => subject == 0

/-- An order of station control. -/
def OrderCode.ofStation (c : OrderCode) : Bool := decide (c.owner = .stationControl)

/-! ## Checks and routing (R158) -/

/-- An order is routed: orders of station control are taken up as they come, those of the others in HELD and RUNNING; in
LOADING and ROLL_CALL the latter wait (Table 9-4). -/
def route (k : Nat) (c : OrderCode) (s : State) : State :=
  if c.ofStation || s.works.stageRuns then { s with works := s.works.send (c.takeUp k) } else s

/-- The subject check of a new entry. BAD_SUBJECT, like every completion for which the rules name no second detail, holds 0 in
word 23 (the model's choice, log 17). -/
def checkSubject (k : Nat) (c : OrderCode) (subject : Nat) (s : State) : State :=
  if s.works.subjectExists c subject then
    route k c { s with port := s.port.updEntry k (fun e => { e with checked := true }) }
  else completeSlot k Status.badSubject subject 0 s

/-- The checks of a new entry in their order. -/
def checkEntry (e : Entry) (s : State) : State :=
  match e.order with
  | none => completeSlot e.slot Status.badOrder 1 e.codeField s
  | some c =>
    if e.countField ≠ c.params then completeSlot e.slot Status.badOrder 2 e.countField s
    else if e.flagsField ≠ 0 then completeSlot e.slot Status.badOrder 3 e.flagsField s
    else if c.ofStation then checkSubject e.slot c e.subject s
    else match s.works.station.state with
      | .unset => completeSlot e.slot Status.noSite 0 0 s
      | .loading => route e.slot c s
      | _ => checkSubject e.slot c e.subject s

/-! ## Taking (R157) -/

/-- Words 0 to 21 of a slot. -/
def snapshotOf (m : List Host.Cell) (k : Nat) : List Word :=
  (List.range 22).map (fun n => Memory.readWord m (slotBase k + 4 * n))

/-- The new entry of a slot. -/
def newEntry (k now : Nat) (m : List Host.Cell) : Entry :=
  { slot := k, snapshot := snapshotOf m k, standing := .waiting, taken := now, checked := false, takenUp := false }

/-- A slot is taken: entry and held bit in one act. -/
def takeSlot (k : Nat) (s : State) : State :=
  let e := newEntry k s.works.now s.port.mem
  checkEntry e { s with port := { s.port with working := s.port.working ++ [e], held := s.port.held ||| slotBit k } }

/-- A bit of POSTED is treated. -/
def treatPost (k : Nat) (s : State) : State :=
  if s.port.isHeld k then { s with port := s.port.repost }
  else if (s.port.flag done).getLsbD k then
    takeSlot k { s with port := s.port.setFlag done (s.port.flag done &&& ~~~(slotBit k)) }
  else takeSlot k s

/-! ## Withdrawal (R159) -/

/-- The owner's answer to the withdrawal of an order it holds ACTIVE (Table 8-5). -/
def Works.withdrawActive (a : Active) (w : Works) : Works :=
  let moving : Bool := match w.dewater.pumps[a.subject]? with
    | some p => decide (p.state = .starting) || decide (p.state = .stopping)
    | none => false
  match a.code with
  | .pumpRun => if moving then w.complete a.slot Status.withdrawn 1 0 [] else w
  | .pumpStop => if moving then w.complete a.slot Status.withdrawn 1 0 [] else w
  | .zoneSet => w.complete a.slot Status.withdrawn 1 0 []
  | _ => w

/-- The owner forgets an entry that it was handed. -/
def Works.forget (e : Entry) (w : Works) : Works :=
  match e.order with
  | some c => { w with notices := w.notices.filter (fun i => !decide (i = c.takeUp e.slot)) }
  | none => w

/-- A bit of WITHDRAW is treated. -/
def treatWithdraw (k : Nat) (s : State) : State :=
  match s.port.entry k with
  | none => s
  | some e =>
    match e.standing with
    | .waiting =>
      if e.takenUp then s
      else completeSlot k Status.withdrawn 0 0 { s with works := s.works.forget e }
    | .active =>
      match s.works.active.find? (fun a => a.slot == k) with
      | some a => { s with works := s.works.withdrawActive a }
      | none => s

/-! ## Arrival (R157, R159) -/

/-- The order reader's take of a word: the word, and the port with it zero. -/
def Port.take (w : Nat) (p : Port) : Word × Port := (p.flag w, p.setFlag w 0)

/-- The slots of a word in ascending order. -/
def slotsOf (w : Word) : List Nat := (List.range 32).filter w.getLsbD

/-- A word is taken and each of its bits treated. -/
def takeBits (w : Nat) (f : Nat → State → State) (s : State) : State :=
  each (slotsOf (s.port.take w).1) f { s with port := (s.port.take w).2 }

/-- ORDER_ARRIVAL (R157): POSTED, then WITHDRAW. -/
def execOrderArrival (s : State) : Host.Outcome State Fault Refusal :=
  .next (takeBits withdraw treatWithdraw (takeBits posted treatPost s))

/-! ## Orders as their owners carry them out -/

/-- What an order of a job or of the drop line does as its owner takes it up (Table 8-4). -/
def Works.carryOut (o : Order) (w : Works) : Works :=
  match o.code with
  | .declareClosure => w.declareOrder o
  | .standDown => w.standDownOrder o
  | .rebaseChannel => w.rebaseOrder o
  | .pumpRun => w.pumpRunOrder o
  | .pumpStop => w.pumpStopOrder o
  | .pumpAuto => w.pumpAutoOrder o
  | .pumpClear => w.pumpClearOrder o
  | .pumpService => w.pumpServiceOrder o
  | .leadSet => w.leadSetOrder o
  | .portalReopen => w.portalReopenOrder o
  | .confirmClear => w.confirmClearOrder o
  | .portalReset => w.portalResetOrder o
  | .zoneSet => w.zoneSetOrder o
  | .zoneAuto => w.zoneAutoOrder o
  | .unitRetire => w.unitRetireOrder o
  | .unitRestore => w.unitRestoreOrder o
  | .loadSite => w
  | .run => w
  | .hold => w

/-- The owner has taken the order of a slot up: the entry is ACTIVE if the owner now holds it. -/
def markTaken (k : Nat) (s : State) : State :=
  let active := s.works.active.any (fun a => a.slot == k)
  { s with port := s.port.updEntry k (fun e =>
      { e with takenUp := true, standing := if active then .active else .waiting }) }

/-! ## The end of the roll call (R175) -/

/-- An order that waited through the roll call is taken up within its end, with the reports it leads to and the retirement
of a unit that is free. -/
def takeWaiting (o : Order) (s : State) : State :=
  markTaken o.slot { s with works := (s.works.carryOut o).runReports.judgeRetire }

/-- ROLL_CALL_END (R175): the reconciliation and the stage, the jobs and the orders that waited, the LOAD SITE's completion,
the first round. -/
def endRollCall (s : State) : State :=
  let s := { s with works := s.works.rollCallDecide }
  let s := each (waitingJobOrders s.port.working) takeWaiting s
  { s with works := s.works.rollCallFinish.settle }

/-! ## The end of a block's event -/

/-- What ends the event of a block: waiting retirements, portal reports, the line arbiter (log 9); and the end of the roll
call, where nothing is left to poll (R144, R175). -/
def settleState (s : State) : State :=
  let n := { s with works := s.works.settle }
  if n.works.rollCallOver then endRollCall n else n

/-- The meaning of a command that is an event at a block outside the port. -/
def onJob (f : Works → Works) (s : State) : Host.Outcome State Fault Refusal :=
  .next (settleState { s with works := f s.works })

/-! ## Taking up (R158) -/

/-- The order that a take-up of a slot finds waiting there. -/
def State.waitingOrder (s : State) (k : Nat) (c : OrderCode) : Option Order :=
  match s.port.entry k with
  | some e => match e.waitingOrder with
    | some o => if o.code = c then some o else none
    | none => none
  | none => none

/-- An order of a job is taken up: judged in HELD and RUNNING, NO_SITE in UNSET, waiting on in LOADING and ROLL_CALL
(Table 9-4). -/
def takeUp (c : OrderCode) (f : Order → Works → Works) (k : Nat) (s : State) : Host.Outcome State Fault Refusal :=
  match s.waitingOrder k c with
  | none => .next s
  | some o =>
    match s.works.station.state with
    | .loading => .next s
    | .rollCall => .next s
    | .unset => .next (markTaken k { s with works := o.finish Status.noSite 0 0 [] s.works })
    | _ => .next (markTaken k (settleState { s with works := f o s.works }))

/-! ## Late checks and the entry to UNSET (R158, R173) -/

/-- The subject check of an entry routed unchecked in LOADING. -/
def lateCheck (e : Entry) (s : State) : State :=
  match e.order with
  | none => s
  | some c =>
    if s.works.subjectExists c e.subject then
      { s with port := s.port.updEntry e.slot (fun e => { e with checked := true }) }
    else completeSlot e.slot Status.badSubject e.subject 0 s

/-- Every unchecked entry is checked against the table that came into force. -/
def lateChecks (s : State) : State := each (s.port.working.filter (fun e => !e.checked)) lateCheck s

/-- The station entered UNSET: the owners complete what waited (R173). -/
def ordersUnset (s : State) : State :=
  each (waitingJobOrders s.port.working) (fun o s =>
    markTaken o.slot { s with works := o.finish Status.noSite 0 0 [] s.works }) s

end Sys2Proof.Machine
end

