-- ==== Sys2Proof/Machine/Events.lean ====
section
/-! DEFINITION. The meanings of line events, timer ends, and the notices to the dewatering, portal and lighting
controllers. -/

namespace Sys2Proof.Machine

open Sys2Proof

/-! ## Drop line -/

/-- REQUEST_TRANSMITTED (R134). -/
def execRequestTransmitted (s : State) : Host.Outcome State Fault Refusal := onJob Works.requestTransmitted s

/-- RESPONSE_BYTE_RECEIVED (R130). -/
def execResponseByteReceived (b : Byte) (s : State) : Host.Outcome State Fault Refusal := onWorks (Works.byteReceived b) s

/-- FRAME_GAP_TIMEOUT (R130). -/
def execFrameGapTimeout (s : State) : Host.Outcome State Fault Refusal := onWorks Works.gapTimeout s

/-- RESPONSE_FRAME_COMPLETE (R134). -/
def execResponseFrameComplete (s : State) : Host.Outcome State Fault Refusal := onJob Works.responseComplete s

/-- RESPONSE_WINDOW_EXPIRY (R134). -/
def execResponseWindowExpiry (s : State) : Host.Outcome State Fault Refusal := onJob Works.windowExpired s

/-- POLL_ROUND_START (R138). -/
def execPollRoundStart (s : State) : Host.Outcome State Fault Refusal := onJob Works.pollRoundStart s

/-! ## Water watch -/

/-- RISE_WINDOW_EXPIRY (R8). -/
def execRiseWindowExpiry (c : Nat) (s : State) : Host.Outcome State Fault Refusal := onWorks (Works.riseExpiry c) s

/-- WATCH_DWELL_EXPIRY (R15). -/
def execWatchDwellExpiry (s : State) : Host.Outcome State Fault Refusal := onJob Works.watchDwellExpiry s

/-- REOPEN_DWELL_EXPIRY (R17). -/
def execReopenDwellExpiry (s : State) : Host.Outcome State Fault Refusal := onJob Works.reopenDwellExpiry s

/-! ## Dewatering -/

/-- PUMP_GRANT_NOTICE (R54). -/
def execPumpGrantNotice (p : Nat) (s : State) : Host.Outcome State Fault Refusal := onJob (Works.pumpGranted p) s

/-- START_CONFIRM_EXPIRY (R56). -/
def execStartConfirmExpiry (p : Nat) (s : State) : Host.Outcome State Fault Refusal := onJob (Works.startConfirmExpiry p) s

/-- STOP_CONFIRM_EXPIRY (R57). -/
def execStopConfirmExpiry (p : Nat) (s : State) : Host.Outcome State Fault Refusal := onJob (Works.stopConfirmExpiry p) s

/-- PUMP_REST_EXPIRY (R59). -/
def execPumpRestExpiry (p : Nat) (s : State) : Host.Outcome State Fault Refusal := onJob (Works.pumpRestExpiry p) s

/-- PUMP_SHED_REQUEST (R63). -/
def execPumpShedRequest (p : Nat) (s : State) : Host.Outcome State Fault Refusal := onJob (Works.pumpShed p) s

/-! ## Portals -/

/-- WARN_TIME_EXPIRY (R77). -/
def execWarnTimeExpiry (n : Nat) (s : State) : Host.Outcome State Fault Refusal := onJob (Works.warnExpiry n) s

/-- BARRIER_TRAVEL_EXPIRY (R77). -/
def execBarrierTravelExpiry (n : Nat) (s : State) : Host.Outcome State Fault Refusal :=
  onJob (Works.barrierTravelExpiry n) s

/-- CLEAR_DWELL_EXPIRY (R78). -/
def execClearDwellExpiry (s : State) : Host.Outcome State Fault Refusal := onJob Works.clearDwellExpiry s

/-- CLEAR_LIMIT_EXPIRY (R79). -/
def execClearLimitExpiry (n : Nat) (s : State) : Host.Outcome State Fault Refusal := onJob (Works.clearLimitExpiry n) s

/-- GATE_GRANT_NOTICE (R81). -/
def execGateGrantNotice (n : Nat) (s : State) : Host.Outcome State Fault Refusal := onJob (Works.gateGranted n) s

/-- GATE_TRAVEL_EXPIRY (R81). -/
def execGateTravelExpiry (n : Nat) (s : State) : Host.Outcome State Fault Refusal := onJob (Works.gateTravelExpiry n) s

/-- OBSTRUCTION_DWELL_EXPIRY (R83). -/
def execObstructionDwellExpiry (n : Nat) (s : State) : Host.Outcome State Fault Refusal :=
  onJob (Works.obstructionDwellExpiry n) s

/-! ## Lighting -/

/-- LAMP_GRANT_NOTICE (R107). -/
def execLampGrantNotice (c power : Nat) (s : State) : Host.Outcome State Fault Refusal :=
  onJob (Works.lampGranted c power) s

/-- LAMP_SHED_REQUEST (R112). -/
def execLampShedRequest (c : Nat) (s : State) : Host.Outcome State Fault Refusal := onJob (Works.lampShed c) s

end Sys2Proof.Machine
end

