-- ==== Sys2Proof/Machine/Orders.lean ====
section
/-! DEFINITION. The meanings of the orders as the jobs and the drop line take them up. -/

namespace Sys2Proof.Machine

open Sys2Proof

/-- DECLARE_CLOSURE (R21). -/
def execDeclareClosure (k : Nat) (s : State) : Host.Outcome State Fault Refusal :=
  takeUp .declareClosure Works.declareOrder k s

/-- STAND_DOWN (R22). -/
def execStandDown (k : Nat) (s : State) : Host.Outcome State Fault Refusal := takeUp .standDown Works.standDownOrder k s

/-- REBASE_CHANNEL (R23). -/
def execRebaseChannel (k : Nat) (s : State) : Host.Outcome State Fault Refusal :=
  takeUp .rebaseChannel Works.rebaseOrder k s

/-- PUMP_RUN (R67). -/
def execPumpRun (k : Nat) (s : State) : Host.Outcome State Fault Refusal := takeUp .pumpRun Works.pumpRunOrder k s

/-- PUMP_STOP (R68). -/
def execPumpStop (k : Nat) (s : State) : Host.Outcome State Fault Refusal := takeUp .pumpStop Works.pumpStopOrder k s

/-- PUMP_AUTO (R69). -/
def execPumpAuto (k : Nat) (s : State) : Host.Outcome State Fault Refusal := takeUp .pumpAuto Works.pumpAutoOrder k s

/-- PUMP_CLEAR (R69). -/
def execPumpClear (k : Nat) (s : State) : Host.Outcome State Fault Refusal := takeUp .pumpClear Works.pumpClearOrder k s

/-- PUMP_SERVICE (R70). -/
def execPumpService (k : Nat) (s : State) : Host.Outcome State Fault Refusal :=
  takeUp .pumpService Works.pumpServiceOrder k s

/-- LEAD_SET (R70). -/
def execLeadSet (k : Nat) (s : State) : Host.Outcome State Fault Refusal := takeUp .leadSet Works.leadSetOrder k s

/-- PORTAL_REOPEN (R96). -/
def execPortalReopen (k : Nat) (s : State) : Host.Outcome State Fault Refusal :=
  takeUp .portalReopen Works.portalReopenOrder k s

/-- CONFIRM_CLEAR (R97). -/
def execConfirmClear (k : Nat) (s : State) : Host.Outcome State Fault Refusal :=
  takeUp .confirmClear Works.confirmClearOrder k s

/-- PORTAL_RESET (R98). -/
def execPortalReset (k : Nat) (s : State) : Host.Outcome State Fault Refusal :=
  takeUp .portalReset Works.portalResetOrder k s

/-- ZONE_SET (R115). -/
def execZoneSet (k : Nat) (s : State) : Host.Outcome State Fault Refusal := takeUp .zoneSet Works.zoneSetOrder k s

/-- ZONE_AUTO (R116). -/
def execZoneAuto (k : Nat) (s : State) : Host.Outcome State Fault Refusal := takeUp .zoneAuto Works.zoneAutoOrder k s

/-- UNIT_RETIRE (R147). -/
def execUnitRetire (k : Nat) (s : State) : Host.Outcome State Fault Refusal := takeUp .unitRetire Works.unitRetireOrder k s

/-- UNIT_RESTORE (R148). -/
def execUnitRestore (k : Nat) (s : State) : Host.Outcome State Fault Refusal :=
  takeUp .unitRestore Works.unitRestoreOrder k s

end Sys2Proof.Machine
end

