-- ==== Sys2Proof/Machine/Resets.lean ====
section
/-! DEFINITION. The two resets (section 8.7). -/

namespace Sys2Proof.Machine

open Sys2Proof

/-- Common memory with the flag page cleared (R167). -/
def clearFlagPage (m : List Host.Cell) : List Host.Cell := m.filter (fun c => decide (256 ≤ c.1))

/-- All blocks outside the port after a reset; free values drawn before it are not drawn again. -/
def Works.afterReset (powerOn : Bool) (w : Works) : Works := { Works.reset powerOn with fresh := w.fresh }

/-- POWER_ON_RESET (R166): the site store keeps its content. -/
def execPowerOnReset (s : State) : Host.Outcome State Fault Refusal :=
  .next { s with port := Port.reset, works := s.works.afterReset true }

/-- The state after a part reset (R167). -/
def partReset (s : State) : State :=
  { s with port := { Port.reset with mem := clearFlagPage s.port.mem }, works := s.works.afterReset false }

/-- PART_RESET (R167): a word write to RUNCTL resets the part where its RESET field holds 1 (R154). -/
def execPartReset (d : Word) (s : State) : Host.Outcome State Fault Refusal :=
  if d.toNat % 256 = 1 then .next (partReset s) else .next s

end Sys2Proof.Machine
end

