-- ==== Sys2Proof/Machine/Journal.lean ====
section
/-! DEFINITION. The journal writer (section 8.5). -/

namespace Sys2Proof.Machine

open Sys2Proof

/-- A none from-state or to-state (R179). -/
def stateField (s : Option Nat) : Half := BitVec.ofNat 16 (s.getD absent16)

/-- ATTN bits that the kind of a record calls for (R155). -/
def attnOfKind : JournalKind → Word
  | .stage => attnStage
  | .supply => attnSupply | .budget => attnSupply | .shed => attnSupply | .adopt => attnSupply
  | .station => attnStation
  | .unit => attnLine | .lineError => attnLine | .lineQueueFull => attnLine
  | _ => 0

/-- ATTN bits set with a record (R155, R162). -/
def attnOf (r : JournalRec) : Word := attnJournal ||| attnOfKind r.kind ||| (if r.fault then attnFault else 0)

/-- Detail of a record, 0 where unused (R162). -/
def detail (r : JournalRec) (n : Nat) : Word := BitVec.ofNat 32 (r.details.getD n 0)

/-- The words of a record (Table 10-5). -/
def recordWords (n t : Word) (r : JournalRec) : List Word :=
  [n, t, BitVec.ofNat 16 r.subject ++ BitVec.ofNat 16 r.kind.code, stateField r.toState ++ stateField r.fromState,
    detail r 0, detail r 1, detail r 2, detail r 3]

/-- Position of a record in common memory (R163, Table 8-2). -/
def journalBase (n : Word) : Nat := 0x2000 + 32 * (n.toNat % 256)

/-- One append (R162). -/
def Port.append (now : Nat) (r : JournalRec) (p : Port) : Port :=
  let p := { p with mem := Memory.writeWords p.mem (journalBase p.count) (recordWords p.count (stamp now) r) }
  (({ p with count := p.count + 1 }).setFlag journalCount (p.count + 1)).raise (attnOf r)

/-- JOURNAL_APPEND (R162). -/
def execJournalAppend (r : JournalRec) (s : State) : Host.Outcome State Fault Refusal :=
  onPort (Port.append s.works.now r) s

end Sys2Proof.Machine
end

