-- ==== Sys2Proof/Machine/Image.lean ====
section
/-! DEFINITION. The image publisher (section 8.6) and the layout of the status image (R182). -/

namespace Sys2Proof.Machine

open Sys2Proof

/-! ## Elements (R179, R182) -/

/-- A field: its width in bytes and its value. -/
abbrev Field := Nat × Nat

def b8 (v : Nat) : Field := (1, v)
def h16 (v : Nat) : Field := (2, v)
def w32 (v : Nat) : Field := (4, v)

def fl (b : Bool) : Field := b8 (flag b)

/-- Optional fields: all ones where absent. -/
def ob8 (v : Option Nat) : Field := b8 (v.getD absent8)
def oh16 (v : Option Nat) : Field := h16 (v.getD absent16)

/-- A time that is always present, and an optional one. -/
def time32 (t : Nat) : Field := w32 (timeWord (some t))
def otime32 (t : Option Nat) : Field := w32 (timeWord t)

/-- Bytes of fields laid from an offset on: each at the next multiple of its width. -/
def layFrom : Nat → List Field → List Byte
  | _, [] => []
  | o, (n, v) :: fs =>
    let skip := (n - o % n) % n
    List.replicate skip 0 ++ leBytes n v ++ layFrom (o + skip + n) fs

/-- Bytes made up with zero, or cut, to a size. -/
def padTo (size : Nat) (l : List Byte) : List Byte := l.take size ++ List.replicate (size - l.length) 0

/-- One element of a size. -/
def element (size : Nat) (fs : List Field) : List Byte := padTo size (layFrom 0 fs)

/-- A count of places for elements; places without a record are zero. -/
def elements {α : Type} (count size : Nat) (f : α → List Field) (l : List α) : List Byte :=
  padTo (count * size) ((l.take count).flatMap (fun x => element size (f x)))

/-- Indexes in a fixed number of places, all ones where unused (log 36). -/
def places (n : Nat) (l : List Nat) : List Field := (List.range n).map (fun i => ob8 l[i]?)

/-! ## Sections (Table 10-7) -/

/-- Header: the time and the count are those of the start of the rewrite (R165). -/
def headerBytes (r : Rewrite) (w : Works) : List Byte :=
  element 16 [time32 r.time, w32 r.count.toNat, w32 w.line.round.number.toNat, w32 0]

def stationBytes (w : Works) : List Byte :=
  let (format, records) := match w.station.site with
    | some s => (s.format, s.records)
    | none => (0, 0)
  element 16 [b8 w.station.state.code, fl w.station.programming.isSome, h16 format, w32 records]

def stageBytes (w : Works) : List Byte :=
  let s := w.water.stage
  let g := w.water.governing
  element 32 [b8 s.stage.code, b8 s.cause.code, b8 s.north.code, b8 s.south.code, fl s.suppressed, fl g.isSome,
    ob8 (g.map GovDepth.channel), oh16 (g.map GovDepth.value), time32 s.entered, otime32 s.dwellStart]

def supplyFields (b : Budget) : List Field :=
  let s := b.supply
  [b8 s.source.code, ob8 (s.lastKnown.map Source.code), fl s.mains, fl s.generator, fl s.overload, b8 s.state.code,
    h16 s.capacity, w32 (grantedSum b), w32 s.sequence.toNat]

def grantFields (g : Grant) : List Field :=
  [b8 g.load.code, b8 g.cls, b8 g.state.code, fl g.adopted, b8 g.mark.code, h16 g.granted, h16 g.requested,
    oh16 (g.number.map (fun n => n.toNat % 65536))]

/-- The queue with the need of its head and the room left (R44). An empty queue shows all ones as the need (the model's choice,
log 36). -/
def queueFields (b : Budget) : List Field :=
  let need := match b.queue with
    | i :: _ => (b.grants[i]?).map Grant.need
    | [] => none
  [b8 b.queue.length, oh16 need, h16 (b.supply.capacity - grantedSum b)] ++ b.queue.map b8

def supplyBytes (w : Works) : List Byte :=
  element 32 (supplyFields w.budget) ++ elements 34 12 grantFields w.budget.grants ++ element 48 (queueFields w.budget)

def sumpFields (s : Sump) : List Field :=
  [fl s.storm, b8 s.demand, b8 s.able, b8 s.target, b8 s.lead, b8 s.cutout.state.code, b8 s.high.state.code,
    b8 s.list.length] ++ places 4 s.list ++ [b8 s.duty, b8 s.rotation.length] ++ places 4 s.rotation ++
  [b8 s.level, b8 s.cutout.unit, b8 s.cutout.input, b8 s.high.unit, b8 s.high.input]

def pumpFields (now : Nat) (p : Pump) : List Field :=
  [b8 p.state.code, b8 p.causeOrMark, ob8 (p.trip.map TripReason.code), fl p.out, b8 p.grant.code, b8 p.pair.code,
    b8 p.running.code, b8 p.overload.code, fl p.lapse, ob8 (p.intent.map Intent.code), b8 (p.recentStarts now),
    otime32 p.startTime, otime32 p.lastStop, w32 p.runSeconds]

def dewaterBytes (w : Works) : List Byte :=
  elements 2 32 sumpFields w.dewater.sumps ++ elements 8 40 (pumpFields w.now) w.dewater.pumps

/-- The timer starts in the order of Table 4-1: state timer, barrier travel, gate travel, obstruction dwell (log 36). -/
def portalFields (p : Portal) : List Field :=
  [b8 p.closure.code, ob8 (p.stall.map StallReason.code), ob8 (p.interrupted.map Closure.code), fl p.reopening,
    fl p.clearFault, b8 p.signals.wanted.code, b8 p.signals.shown.code, b8 p.barrier.state.code, b8 p.barrier.pair.code,
    b8 p.gate.state.code, b8 p.gate.pair.code, b8 p.gate.grant.code, h16 p.gate.position, fl p.gate.obstruction,
    b8 p.gate.attempts, h16 p.stallDetail, otime32 p.timer, otime32 p.barrier.travel, otime32 p.gate.travel,
    otime32 p.gate.dwellStart]

def interiorFields (i : Interior) : List Field :=
  [fl i.opened, fl i.clear, fl i.confirm.isSome, ob8 i.confirm, w32 i.episode.toNat, otime32 i.dwellStart]

def portalBytes (w : Works) : List Byte :=
  elements 2 64 portalFields [w.portals.north, w.portals.south] ++ element 32 (interiorFields w.portals.interior)

def zoneFields (z : Zone) : List Field :=
  [b8 z.mode.code, b8 z.target, ob8 z.current, ob8 z.ordered, ob8 z.minSafe, fl z.degraded, b8 z.circuits.length,
    ob8 (z.choice.map StepChoice.selected), ob8 (z.choice.map (fun c => c.dir.code)), ob8 (z.choice.map StepChoice.count),
    ob8 (z.choice.map StepChoice.bound)]

def circuitFields (c : Circuit) : List Field :=
  [b8 c.zone, b8 c.wanted, b8 c.drive, ob8 c.reported] ++ places 2 c.setList ++
  [b8 c.fault.code, fl c.shedHold, h16 c.granted, oh16 c.request, ob8 c.grant]

def dayFields (d : Day) : List Field :=
  [fl (decide (d.state.settled = .above)), b8 d.state.code, b8 d.state.count, ob8 d.decider]

/-- The day decision exists with the zone records (R100). -/
def zoneBytes (w : Works) : List Byte :=
  elements 6 32 zoneFields w.lights.zones ++ elements 24 16 circuitFields w.lights.circuits ++
  elements 1 16 dayFields (if w.lights.zones.isEmpty then [] else [w.lights.day])

def claimFields (c : Claim) : List Field :=
  [b8 c.value.code, b8 c.keyView.code, ob8 c.slot, b8 c.unit, b8 c.key, time32 c.changed]

def claimBytes (w : Works) : List Byte := elements 16 16 claimFields w.claims

def rosterFields (r : RosterEntry) : List Field :=
  let code := match r.lastError with
    | some (.unitError c) => some c
    | _ => none
  [b8 r.address, b8 r.type.code, b8 r.state.code, b8 r.missCount, b8 r.missLimit, b8 (LineError.code r.lastError),
    ob8 code, b8 r.selection.code, otime32 r.lastGood]

def queueEntryFields (now : Nat) (e : QEntry) : List Field :=
  [b8 e.req.cls, b8 e.unit, b8 e.req.cmd.code, b8 (if e.req.isDeselect then absent8 else e.output), b8 e.req.value,
    b8 e.block.code, h16 (min ((now - e.joined) / 10) 0xFFFF)]

def lineBytes (w : Works) : List Byte :=
  let r := w.line.round
  elements 16 16 rosterFields w.line.roster ++ elements 32 8 (queueEntryFields w.now) w.line.queue ++
  element 16 [w32 r.number.toNat, time32 r.start, b8 r.lastAddr, fl r.inProgress, fl w.line.fullEpisode]

def thresholdFields (t : Threshold) : List Field := [b8 t.role.code, b8 t.state.code, b8 t.state.count, b8 0]

/-- A channel: 16 bytes of its own, then six thresholds of 4 bytes. -/
def channelBytes (c : Channel) : List Byte :=
  let base := c.rise.bind Rise.baseline
  element 16 [h16 c.value, b8 (Validity.code c.validity), fl c.disagree, otime32 c.lastSample,
    oh16 (base.map Prod.fst), otime32 (base.map Prod.snd)] ++ elements 6 4 thresholdFields c.thresholds

def channelsBytes (w : Works) : List Byte := padTo 960 ((w.water.channels.take 24).flatMap channelBytes)

def workingFields (e : Entry) : List Field :=
  [b8 e.slot, b8 e.standing.code, b8 (match e.owner with
    | some o => o.code
    | none => 0), h16 e.codeField, time32 e.taken]

/-- The working list, and zero up to the end of the image area (R182). -/
def workingBytes (p : Port) : List Byte := elements 32 12 workingFields p.working ++ List.replicate 24 0

/-- The sections, numbered from 0 in the order of Table 8-7: offset and bytes. -/
def sectionBytes (n : Nat) (r : Rewrite) (s : State) : Nat × List Byte :=
  match n with
  | 0 => (0x1100, headerBytes r s.works)
  | 1 => (0x1110, stationBytes s.works)
  | 2 => (0x1120, stageBytes s.works)
  | 3 => (0x1140, supplyBytes s.works)
  | 4 => (0x1328, dewaterBytes s.works)
  | 5 => (0x14A8, portalBytes s.works)
  | 6 => (0x1548, zoneBytes s.works)
  | 7 => (0x1798, claimBytes s.works)
  | 8 => (0x1898, lineBytes s.works)
  | 9 => (0x1AA8, channelsBytes s.works)
  | _ => (0x1E68, workingBytes s.port)

/-! ## Bookkeeping tied to a rewrite (R164) -/

/-- The running seconds of every pump are added before the section that shows them (R61). -/
def Works.addAllRun (w : Works) : Works := each (List.range w.dewater.pumps.length) Works.addRun w

/-- The LINE_ERROR record of a unit is still on its way to the journal. -/
def Works.lineErrorOnWay (u : Nat) (w : Works) : Bool :=
  w.notices.any (fun i => match i with
    | .journalAppend r => decide (r.kind = .lineError) && r.subject == u
    | _ => false)

/-- Last line errors whose record has been written become absent (R134, R164). -/
def Works.dropLineErrors (w : Works) : Works :=
  w.setLine { w.line with roster := w.line.roster.map (fun r =>
    if w.lineErrorOnWay r.address then r else { r with lastError := none }) }

/-- The works as a section is written, and after it. -/
def Works.beforeSection (n : Nat) (w : Works) : Works := if n = 4 then w.addAllRun else w
def Works.afterSection (n : Nat) (w : Works) : Works := if n = 8 then w.dropLineErrors else w

/-! ## Rewrites (R164) -/

/-- The next section of the rewrite in progress is written. -/
def writeSection (s : State) : State :=
  match s.port.rewrite with
  | none => s
  | some r =>
    if r.done < 11 then
      let s := { s with works := s.works.beforeSection r.done }
      let (a, bytes) := sectionBytes r.done r s
      { s with port := { s.port with mem := Memory.writeBytes s.port.mem a bytes,
                                     rewrite := some { r with done := r.done + 1 } },
               works := s.works.afterSection r.done }
    else s

/-- IMAGE_GEN is incremented. -/
def Port.bumpImage (p : Port) : Port := p.setFlag imageGen (p.flag imageGen + 1)

/-- A number of sections that nothing fixes is written (log 23). -/
def someSections (s : State) : State :=
  times writeSection (min (Config.sectionsWritten s.works.draw.1) 11) { s with works := s.works.draw.2 }

/-- A rewrite begins. -/
def beginRewrite (s : State) : State :=
  let p := s.port.bumpImage
  someSections { s with port := { p with rewrite := some { done := 0, time := s.works.now, count := p.count } } }

/-- A request for a rewrite (R164). -/
def requestRewrite (s : State) : State :=
  match s.port.rewrite with
  | some _ => { s with port := { s.port with rewritePending := true } }
  | none => beginRewrite s

/-- The rewrite in progress ends: what is left of it is written, and a pending one begins (R164). -/
def endRewrite (s : State) : State :=
  match s.port.rewrite with
  | none => s
  | some _ =>
    let s := times writeSection 11 s
    let p := { s.port with rewrite := none, rewritePending := false }.bumpImage
    if s.port.rewritePending then beginRewrite { s with port := p } else { s with port := p }

/-- IMAGE_REWRITE_REQUEST (R164). -/
def execImageRewriteRequest (s : State) : Host.Outcome State Fault Refusal := .next (requestRewrite s)

/-- IMAGE_REWRITE_END (R164). -/
def execImageRewriteEnd (s : State) : Host.Outcome State Fault Refusal := .next (endRewrite s)

end Sys2Proof.Machine
end

