-- ==== Sys2Proof/Machine/Site.lean ====
section
/-! DEFINITION. The site table: its records (R183), the four passes of its validation (R169), and the table it gives. -/

namespace Sys2Proof.Machine

open Sys2Proof

/-! ## Records (R183) -/

/-- A record as found: kind code, length, halfword fields. -/
structure Raw where
  kind : Nat
  length : Nat
  fields : List Nat
  deriving DecidableEq, Repr

/-- Halfwords of bytes. -/
def halfwords : List Byte → List Nat
  | a :: b :: t => (a.toNat + 256 * b.toNat) :: halfwords t
  | _ => []

def byteAt (bs : List Byte) (n : Nat) : Nat := (bs.getD n 0).toNat

def halfAt (bs : List Byte) (n : Nat) : Nat := leValue ((bs.drop n).take 2)

def wordAt (bs : List Byte) (n : Nat) : Nat := leValue ((bs.drop n).take 4)

/-- The records of a number of bytes; `none` where the lengths do not add up to it. -/
def splitRecords : Nat → Nat → List Byte → Option (List Raw)
  | 0, _, _ => none
  | _ + 1, 0, _ => some []
  | fuel + 1, left, bs =>
    let n := halfAt bs 2
    if n < 4 ∨ left < n then none
    else (splitRecords fuel (left - n) (bs.drop n)).map
      ({ kind := byteAt bs 0, length := n, fields := halfwords ((bs.take n).drop 4) } :: ·)

def Raw.f (r : Raw) (n : Nat) : Nat := r.fields.getD n 0

/-- Record kind codes (Table 10-9). -/
def kStation : Nat := 1
def kUnit : Nat := 2
def kChannel : Nat := 3
def kThreshold : Nat := 4
def kSump : Nat := 5
def kPump : Nat := 6
def kPortal : Nat := 7
def kZone : Nat := 8
def kCircuit : Nat := 9
def kSupply : Nat := 10

/-- Length of a kind (Table 10-9). -/
def kindLength : Nat → Option Nat
  | 1 => some 16 | 2 => some 12 | 3 => some 24 | 4 => some 16 | 5 => some 24 | 6 => some 32 | 7 => some 36
  | 8 => some 48 | 9 => some 24 | 10 => some 20 | _ => none

/-- The records of a kind, in site table order. -/
def ofKind (k : Nat) (t : List Raw) : List Raw := t.filter (fun r => r.kind == k)

/-! ## Checks -/

/-- A check: whether it holds, and its reason code. -/
abbrev Check := Bool × Nat

/-- The first check that fails. -/
def firstFail : List Check → Option Nat
  | [] => none
  | (ok, c) :: cs => if ok then firstFail cs else some c

def within (v lo hi : Nat) : Bool := decide (lo ≤ v) && decide (v ≤ hi)

/-- Each of a list of fields within its range. -/
def ranges (r : Raw) (l : List (Nat × Nat × Nat)) : Bool := l.all (fun x => within (r.f x.1) x.2.1 x.2.2)

def noRef : Nat := 0xFFFF

/-! ## References -/

def hasUnit (t : List Raw) (a : Nat) : Bool := (ofKind kUnit t).any (fun r => r.f 0 == a)

/-- The type of the unit at an address, by the first record of that address (the model's choice, log 18). -/
def typeAt (t : List Raw) (a : Nat) : Option UnitType :=
  ((ofKind kUnit t).find? (fun r => r.f 0 == a)).bind (fun r => UnitType.ofCode (r.f 1))

def isType (t : List Raw) (a : Nat) (l : List UnitType) : Bool := match typeAt t a with
  | some u => l.contains u
  | none => false

def hasIndex (k : Nat) (t : List Raw) (i : Nat) : Bool := decide (i < (ofKind k t).length)

def channelRec (t : List Raw) (i : Nat) : Option Raw := (ofKind kChannel t)[i]?

def channelKindOf (t : List Raw) (i : Nat) : Option ChannelKind := (channelRec t i).bind (fun r => ChannelKind.ofCode (r.f 2))

/-- The thresholds of a channel. -/
def thresholdsOf (t : List Raw) (c : Nat) : List Raw := (ofKind kThreshold t).filter (fun r => r.f 0 == c)

/-- The level of the threshold of a role on a channel, by the first record of that role (the model's choice, log 18). -/
def roleLevel (t : List Raw) (c : Nat) (role : Role) : Option Nat :=
  ((thresholdsOf t c).find? (fun r => r.f 1 == role.code)).map (fun r => r.f 2)

/-! ## Indexes available per unit type (Table 10-11) -/

def UnitType.digitalCount : UnitType → Nat
  | .pumpRoom => 8 | .portal => 0 | .lamp => 0 | .sensor => 8 | .switchboard => 8

def UnitType.analogCount : UnitType → Nat
  | .pumpRoom => 4 | .portal => 4 | .lamp => 0 | .sensor => 8 | .switchboard => 0

def indexOk (t : List Raw) (a i : Nat) (count : UnitType → Nat) : Bool := match typeAt t a with
  | some u => decide (i < count u)
  | none => false

/-! ## Pass 3: each record (R169) -/

def checkStation (r : Raw) : List Check :=
  [(ranges r [(0, 100, 1000), (1, 1, 8), (2, 60, 7200), (3, 60, 3600), (4, 5, 120)], 6)]

def checkUnit (r : Raw) : List Check := [(ranges r [(0, 1, 30), (1, 1, 5), (2, 0, 8)], 6)]

/-- Low limit, high limit and the parts that may be absent, each within the range of the kind's unit (Table 0-3). -/
def channelRanges (r : Raw) : Bool :=
  (match ChannelKind.ofCode (r.f 2) with
    | some k => decide (r.f 4 ≤ k.top) && decide (r.f 6 ≤ k.top) && decide (r.f 7 ≤ k.top)
    | none => false) && decide (r.f 3 ≤ r.f 4) && decide (r.f 8 ≤ 3600) &&
  (!(r.f 5 == noRef) || r.f 6 == 0) && (!(r.f 8 == 0) || r.f 7 == 0)

/-- The partner names this channel, with the same tolerance and kind (R9). `i` is the channel's index. -/
def mirrored (t : List Raw) (i : Nat) (r : Raw) : Bool :=
  r.f 5 == noRef || (match channelRec t (r.f 5) with
    | some p => !(r.f 5 == i) && p.f 5 == i && p.f 6 == r.f 6 && p.f 2 == r.f 2
    | none => false)

def riseKind (k : Nat) : Bool := k == 1 || k == 2 || k == 3

def checkChannel (t : List Raw) (i : Nat) (r : Raw) : List Check :=
  [(channelRanges r, 6),
    (hasUnit t (r.f 0) && (r.f 5 == noRef || hasIndex kChannel t (r.f 5)), 7),
    (isType t (r.f 0) [.sensor, .pumpRoom, .portal], 8),
    (indexOk t (r.f 0) (r.f 1) UnitType.analogCount, 6),
    (mirrored t i r, 10),
    (r.f 8 == 0 || riseKind (r.f 2), 17)]

/-- Role, direction and level of a threshold against its channel (R3). -/
def thresholdFits (c r : Raw) : Bool :=
  (match ChannelKind.ofCode (c.f 2), Role.ofCode (r.f 1) with
    | some k, some role => k.allows role && (decide (role = .reopen) == (r.f 3 == 1))
    | _, _ => false) &&
  within (r.f 2) (c.f 3) (c.f 4) &&
  (if r.f 3 = 0 then decide (r.f 5 ≤ r.f 2) else decide (r.f 2 + r.f 5 ≤ c.f 4))

/-- Level and hysteresis lie in the range of the unit of the channel they name, if it resolves (Table 0-3). -/
def thresholdInUnit (t : List Raw) (r : Raw) : Bool := match channelKindOf t (r.f 0) with
  | some k => decide (r.f 2 ≤ k.top) && decide (r.f 5 ≤ k.top)
  | none => true

def checkThreshold (t : List Raw) (r : Raw) : List Check :=
  [(ranges r [(1, 1, 10), (3, 0, 1), (4, 1, 16)] && thresholdInUnit t r, 6),
    (hasIndex kChannel t (r.f 0), 7),
    ((match channelRec t (r.f 0) with
      | some c => thresholdFits c r
      | none => false), 9)]

/-- The pump indexes of a rotation; unused places are 0xFFFF, and one between used places is passed over (the model's choice,
log 18). -/
def rotationOf (r : Raw) : List Nat := [r.f 5, r.f 6, r.f 7, r.f 8].filter (fun i => !(i == noRef))

/-- STOP below START1 (R50). -/
def stopBelowStart (t : List Raw) (c : Nat) : Bool :=
  match roleLevel t c .stop, roleLevel t c .start1 with
  | some a, some b => decide (a < b)
  | _, _ => false

/-- A SUMP record (R169, R50). The level channel is judged ahead of the duty limit and the rotation (the model's choice,
log 18). -/
def checkSump (t : List Raw) (r : Raw) : List Check :=
  [(within (r.f 9) 1 4, 6),
    (hasIndex kChannel t (r.f 0) && hasUnit t (r.f 1) && hasUnit t (r.f 3) && (rotationOf r).all (hasIndex kPump t), 7),
    (isType t (r.f 1) [.pumpRoom, .sensor] && isType t (r.f 3) [.pumpRoom, .sensor], 8),
    (indexOk t (r.f 1) (r.f 2) UnitType.digitalCount && indexOk t (r.f 3) (r.f 4) UnitType.digitalCount, 6),
    (decide (channelKindOf t (r.f 0) = some .sumpLevel) && (roleLevel t (r.f 0) .stop).isSome &&
      (roleLevel t (r.f 0) .start1).isSome, 17),
    (stopBelowStart t (r.f 0), 9),
    (decide (1 ≤ (rotationOf r).length) && decide (r.f 9 ≤ (rotationOf r).length), 11)]

/-- A PUMP record (R169). A sump above 1 is out of range (6), where an impossible unit is a missing reference (7) (the model's
choice, log 18). -/
def checkPump (t : List Raw) (r : Raw) : List Check :=
  [(ranges r [(4, 0, 1), (5, 0, 1), (6, 2, 60), (7, 0, 3600), (8, 1, 30), (11, 1000, 30000)], 6),
    (hasUnit t (r.f 0) && hasIndex kSump t (r.f 4), 7),
    (isType t (r.f 0) [.pumpRoom], 8),
    (ranges r [(1, 0, 3), (2, 0, 3), (3, 0, 3), (12, 0, 3)], 6),
    (decide (r.f 9 ≤ r.f 10), 12)]

def checkPortal (t : List Raw) (r : Raw) : List Check :=
  [(ranges r [(0, 0, 1), (5, 10, 300), (6, 30, 1800), (7, 5, 60), (8, 10, 600), (9, 5, 60), (10, 1, 5),
      (13, 1000, 30000)], 6),
    (hasUnit t (r.f 1), 7),
    (isType t (r.f 1) [.portal], 8),
    (ranges r [(2, 0, 2), (3, 0, 2), (4, 0, 2), (14, 0, 0)], 6),
    (decide (r.f 11 ≤ r.f 12), 12)]

def isThresholdZone (z : Nat) : Bool := z == 0 || z == 2
def isTransitionZone (z : Nat) : Bool := z == 1 || z == 3

def boundariesOf (r : Raw) : List Nat := (List.range 7).map (fun i => r.f (8 + i))

/-- Strictly ascending, with every difference above a hysteresis. -/
def ascending (h : Nat) : List Nat → Bool
  | a :: b :: t => decide (a + h < b) && ascending h (b :: t)
  | _ => true

/-- Ranges of the step table of a threshold zone: boundaries, hysteresis and qualify count (R100). -/
def stepTableRanges (r : Raw) : Bool :=
  (boundariesOf r).all (fun b => decide (b ≤ 10000)) && decide (r.f 15 ≤ 10000) && within (r.f 16) 1 16

/-- The condition of a step table: ascending boundaries, and its hysteresis against them (R100). -/
def stepTableOk (r : Raw) : Bool := ascending (r.f 15) (boundariesOf r) && decide (r.f 15 ≤ r.f 8)

/-- Fields that do not apply are 0 (R179). -/
def zeroFields (r : Raw) (l : List Nat) : Bool := l.all (fun i => r.f i == 0)

/-- Ranges of a ZONE record by its zone index. -/
def zoneRanges (r : Raw) : Bool :=
  let z := r.f 0
  within z 0 5 && ranges r [(2, 0, 7), (3, 0, 7), (4, 0, 7), (5, 0, 7), (6, 0, 7)] &&
  (if isThresholdZone z then stepTableRanges r && zeroFields r [5, 6, 17] else zeroFields r (List.range' 7 10)) &&
  (if isTransitionZone z then within (r.f 17) 1 4 && zeroFields r [5, 6] else r.f 17 == 0) &&
  (if z = 4 then decide (r.f 18 ≤ 10000) && decide (r.f 19 ≤ 10000) && within (r.f 20) 1 16 else zeroFields r [18, 19, 20]) &&
  (!(z == 5) || zeroFields r [2, 3, 4])

/-- A ZONE record (R169, R100). Of its own conditions the kind of the luminance channel is judged ahead of the step table, whose
reason code is 6 (the model's choices, log 18). -/
def checkZone (t : List Raw) (r : Raw) : List Check :=
  let step := isThresholdZone (r.f 0)
  [(zoneRanges r, 6),
    (hasUnit t (r.f 1) && (!step || hasIndex kChannel t (r.f 7)), 7),
    (isType t (r.f 1) [.lamp], 8),
    (within (r.f 21) 0 3, 6),
    (!step || decide (channelKindOf t (r.f 7) = some .luminance), 17),
    (!step || stepTableOk r, 6)]

/-- Each power not below the one before it. -/
def rising : List Nat → Bool
  | a :: b :: t => decide (a ≤ b) && rising (b :: t)
  | _ => true

def powersOf (r : Raw) : List Nat := (List.range 8).map (fun i => r.f (2 + i))

/-- A CIRCUIT record (R169). A zone above 5 is out of range (6), where an impossible unit is a missing reference (7), and the
output is one of a LAMP unit's 8 whatever the type of the zone's unit, which the ZONE record is judged for (the model's choices,
log 18). -/
def checkCircuit (t : List Raw) (r : Raw) : List Check :=
  [(within (r.f 0) 0 5, 6),
    ((ofKind kZone t).any (fun z => z.f 0 == r.f 0), 7),
    (within (r.f 1) 0 7, 6),
    (r.f 2 == 0 && rising (powersOf r), 12)]

def checkSupply (t : List Raw) (r : Raw) : List Check :=
  [(within (r.f 7) 50 100, 6),
    (hasUnit t (r.f 0), 7),
    (isType t (r.f 0) [.switchboard], 8),
    (ranges r [(1, 0, 7), (2, 0, 7), (3, 0, 7)], 6),
    (decide (r.f 6 < r.f 4) && decide (r.f 6 < r.f 5), 12)]

/-- The checks of a record; `i` is its index within its kind. -/
def checkRecord (t : List Raw) (i : Nat) (r : Raw) : Option Nat :=
  firstFail ((decide (kindLength r.kind = some r.length), 5) :: (match r.kind with
    | 1 => checkStation r
    | 2 => checkUnit r
    | 3 => checkChannel t i r
    | 4 => checkThreshold t r
    | 5 => checkSump t r
    | 6 => checkPump t r
    | 7 => checkPortal t r
    | 8 => checkZone t r
    | 9 => checkCircuit t r
    | 10 => checkSupply t r
    | _ => []))

/-- Pass 3: reason and record index of the first record that fails. `before` are the records already passed. -/
def pass3 (t before : List Raw) : List Raw → Option (Nat × Nat)
  | [] => none
  | r :: rs =>
    match checkRecord t (ofKind r.kind before).length r with
    | some c => some (c, before.length)
    | none => pass3 t (before ++ [r]) rs

/-! ## Pass 4: the table as a whole (R169) -/

def distinct (l : List Nat) : Bool := decide l.Nodup

def countIn (k : Nat) (t : List Raw) (lo hi : Nat) : Bool := within (ofKind k t).length lo hi

/-- The counts of Table 9-1. -/
def countsOk (t : List Raw) : Bool :=
  countIn kStation t 1 1 && countIn kUnit t 1 16 && countIn kChannel t 1 24 && countIn kSump t 1 2 &&
  countIn kPump t 1 8 && countIn kPortal t 2 2 && countIn kZone t 6 6 && countIn kCircuit t 1 24 &&
  countIn kSupply t 1 1 &&
  (List.range (ofKind kChannel t).length).all (fun c => decide ((thresholdsOf t c).length ≤ 6))

/-- All members of all rotations. -/
def allRotations (t : List Raw) : List Nat := (ofKind kSump t).flatMap rotationOf

/-- Every pump stands in the rotation of the sump it names. -/
def rotationsOk (t : List Raw) : Bool :=
  (List.range (ofKind kPump t).length).all (fun p =>
    match (ofKind kPump t)[p]?.bind (fun r => (ofKind kSump t)[r.f 4]?) with
    | some s => (rotationOf s).contains p
    | none => false)

/-- Each channel carries a role at most once. -/
def rolesOk (t : List Raw) : Bool :=
  (List.range (ofKind kChannel t).length).all (fun c => distinct ((thresholdsOf t c).map (fun r => r.f 1)))

/-- The channels that a table must have. -/
def channelsOk (t : List Raw) : Bool :=
  (ofKind kChannel t).any (fun r => r.f 2 == 2) &&
  ((List.range (ofKind kChannel t).length).filter (fun c => decide (channelKindOf t c = some .vehicles))).length == 1 &&
  (List.range (ofKind kChannel t).length).all (fun c =>
    !decide (channelKindOf t c = some .vehicles) || (roleLevel t c .occupied).isSome)

def pass4 (t : List Raw) : Option Nat :=
  let portals := ofKind kPortal t
  firstFail
    [(countsOk t, 13),
      (distinct ((ofKind kUnit t).map (fun r => r.f 0)), 14),
      (distinct (portals.map (fun r => r.f 0)) && distinct (portals.map (fun r => r.f 1)), 14),
      (distinct ((ofKind kZone t).map (fun r => r.f 0)), 14),
      (distinct (allRotations t), 14),
      (rotationsOk t, 11),
      (rolesOk t, 14),
      (channelsOk t, 15),
      ((List.range 6).all (fun z => (ofKind kCircuit t).any (fun r => r.f 0 == z)), 15)]

/-! ## The table that a valid text gives -/

def siteUnit (r : Raw) : SiteUnit :=
  { address := r.f 0, type := (UnitType.ofCode (r.f 1)).getD .sensor, missLimit := r.f 2 }

def siteThreshold (r : Raw) : SiteThreshold :=
  { role := (Role.ofCode (r.f 1)).getD .watch, level := r.f 2, direction := (Direction.ofCode (r.f 3)).getD .up,
    qualify := r.f 4, hysteresis := r.f 5 }

def siteChannel (t : List Raw) (i : Nat) (r : Raw) : SiteChannel :=
  { unit := r.f 0, input := r.f 1, kind := (ChannelKind.ofCode (r.f 2)).getD .depth, low := r.f 3, high := r.f 4,
    partner := if r.f 5 = noRef then none else some (r.f 5, r.f 6),
    rise := if r.f 8 = 0 then none else some (r.f 7, r.f 8),
    thresholds := (thresholdsOf t i).map siteThreshold }

def siteSump (r : Raw) : SiteSump :=
  { level := r.f 0, cutoutUnit := r.f 1, cutoutInput := r.f 2, highUnit := r.f 3, highInput := r.f 4,
    rotation := rotationOf r, duty := r.f 9 }

def sitePump (r : Raw) : SitePump :=
  { unit := r.f 0, motor := r.f 1, feedback := r.f 2, overload := r.f 3, sump := r.f 4, out := r.f 5 == 1,
    confirm := r.f 6, rest := r.f 7, starts := r.f 8, run := r.f 9, inrush := r.f 10, window := r.f 11, key := r.f 12 }

def sitePortal (r : Raw) : SitePortal :=
  { unit := r.f 1, signal := r.f 2, barrier := r.f 3, gate := r.f 4, warn := r.f 5, clearLimit := r.f 6,
    barrierTravel := r.f 7, gateTravel := r.f 8, obstruction := r.f 9, attempts := r.f 10, run := r.f 11,
    inrush := r.f 12, window := r.f 13, key := r.f 14 }

def siteZone (r : Raw) : SiteZone :=
  { unit := r.f 1, minNormal := r.f 2, minStorm := r.f 3, closure := r.f 4, day := r.f 5, night := r.f 6,
    luminance := r.f 7, boundaries := boundariesOf r, stepHysteresis := r.f 15, stepQualify := r.f 16, offset := r.f 17,
    dayBoundary := r.f 18, dayHysteresis := r.f 19, dayQualify := r.f 20, key := r.f 21 }

def siteCircuit (r : Raw) : SiteCircuit := { zone := r.f 0, output := r.f 1, power := powersOf r }

def siteSupply (r : Raw) : SiteSupply :=
  { unit := r.f 0, mainsInput := r.f 1, generatorInput := r.f 2, overloadInput := r.f 3, mains := r.f 4,
    generator := r.f 5, reserve := r.f 6, derate := r.f 7 }

/-- The record of a kind that names an index in its first field. -/
def named (k i : Nat) (t : List Raw) : Raw :=
  ((ofKind k t).find? (fun r => r.f 0 == i)).getD { kind := k, length := 0, fields := [] }

/-- The first record of a kind. -/
def single (k : Nat) (t : List Raw) : Raw := (ofKind k t).headD { kind := k, length := 0, fields := [] }

/-- The site table of a text and its records. A miss limit of 0 is the default of the STATION record (R168). -/
def siteOf (bs : List Byte) (t : List Raw) : Site :=
  let st := single kStation t
  { format := halfAt bs 0, autorun := byteAt bs 2 == 1, records := t.length,
    roundPeriod := st.f 0, watchDwell := st.f 2, reopenDwell := st.f 3, clearDwell := st.f 4,
    units := (ofKind kUnit t).map (fun r =>
      let u := siteUnit r
      if u.missLimit = 0 then { u with missLimit := st.f 1 } else u),
    channels := (indexed 0 (ofKind kChannel t)).map (fun x => siteChannel t x.1 x.2),
    sumps := (ofKind kSump t).map siteSump,
    pumps := (ofKind kPump t).map sitePump,
    north := sitePortal (named kPortal 0 t),
    south := sitePortal (named kPortal 1 t),
    zones := (List.range 6).map (fun z => siteZone (named kZone z t)),
    circuits := (ofKind kCircuit t).map siteCircuit,
    supply := siteSupply (single kSupply t) }

/-! ## Validation -/

/-- Bytes of a site table, from its header. -/
def totalLength (bs : List Byte) : Nat := wordAt bs 4

/-- The outcome of a validation. -/
inductive Verdict where
  /-- Reason code of Table 9-2 and record index. -/
  | refused (reason index : Nat)
  | valid (site : Site)
  deriving DecidableEq, Repr

/-- Passes 3 and 4 over the records of a text. -/
def judgeRecords (bs : List Byte) (t : List Raw) : Verdict :=
  match pass3 t [] t with
  | some (c, i) => .refused c i
  | none => match pass4 t with
    | some c => .refused c absent16
    | none => .valid (siteOf bs t)

/-- The four passes (R169). -/
def validate (bs : List Byte) : Verdict :=
  let n := totalLength bs
  if halfAt bs 0 ≠ 1 then .refused 1 absent16
  else if n < 16 ∨ 16384 < n then .refused 2 absent16
  else match splitRecords 4097 (n - 16) (bs.drop 16) with
    | none => .refused 2 absent16
    | some t =>
      if wordAt bs 8 ≠ t.length then .refused 3 absent16
      else if (crc32 ((bs.take n).drop 16)).toNat ≠ wordAt bs 12 then .refused 4 absent16
      else judgeRecords bs t

end Sys2Proof.Machine
end

