-- ==== Sys2Proof/Machine/Build.lean ====
section
/-! DEFINITION. The records that each block builds when a site table comes into force (R174). -/

namespace Sys2Proof.Machine

open Sys2Proof

/-! ## Channels and stage (R1, R3, R12) -/

def buildThreshold (t : SiteThreshold) : Threshold :=
  { role := t.role, level := t.level, direction := t.direction, qualify := t.qualify, hysteresis := t.hysteresis,
    state := t.direction.initial }

def buildChannel (c : SiteChannel) : Channel :=
  { unit := c.unit, input := c.input, kind := c.kind, low := c.low, high := c.high, value := 0, validity := .unknown,
    lastSample := none, partner := c.partner, disagree := false,
    rise := c.rise.map (fun r => { delta := r.1, window := r.2, baseline := none }),
    thresholds := c.thresholds.map buildThreshold }

/-- The stage record a LOAD SITE leaves (R12). -/
def loadedStage (now : Nat) : StageRec := { StageRec.reset with entered := now, cause := .siteLoad }

/-- Channels and stage. A LOAD SITE takes the stage to DRY, with a STAGE record if it was not DRY (R12, R174). A governing depth
that was VALID is built INVALID without a DEPTH_LOST record (the model's choice, log 19). -/
def Works.buildWater (site : Site) (byLoad : Bool) (w : Works) : Works :=
  let old := w.water.stage.stage
  let w := w.setWater { channels := site.channels.map buildChannel, governing := none,
                        stage := if byLoad then loadedStage w.now else w.water.stage }
  if byLoad ∧ old ≠ .dry then
    (w.record .stage 0 (some old.code) (some Stage.dry.code)
      [StageCause.siteLoad.code, absent16, View.unknown.code, View.unknown.code] false).wantImage
  else w

/-! ## Lighting (R100, R101) -/

def isEgress (z : Nat) : Bool := z == 5

/-- A ZONE record as built (R100); the run of a selection, NONE, has count 0 and bound 0 (the model's choice, log 30). -/
def buildZone (site : Site) (i : Nat) (z : SiteZone) : Zone :=
  { circuits := ((indexed 0 site.circuits).filter (fun c => c.2.zone == i)).map Prod.fst,
    unit := z.unit, mode := .normal, target := 0, current := none, ordered := none,
    minNormal := z.minNormal, minStorm := z.minStorm,
    minSafe := if isEgress i then none else some z.minNormal,
    closure := if isEgress i then none else some z.closure,
    day := z.day, night := z.night, degraded := false,
    choice := if isThresholdZone i then some { selected := 7, dir := .none, count := 0, bound := 0 } else none,
    table := if isThresholdZone i then some { channel := z.luminance, boundaries := z.boundaries,
                                              hysteresis := z.stepHysteresis, qualify := z.stepQualify } else none,
    offset := z.offset }

/-- Grant entry of the circuit at an index (R29). -/
def circuitEntry (site : Site) (i : Nat) (c : SiteCircuit) : Option Nat :=
  if isEgress c.zone then none
  else some (site.pumps.length + 2 + ((site.circuits.take i).filter (fun x => !isEgress x.zone)).length)

def buildCircuit (site : Site) (targets : List Nat) (i : Nat) (c : SiteCircuit) : Circuit :=
  { zone := c.zone, output := c.output, power := c.power, grant := circuitEntry site i c,
    wanted := targets.getD c.zone 0, granted := 0, request := none, setList := [], reported := none, fault := .clear,
    shedHold := false }

/-- The zone that decides the day: INTERIOR. -/
def buildDay (site : Site) : Day :=
  match site.zones[4]? with
  | some z => { Day.reset with boundary := z.dayBoundary, hysteresis := z.dayHysteresis, qualify := z.dayQualify }
  | none => Day.reset

/-- Zones with their targets computed at once, circuits, day decision. -/
def buildLights (site : Site) : Lights :=
  let zones := (indexed 0 site.zones).map (fun x => buildZone site x.1 x.2)
  let targets := Lights.targets { zones := zones, circuits := [], day := buildDay site }
  { zones := (indexed 0 zones).map (fun x => { x.2 with target := targets.getD x.1 0 }),
    circuits := (indexed 0 site.circuits).map (fun x => buildCircuit site targets x.1 x.2),
    day := buildDay site }

/-! ## Supply and grant table (R25, R29) -/

def buildMotor (l : Load) (cls run inrush window : Nat) : Grant :=
  { load := l, cls := cls, state := .idle, granted := 0, requested := run, inrush := inrush, window := window,
    adopted := false, floor := 0, mark := .none, number := none, energised := none, outage := none }

/-- A LAMP entry; its floor is the circuit's power at the zone's minimum safe step (R101). -/
def buildLamp (l : Lights) (i : Nat) (c : Circuit) : Grant :=
  let safe := match l.zones[c.zone]? with
    | some z => z.minSafe.getD 0
    | none => 0
  { load := .lamp i, cls := 3, state := .idle, granted := 0, requested := 0, inrush := 0, window := 0, adopted := false,
    floor := c.powerAt safe, mark := .none, number := none, energised := none, outage := none }

def buildGrants (site : Site) (l : Lights) : List Grant :=
  (indexed 0 site.pumps).map (fun x => buildMotor (.pump x.1) 2 x.2.run x.2.inrush x.2.window) ++
  [buildMotor (.gate 0) 0 site.north.run site.north.inrush site.north.window,
    buildMotor (.gate 1) 0 site.south.run site.south.inrush site.south.window] ++
  ((indexed 0 l.circuits).filter (fun x => x.2.grant.isSome)).map (fun x => buildLamp l x.1 x.2)

/-- The supply record as after a reset, with the capacity of the new table (R25, R27). -/
def buildBudget (site : Site) (l : Lights) : Budget :=
  { supply := { Supply.reset with capacity := capacityOf Supply.reset site.supply }, grants := buildGrants site l,
    queue := [] }

/-! ## Dewatering (R46, R47) -/

def buildSump (s : SiteSump) : Sump :=
  { level := s.level, cutout := { unit := s.cutoutUnit, input := s.cutoutInput, state := .unknown },
    high := { unit := s.highUnit, input := s.highInput, state := .unknown }, rotation := s.rotation, lead := 0,
    duty := s.duty, storm := false, demand := 0, able := 0, list := [] }

def buildPump (p : SitePump) : Pump :=
  { unit := p.unit, motor := p.motor, feedback := p.feedback, overloadInput := p.overload, sump := p.sump,
    state := .uncommanded, cause := none, trip := none, out := p.out, intent := none, running := .unknown,
    overload := .unknown, grant := .none, pair := .none, mark := .none, lapse := false, startTime := none,
    lastStop := none, history := [], runSeconds := 0, confirm := p.confirm, rest := p.rest, starts := p.starts,
    runPower := p.run, confirmStart := none, tripCode := 0, runSince := none, runRest := 0, saturated := false,
    pairRefused := false, haltRefused := false }

/-! ## Portals (R72) -/

def buildPortal (p : SitePortal) : Portal :=
  { Portal.reset with
    unit := p.unit, signalOut := p.signal, barrierOut := p.barrier, gateOut := p.gate, warn := p.warn,
    clearLimit := p.clearLimit,
    barrier := { Barrier.reset with limit := p.barrierTravel },
    gate := { Gate.reset with limit := p.gateTravel, dwell := p.obstruction, attemptLimit := p.attempts } }

/-! ## Claims (R118) -/

def buildClaim (now : Nat) (s : ClaimSubject) (unit key : Nat) : Claim :=
  { subject := s, unit := unit, key := key, keyView := .unknown, value := .away, slot := none, changed := now }

def buildClaims (site : Site) (now : Nat) : List Claim :=
  (indexed 0 site.pumps).map (fun x => buildClaim now (.pump x.1) x.2.unit x.2.key) ++
  [buildClaim now (.portal 0) site.north.unit site.north.key, buildClaim now (.portal 1) site.south.unit site.south.key] ++
  (indexed 0 site.zones).map (fun x => buildClaim now (.zone x.1) x.2.unit x.2.key)

/-! ## Drop line (R133, R138, R145) -/

def buildRoster (u : SiteUnit) : RosterEntry :=
  { address := u.address, type := u.type, state := .unseen, missCount := 0, missLimit := u.missLimit, lastGood := none,
    lastError := none, selection := .none, heard := false, held := none, retry := [] }

/-- The line with the new roster: queue and pair gone, an exchange on the line to be discarded, the broadcast due. -/
def buildLine (site : Site) (l : Line) : Line :=
  { Line.reset with
    roster := site.units.map buildRoster,
    exchange := l.exchange.map (fun x => { x with discard := true }),
    rx := l.rx,
    broadcastDue := true }

/-- Each request in the line queue is reported removed (R145). -/
def Works.reportRemoved (w : Works) : Works :=
  let gone := w.line.queue
  each gone (fun q w => w.reportEntry q .removed .removed) (w.setLine { w.line with queue := [] })

/-- A circuit with fault flag REFUSED becomes healthy as the zone records are built again (R110). -/
def Works.healRefused (w : Works) : Works :=
  each (indexed 0 w.lights.circuits) (fun ic w =>
    if ic.2.fault = .refused then
      w.record .lampHealthy ic.1 (some LampFlag.refused.code) (some LampFlag.clear.code)
        [ic.2.zone, stepCode ic.2.reported] false
    else w) w

/-! ## All blocks (R174 step 3) -/

def Works.buildAll (site : Site) (byLoad : Bool) (w : Works) : Works :=
  let w := (w.reportRemoved.buildWater site byLoad).healRefused
  let l := buildLights site
  { w with
    budget := buildBudget site l,
    dewater := { sumps := site.sumps.map buildSump, pumps := site.pumps.map buildPump },
    portals := { north := buildPortal site.north, south := buildPortal site.south, interior := Interior.reset },
    lights := l,
    claims := buildClaims site w.now,
    reports := [],
    line := buildLine site w.line }

end Sys2Proof.Machine
end

