-- ==== Sys2Proof/Machine/StationControl.lean ====
section
/-! DEFINITION. Station control (chapter 9): the judgement and programming of the site store, the coming into force of a site
table, and the station orders. -/

namespace Sys2Proof.Machine

open Sys2Proof

/-! ## A site table comes into force (R174) -/

/-- Notices that a new table leaves standing: those that concern no record of a block (log 11). -/
def outlivesTable : Instr → Bool
  | .journalAppend _ => true
  | .imageRewriteRequest => true
  | .orderArrival => true
  | .responseFrameComplete => true
  | _ => false

def Works.dropNotices (w : Works) : Works := { w with notices := w.notices.filter outlivesTable }

/-- The owners hold no order but the LOAD SITE. -/
def Works.keepActive (slot : Nat) (w : Works) : Works := { w with active := w.active.filter (fun a => a.slot == slot) }

/-- Every order but the LOAD SITE completes SITE_CHANGED (R174 step 1). -/
def siteChanged (slot : Nat) (s : State) : State :=
  let s := { s with works := (s.works.keepActive slot).dropNotices }
  each ((s.port.working.map Entry.slot).filter (fun k => !(k == slot)))
    (fun k s => completeSlot k Status.siteChanged slot 0 s) s

/-- The table comes into force: records, late subject checks, entry to ROLL_CALL, and the roll call begins. `load` is the
slot of the LOAD SITE that brings it. -/
def bringIntoForce (site : Site) (load : Option Nat) (s : State) : State :=
  let s := match load with
    | some k => siteChanged k s
    | none => s
  let w := (s.works.setStation { s.works.station with site := some site }).buildAll site load.isSome
  let s := lateChecks { s with works := if load.isSome then w.dropNotices else w }
  let w := match load with
    | some k => s.works.enterState .rollCall .loadSite 0 k
    | none => s.works.enterState .rollCall .storeValid 0 absent16
  settleState { s with works := w }

/-! ## The site store (R170, R173) -/

/-- Bytes of the store's rows. -/
def Store.bytes (t : Store) : List Byte := Memory.readBytes t.rows 0 16384

/-- A clear check cell (R186). -/
def Store.isClear (t : Store) : Bool := t.checkLength == 0xFFFFFFFF

/-- Check cell and rows agree (R170). -/
def Store.agrees (t : Store) : Bool :=
  decide (t.checkLength.toNat ≤ 16384) && crc32 (Memory.readBytes t.rows 0 t.checkLength.toNat) == t.checkCrc

/-- The judgement of the store (R170). -/
def Store.judge (t : Store) : Verdict :=
  if t.isClear then .refused 20 absent16
  else if t.agrees then validate t.bytes
  else .refused 21 absent16

/-- LOADING ends (R173). -/
def endLoading (s : State) : State :=
  match s.store.judge with
  | .valid site => bringIntoForce site none s
  | .refused reason index =>
    ordersUnset { s with works := s.works.enterState .unset .storeNotValid reason index }

/-- SITE_STORE_JUDGEMENT (R173). -/
def execSiteStoreJudgement (s : State) : Host.Outcome State Fault Refusal :=
  if s.works.station.state = .loading then .next (endLoading s) else .next s

/-! ## Programming (R171) -/

/-- Bytes of a row of the working copy. -/
def Programming.rowBytes (p : Programming) : List Byte := (p.bytes.drop (64 * p.row)).take 64

def Programming.length (p : Programming) : Nat := totalLength p.bytes

/-- The row that holds the last byte of the table. -/
def Programming.lastRow (p : Programming) : Nat := (p.length - 1) / 64

/-- A row is programmed: what it then holds. -/
def Store.program (row : Nat) (bs : List Byte) (t : Store) : Store :=
  { t with rows := Memory.writeBytes t.rows (64 * row) bs }

def Store.clearCell (t : Store) : Store := { t with checkLength := 0xFFFFFFFF, checkCrc := 0xFFFFFFFF }

/-- The check cell is written with the table's length and CRC. -/
def Store.seal (p : Programming) (t : Store) : Store :=
  { t with checkLength := BitVec.ofNat 32 p.length, checkCrc := crc32 (p.bytes.take p.length) }

def Works.setProgramming (p : Option Programming) (w : Works) : Works :=
  w.setStation { w.station with programming := p }

/-- The LOAD SITE that completes at the end of the roll call, with its store result (R177). -/
def Works.setLoad (slot result : Nat) (w : Works) : Works :=
  w.setStation { w.station with load := some { slot := slot, result := result } }

/-- Programming ends, with the store result 1 or 2, and the table comes into force (R177). -/
def endProgramming (p : Programming) (result : Nat) (s : State) : State :=
  bringIntoForce p.site (some p.slot) { s with works := (s.works.setProgramming none).setLoad p.slot result }

/-- The row's 5 ms are over. -/
def rowDone (p : Programming) (readBack : Option (List Byte)) (s : State) : State :=
  let held := readBack.getD p.rowBytes
  let s := { s with store := s.store.program p.row held }
  if held ≠ p.rowBytes then
    endProgramming p 2 { s with works := s.works.record .storeFault 0 none none [p.row, 22] true }
  else if p.row < p.lastRow then
    { s with works := s.works.setProgramming (some { p with row := p.row + 1, rowStart := s.works.now }) }
  else endProgramming p 1 { s with store := s.store.seal p }

/-- STORE_ROW_PROGRAMMED (R171). -/
def execStoreRowProgrammed (readBack : Option (List Byte)) (s : State) : Host.Outcome State Fault Refusal :=
  match s.works.station.programming with
  | none => .next s
  | some p => if elapsed p.rowStart 5 s.works.now then .next (rowDone p readBack s) else .next s

/-! ## Station orders (R177, R178) -/

/-- A station order is taken up. -/
def stationOrder (c : OrderCode) (f : Order → State → State) (k : Nat) (s : State) : Host.Outcome State Fault Refusal :=
  match s.waitingOrder k c with
  | none => .next s
  | some o => .next (markTaken k (f o s))

def finishIn (o : Order) (status detail second : Nat) (results : List Nat) (s : State) : State :=
  { s with works := o.finish status detail second results s.works }

/-- The site table area of common memory (Table 8-2). -/
def siteArea (m : List Host.Cell) : List Byte := Memory.readBytes m 0x4000 16384

/-- An accepted LOAD SITE (R177). -/
def loadAccepted (o : Order) (bytes : List Byte) (site : Site) (s : State) : State :=
  let w := s.works.hold (o.active 0)
  if o.param = 1 then
    let p : Programming := { slot := o.slot, bytes := bytes, site := site, row := 0, rowStart := w.now }
    { s with works := w.setProgramming (some p), store := s.store.clearCell }
  else bringIntoForce site (some o.slot) { s with works := w.setLoad o.slot 0 }

/-- LOAD SITE where station state and programming flag let it be judged (R177). -/
def judgeLoad (o : Order) (s : State) : State :=
  if 1 < o.param then finishIn o Status.failed 16 o.param [] s
  else match validate (siteArea s.port.mem) with
    | .refused reason index => finishIn o Status.failed reason index [] s
    | .valid site => loadAccepted o (siteArea s.port.mem) site s

/-- LOAD SITE (R177). -/
def loadSiteOrder (o : Order) (s : State) : State :=
  let st := s.works.station.state
  match st with
  | .loading => finishIn o Status.stateChanging st.code 0 [] s
  | .rollCall => finishIn o Status.stateChanging st.code 0 [] s
  | .running => finishIn o Status.refusedState st.code 0 [] s
  | _ =>
    if s.works.station.programming.isSome then finishIn o Status.stateChanging st.code 1 [] s
    else judgeLoad o s

/-- The station enters RUNNING by RUN (R176, R178). -/
def Works.enterRunning (slot : Nat) (w : Works) : Works := ((w.enterState .running .run 0 slot).stageRun).jobsRun

/-- The station enters HELD by HOLD (R176, R178). -/
def Works.enterHeld (slot : Nat) (w : Works) : Works := (w.enterState .held .hold 0 slot).jobsHold

/-- RUN (R178); word 25 holds the station state after the order. -/
def runOrder (o : Order) (s : State) : State :=
  let st := s.works.station.state
  match st with
  | .loading => finishIn o Status.stateChanging st.code 0 [st.code] s
  | .rollCall => finishIn o Status.stateChanging st.code 0 [st.code] s
  | .unset => finishIn o Status.noSite 0 0 [st.code] s
  | .running => finishIn o Status.doneOk 0 0 [st.code] s
  | .held =>
    if s.works.station.programming.isSome then finishIn o Status.stateChanging st.code 1 [st.code] s
    else settleState (finishIn o Status.doneOk 0 0 [StationState.running.code]
      { s with works := s.works.enterRunning o.slot })

/-- Stages in which HOLD is refused (R178). -/
def Stage.refusesHold : Stage → Bool
  | .dry => false | .watch => false | .alert => true | .closed => true | .draining => true

/-- HOLD (R178). -/
def holdOrder (o : Order) (s : State) : State :=
  let st := s.works.station.state
  match st with
  | .loading => finishIn o Status.stateChanging st.code 0 [st.code] s
  | .rollCall => finishIn o Status.stateChanging st.code 0 [st.code] s
  | .unset => finishIn o Status.noSite 0 0 [st.code] s
  | .held => finishIn o Status.doneOk 0 0 [st.code] s
  | .running =>
    if s.works.water.stage.stage.refusesHold then
      finishIn o Status.refusedStage s.works.water.stage.stage.code 0 [st.code] s
    else settleState (finishIn o Status.doneOk 0 0 [StationState.held.code]
      { s with works := s.works.enterHeld o.slot })

/-- LOAD_SITE (R177). -/
def execLoadSite (k : Nat) (s : State) : Host.Outcome State Fault Refusal := stationOrder .loadSite loadSiteOrder k s

/-- RUN (R178). -/
def execRun (k : Nat) (s : State) : Host.Outcome State Fault Refusal := stationOrder .run runOrder k s

/-- HOLD (R178). -/
def execHold (k : Nat) (s : State) : Host.Outcome State Fault Refusal := stationOrder .hold holdOrder k s

end Sys2Proof.Machine
end

