-- ==== Sys2Proof/Machine/Timers.lean ====
section
/-! DEFINITION. The passing of station time: one millisecond, the sections of a rewrite it brings, and the ends of the timers
that have come due (log 2). -/

namespace Sys2Proof.Machine

open Sys2Proof

/-- Indexes of a list whose elements meet a test, as commands. -/
def dueOf {α : Type} (p : Nat → α → Bool) (f : Nat → Instr) (l : List α) : List Instr :=
  ((indexed 0 l).filter (fun x => p x.1 x.2)).map (fun x => f x.1)

/-- One command if a condition holds. -/
def dueIf (b : Bool) (i : Instr) : List Instr := if b then [i] else []

/-! ## Timers of the blocks -/

def Channel.windowOver (c : Channel) (now : Nat) : Bool := match c.rise with
  | some r => ranOut (r.baseline.map Prod.snd) r.window now
  | none => false

/-- Water watch (R8, R15, R17). -/
def Works.dueWater (w : Works) : List Instr :=
  let s := w.water.stage
  dueOf (fun _ c => c.windowOver w.now) .riseWindowExpiry w.water.channels ++
  dueIf (decide (s.stage = .watch) && ranOut s.dwellStart (w.siteTime Site.watchDwell) w.now) .watchDwellExpiry ++
  dueIf (decide (s.stage = .closed) && ranOut s.dwellStart (w.siteTime Site.reopenDwell) w.now) .reopenDwellExpiry

/-- Supply budget (R34). -/
def Works.dueBudget (w : Works) : List Instr := dueOf (fun _ g => g.windowOver w.now) .inrushWindowExpiry w.budget.grants

/-- The timed moment of R59 matters to a pump. -/
def Pump.awaitsRest (p : Pump) : Bool :=
  decide (p.state = .resting) || (decide (p.state = .waiting) && decide (p.cause = some .rest))

/-- Dewatering (R56, R57, R59). -/
def Works.dueDewater (w : Works) : List Instr :=
  dueOf (fun _ (p : Pump) => decide (p.state = .starting) && p.confirmOver w.now) .startConfirmExpiry w.dewater.pumps ++
  dueOf (fun _ (p : Pump) => decide (p.state = .stopping) && p.confirmOver w.now && !decide (p.running = .stopped))
    .stopConfirmExpiry w.dewater.pumps ++
  dueOf (fun _ (p : Pump) => p.awaitsRest && p.restAllows w.now) .pumpRestExpiry w.dewater.pumps

/-- A portal (R77, R79, R81, R83). -/
def Works.duePortal (n : Nat) (w : Works) : List Instr :=
  let p := w.portal n
  let open' := !w.suspended n
  dueIf (decide (p.closure = .warning) && ranOut p.timer p.warn w.now && open') (.warnTimeExpiry n) ++
  dueIf (ranOut p.barrier.travel p.barrier.limit w.now) (.barrierTravelExpiry n) ++
  dueIf (decide (p.closure = .clearing) && ranOut p.timer p.clearLimit w.now && open') (.clearLimitExpiry n) ++
  dueIf (ranOut p.gate.travel p.gate.limit w.now && (decide (p.closure = .gating) || decide (p.closure = .ungating)))
    (.gateTravelExpiry n) ++
  dueIf (ranOut p.gate.dwellStart p.gate.dwell w.now) (.obstructionDwellExpiry n)

/-- Portals, with the clear dwell (R78). -/
def Works.duePortals (w : Works) : List Instr :=
  dueIf (ranOut w.portals.interior.dwellStart (w.siteTime Site.clearDwell) w.now) .clearDwellExpiry ++
  w.duePortal 0 ++ w.duePortal 1

/-- The response window of the exchange on the line is over (R134). -/
def Works.windowDue (w : Works) : Bool := match w.line.exchange with
  | some x => x.awaiting && !frameComplete w.line.rx.frame && elapsed x.windowStart 25 w.now
  | none => false

/-- Drop line (R130, R134, R138). -/
def Works.dueLine (w : Works) : List Instr :=
  let r := w.line.round
  dueIf (w.line.awaits && w.line.rx.overGap w.now) .frameGapTimeout ++
  dueIf w.windowDue .responseWindowExpiry ++
  dueIf (w.stageRuns && !r.inProgress && elapsed r.start (w.siteTime Site.roundPeriod) w.now) .pollRoundStart

/-- Station control: a row of the site store (R171). -/
def Works.dueStation (w : Works) : List Instr := match w.station.programming with
  | some p => dueIf (elapsed p.rowStart 5 w.now) (.storeRowProgrammed none)
  | none => []

/-- The timers that have come due, block by block. -/
def Works.dueTimers (w : Works) : List Instr :=
  w.dueStation ++ w.dueLine ++ w.dueWater ++ w.dueBudget ++ w.dueDewater ++ w.duePortals

/-! ## One millisecond -/

/-- The ends of timers join the notices. -/
def raiseTimers (s : State) : State :=
  { s with works := { s.works with notices := s.works.notices ++ s.works.dueTimers } }

/-- Sections of a rewrite in progress are written as time passes. -/
def passSections (s : State) : State := if s.port.rewrite.isSome then someSections s else s

/-- A millisecond of station time passes. -/
def tick (s : State) : State :=
  raiseTimers (passSections { s with works := { s.works with now := s.works.now + 1 } })

end Sys2Proof.Machine
end

