-- ==== Sys2Proof/Machine/Dispatch.lean ====
section
/-! DEFINITION. The meaning of every command: one arm for each, calling its definition. -/

namespace Sys2Proof.Machine

open Sys2Proof

/-- The effect of a command on everything but the queue. -/
def exec (i : Instr) (s : State) : Host.Outcome State Fault Refusal :=
    match i with
    | .powerOnReset => Sys2Proof.Machine.execPowerOnReset s
    | .partReset data => Sys2Proof.Machine.execPartReset data s
    | .pstatWrite data => Sys2Proof.Machine.execPstatWrite data s
    | .registerWriteDiscarded addr width data => Sys2Proof.Machine.execRegisterWriteDiscarded addr width data s
    | .flagPlainWrite index data => Sys2Proof.Machine.execFlagPlainWrite index data s
    | .flagSetViewWrite index data => Sys2Proof.Machine.execFlagSetViewWrite index data s
    | .flagClearViewWrite index data => Sys2Proof.Machine.execFlagClearViewWrite index data s
    | .flagTakeViewRead index => Sys2Proof.Machine.execFlagTakeViewRead index s
    | .takeViewWrite index data => Sys2Proof.Machine.execTakeViewWrite index data s
    | .narrowViewAccess addr half isWrite => Sys2Proof.Machine.execNarrowViewAccess addr half isWrite s
    | .orderArrival => Sys2Proof.Machine.execOrderArrival s
    | .orderCompletion c => Sys2Proof.Machine.execOrderCompletion c s
    | .journalAppend r => Sys2Proof.Machine.execJournalAppend r s
    | .imageRewriteRequest => Sys2Proof.Machine.execImageRewriteRequest s
    | .imageRewriteEnd => Sys2Proof.Machine.execImageRewriteEnd s
    | .declareClosure slot => Sys2Proof.Machine.execDeclareClosure slot s
    | .standDown slot => Sys2Proof.Machine.execStandDown slot s
    | .rebaseChannel slot => Sys2Proof.Machine.execRebaseChannel slot s
    | .pumpRun slot => Sys2Proof.Machine.execPumpRun slot s
    | .pumpStop slot => Sys2Proof.Machine.execPumpStop slot s
    | .pumpAuto slot => Sys2Proof.Machine.execPumpAuto slot s
    | .pumpClear slot => Sys2Proof.Machine.execPumpClear slot s
    | .pumpService slot => Sys2Proof.Machine.execPumpService slot s
    | .leadSet slot => Sys2Proof.Machine.execLeadSet slot s
    | .portalReopen slot => Sys2Proof.Machine.execPortalReopen slot s
    | .confirmClear slot => Sys2Proof.Machine.execConfirmClear slot s
    | .portalReset slot => Sys2Proof.Machine.execPortalReset slot s
    | .zoneSet slot => Sys2Proof.Machine.execZoneSet slot s
    | .zoneAuto slot => Sys2Proof.Machine.execZoneAuto slot s
    | .unitRetire slot => Sys2Proof.Machine.execUnitRetire slot s
    | .unitRestore slot => Sys2Proof.Machine.execUnitRestore slot s
    | .loadSite slot => Sys2Proof.Machine.execLoadSite slot s
    | .run slot => Sys2Proof.Machine.execRun slot s
    | .hold slot => Sys2Proof.Machine.execHold slot s
    | .siteStoreJudgement => Sys2Proof.Machine.execSiteStoreJudgement s
    | .storeRowProgrammed readBack => Sys2Proof.Machine.execStoreRowProgrammed readBack s
    | .requestTransmitted => Sys2Proof.Machine.execRequestTransmitted s
    | .responseFrameComplete => Sys2Proof.Machine.execResponseFrameComplete s
    | .responseWindowExpiry => Sys2Proof.Machine.execResponseWindowExpiry s
    | .frameGapTimeout => Sys2Proof.Machine.execFrameGapTimeout s
    | .riseWindowExpiry channel => Sys2Proof.Machine.execRiseWindowExpiry channel s
    | .watchDwellExpiry => Sys2Proof.Machine.execWatchDwellExpiry s
    | .reopenDwellExpiry => Sys2Proof.Machine.execReopenDwellExpiry s
    | .loadRequest entry cls power => Sys2Proof.Machine.execLoadRequest entry cls power s
    | .loadRelease entry => Sys2Proof.Machine.execLoadRelease entry s
    | .loadShrink entry power => Sys2Proof.Machine.execLoadShrink entry power s
    | .loadWithdrawal entry => Sys2Proof.Machine.execLoadWithdrawal entry s
    | .classNotice entry cls => Sys2Proof.Machine.execClassNotice entry cls s
    | .energisedNotice entry => Sys2Proof.Machine.execEnergisedNotice entry s
    | .inrushWindowExpiry entry => Sys2Proof.Machine.execInrushWindowExpiry entry s
    | .adoptionNotice entry power => Sys2Proof.Machine.execAdoptionNotice entry power s
    | .shedFailure entry => Sys2Proof.Machine.execShedFailure entry s
    | .pumpGrantNotice pump => Sys2Proof.Machine.execPumpGrantNotice pump s
    | .startConfirmExpiry pump => Sys2Proof.Machine.execStartConfirmExpiry pump s
    | .stopConfirmExpiry pump => Sys2Proof.Machine.execStopConfirmExpiry pump s
    | .pumpRestExpiry pump => Sys2Proof.Machine.execPumpRestExpiry pump s
    | .pumpShedRequest pump => Sys2Proof.Machine.execPumpShedRequest pump s
    | .warnTimeExpiry portal => Sys2Proof.Machine.execWarnTimeExpiry portal s
    | .barrierTravelExpiry portal => Sys2Proof.Machine.execBarrierTravelExpiry portal s
    | .clearDwellExpiry => Sys2Proof.Machine.execClearDwellExpiry s
    | .clearLimitExpiry portal => Sys2Proof.Machine.execClearLimitExpiry portal s
    | .gateGrantNotice portal => Sys2Proof.Machine.execGateGrantNotice portal s
    | .gateTravelExpiry portal => Sys2Proof.Machine.execGateTravelExpiry portal s
    | .obstructionDwellExpiry portal => Sys2Proof.Machine.execObstructionDwellExpiry portal s
    | .lampGrantNotice circuit power => Sys2Proof.Machine.execLampGrantNotice circuit power s
    | .lampShedRequest circuit => Sys2Proof.Machine.execLampShedRequest circuit s
    | .pollRoundStart => Sys2Proof.Machine.execPollRoundStart s
    | .plainMemoryWrite addr width data => Sys2Proof.Machine.execPlainMemoryWrite addr width data s
    | .responseByteReceived b => Sys2Proof.Machine.execResponseByteReceived b s

end Sys2Proof.Machine
end

