-- ==== Sys2Proof/Machine/Step.lean ====
section
/-! DEFINITION. One step: the command at the front of the queue; with the queue empty the oldest notice between the blocks;
with both empty a millisecond of station time (log 1, 2). -/

namespace Sys2Proof.Machine

open Sys2Proof

/-- The state with another queue. -/
def State.withPending (s : State) (q : List Instr) : State := { s with pending := q }

/-- The state with other notices. -/
def State.withNotices (s : State) (l : List Instr) : State := { s with works := { s.works with notices := l } }

/-- One step. -/
def step (s : State) : Host.Outcome State Fault Refusal :=
  match s.pending with
  | c :: rest => exec c (s.withPending rest)
  | [] =>
    match s.works.notices with
    | c :: rest => exec c (s.withNotices rest)
    | [] => .next (tick s)

/-- The state with the command that a word spells at the front of its queue. -/
def State.withFetchWord (s : State) (nbits w : Nat) : State :=
  match decodeTableWord nbits w with
  | some c => s.withPending (c :: s.pending)
  | none => s

end Sys2Proof.Machine
end

