-- ==== Sys2Proof/Safety.lean ====
section
/-! DEFINITION. What the statements speak of: the standing laws that spec/ says its rules keep, and what a command leaves as it
was. -/

namespace Sys2Proof.Machine

open Sys2Proof

/-! ## What a command leaves as it was -/

/-- Every byte of common memory outside `n` bytes from `lo` on reads as before. -/
def Port.sameOutside (lo n : Nat) (p q : Port) : Prop :=
  ∀ a : Nat, a < lo ∨ lo + n ≤ a → Memory.read q.mem a = Memory.read p.mem a

/-- The order reader, the journal writer and the image publisher stand as before. -/
abbrev Port.sameReaders (p q : Port) : Prop :=
  q.working = p.working ∧ q.held = p.held ∧ q.count = p.count ∧ q.rewrite = p.rewrite ∧
    q.rewritePending = p.rewritePending

/-- All but the port stands as before. -/
abbrev State.sameOutsidePort (s t : State) : Prop := t.works = s.works ∧ t.store = s.store ∧ t.pending = s.pending

/-- All but the works stands as before. -/
abbrev State.sameOutsideWorks (s t : State) : Prop := t.port = s.port ∧ t.store = s.store ∧ t.pending = s.pending

/-- All of the port stands as before but, in entries of the working list, the mark of an order taken up and its standing. -/
def Port.sameButTaken (p q : Port) : Prop :=
  q = { p with working := q.working } ∧
    q.working.map (fun e => { e with takenUp := false, standing := .waiting }) =
      p.working.map (fun e => { e with takenUp := false, standing := .waiting })

/-- Every byte of common memory outside some words of the flag page reads as before. -/
def Port.sameButWords (ws : List Nat) (p q : Port) : Prop :=
  ∀ a : Nat, (∀ x ∈ ws, a < 4 * x ∨ 4 * x + 4 ≤ a) → Memory.read q.mem a = Memory.read p.mem a

/-- All but memory and PSTAT stands as before in the port. -/
abbrev Port.sameRest (p q : Port) : Prop := Port.sameReaders p q ∧ q.readData = p.readData

/-- PSTAT has VIEW_FORM set, ATTN has MISUSE set, and their other bits are as before (R151). -/
def Port.setsViewForm (p q : Port) : Prop :=
  q.pstat = { p.pstat with viewForm := true } ∧ q.flag attn = p.flag attn ||| attnMisuse

/-- PSTAT has OWNED_WORD set, ATTN has MISUSE set, and their other bits are as before (R153). -/
def Port.setsOwnedWord (p q : Port) : Prop :=
  q.pstat = { p.pstat with ownedWord := true } ∧ q.flag attn = p.flag attn ||| attnMisuse

/-- What a write access to a flag word leaves outside memory and PSTAT: a write to POSTED or WITHDRAW is an arrival. -/
def State.afterWrite (w : Nat) (s t : State) : Prop :=
  Port.sameRest s.port t.port ∧ t.store = s.store ∧ t.pending = s.pending ∧
    t.works = if w = posted ∨ w = withdraw then s.works.send .orderArrival else s.works

/-- The blocks outside the budget and the notices stand as before. -/
abbrev Works.sameOutsideBudget (w v : Works) : Prop :=
  v.now = w.now ∧ v.station = w.station ∧ v.water = w.water ∧ v.dewater = w.dewater ∧ v.portals = w.portals ∧
    v.lights = w.lights ∧ v.claims = w.claims ∧ v.line = w.line ∧ v.active = w.active ∧ v.reports = w.reports ∧
    v.fresh = w.fresh

/-- The blocks outside the drop line and the notices stand as before. -/
abbrev Works.sameOutsideLine (w v : Works) : Prop :=
  v.now = w.now ∧ v.station = w.station ∧ v.water = w.water ∧ v.budget = w.budget ∧ v.dewater = w.dewater ∧
    v.portals = w.portals ∧ v.lights = w.lights ∧ v.claims = w.claims ∧ v.active = w.active ∧ v.reports = w.reports ∧
    v.fresh = w.fresh

/-- The notices of `v` are those of `w` and then further ones. -/
def Works.handsOn (w v : Works) : Prop := ∃ l, v.notices = w.notices ++ l

/-- What every event of the jobs leaves: station time, station control, the channel table; notices are only added. -/
def Works.keepsAll (w v : Works) : Prop :=
  v.now = w.now ∧ v.station = w.station ∧ v.water.channels = w.water.channels ∧ w.handsOn v

/-- What an event of dewatering leaves as well: water watch, budget, claims. -/
def Works.keepsPumps (w v : Works) : Prop :=
  w.keepsAll v ∧ v.water = w.water ∧ v.budget = w.budget ∧ v.claims = w.claims ∧ v.reports = w.reports ∧
    v.fresh = w.fresh

/-- What an event of the portals leaves as well: budget and claims. -/
def Works.keepsPortals (w v : Works) : Prop :=
  w.keepsAll v ∧ v.budget = w.budget ∧ v.claims = w.claims ∧ v.fresh = w.fresh

/-- What an event of lighting leaves as well: water watch, budget, claims. -/
def Works.keepsLights (w v : Works) : Prop :=
  w.keepsAll v ∧ v.water = w.water ∧ v.budget = w.budget ∧ v.claims = w.claims ∧ v.reports = w.reports ∧
    v.fresh = w.fresh

/-- What an event of water watch leaves as well: claims. -/
def Works.keepsStage (w v : Works) : Prop := w.keepsAll v ∧ v.claims = w.claims ∧ v.fresh = w.fresh

/-- What an order that takes a claim leaves: all that an event leaves, and water watch and budget. -/
def Works.keepsButClaims (w v : Works) : Prop :=
  w.keepsAll v ∧ v.water = w.water ∧ v.budget = w.budget ∧ v.reports = w.reports ∧ v.fresh = w.fresh

/-- The line queue has room (R140). -/
abbrev Works.lineRoom (w : Works) : Prop := w.line.queue.length < 32

/-- A request as it joins the line queue (R139). -/
def Works.asking (w : Works) (r : Request) (unit output : Nat) (who : ReqFor) : QEntry :=
  { req := r, unit := unit, output := output, requesters := [{ who := who, fate := .live }], joined := w.now }

/-- A HALT for an output is in the line queue (R139). -/
abbrev Works.haltWaits (w : Works) (unit output : Nat) : Prop :=
  ∃ e ∈ w.line.queue, e.req = .halt ∧ e.unit = unit ∧ e.output = output

/-- No SET for an output is in the line queue (R139). -/
abbrev Works.noSetWaits (w : Works) (unit output : Nat) : Prop :=
  ∀ e ∈ w.line.queue, e.req.isSet = true → e.unit ≠ unit ∨ e.output ≠ output

/-- A command is among the notices. -/
abbrev Works.handed (w : Works) (i : Instr) : Prop := i ∈ w.notices

/-- A journal record has been handed to the journal writer. -/
def Works.recorded (w : Works) (k : JournalKind) (subject : Nat) (a b : Option Nat) (details : List Nat) (fault : Bool) :
    Prop :=
  w.handed (.journalAppend { kind := k, subject := subject, fromState := a, toState := b, details := details,
                             fault := fault })

/-- A completion has been handed to the order reader. -/
def Works.completed (w : Works) (slot status detail second : Nat) : Prop :=
  ∃ results, w.handed (.orderCompletion { slot := slot, status := status, detail := detail, second := second,
                                          results := results })

/-- A pump without the count of the time it runs (R61). -/
def Pump.sansRun (p : Pump) : Pump :=
  { p with runSeconds := 0, runRest := 0, runSince := p.runSince.map (fun _ => 0), saturated := false }

/-- A roster entry without its last line error (R134). -/
def RosterEntry.sansError (r : RosterEntry) : RosterEntry := { r with lastError := none }

/-- A timer end is due: what it waits for has run its time (R8, R15, R17, R34, R56, R57, R59, R77 to R83, R130, R134, R138,
R171). -/
def Works.due (w : Works) : Instr → Prop
  | .riseWindowExpiry c => ∃ x r, w.water.channels[c]? = some x ∧ x.rise = some r ∧
      ranOut (r.baseline.map Prod.snd) r.window w.now = true
  | .watchDwellExpiry => w.water.stage.stage = .watch ∧
      ranOut w.water.stage.dwellStart (w.siteTime Site.watchDwell) w.now = true
  | .reopenDwellExpiry => w.water.stage.stage = .closed ∧
      ranOut w.water.stage.dwellStart (w.siteTime Site.reopenDwell) w.now = true
  | .inrushWindowExpiry i => ∃ g t, w.budget.grants[i]? = some g ∧ g.state = .inrush ∧ g.energised = some t ∧
      t + g.window ≤ w.now
  | .startConfirmExpiry p => ∃ x, w.dewater.pumps[p]? = some x ∧ x.state = .starting ∧ x.confirmOver w.now = true
  | .stopConfirmExpiry p => ∃ x, w.dewater.pumps[p]? = some x ∧ x.state = .stopping ∧ x.confirmOver w.now = true ∧
      x.running ≠ .stopped
  | .pumpRestExpiry p => ∃ x, w.dewater.pumps[p]? = some x ∧
      (x.state = .resting ∨ x.state = .waiting ∧ x.cause = some .rest) ∧ x.restAllows w.now = true
  | .warnTimeExpiry n => n < 2 ∧ (w.portal n).closure = .warning ∧ w.suspended n = false ∧
      ranOut (w.portal n).timer (w.portal n).warn w.now = true
  | .barrierTravelExpiry n => n < 2 ∧ ranOut (w.portal n).barrier.travel (w.portal n).barrier.limit w.now = true
  | .clearLimitExpiry n => n < 2 ∧ (w.portal n).closure = .clearing ∧ w.suspended n = false ∧
      ranOut (w.portal n).timer (w.portal n).clearLimit w.now = true
  | .gateTravelExpiry n => n < 2 ∧ ((w.portal n).closure = .gating ∨ (w.portal n).closure = .ungating) ∧
      ranOut (w.portal n).gate.travel (w.portal n).gate.limit w.now = true
  | .obstructionDwellExpiry n => n < 2 ∧ ranOut (w.portal n).gate.dwellStart (w.portal n).gate.dwell w.now = true
  | .clearDwellExpiry => ranOut w.portals.interior.dwellStart (w.siteTime Site.clearDwell) w.now = true
  | .frameGapTimeout => w.line.awaits = true ∧ w.line.rx.frame ≠ [] ∧ frameComplete w.line.rx.frame = false ∧
      w.line.rx.lastByte + 2 < w.now
  | .responseWindowExpiry => ∃ x, w.line.exchange = some x ∧ x.awaiting = true ∧
      frameComplete w.line.rx.frame = false ∧ x.windowStart + 25 ≤ w.now
  | .pollRoundStart => w.stageRuns = true ∧ w.line.round.inProgress = false ∧
      elapsed w.line.round.start (w.siteTime Site.roundPeriod) w.now = true
  | .storeRowProgrammed rb => rb = none ∧ ∃ p, w.station.programming = some p ∧ p.rowStart + 5 ≤ w.now
  | _ => False

/-! ## The storm stage -/

/-- The stage has changed, with its STAGE record, and an image is asked for (R13). -/
def Works.stageTurns (w v : Works) (st : Stage) (cause : StageCause) : Prop :=
  v.water.stage.stage = st ∧ v.water.stage.cause = cause ∧ v.water.stage.entered = w.now ∧
    v.recorded .stage 0 (some w.water.stage.stage.code) (some st.code)
      [cause.code, w.depthDetail, w.water.stage.north.code, w.water.stage.south.code] false ∧
    v.handed .imageRewriteRequest

/-- A closure cause against earlier facts: CLOSE has become ABOVE, or the governing channel has changed to one whose CLOSE is
ABOVE (R16). -/
def Works.closes (w : Works) (old : Facts) : Prop :=
  w.closeAbove = true ∧ (old.close = false ∨ old.governing ≠ w.water.governing.map GovDepth.channel)

/-- A watch cause stands (R15). -/
def Works.watchStands (w : Works) : Prop :=
  w.someAbove .rain .watch = true ∨ w.someAbove .depth .watch = true ∨ w.someAbove .sumpLevel .high = true ∨
    w.closeAbove = true ∨ w.water.governing = none

/-- The watch cause that an event without a closure cause has brought about, against earlier facts; of several the first of
Table 1-7 (R15; of several by log 33). -/
def Works.watchBrought (w : Works) (old : Facts) (rise : Bool) : Option StageCause :=
  if w.someAbove .rain .watch = true ∧ old.rain = false then some .rainWatch
  else if w.someAbove .depth .watch = true ∧ old.depth = false then some .depthWatch
  else if w.someAbove .sumpLevel .high = true ∧ old.sumpHigh = false then some .sumpHigh
  else if rise = true then some .depthRise
  else if w.water.governing = none ∧ old.governing.isSome = true then some .depthInvalid
  else none

/-! ## Orders and claims -/

/-- The first check of R158 that an order fails as it is taken, as status and details; NO_SITE where a job's order is taken in
UNSET. -/
def Works.firstFailure (w : Works) (e : Entry) : Option (Nat × Nat × Nat) :=
  match e.order with
  | none => some (1, 1, e.codeField)
  | some c =>
    if e.countField ≠ c.params then some (1, 2, e.countField)
    else if e.flagsField ≠ 0 then some (1, 3, e.flagsField)
    else if c.owner ≠ .stationControl ∧ w.station.state = .unset then some (12, 0, 0)
    else if c.owner ≠ .stationControl ∧ w.station.state = .loading then none
    else if w.subjectExists c e.subject then none
    else some (2, e.subject, 0)

/-- A withdrawal of the ACTIVE order is answered WITHDRAWN (Table 8-5). -/
def Works.withdrawable (w : Works) (a : Active) : Prop :=
  a.code = .zoneSet ∨ (a.code = .pumpRun ∨ a.code = .pumpStop) ∧
    ∃ p, w.dewater.pumps[a.subject]? = some p ∧ (p.state = .starting ∨ p.state = .stopping)

/-- The claim entry `k`, which is `c`, has taken a value for a cause, with its CLAIM record (R129). -/
def Works.claimTurns (w v : Works) (k : Nat) (c : Claim) (x : ClaimValue) (cause : ClaimCause) : Prop :=
  v.claims[k]? = some { c with value := x, slot := none, changed := w.now } ∧
    v.recorded .claim k (some c.value.code) (some x.code) [cause.code, absent16, c.unit, (w.unitState c.unit).code] false

/-- The owner of a claim that became PANEL or LOCAL commands its subject no longer: a pump is UNCOMMANDED without an intent, a
portal stands in its closure state, a zone has no ordered step (R64, R93, R113). -/
def Works.ownerLoses (w v : Works) (s : ClaimSubject) : Prop :=
  (∀ i x, s = .pump i → w.dewater.pumps[i]? = some x →
    ∃ y, v.dewater.pumps[i]? = some y ∧ y.state = .uncommanded ∧ y.intent = none) ∧
  (∀ n, s = .portal n → n < 2 → (∀ c ∈ w.claims, ∀ m, c.subject = .portal m → m < 2) →
    (v.portal n).closure = (w.portal n).closure) ∧
  ∀ z x, s = .zone z → w.lights.zones[z]? = some x → ∃ y, v.lights.zones[z]? = some y ∧ y.ordered = none

/-! ## The budget's state -/

/-- The budget state that R39 gives. -/
def Works.budgetStateDue (w : Works) : BudgetState :=
  if grantedSum w.budget ≤ w.budget.supply.capacity then .normal
  else if (∃ g ∈ w.budget.grants, g.mark = .asked) ∨ ∃ g ∈ w.budget.grants, w.sheddable g = true then .shedding
  else .overload

/-- The last two details of the BUDGET record of that state (Table 2-8): pending relief and number of FAILED entries, both 0 at
a change to NORMAL, which clears the marks first (the model's choice, log 25). -/
def Works.budgetDetails (w : Works) : List Nat :=
  if w.budgetStateDue = .normal then [0, 0]
  else [pendingRelief w.budget, (w.budget.grants.filter (fun g => decide (g.mark = .failed))).length]

/-- The judgement of R39 made on `w` has left `v`: the state is as R39 gives it, with a BUDGET record of a change, whose details
are taken before any entry is asked to shed. -/
def Works.budgetJudged (w v : Works) : Prop :=
  v.budget.supply.state = w.budgetStateDue ∧
    (w.budget.supply.state ≠ w.budgetStateDue →
      v.recorded .budget 0 (some w.budget.supply.state.code) (some w.budgetStateDue.code)
        ([w.budget.supply.capacity, grantedSum w.budget] ++ w.budgetDetails) (decide (w.budgetStateDue = .overload)))

/-- The group of an entry in the shedding order (Table 2-7); 5 for an entry that is in none. -/
def Works.shedGroup (w : Works) (g : Grant) : Nat :=
  match g.load with
  | .lamp c => match (w.lights.circuits[c]?).map Circuit.zone with
    | some 0 => 1
    | some 2 => 1
    | some 1 => 2
    | some 3 => 2
    | some 4 => 3
    | _ => 5
  | .pump _ => 4
  | .gate _ => 5

/-- Entry `i`, which is `g`, is asked to shed before entry `j`, which is `h` (Table 2-7); of two pumps the one of the higher
grant number, compared plainly (log 26), of entries alike the first of the grant table. -/
def Works.shedBefore (w : Works) (i : Nat) (g : Grant) (j : Nat) (h : Grant) : Prop :=
  w.shedGroup g < w.shedGroup h ∨
    w.shedGroup g = w.shedGroup h ∧
      ((w.shedGroup g = 4 ∧ (h.numberKey < g.numberKey ∨ h.numberKey = g.numberKey ∧ i < j)) ∨ (w.shedGroup g < 4 ∧ i < j))

/-! ## The grant queue -/

/-- The three conditions of R33 under which a head is granted. -/
def Budget.mayGrant (b : Budget) (g : Grant) : Prop :=
  b.supply.state = .normal ∧ (∀ e ∈ b.grants, e.state ≠ .inrush) ∧ grantedSum b + g.need ≤ b.supply.capacity

/-- The head of the queue, where there is one, may not be granted (R33). -/
def Budget.headWaits (b : Budget) : Prop :=
  ∀ i g, b.queue.head? = some i → b.grants[i]? = some g → ¬ b.mayGrant g

/-- An entry of a class has joined a queue, which was `q`: behind the last of its class and ahead of any higher class number
(R32). -/
def Budget.joined (b : Budget) (i cls : Nat) (q : List Nat) : Prop :=
  ∃ x y, q = x ++ y ∧ b.queue = x ++ i :: y ∧ (∀ j ∈ x, classOf b j ≤ cls) ∧ ∀ j, y.head? = some j → cls < classOf b j

/-- The works with one grant entry replaced and another queue. -/
def Works.withEntry (w : Works) (i : Nat) (g : Grant) (q : List Nat) : Works :=
  { w with budget := { w.budget with grants := updAt (fun _ => g) i w.budget.grants, queue := q } }

/-- The examination of the head, made on `w`, has left `v` (R33): a head that waits changes nothing, and one that may be
granted is granted. -/
def Works.headExamined (w v : Works) : Prop :=
  (w.budget.headWaits → v = w) ∧
  ∀ i rest g, w.budget.queue = i :: rest → i ∉ rest → w.budget.grants[i]? = some g → w.budget.mayGrant g →
    w.sameOutsideBudget v ∧ w.handsOn v ∧ i ∉ v.budget.queue ∧
    v.handed (grantNotice g.load (if g.load.isLamp then g.requested else g.inrush)) ∧
    ∃ h, v.budget.grants[i]? = some h ∧ h.state = (if g.load.isLamp then EntryState.held else .inrush) ∧
      h.granted = (if g.load.isLamp then g.requested else g.inrush) ∧
      h.number = some (w.budget.supply.sequence + 1) ∧ h.energised = none ∧ h.outage = none

/-! ## Dewatering -/

/-- The pumps of a sump that are able to run (R50). -/
def Works.ableOf (w : Works) (si : Nat) : Nat := (w.dewater.pumps.filter (fun p => p.sump == si && p.able)).length

/-- No pump of a sump has the ordered intent RUN. -/
def Works.noneOrdered (w : Works) (si : Nat) : Prop := ∀ p ∈ w.dewater.pumps, p.sump = si → p.intent ≠ some .run

/-- A pump that a call for demand may take: IDLE with claim AUTO (R52). -/
def Works.callable (w : Works) (i : Nat) : Prop :=
  w.claimOf (.pump i) = .auto ∧ ∃ p, w.dewater.pumps[i]? = some p ∧ p.state = .idle

/-! ## The drop line -/

/-- How an exchange is missed: the command that ends it, and the kind of the miss (R134). -/
def Works.missedBy (w : Works) (x : Exchange) (r : RosterEntry) (i : Instr) (e : LineError) : Prop :=
  (i = .responseWindowExpiry ∧ frameComplete w.line.rx.frame = false ∧ x.windowStart + 25 ≤ w.now ∧
    e = if w.line.rx.gapSeen then .gap else .timeout) ∨
  (i = .responseFrameComplete ∧ frameComplete w.line.rx.frame = true ∧
    ((checkRight w.line.rx.frame = false ∧ e = .check) ∨
      (checkRight w.line.rx.frame = true ∧
        (imgByte w.line.rx.frame 2 ≠ x.unit ∨ imgByte w.line.rx.frame 3 ≠ x.cmd.code) ∧ e = .wrongAddress) ∨
      (checkRight w.line.rx.frame = true ∧ imgByte w.line.rx.frame 2 = x.unit ∧
        imgByte w.line.rx.frame 3 = x.cmd.code ∧ x.cmd = .poll ∧ imgByte w.line.rx.frame 4 ≠ r.type.imageLength ∧
        e = .check)))

/-- A request has been put on the line: its frame is being sent (R131, R134). -/
def Line.sends (l : Line) (k : ExKind) (unit : Nat) (c : LineCmd) (params : List Nat) : Prop :=
  l.exchange = some { kind := k
                      unit := unit
                      cmd := c
                      frame := requestFrame unit c params
                      awaiting := false
                      windowStart := 0
                      discard := false }

/-- The roster entry of a unit, which was `r`, has taken a selection state (R142). -/
def Works.selectionOf (w : Works) (u : Nat) (r : Option RosterEntry) (x : Selection) : Prop :=
  w.rosterEntry u = r.map (fun r => { r with selection := x })

/-! ## The memory port -/

/-- The bytes of a section stand at its offset (R165). -/
def Port.showsSection (p : Port) (x : Nat × List Byte) : Prop :=
  ∀ i : Nat, ∀ b, x.2[i]? = some b → Memory.read p.mem (x.1 + i) = b

/-- The header shows a time and a journal count (R165). -/
def Port.headerShows (p : Port) (time : Nat) (count : Word) : Prop :=
  Memory.readWord p.mem 0x1100 = BitVec.ofNat 32 (timeWord (some time)) ∧ Memory.readWord p.mem 0x1104 = count

/-- The state whose records a section of a rewrite shows that ends now: the running seconds are added for the pumps (R61). -/
def State.atSection (s : State) (n : Nat) : State :=
  if n = 4 then { s with works := s.works.addAllRun } else s

/-- A held slot has exactly one entry, its DONE bit is clear, and every entry's slot is one of 32 and held (R156). -/
def Port.heldMatchesList (p : Port) : Prop :=
  (∀ e ∈ p.working, e.slot < 32) ∧ (p.working.map Entry.slot).Nodup ∧
    (∀ k, p.isHeld k = true ↔ ∃ e ∈ p.working, e.slot = k) ∧ p.held &&& p.flag done = 0

/-- JOURNAL_COUNT shows the journal count (R162). -/
abbrev Port.countShown (p : Port) : Prop := p.flag journalCount = p.count

/-- IMAGE_GEN is odd while a rewrite is in progress, and only then may one be pending (R164). -/
abbrev Port.imageParity (p : Port) : Prop :=
  (p.flag imageGen).getLsbD 0 = p.rewrite.isSome ∧ (p.rewritePending = true → p.rewrite.isSome = true)

/-- Common memory and the rows of the site store are in their canonical form. -/
abbrev State.memoryWf (s : State) : Prop := Memory.wf s.port.mem = true ∧ Memory.wf s.store.rows = true

/-- The laws of the port together. -/
def State.portLaws (s : State) : Prop :=
  Memory.wf s.port.mem = true ∧ s.port.heldMatchesList ∧ s.port.countShown ∧ s.port.imageParity

/-- Every order but that of slot `k` has been completed SITE_CHANGED, with `k` as detail (R174, Table 8-6). -/
def State.siteChangedAll (s t : State) (k : Nat) : Prop :=
  ∀ e ∈ s.port.working, e.slot ≠ k → t.port.entry e.slot = none ∧ t.port.isHeld e.slot = false ∧
    (t.port.flag done).getLsbD e.slot = true ∧
    Memory.readWord t.port.mem (0x0100 + 128 * e.slot + 88) = BitVec.ofNat 16 k ++ BitVec.ofNat 16 11 ∧
    Memory.readWord t.port.mem (0x0100 + 128 * e.slot + 92) = 0

/-! ## The records that a site table builds (R174 step 3) -/

/-- Channels as built: Table 1-2, and no governing depth (R1, R3, R11). -/
def Works.channelsBuilt (w : Works) (site : Site) : Prop :=
  w.water.governing = none ∧
  w.water.channels.map (fun c => (c.unit, c.input, c.kind, c.low, c.high, c.partner)) =
    site.channels.map (fun c => (c.unit, c.input, c.kind, c.low, c.high, c.partner)) ∧
  w.water.channels.map (fun c => c.rise.map (fun r => (r.delta, r.window, r.baseline))) =
    site.channels.map (fun c => c.rise.map (fun r => (r.1, r.2, none))) ∧
  w.water.channels.map (fun c => c.thresholds.map (fun t => (t.role, t.level, t.direction, t.qualify, t.hysteresis, t.state))) =
    site.channels.map (fun c => c.thresholds.map (fun t => (t.role, t.level, t.direction, t.qualify, t.hysteresis,
      match t.direction with | .up => ThState.below | .down => .above))) ∧
  ∀ c ∈ w.water.channels, c.value = 0 ∧ c.validity = .unknown ∧ c.lastSample = none ∧ c.disagree = false

/-- Supply record and grant table as built: Tables 2-1 and 2-4 (R25, R27, R29, R101). -/
def Works.budgetBuilt (w : Works) (site : Site) : Prop :=
  w.budget.supply = { Supply.reset with capacity := site.supply.generator - site.supply.reserve } ∧
  w.budget.queue = [] ∧
  (w.budget.grants.take (site.pumps.length + 2)).map (fun g => (g.load, g.cls, g.requested, g.inrush, g.window)) =
    (indexed 0 site.pumps).map (fun x => (.pump x.1, 2, x.2.run, x.2.inrush, x.2.window)) ++
    [(.gate 0, 0, site.north.run, site.north.inrush, site.north.window),
      (.gate 1, 0, site.south.run, site.south.inrush, site.south.window)] ∧
  (w.budget.grants.drop (site.pumps.length + 2)).map (fun g => (g.load, g.cls, g.requested)) =
    ((indexed 0 site.circuits).filter (fun x => x.2.zone != 5)).map (fun x => (.lamp x.1, 3, 0)) ∧
  ∀ g ∈ w.budget.grants, g.state = .idle ∧ g.granted = 0 ∧ g.adopted = false ∧ g.mark = .none ∧ g.number = none ∧
    g.energised = none ∧ g.outage = none

/-- Sumps and pumps as built: Tables 3-1 and 3-2 (R46, R47). -/
def Works.pumpsBuilt (w : Works) (site : Site) : Prop :=
  w.dewater.sumps.map (fun s => (s.level, s.rotation, s.duty, s.cutout.unit, s.cutout.input, s.high.unit, s.high.input)) =
    site.sumps.map (fun s => (s.level, s.rotation, s.duty, s.cutoutUnit, s.cutoutInput, s.highUnit, s.highInput)) ∧
  (∀ s ∈ w.dewater.sumps, s.cutout.state = .unknown ∧ s.high.state = .unknown ∧ s.lead = 0 ∧ s.storm = false ∧
    s.demand = 0 ∧ s.able = 0 ∧ s.list = []) ∧
  w.dewater.pumps.map (fun p => (p.unit, p.motor, p.feedback, p.overloadInput, p.sump, p.out, p.confirm, p.rest, p.starts)) =
    site.pumps.map (fun p => (p.unit, p.motor, p.feedback, p.overload, p.sump, p.out, p.confirm, p.rest, p.starts)) ∧
  ∀ p ∈ w.dewater.pumps, p.state = .uncommanded ∧ p.cause = none ∧ p.trip = none ∧ p.intent = none ∧
    p.running = .unknown ∧ p.overload = .unknown ∧ p.grant = .none ∧ p.pair = .none ∧ p.mark = .none ∧ p.lapse = false ∧
    p.startTime = none ∧ p.lastStop = none ∧ p.history = [] ∧ p.runSeconds = 0

/-- Portals and interior record as built: Table 4-1 (R72, R78). -/
def Works.portalsBuilt (w : Works) (site : Site) : Prop :=
  w.portals.interior = Interior.reset ∧
  ∀ n x, (n = 0 ∧ x = site.north ∨ n = 1 ∧ x = site.south) →
    (w.portal n).unit = x.unit ∧ (w.portal n).signalOut = x.signal ∧ (w.portal n).barrierOut = x.barrier ∧
    (w.portal n).gateOut = x.gate ∧ (w.portal n).warn = x.warn ∧ (w.portal n).clearLimit = x.clearLimit ∧
    (w.portal n).barrier.limit = x.barrierTravel ∧ (w.portal n).gate.limit = x.gateTravel ∧
    (w.portal n).gate.dwell = x.obstruction ∧ (w.portal n).gate.attemptLimit = x.attempts ∧
    (w.portal n).closure = .unknown ∧ (w.portal n).stall = none ∧ (w.portal n).interrupted = none ∧
    (w.portal n).reopening = false ∧ (w.portal n).timer = none ∧ (w.portal n).signals.wanted = .dark ∧
    (w.portal n).signals.shown = .unknown ∧ (w.portal n).barrier.state = .unknown ∧ (w.portal n).barrier.pair = .none ∧
    (w.portal n).barrier.travel = none ∧ (w.portal n).gate.state = .unknown ∧ (w.portal n).gate.position = 0 ∧
    (w.portal n).gate.attempts = 0 ∧ (w.portal n).gate.grant = .none ∧ (w.portal n).gate.pair = .none ∧
    (w.portal n).gate.stopping = false ∧ (w.portal n).gate.travel = none ∧ (w.portal n).gate.dwellStart = none

/-- Zones and circuits as built: Tables 5-1 and 5-2 (R100, R101); the grant entry of a circuit is its own (R29). -/
def Works.lightsBuilt (w : Works) (site : Site) : Prop :=
  w.lights.zones.map (fun z => (z.unit, z.minNormal, z.minStorm, z.day, z.night, z.offset)) =
    site.zones.map (fun z => (z.unit, z.minNormal, z.minStorm, z.day, z.night, z.offset)) ∧
  (∀ (i : Nat) (z : Zone), w.lights.zones[i]? = some z → z.mode = .normal ∧ z.current = none ∧ z.ordered = none ∧
    z.degraded = false ∧ z.minSafe = (if i = 5 then none else some z.minNormal) ∧
    z.circuits = ((indexed 0 site.circuits).filter (fun c => c.2.zone == i)).map Prod.fst) ∧
  w.lights.circuits.map (fun c => (c.zone, c.output, c.power)) = site.circuits.map (fun c => (c.zone, c.output, c.power)) ∧
  ∀ (i : Nat) (c : Circuit), w.lights.circuits[i]? = some c → c.granted = 0 ∧ c.request = none ∧ c.setList = [] ∧
    c.reported = none ∧ c.fault = .clear ∧ c.shedHold = false ∧ (c.zone = 5 → c.grant = none) ∧
    (c.zone ≠ 5 → ∃ g e, c.grant = some g ∧ w.budget.grants[g]? = some e ∧ e.load = .lamp i) ∧
    ∀ z, w.lights.zones[c.zone]? = some z → c.wanted = z.target

/-- Claims as built: Table 6-1, each LOCAL with its key not seen (R118). -/
def Works.claimsBuilt (w : Works) (site : Site) : Prop :=
  w.claims.map (fun c => (c.subject, c.unit, c.key)) =
    (indexed 0 site.pumps).map (fun x => (.pump x.1, x.2.unit, x.2.key)) ++
    [(.portal 0, site.north.unit, site.north.key), (.portal 1, site.south.unit, site.south.key)] ++
    (indexed 0 site.zones).map (fun x => (.zone x.1, x.2.unit, x.2.key)) ∧
  ∀ c ∈ w.claims, c.keyView = .unknown ∧ c.value = .away ∧ c.slot = none ∧ c.changed = w.now

/-- The roster as built: Table 7-3 (R133). -/
def Works.rosterBuilt (w : Works) (site : Site) : Prop :=
  w.line.roster.map (fun r => (r.address, r.type, r.missLimit)) =
    site.units.map (fun u => (u.address, u.type, u.missLimit)) ∧
  ∀ r ∈ w.line.roster, r.state = .unseen ∧ r.missCount = 0 ∧ r.lastGood = none ∧ r.lastError = none ∧
    r.selection = .none ∧ r.heard = false ∧ r.held = none ∧ r.retry = []

/-- Each block has built its records from a site table (R174 step 3). -/
def Works.builtFrom (w : Works) (site : Site) : Prop :=
  w.channelsBuilt site ∧ w.budgetBuilt site ∧ w.pumpsBuilt site ∧ w.portalsBuilt site ∧ w.lightsBuilt site ∧
    w.claimsBuilt site ∧ w.rosterBuilt site

/-! ## The works -/

/-- The governing depth of the channels as they stand (R11): the VALID DEPTH channel of the highest value, of several the one
of the lowest index; none where no DEPTH channel is VALID. -/
def Works.depthGoverns (w : Works) : Prop :=
  (w.water.governing = none → ∀ c ∈ w.water.channels, c.kind = .depth → c.validity ≠ .valid) ∧
  ∀ d, w.water.governing = some d → ∃ c, w.water.channels[d.channel]? = some c ∧ c.kind = .depth ∧
    c.validity = .valid ∧ c.value = d.value ∧
    ∀ (i : Nat) (x : Channel), w.water.channels[i]? = some x → x.kind = .depth → x.validity = .valid →
      x.value ≤ d.value ∧ (x.value = d.value → d.channel ≤ i)

/-- A site table is in force in ROLL_CALL, HELD and RUNNING (Table 9-3). -/
abbrev Works.siteInForce (w : Works) : Prop :=
  w.station.state = .rollCall ∨ w.station.state = .held ∨ w.station.state = .running → w.station.site.isSome = true

/-- At most one grant entry is in INRUSH (R33). -/
abbrev Works.oneInrush (w : Works) : Prop :=
  (w.budget.grants.filter (fun g => decide (g.state = .inrush))).length ≤ 1

/-- The line queue holds at most 32 entries (R139). -/
abbrev Works.lineQueueFits (w : Works) : Prop := w.line.queue.length ≤ 32

/-- An order as a notice takes it up in slot `k`, waiting there. -/
abbrev State.orderWaits (s : State) (k : Nat) (o : Order) : Prop := s.waitingOrder k o.code = some o

/-- The state after the event of a block that leaves the works `v`: what ends every event has been done (log 9). -/
def State.ended (s : State) (v : Works) : State := settleState { s with works := v }

/-- The state after an order of slot `k` was taken up by its owner, which leaves the works `v`. -/
def State.takenUp (s : State) (k : Nat) (v : Works) : State := markTaken k (s.ended v)

/-- A channel's rise detector has the given baseline (R8). -/
def Works.withBaseline (w : Works) (c : Nat) (b : Option (Nat × Nat)) : Works :=
  { w with water := { w.water with
      channels := updAt (fun y => { y with rise := y.rise.map (fun d => { d with baseline := b }) }) c w.water.channels } }

/-- The same of the state. -/
def State.withBaseline (s : State) (c : Nat) (b : Option (Nat × Nat)) : State :=
  { s with works := s.works.withBaseline c b }

/-- The state with one grant entry replaced. -/
def State.withGrant (s : State) (i : Nat) (g : Grant) : State :=
  { s with works := { s.works with budget := { s.works.budget with grants := updAt (fun _ => g) i s.works.budget.grants } } }

/-- The station state lets the jobs take orders up (Table 9-4). -/
abbrev Works.takesOrders (w : Works) : Prop := w.station.state = .held ∨ w.station.state = .running

end Sys2Proof.Machine
end

