-- ==== Sys2Proof/Certificates/Slice0/Obligations.lean ====
section
/-! DEFINITION. The statements for the provers. Each follows the rules it names; where it rests on a choice of the model, the
choice is named with its log entry. -/

open Sys2Proof Sys2Proof.Machine

/-! ## Steps -/

/-- A step takes the command at the front of the queue and runs it with the queue's rest. -/
def Obligations.StepRunsFrontCommand : Prop :=
  ∀ (c : Instr) (rest : List Instr) (s : State), s.pending = c :: rest → step s = exec c (s.withPending rest)

/-- With the queue empty the oldest notice between the blocks is taken, and with both empty a millisecond of station time
passes and the ends of the timers that are due then join the notices (the model's choices, log 1, 2 and 24). Outside a
rewrite nothing else changes; within one the records of the blocks stay too, but for the running seconds of the pumps, the
last line errors and the free value counter (R61, R134, log 23 and 36). -/
def Obligations.StepServesNoticesThenTime : Prop :=
  (∀ (c : Instr) (rest : List Instr) (s : State), s.pending = [] → s.works.notices = c :: rest →
    step s = exec c (s.withNotices rest)) ∧
  (∀ s : State, s.pending = [] → s.works.notices = [] → ∃ t, step s = .next t ∧ t.works.now = s.works.now + 1 ∧
    t.works.station = s.works.station ∧ t.store = s.store ∧ t.pending = [] ∧ Port.sameReaders
      { s.port with rewrite := none } { t.port with rewrite := none } ∧ t.port.pstat = s.port.pstat ∧
    (s.port.rewrite = none → t.port = s.port ∧
      t.works = { s.works with now := s.works.now + 1, notices := t.works.notices }) ∧
    t.works.water = s.works.water ∧ t.works.budget = s.works.budget ∧ t.works.portals = s.works.portals ∧
    t.works.lights = s.works.lights ∧ t.works.claims = s.works.claims ∧ t.works.active = s.works.active ∧
    t.works.reports = s.works.reports ∧ t.works.dewater.sumps = s.works.dewater.sumps ∧
    t.works.dewater.pumps.map Pump.sansRun = s.works.dewater.pumps.map Pump.sansRun ∧
    t.works.line = { s.works.line with roster := t.works.line.roster } ∧
    t.works.line.roster.map RosterEntry.sansError = s.works.line.roster.map RosterEntry.sansError ∧
    (∀ i, t.works.due i → t.works.handed i) ∧
    (s.port.rewrite = none → ∀ i, t.works.handed i → t.works.due i))

/-! ## Resets -/

/-- R166: what a power-on reset leaves. That the commands waiting stay in the queue is the model's choice (log 19). -/
def Obligations.PowerOnReset : Prop :=
  ∀ s : State, ∃ t, exec .powerOnReset s = .next t ∧ (∀ a, Memory.read t.port.mem a = 0) ∧
    t.register 0 = s.register 0 ∧ t.works.station.state = .loading ∧ t.register 1 = 0 ∧ t.register 2 = 0 ∧
    t.register 3 = 0 ∧ t.works.now = 0 ∧ t.port.working = [] ∧ t.port.held = 0 ∧ t.port.count = 0 ∧
    t.port.rewrite = none ∧ t.port.rewritePending = false ∧ t.port.attention = false ∧ t.store = s.store ∧
    t.pending = s.pending

/-- R167: a word write to RUNCTL whose RESET field holds 1 resets the part; memory outside the flag page and the site store keep
their content, and the records of the blocks are those of a reset: no channel, governing depth, grant entry, sump, pump, zone,
circuit or claim, and stage, supply, portal and interior records, day decision and drop line as after a reset. That no notice is
left (log 11) and that the commands waiting stay in the queue (log 19) are the model's choices. The zeros of the round record's
start and last address, of the receiver's last byte time and of the site figures of the portals and the day decision, and the
decision DAY (log 8), and the heading LOWER of a barrier (log 29), are the model's choices too. -/
def Obligations.PartReset : Prop :=
  ∀ (d : Word) (s : State), d.toNat % 256 = 1 → Memory.wf s.port.mem = true →
    ∃ t, exec (.partReset d) s = .next t ∧ (∀ a, a < 256 → Memory.read t.port.mem a = 0) ∧
      (∀ a, 256 ≤ a → Memory.read t.port.mem a = Memory.read s.port.mem a) ∧ t.works.station.state = .loading ∧
      t.works.station.site = none ∧ t.register 2 = 0 ∧ t.works.now = 0 ∧ t.port.working = [] ∧ t.port.held = 0 ∧
      t.port.count = 0 ∧ t.port.rewrite = none ∧ t.port.rewritePending = false ∧ t.port.attention = false ∧
      t.works.active = [] ∧ t.works.notices = [] ∧ t.works.water.channels = [] ∧ t.works.water.stage = StageRec.reset ∧
      t.works.budget = { supply := Supply.reset, grants := [], queue := [] } ∧ t.works.dewater = { sumps := [], pumps := [] } ∧
      t.works.water.governing = none ∧ t.works.claims = [] ∧ t.works.line = Line.reset ∧
      t.works.portals = { north := Portal.reset, south := Portal.reset, interior := Interior.reset } ∧
      t.works.lights = { zones := [], circuits := [], day := Day.reset } ∧
      t.store = s.store ∧ t.pending = s.pending

/-- The state after reset meets the standing laws that the step keeps. -/
def Obligations.ResetMeetsTheLaws : Prop :=
  State.reset.memoryWf ∧ State.reset.portLaws ∧ State.reset.works.siteInForce ∧ State.reset.works.oneInrush ∧
    State.reset.works.lineQueueFits

/-! ## Registers -/

/-- R154: a write to PSTAT clears the bits written as 1; a word write to IDENT or CLOCK, to RUNCTL with RESET other than 1,
or to an unmapped address is discarded; a narrow write into the registers sets VIEW_FORM and MISUSE and does no more. -/
def Obligations.RegisterWrites : Prop :=
  (∀ (d : Word) (s : State), exec (.pstatWrite d) s = .next { s with port := { s.port with pstat :=
    { viewForm := s.port.pstat.viewForm && !d.getLsbD 0, ownedWord := s.port.pstat.ownedWord && !d.getLsbD 1,
      repost := s.port.pstat.repost && !d.getLsbD 2 } } }) ∧
  (∀ (a : Half) (w : Width) (d : Word) (s : State), discardedWriteOk a.toNat w d = true →
    (w = .word ∨ unmappedBase ≤ a.toNat) → exec (.registerWriteDiscarded a w d) s = .next s) ∧
  (∀ (a : Half) (w : Width) (d : Word) (s : State), w ≠ .word → registerBase ≤ a.toNat → a.toNat < unmappedBase →
    Memory.wf s.port.mem = true → ∃ t, exec (.registerWriteDiscarded a w d) s = .next t ∧ s.sameOutsidePort t ∧
      s.port.setsViewForm t.port ∧ s.port.sameButWords [attn] t.port ∧ s.port.sameRest t.port)

/-! ## Flag page -/

/-- R153: a plain word write replaces a flag word; at DONE it only clears, and sets OWNED_WORD where it would set a bit; at
the part's own two words it is discarded and sets OWNED_WORD. -/
def Obligations.FlagPlainWrite : Prop :=
  ∀ (w : Nat) (d : Word) (s : State), w < 64 → Memory.wf s.port.mem = true →
    ∃ t, exec (.flagPlainWrite w d) s = .next t ∧ s.afterWrite w t ∧
      (w ≠ done → w ≠ journalCount → w ≠ imageGen →
        t.port.flag w = d ∧ t.port.pstat = s.port.pstat ∧ s.port.sameButWords [w] t.port) ∧
      (w = done → t.port.flag done = s.port.flag done &&& d ∧
        (d &&& ~~~(s.port.flag done) = 0 → t.port.pstat = s.port.pstat ∧ s.port.sameButWords [done] t.port) ∧
        (d &&& ~~~(s.port.flag done) ≠ 0 → s.port.setsOwnedWord t.port ∧ s.port.sameButWords [done, attn] t.port)) ∧
      (w = journalCount ∨ w = imageGen → s.port.setsOwnedWord t.port ∧ s.port.sameButWords [attn] t.port)

/-- R151, R153: the set view ORs the data into the word and the clear view clears the bits written as 1; a set of DONE, and
either write to the part's own two words, is discarded and sets OWNED_WORD. -/
def Obligations.SetAndClearViews : Prop :=
  (∀ (w : Nat) (d : Word) (s : State), w < 64 → Memory.wf s.port.mem = true →
    ∃ t, exec (.flagSetViewWrite w d) s = .next t ∧ s.afterWrite w t ∧
      (w ≠ done → w ≠ journalCount → w ≠ imageGen →
        t.port.flag w = s.port.flag w ||| d ∧ t.port.pstat = s.port.pstat ∧ s.port.sameButWords [w] t.port) ∧
      (w = done ∨ w = journalCount ∨ w = imageGen → s.port.setsOwnedWord t.port ∧ s.port.sameButWords [attn] t.port)) ∧
  (∀ (w : Nat) (d : Word) (s : State), w < 64 → Memory.wf s.port.mem = true →
    ∃ t, exec (.flagClearViewWrite w d) s = .next t ∧ s.afterWrite w t ∧
      (w ≠ journalCount → w ≠ imageGen →
        t.port.flag w = s.port.flag w &&& ~~~d ∧ t.port.pstat = s.port.pstat ∧ s.port.sameButWords [w] t.port) ∧
      (w = journalCount ∨ w = imageGen → s.port.setsOwnedWord t.port ∧ s.port.sameButWords [attn] t.port))

/-- R151, R153: a read through the take view returns the word and leaves it zero, but for the part's own two words, which it
leaves and sets OWNED_WORD; it is no arrival. A write through the take view is discarded and sets VIEW_FORM, and OWNED_WORD
too at the part's own two words (log 15). -/
def Obligations.TakeView : Prop :=
  (∀ (w : Nat) (s : State), w < 64 → Memory.wf s.port.mem = true →
    ∃ t, exec (.flagTakeViewRead w) s = .next t ∧ t.port.readData = s.port.flag w ∧ s.port.sameReaders t.port ∧
      s.sameOutsidePort t ∧
      (w ≠ journalCount → w ≠ imageGen →
        t.port.flag w = 0 ∧ t.port.pstat = s.port.pstat ∧ s.port.sameButWords [w] t.port) ∧
      (w = journalCount ∨ w = imageGen → s.port.setsOwnedWord t.port ∧ s.port.sameButWords [attn] t.port)) ∧
  (∀ (w : Nat) (d : Word) (s : State), w < 64 → Memory.wf s.port.mem = true →
    ∃ t, exec (.takeViewWrite w d) s = .next t ∧ s.afterWrite w t ∧ s.port.sameButWords [attn] t.port ∧
      t.port.flag attn = s.port.flag attn ||| attnMisuse ∧
      t.port.pstat = { s.port.pstat with viewForm := true, ownedWord :=
        s.port.pstat.ownedWord || (w == journalCount || w == imageGen) })

/-- R151: a narrow access to the set, clear or take view, or to words 0 to 7 of the plain view, is refused: nothing but
VIEW_FORM and MISUSE is set, and a read returns 0. A refused write to POSTED or WITHDRAW is still an arrival. That a narrow
write to the part's own two words sets VIEW_FORM alone, not OWNED_WORD as well, is the model's reading (log 15). -/
def Obligations.NarrowAccessRefused : Prop :=
  ∀ (a : Half) (half isWrite : Bool) (s : State), narrowRefused a.toNat = true → Memory.wf s.port.mem = true →
    ∃ t, exec (.narrowViewAccess a half isWrite) s = .next t ∧ s.port.setsViewForm t.port ∧
      s.port.sameButWords [attn] t.port ∧ s.port.sameReaders t.port ∧
      t.port.readData = (if isWrite then s.port.readData else 0) ∧ t.store = s.store ∧ t.pending = s.pending ∧
      t.works = (if isWrite = true ∧ ((windowOf a.toNat).flagIndex = some posted ∨
          (windowOf a.toNat).flagIndex = some withdraw) then s.works.send .orderArrival else s.works)

/-- R150: a plain store writes the bytes of the access, least significant first, within common memory, and nothing else. That
the data of a narrow store lie in its low bits, and that bytes of an access beyond common memory are dropped, are the model's
choices (log 15). -/
def Obligations.PlainStore : Prop :=
  ∀ (a : Half) (w : Width) (d : Word) (s : State), plainStoreOk a.toNat w = true → Memory.wf s.port.mem = true →
    ∃ t, exec (.plainMemoryWrite a w d) s = .next t ∧ s.sameOutsidePort t ∧ s.port.sameRest t.port ∧
      t.port.pstat = s.port.pstat ∧
      ∀ b : Nat, Memory.read t.port.mem b =
        if a.toNat ≤ b ∧ b < a.toNat + widthBytes w ∧ b < viewBase then d.extractLsb' (8 * (b - a.toNat)) 8
        else Memory.read s.port.mem b

/-! ## Journal -/

/-- R162: an append writes the record at its position, moves JOURNAL_COUNT on, and sets the attention bits of the record by its
kind (R155, bits of R180): JOURNAL of each, FAULT of one marked as a fault, STAGE, SUPPLY, STATION and LINE of the kinds R155
names. R181: the codes of the kinds. -/
def Obligations.JournalAppend : Prop :=
  ([JournalKind.stage, .threshold, .rise, .channel, .sensorDisagree, .sensorAgree, .depthLost, .depthRestored,
      .closureSuppressed, .supply, .budget, .shed, .restore, .adopt, .pump, .pumpTrip, .demand, .lead, .float,
      .runtimeSaturated, .portal, .gate, .barrier, .obstruction, .portalStall, .interior, .interiorNotClear, .portalFault,
      .zone, .zoneMode, .daylight, .lampFault, .lampHealthy, .claim, .unit, .lineError, .lineQueueFull, .station,
      .storeFault].map JournalKind.code =
    [0x01, 0x02, 0x03, 0x04, 0x05, 0x06, 0x07, 0x08, 0x09, 0x11, 0x12, 0x13, 0x14, 0x15, 0x21, 0x22, 0x23, 0x24, 0x25, 0x26,
      0x31, 0x32, 0x33, 0x34, 0x35, 0x36, 0x37, 0x38, 0x41, 0x42, 0x43, 0x44, 0x45, 0x51, 0x61, 0x62, 0x63, 0x71, 0x72]) ∧
  ∀ (r : JournalRec) (s : State), Memory.wf s.port.mem = true →
    ∃ t, exec (.journalAppend r) s = .next t ∧ s.sameOutsidePort t ∧ t.port.pstat = s.port.pstat ∧
      t.port.count = s.port.count + 1 ∧ t.port.flag journalCount = s.port.count + 1 ∧
      t.port.flag 4 = s.port.flag 4 ||| 0x01 ||| (if r.kind = .stage then 0x02 else 0) ||| (if r.fault then 0x04 else 0) |||
        (if r.kind = .supply ∨ r.kind = .budget ∨ r.kind = .shed ∨ r.kind = .adopt then 0x08 else 0) |||
        (if r.kind = .station then 0x10 else 0) |||
        (if r.kind = .unit ∨ r.kind = .lineError ∨ r.kind = .lineQueueFull then 0x40 else 0) ∧
      (∀ n, n < 8 → Memory.readWord t.port.mem (0x2000 + 32 * (s.port.count.toNat % 256) + 4 * n) =
        [s.port.count, stamp s.works.now, BitVec.ofNat 16 r.subject ++ BitVec.ofNat 16 r.kind.code,
          stateField r.toState ++ stateField r.fromState, detail r 0, detail r 1, detail r 2, detail r 3].getD n 0) ∧
      (∀ a : Nat, (a < 0x2000 + 32 * (s.port.count.toNat % 256) ∨ 0x2000 + 32 * (s.port.count.toNat % 256) + 32 ≤ a) →
        (∀ x ∈ [journalCount, attn], a < 4 * x ∨ 4 * x + 4 ≤ a) →
        Memory.read t.port.mem a = Memory.read s.port.mem a) ∧
      t.port.working = s.port.working ∧ t.port.held = s.port.held ∧ t.port.rewrite = s.port.rewrite ∧
      t.port.rewritePending = s.port.rewritePending ∧ t.port.readData = s.port.readData

/-! ## Orders at the order reader -/

/-- R160, R180: a completion writes words 22 to 31 of the slot (status and detail, second detail, stamp, six results or 0, and
the order code and tag of the snapshot) and gives the slot back in one act; without an entry it is discarded. A completion whose
NOTIFY bit is set asserts the attention output (R155). -/
def Obligations.OrderCompletion : Prop :=
  (∀ (c : Completion) (s : State), s.port.entry c.slot = none → exec (.orderCompletion c) s = .next s) ∧
  (∀ (c : Completion) (e : Entry) (s : State), c.slot < 32 → s.port.entry c.slot = some e → Memory.wf s.port.mem = true →
    ∃ t, exec (.orderCompletion c) s = .next t ∧ s.sameOutsidePort t ∧ t.port.pstat = s.port.pstat ∧
      (∀ n, n < 10 → Memory.readWord t.port.mem (0x0100 + 128 * c.slot + 88 + 4 * n) =
        [BitVec.ofNat 16 c.detail ++ BitVec.ofNat 16 c.status, BitVec.ofNat 32 c.second, stamp s.works.now,
          BitVec.ofNat 32 (c.results.getD 0 0), BitVec.ofNat 32 (c.results.getD 1 0), BitVec.ofNat 32 (c.results.getD 2 0),
          BitVec.ofNat 32 (c.results.getD 3 0), BitVec.ofNat 32 (c.results.getD 4 0), BitVec.ofNat 32 (c.results.getD 5 0),
          (e.snapshot.getD 1 0).extractLsb' 16 16 ++ (e.snapshot.getD 0 0).extractLsb' 0 16].getD n 0) ∧
      t.port.flag done = s.port.flag done ||| slotBit c.slot ∧ t.port.held = s.port.held &&& ~~~(slotBit c.slot) ∧
      t.port.working = s.port.working.filter (fun x => !(x.slot == c.slot)) ∧
      (∀ a : Nat, (a < 0x0100 + 128 * c.slot + 88 ∨ 0x0100 + 128 * c.slot + 128 ≤ a) → (a < 4 * done ∨ 4 * done + 4 ≤ a) →
        Memory.read t.port.mem a = Memory.read s.port.mem a) ∧
      t.port.count = s.port.count ∧ t.port.rewrite = s.port.rewrite ∧ t.port.rewritePending = s.port.rewritePending ∧
      t.port.readData = s.port.readData ∧
      ((s.port.flag notify).getLsbD c.slot = true → t.port.attention = true))

/-- R157: a post of a free slot is taken: the words 0 to 21 are its snapshot, the slot is held, a DONE bit it had is cleared,
POSTED and WITHDRAW are zero, and an order that passes its checks in HELD or RUNNING is handed to its owner. -/
def Obligations.PostIsTaken : Prop :=
  ∀ (k : Nat) (c : OrderCode) (s : State), k < 32 → Memory.wf s.port.mem = true → s.port.flag posted = slotBit k →
    s.port.flag withdraw = 0 → s.port.isHeld k = false → s.works.takesOrders →
    (newEntry k s.works.now s.port.mem).order = some c → (newEntry k s.works.now s.port.mem).countField = c.params →
    (newEntry k s.works.now s.port.mem).flagsField = 0 →
    s.works.subjectExists c (newEntry k s.works.now s.port.mem).subject = true →
    s.port.entry k = none →
    ∃ t, exec .orderArrival s = .next t ∧
      t.port.working = s.port.working ++ [{ newEntry k s.works.now s.port.mem with checked := true }] ∧
      t.port.held = s.port.held ||| slotBit k ∧ t.port.flag done = s.port.flag done &&& ~~~(slotBit k) ∧
      t.port.flag posted = 0 ∧ t.port.flag withdraw = 0 ∧ t.works = s.works.send (c.takeUp k) ∧
      s.port.sameButWords [posted, done, withdraw] t.port ∧ t.port.pstat = s.port.pstat ∧ t.store = s.store ∧
      t.pending = s.pending ∧ t.port.count = s.port.count ∧ t.port.rewrite = s.port.rewrite

/-- R157: an arrival that finds POSTED and WITHDRAW zero changes nothing; a post of a held slot is discarded, with REPOST and
MISUSE set and the order left as it was. -/
def Obligations.EmptyArrivalAndRepost : Prop :=
  (∀ s : State, Memory.wf s.port.mem = true → s.port.flag posted = 0 → s.port.flag withdraw = 0 →
    exec .orderArrival s = .next s) ∧
  (∀ (k : Nat) (s : State), k < 32 → Memory.wf s.port.mem = true → s.port.flag posted = slotBit k →
    s.port.flag withdraw = 0 → s.port.isHeld k = true →
    ∃ t, exec .orderArrival s = .next t ∧ t.port.flag posted = 0 ∧ t.port.flag withdraw = 0 ∧
      t.port.pstat = { s.port.pstat with repost := true } ∧ t.port.flag attn = s.port.flag attn ||| attnMisuse ∧
      s.port.sameButWords [posted, withdraw, attn] t.port ∧ s.port.sameRest t.port ∧ t.works = s.works ∧
      t.store = s.store ∧ t.pending = s.pending)

/-- R158, R159: an order that fails a check of R158 (code, count, flags, subject, or an order of a job in UNSET) completes at
once with the status and details of the first check it fails. That the subject of an order of station control is 0 and is
checked in every station state (DESIGN CHOICE), that the checks of code, count and flags come ahead of NO_SITE, and the detail 0
of NO_SITE (DEDUCED) are the model's, by log 16. The withdrawal of an order that waits and has not been taken up completes it
WITHDRAWN at once; that of an ACTIVE order is answered by its owner as Table 8-5 gives. A second detail of 0 where the rules
name none is the model's choice (log 17). -/
def Obligations.BadOrderAndWithdrawal : Prop :=
  (∀ (k status detail second : Nat) (s : State), k < 32 → Memory.wf s.port.mem = true →
    s.port.flag posted = slotBit k → s.port.flag withdraw = 0 → s.port.isHeld k = false → s.port.entry k = none →
    s.works.firstFailure (newEntry k s.works.now s.port.mem) = some (status, detail, second) →
    ∃ t, exec .orderArrival s = .next t ∧
      Memory.readWord t.port.mem (0x0100 + 128 * k + 88) = BitVec.ofNat 16 detail ++ BitVec.ofNat 16 status ∧
      Memory.readWord t.port.mem (0x0100 + 128 * k + 92) = BitVec.ofNat 32 second ∧
      t.port.flag done = s.port.flag done ||| slotBit k ∧ t.port.held = s.port.held &&& ~~~(slotBit k) ∧
      t.port.working = s.port.working ∧ t.port.flag posted = 0 ∧ t.works = s.works ∧ t.store = s.store) ∧
  (∀ (k : Nat) (e : Entry) (s : State), k < 32 → Memory.wf s.port.mem = true → s.port.flag posted = 0 →
    s.port.flag withdraw = slotBit k → s.port.entry k = some e → e.standing = .waiting → e.takenUp = false →
    ∃ t, exec .orderArrival s = .next t ∧
      Memory.readWord t.port.mem (0x0100 + 128 * k + 88) = BitVec.ofNat 16 0 ++ BitVec.ofNat 16 8 ∧
      t.port.flag done = s.port.flag done ||| slotBit k ∧ t.port.held = s.port.held &&& ~~~(slotBit k) ∧
      t.port.working = s.port.working.filter (fun x => !(x.slot == k)) ∧ t.port.flag withdraw = 0 ∧
      t.works = s.works.forget e ∧ t.store = s.store) ∧
  (∀ (k : Nat) (e : Entry) (a : Active) (s : State), k < 32 → Memory.wf s.port.mem = true → s.port.flag posted = 0 →
    s.port.flag withdraw = slotBit k → s.port.entry k = some e → e.standing = .active →
    s.works.active.find? (fun a => a.slot == k) = some a →
    ∃ t, exec .orderArrival s = .next t ∧ t.port.flag withdraw = 0 ∧ s.port.sameButWords [posted, withdraw] t.port ∧
      t.port.working = s.port.working ∧ t.port.held = s.port.held ∧ t.store = s.store ∧ t.pending = s.pending ∧
      (s.works.withdrawable a → t.works = s.works.complete k 8 1 0 []) ∧
      (¬ s.works.withdrawable a → t.works = s.works))

/-! ## Status image -/

/-- R164: a request begins a rewrite where none is in progress: IMAGE_GEN is incremented, which makes it odd; during a
rewrite it only marks one pending. -/
def Obligations.ImageRewriteRequest : Prop :=
  (∀ s : State, s.port.rewrite = none → Memory.wf s.port.mem = true →
    ∃ t, exec .imageRewriteRequest s = .next t ∧ t.port.flag imageGen = s.port.flag imageGen + 1 ∧
      (s.port.imageParity → (t.port.flag imageGen).getLsbD 0 = true) ∧
      (∃ r, t.port.rewrite = some r ∧ r.time = s.works.now ∧ r.count = s.port.count) ∧
      (∀ a : Nat, (a < 0x1100 ∨ 0x2000 ≤ a) → (a < 4 * imageGen ∨ 4 * imageGen + 4 ≤ a) →
        Memory.read t.port.mem a = Memory.read s.port.mem a) ∧
      t.port.working = s.port.working ∧ t.port.held = s.port.held ∧ t.port.count = s.port.count ∧
      t.port.rewritePending = s.port.rewritePending ∧ t.port.pstat = s.port.pstat ∧ t.store = s.store ∧
      t.pending = s.pending ∧ t.works.now = s.works.now ∧ t.works.station = s.works.station) ∧
  (∀ s : State, s.port.rewrite.isSome = true →
    exec .imageRewriteRequest s = .next { s with port := { s.port with rewritePending := true } })

/-- R164, R165: the end of a rewrite writes the sections of Table 8-7 that are left and increments IMAGE_GEN, which makes it
even; the header shows station time and JOURNAL_COUNT as they were at the start. A pending rewrite begins at once, which
makes IMAGE_GEN odd again, and the mark is cleared; its header may already be written. How many sections stand at a moment is
a free value (log 23), the time in the header is by log 36. -/
def Obligations.ImageRewriteEnd : Prop :=
  ∀ (r : Rewrite) (s : State), s.port.rewrite = some r → Memory.wf s.port.mem = true →
    ∃ t, exec .imageRewriteEnd s = .next t ∧ t.port.rewritePending = false ∧ t.store = s.store ∧
      t.pending = s.pending ∧ t.port.working = s.port.working ∧ t.port.held = s.port.held ∧
      t.port.count = s.port.count ∧ t.port.pstat = s.port.pstat ∧
      (∀ a : Nat, (a < 0x1100 ∨ 0x2000 ≤ a) → (a < 4 * imageGen ∨ 4 * imageGen + 4 ≤ a) →
        Memory.read t.port.mem a = Memory.read s.port.mem a) ∧
      (s.port.imageParity → (t.port.flag imageGen).getLsbD 0 = s.port.rewritePending) ∧
      (s.port.rewritePending = false → t.port.rewrite = none ∧ t.port.flag imageGen = s.port.flag imageGen + 1 ∧
        (r.done = 0 → Memory.readWord t.port.mem 0x1100 = BitVec.ofNat 32 (timeWord (some r.time)) ∧
          Memory.readWord t.port.mem 0x1104 = r.count) ∧
        (0 < r.done → ∀ a : Nat, 0x1100 ≤ a → a < 0x1110 →
          Memory.read t.port.mem a = Memory.read s.port.mem a) ∧
        (∀ n : Nat, r.done ≤ n → n < 11 → t.port.showsSection (sectionBytes n r (s.atSection n))) ∧
        (r.done ≤ 1 → Memory.read t.port.mem 0x1110 = BitVec.ofNat 8 s.works.station.state.code) ∧
        (r.done ≤ 2 → Memory.read t.port.mem 0x1120 = BitVec.ofNat 8 s.works.water.stage.stage.code)) ∧
      (s.port.rewritePending = true → t.port.rewrite.isSome = true ∧
        t.port.flag imageGen = s.port.flag imageGen + 2 ∧
        (r.done = 0 → t.port.headerShows r.time r.count ∨ t.port.headerShows s.works.now s.port.count))

/-! ## Water watch -/

/-- R4: Table 1-3, and its use at each sample that arrives while the channel is VALID. A count reaches at most the qualify
count. What a sample out of range and the loss of a channel leave of the thresholds (R6) is stated at RiseWindowExpiry. -/
def Obligations.UpThreshold : Prop :=
  (∀ (L H Q v n : Nat), 1 ≤ Q → 1 ≤ n → n + 1 ≤ Q → H ≤ L →
    upStep L H Q .below v = (if L ≤ v then (if Q = 1 then .above else .rising 1) else .below) ∧
    upStep L H Q (.rising n) v = (if L ≤ v then (if n + 1 = Q then .above else .rising (n + 1)) else .below) ∧
    upStep L H Q .above v = (if L - H ≤ v then .above else if Q = 1 then .below else .falling 1) ∧
    upStep L H Q (.falling n) v =
      (if L - H ≤ v then .above else if n + 1 = Q then .below else .falling (n + 1))) ∧
  (∀ (L H v : Nat), H ≤ L →
    upStep L H 1 .below v = (if L ≤ v then .above else .below) ∧
    upStep L H 1 .above v = (if L - H ≤ v then .above else .below)) ∧
  (∀ (w : Works) (c v : Nat) (x : Channel), w.water.channels[c]? = some x → x.low ≤ v → v ≤ x.high →
    ∃ y, (w.sample c v).water.channels[c]? = some y ∧ y.validity = .valid ∧ y.value = v ∧
      y.lastSample = some w.now ∧
      y.thresholds = x.thresholds.map (fun t => match t.direction with
        | .up => { t with state := upStep t.level t.hysteresis t.qualify t.state v }
        | .down => { t with state := downStep t.level t.hysteresis t.qualify t.state v }))

/-- R5: Table 1-4, the mirror image for a DOWN threshold. -/
def Obligations.DownThreshold : Prop :=
  (∀ (L H Q v n : Nat), 1 ≤ Q → 1 ≤ n → n + 1 ≤ Q →
    downStep L H Q .above v = (if v ≤ L then (if Q = 1 then .below else .falling 1) else .above) ∧
    downStep L H Q (.falling n) v = (if v ≤ L then (if n + 1 = Q then .below else .falling (n + 1)) else .above) ∧
    downStep L H Q .below v = (if v ≤ L + H then .below else if Q = 1 then .above else .rising 1) ∧
    downStep L H Q (.rising n) v =
      (if v ≤ L + H then .below else if n + 1 = Q then .above else .rising (n + 1))) ∧
  (∀ (L H v : Nat),
    downStep L H 1 .above v = (if v ≤ L then .below else .above) ∧
    downStep L H 1 .below v = (if v ≤ L + H then .below else .above)) ∧
  (∀ (w : Works) (c v : Nat) (x : Channel), w.water.channels[c]? = some x → x.low ≤ v → v ≤ x.high →
    ∃ y, (w.sample c v).water.channels[c]? = some y ∧ y.validity = .valid ∧
      ∀ (i : Nat) (t : Threshold), x.thresholds[i]? = some t → t.direction = .down →
        y.thresholds[i]? = some { t with state := downStep t.level t.hysteresis t.qualify t.state v })

/-- R8: at the expiry of the window the baseline is re-anchored at the channel's value if it is VALID and becomes absent
otherwise; an expiry that comes before the window is over changes nothing (log 4). R7: at a VALID sample an absent baseline is
anchored, a sample at or above baseline and delta emits RISE and re-anchors, one below lowers the baseline, any other leaves it.
R6: a sample out of range leaves the thresholds and the detector as they stand, and a channel that turns STALE drops its running
counts and its baseline (R8); a change of settled state is recorded for four roles. R9: the comparison of partners, its flag in
both records and its records. -/
def Obligations.RiseWindowExpiry : Prop :=
  (∀ (c b t : Nat) (x : Channel) (r : Rise) (s : State), s.works.water.channels[c]? = some x → x.rise = some r →
    r.baseline = some (b, t) → t + 1000 * r.window ≤ s.works.now →
    exec (.riseWindowExpiry c) s = .next (s.withBaseline c (if x.validity = .valid then some (x.value, s.works.now) else none))) ∧
  (∀ (c b t : Nat) (x : Channel) (r : Rise) (s : State), s.works.water.channels[c]? = some x → x.rise = some r →
    r.baseline = some (b, t) → s.works.now < t + 1000 * r.window → exec (.riseWindowExpiry c) s = .next s) ∧
  (∀ (w : Works) (c v : Nat) (x : Channel), w.water.channels[c]? = some x → (v < x.low ∨ x.high < v) →
    (∃ y, (w.sample c v).water.channels[c]? = some y ∧ y.validity = .outOfRange ∧ y.value = v ∧ y.lastSample = some w.now ∧
      y.thresholds = x.thresholds ∧ y.rise = x.rise ∧ y.disagree = x.disagree) ∧
    (x.validity ≠ .outOfRange → (w.sample c v).recorded .channel c (some x.validity.code) (some 2) [v] false)) ∧
  (∀ (w : Works) (c : Nat) (x : Channel), w.water.channels[c]? = some x →
    (x.validity = .stale → w.channelLost c = w) ∧
    (x.validity ≠ .stale →
      (w.channelLost c).water.channels[c]? = some { x with
        validity := .stale
        rise := x.rise.map (fun r => { r with baseline := none })
        thresholds := x.thresholds.map (fun t => { t with state := match t.state with
          | .rising _ => .below
          | .falling _ => .above
          | u => u }) } ∧
      (w.channelLost c).recorded .channel c (some x.validity.code) (some 3) [x.value] false)) ∧
  (∀ (w : Works) (c v : Nat) (x : Channel) (t : Threshold) (n : ThState), w.water.channels[c]? = some x → x.low ≤ v →
    v ≤ x.high → t ∈ x.thresholds → (t.role = .watch ∨ t.role = .close ∨ t.role = .reopen ∨ t.role = .high) →
    n = (match t.direction with
      | .up => upStep t.level t.hysteresis t.qualify t.state v
      | .down => downStep t.level t.hysteresis t.qualify t.state v) →
    ((t.state = .below ∨ ∃ k, t.state = .rising k) → n = .above →
      (w.sample c v).recorded .threshold c (some 0) (some 2) [t.role.code, v] false) ∧
    ((t.state = .above ∨ ∃ k, t.state = .falling k) → n = .below →
      (w.sample c v).recorded .threshold c (some 2) (some 0) [t.role.code, v] false)) ∧
  (∀ (w : Works) (c v : Nat) (x : Channel) (r : Rise), w.water.channels[c]? = some x → x.low ≤ v → v ≤ x.high →
    x.rise = some r →
    ∃ y, (w.sample c v).water.channels[c]? = some y ∧
      (r.baseline = none → y.rise = some { r with baseline := some (v, w.now) } ∧ (w.riseSample c v).notices = w.notices) ∧
      ∀ b t, r.baseline = some (b, t) →
        (b + r.delta ≤ v → y.rise = some { r with baseline := some (v, w.now) } ∧
          (w.sample c v).recorded .rise c none none [b, v, w.now - t] false) ∧
        (v < b → y.rise = some { r with baseline := some (v, w.now) } ∧ (w.riseSample c v).notices = w.notices) ∧
        (b ≤ v → v < b + r.delta → y.rise = some r ∧ (w.riseSample c v).notices = w.notices)) ∧
  (∀ (w : Works) (c p tol lo hi a b : Nat) (x y : Channel), w.water.channels[c]? = some x → x.partner = some (p, tol) →
    w.water.channels[p]? = some y → p ≠ c →
    (c < p → lo = c ∧ hi = p ∧ a = x.value ∧ b = y.value) → (p < c → lo = p ∧ hi = c ∧ a = y.value ∧ b = x.value) →
    (y.validity ≠ .valid → w.comparePartner c = w) ∧
    (y.validity = .valid → (x.value + tol < y.value ∨ y.value + tol < x.value) → x.disagree = true →
      w.comparePartner c = w) ∧
    (y.validity = .valid → (x.value + tol < y.value ∨ y.value + tol < x.value) → x.disagree = false →
      (w.comparePartner c).water.channels[c]? = some { x with disagree := true } ∧
      (w.comparePartner c).water.channels[p]? = some { y with disagree := true } ∧
      (w.comparePartner c).recorded .sensorDisagree lo none none [hi, a, b] true) ∧
    (y.validity = .valid → x.value ≤ y.value + tol → y.value ≤ x.value + tol → x.disagree = false →
      w.comparePartner c = w) ∧
    (y.validity = .valid → x.value ≤ y.value + tol → y.value ≤ x.value + tol → x.disagree = true →
      (w.comparePartner c).water.channels[c]? = some { x with disagree := false } ∧
      (w.comparePartner c).water.channels[p]? = some { y with disagree := false } ∧
      (w.comparePartner c).recorded .sensorAgree lo none none [hi] false)) ∧
  (∀ (w : Works) (c v p tol : Nat) (x y : Channel), w.water.channels[c]? = some x → x.low ≤ v → v ≤ x.high →
    x.partner = some (p, tol) → w.water.channels[p]? = some y → p ≠ c → y.validity = .valid →
    ∃ z, (w.sample c v).water.channels[c]? = some z ∧ z.disagree = decide (v + tol < y.value ∨ y.value + tol < v))

/-- R15, R17, R13: a dwell that has run its time ends WATCH in DRY, or CLOSED in DRAINING, with a STAGE record. R11: after a
sample and after the loss of a DEPTH channel the governing depth is that of the channels as they stand; its loss in HELD and
RUNNING and its recovery are recorded (the recovery in the roll call too, by log 33). The stage machine of HELD and RUNNING at
an event of the channels: R16, R17: a closure cause takes DRY and WATCH to ALERT in RUNNING, sets the suppressed flag in HELD
with one CLOSURE_SUPPRESSED record and takes DRY to WATCH, and takes DRAINING to CLOSED or ALERT by the portal views; R15, R18:
a watch cause takes DRY to WATCH, and the dwells run by what stands. By log 33 the first of several watch causes is named, by
log 37 CLOSE_LEVEL in HELD and DRY, and the flag clears wherever CLOSE is not ABOVE. R14: the portal views, and what a report
makes of ALERT, CLOSED and DRAINING. That the CLOSURE_SUPPRESSED record of a closure cause in HELD and DRY comes ahead of the
change to WATCH, and shows DRY, is the model's choice (log 29), and so is that DEPTH_LOST is handed ahead of the judgement of
the stage (log 37). -/
def Obligations.DwellExpiries : Prop :=
  (∀ s : State, s.works.water.stage.stage = .watch →
    ranOut s.works.water.stage.dwellStart (s.works.siteTime Site.watchDwell) s.works.now = true →
    ∃ v, exec .watchDwellExpiry s = .next (s.ended v) ∧ s.works.keepsStage v ∧ v.water.stage.stage = .dry ∧
      v.water.stage.cause = .watchDwell ∧ v.water.stage.entered = s.works.now ∧
      v.recorded .stage 0 (some 1) (some 0)
        [9, s.works.depthDetail, s.works.water.stage.north.code, s.works.water.stage.south.code] false ∧
      v.handed .imageRewriteRequest) ∧
  (∀ s : State, s.works.water.stage.stage = .closed →
    ranOut s.works.water.stage.dwellStart (s.works.siteTime Site.reopenDwell) s.works.now = true →
    ∃ v, exec .reopenDwellExpiry s = .next (s.ended v) ∧ s.works.keepsStage v ∧ v.water.stage.stage = .draining ∧
      v.water.stage.cause = .reopenDwell ∧ v.water.stage.entered = s.works.now ∧
      v.recorded .stage 0 (some 3) (some 4)
        [13, s.works.depthDetail, s.works.water.stage.north.code, s.works.water.stage.south.code] false ∧
      v.handed .imageRewriteRequest) ∧
  (∀ w : Works, w.recomputeDepth.depthGoverns ∧ w.recomputeDepth.water.channels = w.water.channels ∧
    w.recomputeDepth.water.stage = w.water.stage ∧
    (w.water.governing.isSome = true → w.recomputeDepth.water.governing = none →
      (w.station.state = .held ∨ w.station.state = .running) →
      w.recomputeDepth.recorded .depthLost 0 none none [w.water.stage.stage.code] true) ∧
    (∀ d, w.water.governing = none → w.recomputeDepth.water.governing = some d →
      w.recomputeDepth.recorded .depthRestored 0 none none [d.channel, d.value] false)) ∧
  (∀ (w : Works) (c v : Nat) (x : Channel), w.water.channels[c]? = some x → x.kind = .depth →
    (w.sample c v).depthGoverns ∧ (x.validity ≠ .stale → (w.channelLost c).depthGoverns ∧
      ∃ y, (w.channelLost c).water.channels[c]? = some y ∧ y.validity = .stale)) ∧
  ([StageCause.reset, .siteLoad, .rollCall, .rainWatch, .depthWatch, .sumpHigh, .depthRise, .depthInvalid, .closeLevel,
      .watchDwell, .declareOrder, .portalsShut, .portalBreach, .reopenDwell, .standDown, .reopened, .stationRun].map
      StageCause.code = [0, 1, 2, 3, 4, 5, 6, 7, 8, 9, 10, 11, 12, 13, 14, 15, 16] ∧
    [Stage.dry, .watch, .alert, .closed, .draining].map Stage.code = [0, 1, 2, 3, 4]) ∧
  (∀ (w : Works) (k : ChannelKind) (r : Role),
    w.someAbove k r = true ↔ ∃ c ∈ w.water.channels, c.kind = k ∧ c.isAbove r = true) ∧
  (∀ w : Works, w.closeAbove = true ↔
    ∃ d c, w.water.governing = some d ∧ w.water.channels[d.channel]? = some c ∧ c.isAbove .close = true) ∧
  (∀ (w : Works) (c v : Nat) (x : Channel), w.water.channels[c]? = some x →
    (x.kind = .depth ∨ x.kind = .rain ∨ x.kind = .sumpLevel) →
    ∃ (u : Works) (rise : Bool), w.sample c v = u.judgeStage w.facts rise ∧ u.water.channels = (w.sample c v).water.channels ∧
      u.water.stage = w.water.stage ∧ u.station = w.station ∧ u.now = w.now ∧
      (rise = true ↔ x.kind = .depth ∧ x.low ≤ v ∧ v ≤ x.high ∧ x.rises v = true)) ∧
  (∀ (w v : Works) (old : Facts) (rise : Bool) (x : StageRec), w.stageRuns = true → v = w.judgeStage old rise →
    x = w.water.stage → w.closes old →
    ((x.stage = .dry ∨ x.stage = .watch) → w.station.state = .running →
      w.stageTurns v .alert .closeLevel ∧ v.water.stage.dwellStart = none) ∧
    ((x.stage = .dry ∨ x.stage = .watch) → w.station.state = .held → v.water.stage.suppressed = true ∧
      (x.suppressed = false → v.recorded .closureSuppressed 0 none none [x.stage.code, w.depthDetail] true)) ∧
    (x.stage = .dry → w.station.state = .held → w.stageTurns v .watch .closeLevel) ∧
    (x.stage = .watch → w.station.state = .held →
      v.water.stage = { x with suppressed := true, dwellStart := none } ∧ (x.suppressed = true → v.notices = w.notices)) ∧
    (x.stage = .draining → x.north = .shut → x.south = .shut → w.stageTurns v .closed .closeLevel) ∧
    (x.stage = .draining → (x.north ≠ .shut ∨ x.south ≠ .shut) → w.stageTurns v .alert .closeLevel)) ∧
  (∀ (w v : Works) (old : Facts) (rise : Bool) (x y : StageRec), w.stageRuns = true → v = w.judgeStage old rise →
    x = w.water.stage → y = { x with suppressed := x.suppressed && w.closeAbove } → ¬ w.closes old →
    (∀ k, x.stage = .dry → w.watchBrought old rise = some k → w.stageTurns v .watch k) ∧
    (x.stage = .dry → w.watchBrought old rise = none →
      v.water.stage = { y with dwellStart := none } ∧ v.notices = w.notices) ∧
    (x.stage = .watch → w.watchStands → v.water.stage = { y with dwellStart := none } ∧ v.notices = w.notices) ∧
    (x.stage = .watch → ¬ w.watchStands →
      v.water.stage = { y with dwellStart := some (if rise = true then w.now else x.dwellStart.getD w.now) } ∧
        v.notices = w.notices) ∧
    (x.stage = .draining → v.water.stage = { y with dwellStart := none } ∧ v.notices = w.notices)) ∧
  (∀ (w v : Works) (old : Facts) (rise : Bool) (x y : StageRec), w.stageRuns = true → v = w.judgeStage old rise →
    x = w.water.stage → y = { x with suppressed := x.suppressed && w.closeAbove } →
    (w.closeAbove = false → v.water.stage.suppressed = false) ∧
    (x.stage = .alert → v.water.stage = { y with dwellStart := none } ∧ v.notices = w.notices) ∧
    (x.stage = .closed → v.notices = w.notices ∧
      v.water.stage = { y with dwellStart := if w.reopenBelow = true then some (x.dwellStart.getD w.now) else none })) ∧
  (∀ w : Works, w.reopenBelow = true ↔
    ∃ d c, w.water.governing = some d ∧ w.water.channels[d.channel]? = some c ∧ c.isBelow .reopen = true) ∧
  (∀ (w : Works) (old : Facts) (rise : Bool), w.stageRuns = false → w.judgeStage old rise = w) ∧
  ([Closure.unknown, .opened, .warning, .barring, .clearing, .gating, .shut, .ungating, .unbarring, .stalled].map Closure.view =
    [.unknown, .opened, .moving, .moving, .moving, .moving, .shut, .moving, .moving, .stalled]) ∧
  (∀ (w : Works) (n : Nat) (c : Closure), n < 2 → (w.portal n).closure.view ≠ c.view →
    (w.changeClosure n c).water.stage =
      (if n = 0 then { w.water.stage with north := c.view } else { w.water.stage with south := c.view }) ∧
    (w.changeClosure n c).reports = w.reports ++ [{
      portal := n, old := (w.portal n).closure.view, new := c.view,
      reopening := (w.portal n).reopening && decide ((w.portal n).closure = .shut) && decide (c = .ungating) }]) ∧
  (∀ (w v : Works) (r : ViewReport) (x : StageRec), v = w.stageReport r → x = w.water.stage →
    (x.stage = .alert → x.north = .shut → x.south = .shut → w.stageTurns v .closed .portalsShut) ∧
    (x.stage = .alert → (x.north ≠ .shut ∨ x.south ≠ .shut) → v.water.stage = x) ∧
    (x.stage = .closed → r.old = .shut → r.new ≠ .shut → w.stageTurns v .alert .portalBreach) ∧
    (x.stage = .closed → (r.old ≠ .shut ∨ r.new = .shut) → v.water.stage = x) ∧
    (x.stage = .draining → r.old = .shut → r.new ≠ .shut → r.reopening = false → w.stageTurns v .alert .portalBreach) ∧
    (x.stage = .draining → (r.old ≠ .shut ∨ r.new = .shut ∨ r.reopening = true) → x.north = .opened → x.south = .opened →
      w.stageTurns v .watch .reopened) ∧
    (x.stage = .draining → (r.old ≠ .shut ∨ r.new = .shut ∨ r.reopening = true) →
      (x.north ≠ .opened ∨ x.south ≠ .opened) → v.water.stage = x) ∧
    ((x.stage = .dry ∨ x.stage = .watch) → v.water.stage = x))

/-- R21: DECLARE CLOSURE is refused in HELD and in the stages ALERT, CLOSED and DRAINING; in RUNNING with the stage DRY or WATCH
it moves the stage to ALERT, clears the suppressed flag, and is ACTIVE. A second detail of 0 where the rules name none is the
model's choice (log 17). -/
def Obligations.DeclareClosure : Prop :=
  ∀ (k : Nat) (o : Order) (s : State), s.orderWaits k o → o.code = .declareClosure →
    (s.works.station.state = .held →
      exec (.declareClosure k) s = .next (s.takenUp k (o.finish 3 3 0 [] s.works))) ∧
    (s.works.station.state = .running → (s.works.water.stage.stage = .alert ∨ s.works.water.stage.stage = .closed ∨
        s.works.water.stage.stage = .draining) →
      exec (.declareClosure k) s = .next (s.takenUp k (o.finish 4 s.works.water.stage.stage.code 0 [] s.works))) ∧
    (s.works.station.state = .running → (s.works.water.stage.stage = .dry ∨ s.works.water.stage.stage = .watch) →
      (∀ a ∈ s.works.active, a.slot ≠ o.slot) →
      ∃ v, exec (.declareClosure k) s = .next (s.takenUp k v) ∧ s.works.keepsStage v ∧ v.water.stage.stage = .alert ∧
        v.water.stage.cause = .declareOrder ∧ v.water.stage.entered = s.works.now ∧
        v.water.stage.suppressed = false ∧ o.active s.works.now ∈ v.active ∧
        v.recorded .stage 0 (some s.works.water.stage.stage.code) (some 2)
          [10, s.works.depthDetail, s.works.water.stage.north.code, s.works.water.stage.south.code] false)

/-- R22: STAND DOWN is refused outside ALERT and while the governing depth's CLOSE threshold is ABOVE; otherwise the stage moves
to WATCH with cause STAND_DOWN, and the order completes DONE_OK at once where both portals are OPEN, fails at once where one is
STALLED or UNKNOWN, NORTH ahead of SOUTH, and is ACTIVE otherwise. A second detail of 0 where the rules name none is the model's
choice (log 17). -/
def Obligations.StandDown : Prop :=
  ∀ (k : Nat) (o : Order) (s : State), s.orderWaits k o → o.code = .standDown → s.works.takesOrders →
    (s.works.water.stage.stage ≠ .alert →
      exec (.standDown k) s = .next (s.takenUp k (o.finish 4 s.works.water.stage.stage.code 0 [] s.works))) ∧
    (s.works.water.stage.stage = .alert → s.works.closeAbove = true →
      exec (.standDown k) s = .next (s.takenUp k (o.finish 4 2 1 [] s.works))) ∧
    (s.works.water.stage.stage = .alert → s.works.closeAbove = false →
      ∃ v, exec (.standDown k) s = .next (s.takenUp k v) ∧ s.works.keepsStage v ∧ v.water.stage.stage = .watch ∧
        v.water.stage.cause = .standDown ∧ v.water.stage.entered = s.works.now ∧
        v.recorded .stage 0 (some 2) (some 1)
          [14, s.works.depthDetail, s.works.water.stage.north.code, s.works.water.stage.south.code] false ∧
        (s.works.water.stage.north = .opened → s.works.water.stage.south = .opened → v.completed k 0 0 0) ∧
        (s.works.water.stage.north = .stalled ∨ s.works.water.stage.north = .unknown →
          v.completed k 10 1 s.works.water.stage.north.code) ∧
        (s.works.water.stage.north ≠ .stalled → s.works.water.stage.north ≠ .unknown →
          (s.works.water.stage.south = .stalled ∨ s.works.water.stage.south = .unknown) →
          v.completed k 10 2 s.works.water.stage.south.code) ∧
        (¬ (s.works.water.stage.north = .opened ∧ s.works.water.stage.south = .opened) →
          s.works.water.stage.north ≠ .stalled → s.works.water.stage.north ≠ .unknown →
          s.works.water.stage.south ≠ .stalled → s.works.water.stage.south ≠ .unknown →
          (∀ a ∈ s.works.active, a.slot ≠ o.slot) → o.active 0 ∈ v.active))

/-- R23: REBASE CHANNEL anchors the baseline at the channel's value and completes DONE_OK; it fails on a channel without a rise
detector, and on one that is not VALID, whose baseline becomes absent. A second detail of 0 where the rules name none is the
model's choice (log 17). -/
def Obligations.RebaseChannel : Prop :=
  ∀ (k : Nat) (o : Order) (x : Channel) (s : State), s.orderWaits k o → o.code = .rebaseChannel → s.works.takesOrders →
    s.works.water.channels[o.subject]? = some x →
    (x.rise = none → exec (.rebaseChannel k) s = .next (s.takenUp k (o.finish 10 2 0 [] s.works))) ∧
    (∀ r, x.rise = some r → x.validity ≠ .valid →
      exec (.rebaseChannel k) s = .next (s.takenUp k (o.finish 10 1 0 [] (s.works.withBaseline o.subject none)))) ∧
    (∀ r, x.rise = some r → x.validity = .valid →
      exec (.rebaseChannel k) s = .next
        (s.takenUp k (o.finish 0 0 0 [] (s.works.withBaseline o.subject (some (x.value, s.works.now))))))

/-! ## Supply budget -/

/-- R31, R33: a motor load that asks while the budget is NORMAL, no entry is in INRUSH, none stands ahead of it and its inrush
power fits is granted at once: INRUSH at its inrush power, with the next grant number; its owner gets the grant notice. So is a
LAMP entry that asks for more power, with the queue empty and the increase fitting: HELD at the power asked for. That a PUMP
request that names class 0 or 3 takes class 2 is the model's choice (log 25). That an adopted flag stays set at a grant is the
model's choice (log 25). -/
def Obligations.MotorRequestGranted : Prop :=
  (∀ (i cls power c : Nat) (g : Grant) (s : State), s.works.budget.grants[i]? = some g → g.load.isLamp = false →
    g.state = .idle → g.outage = none → s.works.budget.supply.state = .normal →
    c = (match g.load with | .gate _ => 0 | _ => if cls = 1 then 1 else 2) →
    i ∉ s.works.budget.queue → (∀ j, s.works.budget.queue.head? = some j → c < classOf s.works.budget j) →
    (∀ e ∈ s.works.budget.grants, e.state ≠ .inrush) →
    grantedSum s.works.budget + g.inrush ≤ s.works.budget.supply.capacity →
    ∃ v, exec (.loadRequest i cls power) s = .next { s with works := v } ∧ s.works.sameOutsideBudget v ∧
      v.budget.queue = s.works.budget.queue ∧
      v.budget.supply = { s.works.budget.supply with sequence := s.works.budget.supply.sequence + 1 } ∧
      (∃ h, v.budget.grants[i]? = some h ∧ h.state = .inrush ∧ h.granted = g.inrush ∧ h.energised = none ∧
        h.number = some (s.works.budget.supply.sequence + 1) ∧ h.load = g.load ∧ h.requested = g.requested ∧
        h.floor = g.floor ∧ h.mark = g.mark ∧ h.adopted = g.adopted ∧ h.cls = c) ∧
      (∀ j, j ≠ i → v.budget.grants[j]? = s.works.budget.grants[j]?) ∧
      v.notices = s.works.notices ++ [grantNotice g.load g.inrush]) ∧
  (∀ (i cls power : Nat) (g : Grant) (s : State), s.works.budget.grants[i]? = some g → g.load.isLamp = true →
    (g.state = .idle ∨ g.state = .held) → g.granted < power → g.outage = none → s.works.budget.queue = [] →
    s.works.budget.supply.state = .normal → (∀ e ∈ s.works.budget.grants, e.state ≠ .inrush) →
    grantedSum s.works.budget + (power - g.granted) ≤ s.works.budget.supply.capacity →
    ∃ v, exec (.loadRequest i cls power) s = .next { s with works := v } ∧ s.works.sameOutsideBudget v ∧
      v.budget = { supply := { s.works.budget.supply with sequence := s.works.budget.supply.sequence + 1 },
                   queue := [],
                   grants := updAt (fun _ => { g with
                     cls := 3, state := .held, granted := power, requested := power, energised := none,
                     number := some (s.works.budget.supply.sequence + 1) }) i s.works.budget.grants } ∧
      v.notices = s.works.notices ++ [grantNotice g.load power])

/-- R31, R32, R33: while the budget is not NORMAL, an entry is in INRUSH, an entry that waits stands ahead, or its need does
not fit the capacity, the request of an IDLE motor load, or of a LAMP entry for more power, only joins the queue, at the end
of its class. A motor request of a load that is not IDLE changes nothing. A LAMP request that needs no increase is answered
by a grant notice at once and takes the entry out of the queue, and one of a QUEUED entry for more power replaces the power
asked for. That a LAMP request without an increase leaves the requested power, and that a PUMP request of class 0 or 3 takes
class 2, are the model's choices (log 25). -/
def Obligations.RequestQueues : Prop :=
  (∀ (i cls power c : Nat) (g h : Grant) (s : State), s.works.budget.grants[i]? = some g →
    c = (match g.load with | .gate _ => 0 | .pump _ => if cls = 1 then 1 else 2 | .lamp _ => 3) →
    h = { g with cls := c, state := .queued, requested := if g.load.isLamp then power else g.requested } →
    (g.load.isLamp = false → g.state = .idle) →
    (g.load.isLamp = true → g.granted < power ∧ (g.state = .idle ∨ g.state = .held)) →
    (s.works.budget.supply.state ≠ .normal ∨
      (∃ j e, j ≠ i ∧ s.works.budget.grants[j]? = some e ∧ e.state = .inrush) ∨
      (∃ j e, j ≠ i ∧ s.works.budget.queue.head? = some j ∧ s.works.budget.grants[j]? = some e ∧ e.cls ≤ c ∧
        s.works.budget.supply.capacity < grantedSum s.works.budget + e.need) ∨
      ((∀ j, s.works.budget.queue.head? = some j → c < classOf s.works.budget j) ∧
        s.works.budget.supply.capacity < grantedSum s.works.budget + h.need)) →
    ∃ v, exec (.loadRequest i cls power) s = .next { s with works := v } ∧ s.works.sameOutsideBudget v ∧
      v.notices = s.works.notices ∧ v.budget.supply = s.works.budget.supply ∧
      v.budget.grants = updAt (fun _ => h) i s.works.budget.grants ∧ v.budget.joined i c s.works.budget.queue) ∧
  (∀ (i cls power : Nat) (g : Grant) (s : State), s.works.budget.grants[i]? = some g → g.load.isLamp = false →
    g.state ≠ .idle → exec (.loadRequest i cls power) s = .next s) ∧
  (∀ (i cls power : Nat) (g : Grant) (s : State), s.works.budget.grants[i]? = some g → g.load.isLamp = true →
    (g.granted < power → g.state = .queued →
      exec (.loadRequest i cls power) s = .next (s.withGrant i { g with requested := power })) ∧
    (power ≤ g.granted → g.state ≠ .queued →
      exec (.loadRequest i cls power) s = .next { s with works := s.works.send (grantNotice g.load g.granted) }) ∧
    (power ≤ g.granted → g.state = .queued →
      ∃ u v, u = (s.works.withEntry i { g with state := if g.granted = 0 then .idle else .held, outage := none }
          (s.works.budget.queue.filter (fun j => !(j == i)))).send (grantNotice g.load g.granted) ∧
        exec (.loadRequest i cls power) s = .next { s with works := v } ∧
        (u.budget.queue.head? = s.works.budget.queue.head? → v = u) ∧
        (u.budget.queue.head? ≠ s.works.budget.queue.head? → u.headExamined v)))

/-- R35: a release, or a withdrawal that meets a granted entry, takes it to IDLE with nothing granted and its marks cleared; of
a queued entry both take it out of the queue, a motor load to IDLE, a LAMP to HELD at its granted power or to IDLE where that is
0; of an IDLE entry both are discarded. R33, R39: in NORMAL a release leads to the examination of the head, and a withdrawal to
that of a new head; in SHEDDING and OVERLOAD both lead to the judgement of the budget state. That the last two details of a
BUDGET record of a change to NORMAL are 0 is the model's choice (log 25). -/
def Obligations.ReleaseAndWithdrawal : Prop :=
  ∀ (i : Nat) (g : Grant) (c : Instr) (s : State), (c = .loadRelease i ∨ c = .loadWithdrawal i) →
    s.works.budget.grants[i]? = some g →
    (g.state = .idle → exec c s = .next s) ∧
    ((g.state = .inrush ∨ g.state = .held) →
      ∃ h u v, h = { g with state := EntryState.idle, granted := 0, adopted := false, mark := .none, energised := none,
                            number := none, outage := none } ∧
        u = s.withGrant i h ∧ exec c s = .next { s with works := v } ∧ s.works.sameOutsideBudget v ∧ s.works.handsOn v ∧
        (i ∉ s.works.budget.queue → v.budget.grants[i]? = some h) ∧
        (s.works.budget.supply.state = .normal → u.works.headExamined v) ∧
        (s.works.budget.supply.state ≠ .normal → u.works.budgetJudged v)) ∧
    (g.state = .queued →
      ∃ h u v, h = { g with state := (if g.load.isLamp = true ∧ g.granted ≠ 0 then EntryState.held else .idle),
                            outage := none } ∧
        u = s.works.withEntry i h (s.works.budget.queue.filter (fun j => !(j == i))) ∧
        exec c s = .next { s with works := v } ∧ s.works.sameOutsideBudget v ∧ s.works.handsOn v ∧
        i ∉ v.budget.queue ∧
        (∃ x, v.budget.grants[i]? = some x ∧ x.state = h.state ∧ x.granted = g.granted ∧ x.requested = g.requested ∧
          x.outage = none) ∧
        (s.works.budget.supply.state = .normal →
          (u.budget.queue.head? = s.works.budget.queue.head? → v = u) ∧
          (u.budget.queue.head? ≠ s.works.budget.queue.head? → u.headExamined v)) ∧
        (s.works.budget.supply.state ≠ .normal → u.budgetJudged v))

/-- R35, R39, R41: a shrink of a LAMP entry in HELD or QUEUED lowers its granted power, takes a HELD one to IDLE at power 0, and
clears the mark of an ASKED entry that has come down to its floor. In NORMAL the head is then examined, and in SHEDDING and
OVERLOAD the state is judged by R39. A shrink that would not lower the power is discarded. That the last two details of a BUDGET
record of a change to NORMAL are 0 is the model's choice (log 25). That an adopted flag stays set at a shrink is the model's
choice too (log 25). -/
def Obligations.LoadShrink : Prop :=
  ∀ (i power : Nat) (g h : Grant) (s u : State), s.works.budget.grants[i]? = some g → g.load.isLamp = true →
    h = { g with granted := power, state := (if g.state = .held ∧ power = 0 then .idle else g.state),
                 mark := (if g.mark = .asked ∧ power ≤ g.floor then .none else g.mark) } →
    u = s.withGrant i h →
    (power < g.granted → (g.state = .held ∨ g.state = .queued) → s.works.budget.supply.state = .normal →
      (u.works.budget.headWaits → exec (.loadShrink i power) s = .next u) ∧
      ∃ v, exec (.loadShrink i power) s = .next { s with works := v } ∧ u.works.headExamined v) ∧
    (power < g.granted → (g.state = .held ∨ g.state = .queued) → s.works.budget.supply.state ≠ .normal →
      ∃ v, exec (.loadShrink i power) s = .next { s with works := v } ∧ s.works.sameOutsideBudget v ∧
        s.works.handsOn v ∧ u.works.budgetJudged v ∧
        (u.works.budgetStateDue ≠ .normal → v.budget.queue = s.works.budget.queue ∧
          ∃ x, v.budget.grants[i]? = some x ∧ x.granted = power ∧ x.state = h.state ∧ x.requested = g.requested ∧
            (g.mark = .asked → x.mark = h.mark)) ∧
        (u.works.budgetStateDue = .normal → ∀ x ∈ v.budget.grants, x.mark = .none)) ∧
    (g.granted ≤ power ∨ g.state = .idle ∨ g.state = .inrush → exec (.loadShrink i power) s = .next s)

/-- R36, R41: a class notice sets the class of a PUMP entry that does not wait in the queue; one that waits rejoins the queue at
the end of its new class, and a new head is examined (a notice of the class it has changes nothing, log 25); of another load or
class it is discarded. A shed failure marks an ASKED entry FAILED and of any other entry is discarded (the model's choice, log
25). A class set in place and a shed failure lead to the judgement of the budget state (R39), with a BUDGET record where it
changes; the last two details of that record are the pending relief and the number of FAILED entries, and 0 at a change to
NORMAL, since the marks are cleared first (the model's choice, log 25). R40: which entries are sheddable, and which of them is
next in the order of Table 2-7 (pumps by the plain grant number, log 26); one asked is marked ASKED, its owner has the shed
request, and a SHED record names its state on both sides (log 33); in SHEDDING the next entry is asked until the pending relief
is enough or none is left. -/
def Obligations.ClassNoticeAndShedFailure : Prop :=
  (∀ (i cls : Nat) (g : Grant) (p : Nat) (s : State), s.works.budget.grants[i]? = some g → g.load = .pump p →
    (cls = 1 ∨ cls = 2) → g.state ≠ .queued → i ∉ s.works.budget.queue →
    ∃ v, exec (.classNotice i cls) s = .next { s with works := v } ∧ s.works.sameOutsideBudget v ∧
      s.works.handsOn v ∧ ∃ h, v.budget.grants[i]? = some h ∧ h.cls = cls ∧ h.state = g.state ∧
        h.granted = g.granted ∧ h.requested = g.requested ∧ h.number = g.number) ∧
  (∀ (i cls : Nat) (g : Grant) (p : Nat) (s u : State), s.works.budget.grants[i]? = some g → g.load = .pump p →
    (cls = 1 ∨ cls = 2) → g.state ≠ .queued → u = s.withGrant i { g with cls := cls } →
    ∃ v, exec (.classNotice i cls) s = .next { s with works := v } ∧ u.works.budgetJudged v) ∧
  (∀ (i cls : Nat) (g : Grant) (p : Nat) (s : State), s.works.budget.grants[i]? = some g → g.load = .pump p →
    (cls = 1 ∨ cls = 2) → g.state = .queued →
    (g.cls = cls → exec (.classNotice i cls) s = .next s) ∧
    (g.cls ≠ cls → ∃ q u v, u = s.works.withEntry i { g with cls := cls } q ∧
      u.budget.joined i cls (s.works.budget.queue.filter (fun j => !(j == i))) ∧
      exec (.classNotice i cls) s = .next { s with works := v } ∧
      (q.head? = s.works.budget.queue.head? → v = u) ∧ (q.head? ≠ s.works.budget.queue.head? → u.headExamined v))) ∧
  (∀ (i cls : Nat) (g : Grant) (s : State), s.works.budget.grants[i]? = some g →
    ((∀ p, g.load ≠ .pump p) ∨ (cls ≠ 1 ∧ cls ≠ 2)) → exec (.classNotice i cls) s = .next s) ∧
  (∀ (i : Nat) (g : Grant) (s : State), s.works.budget.grants[i]? = some g → g.mark = .asked →
    ∃ v, exec (.shedFailure i) s = .next { s with works := v } ∧ s.works.sameOutsideBudget v ∧ s.works.handsOn v ∧
      (s.works.budget.supply.capacity < grantedSum s.works.budget →
        ∃ h, v.budget.grants[i]? = some h ∧ h.mark = .failed ∧ h.state = g.state ∧ h.granted = g.granted) ∧
      (grantedSum s.works.budget ≤ s.works.budget.supply.capacity → ∀ x ∈ v.budget.grants, x.mark = .none) ∧
      (s.withGrant i { g with mark := .failed }).works.budgetJudged v) ∧
  (∀ (i : Nat) (g : Grant) (s : State), s.works.budget.grants[i]? = some g → g.mark ≠ .asked →
    exec (.shedFailure i) s = .next s) ∧
  (∀ (w : Works) (g : Grant), w.sheddable g = true ↔
    ((∃ c, g.load = .lamp c ∧ g.floor < g.granted) ∨
      ∃ p, g.load = .pump p ∧ g.cls = 2 ∧ (g.state = .inrush ∨ g.state = .held)) ∧
    g.mark = .none ∧ (w.loadClaim g.load = .auto ∨ w.loadClaim g.load = .ordered)) ∧
  (∀ (w : Works) (p c : Nat) (x : Circuit), w.loadClaim (.pump p) = w.claimOf (.pump p) ∧
    (w.lights.circuits[c]? = some x → w.loadClaim (.lamp c) = w.claimOf (.zone x.zone))) ∧
  (∀ b : Budget, pendingRelief b =
    sumOf (fun g => if g.load.isLamp = true then g.granted - g.floor else g.granted)
      (b.grants.filter (fun g => decide (g.mark = .asked)))) ∧
  (∀ w : Works, w.nextShed = none ↔ ∀ g ∈ w.budget.grants, w.sheddable g = true → w.shedGroup g = 5) ∧
  (∀ (w : Works) (i : Nat), w.nextShed = some i → ∃ g, w.budget.grants[i]? = some g ∧ w.sheddable g = true ∧
    w.shedGroup g < 5 ∧ ∀ (j : Nat) (h : Grant), w.budget.grants[j]? = some h → w.sheddable h = true →
      w.shedGroup h < 5 → j ≠ i → w.shedBefore i g j h) ∧
  (∀ (w v : Works) (i : Nat) (g : Grant), w.budget.grants[i]? = some g → v = w.askShed i →
    w.sameOutsideBudget v ∧ v.budget.queue = w.budget.queue ∧ v.budget.supply = w.budget.supply ∧
    v.budget.grants = updAt (fun _ => { g with mark := .asked }) i w.budget.grants ∧
    v.recorded .shed i (some g.state.code) (some g.state.code)
      [g.load.code, g.cls, g.granted, if g.load.isLamp = true then g.granted - g.floor else g.granted] false ∧
    (∀ p, g.load = .pump p → v.handed (.pumpShedRequest p)) ∧ ∀ c, g.load = .lamp c → v.handed (.lampShedRequest c)) ∧
  (∀ w : Works, w.budgetStateDue = .shedding →
    (w.budget.supply.state ≠ .shedding → w.judgeBudget = (w.setBudgetState .shedding).judgeBudget) ∧
    (∀ i, w.budget.supply.state = .shedding → w.nextShed = some i →
      w.budget.supply.capacity + pendingRelief w.budget < grantedSum w.budget →
      w.judgeBudget = (w.askShed i).judgeBudget) ∧
    (w.budget.supply.state = .shedding →
      (w.nextShed = none ∨ grantedSum w.budget ≤ w.budget.supply.capacity + pendingRelief w.budget) →
      w.judgeBudget = w))

/-- R34, R33, R39: the first energised notice of an INRUSH entry starts its window, any other is discarded; when the window has
run out, the entry is HELD at its run power, and in NORMAL the head is examined, in SHEDDING and OVERLOAD the state is judged;
an expiry before that changes nothing (log 4). That the last two details of a BUDGET record of a change to NORMAL are 0 is the
model's choice (log 25). -/
def Obligations.EnergisedAndInrushWindow : Prop :=
  (∀ (i : Nat) (g : Grant) (s : State), s.works.budget.grants[i]? = some g → g.state = .inrush → g.energised = none →
    exec (.energisedNotice i) s = .next (s.withGrant i { g with energised := some s.works.now })) ∧
  (∀ (i : Nat) (g : Grant) (s : State), s.works.budget.grants[i]? = some g →
    (g.state ≠ .inrush ∨ g.energised.isSome = true) → exec (.energisedNotice i) s = .next s) ∧
  (∀ (i t : Nat) (g : Grant) (s : State), s.works.budget.grants[i]? = some g → g.state = .inrush →
    g.energised = some t → t + g.window ≤ s.works.now → s.works.budget.queue = [] →
    s.works.budget.supply.state = .normal →
    exec (.inrushWindowExpiry i) s = .next
      (s.withGrant i { g with state := .held, granted := g.requested, energised := none })) ∧
  (∀ (i t : Nat) (g h : Grant) (s u : State), s.works.budget.grants[i]? = some g → g.state = .inrush →
    g.energised = some t → t + g.window ≤ s.works.now →
    h = { g with state := .held, granted := g.requested, energised := none } → u = s.withGrant i h →
    (s.works.budget.supply.state = .normal →
      ∃ v, exec (.inrushWindowExpiry i) s = .next { s with works := v } ∧ u.works.headExamined v) ∧
    (s.works.budget.supply.state ≠ .normal →
      ∃ v, exec (.inrushWindowExpiry i) s = .next { s with works := v } ∧ s.works.sameOutsideBudget v ∧
        s.works.handsOn v ∧ u.works.budgetJudged v ∧
        (i ∉ s.works.budget.queue → ∃ x, v.budget.grants[i]? = some x ∧ x.state = .held ∧ x.granted = g.requested ∧
          x.energised = none))) ∧
  (∀ (i t : Nat) (g : Grant) (s : State), s.works.budget.grants[i]? = some g → g.energised = some t →
    s.works.now < t + g.window → exec (.inrushWindowExpiry i) s = .next s)

/-- R43, R39: an adoption of a PUMP or LAMP entry leaves it HELD, out of the queue, at the power given, or at its granted power
where that is larger and the entry is HELD or a QUEUED LAMP. A raised power sets the adopted flag and the next grant number and
writes an ADOPT record. The budget then judges its state. An adoption of a GATE is discarded. That the last two details of a
BUDGET record of a change to NORMAL are 0 is the model's choice (log 25). -/
def Obligations.Adoption : Prop :=
  (∀ (i power : Nat) (g : Grant) (s : State), s.works.budget.grants[i]? = some g → (∀ n, g.load ≠ .gate n) →
    g.state = .idle → g.granted = 0 → 0 < power → s.works.budget.queue = [] → s.works.budget.supply.state = .normal →
    grantedSum s.works.budget + power ≤ s.works.budget.supply.capacity →
    ∃ v, exec (.adoptionNotice i power) s = .next { s with works := v } ∧ s.works.sameOutsideBudget v ∧
      (∃ h, v.budget.grants[i]? = some h ∧ h.state = .held ∧ h.granted = power ∧ h.adopted = true ∧
        h.number = some (s.works.budget.supply.sequence + 1) ∧ h.load = g.load ∧ h.cls = g.cls) ∧
      v.budget.supply.sequence = s.works.budget.supply.sequence + 1 ∧
      v.recorded .adopt i (some 0) (some 3) [g.load.code, 0, power, grantedSum s.works.budget + power] false) ∧
  (∀ (i power new : Nat) (g : Grant) (s : State), s.works.budget.grants[i]? = some g → (∀ n, g.load ≠ .gate n) →
    new = (if g.state = .held ∨ (g.state = .queued ∧ g.load.isLamp = true) then max g.granted power else power) →
    ∃ v, exec (.adoptionNotice i power) s = .next { s with works := v } ∧ s.works.sameOutsideBudget v ∧
      s.works.handsOn v ∧ i ∉ v.budget.queue ∧
      (∃ h, v.budget.grants[i]? = some h ∧ h.state = .held ∧ h.granted = new ∧ h.energised = none ∧ h.outage = none ∧
        h.load = g.load ∧ h.cls = g.cls ∧ h.requested = g.requested ∧
        (g.granted < new → h.adopted = true ∧ h.number = some (s.works.budget.supply.sequence + 1)) ∧
        (new ≤ g.granted → h.adopted = g.adopted ∧ h.number = g.number)) ∧
      (g.granted < new → v.recorded .adopt i (some g.state.code) (some 3)
        [g.load.code, g.granted, new, grantedSum s.works.budget - g.granted + new] false) ∧
      (s.works.budget.supply.state ≠ .normal ∨ (∀ j ∈ s.works.budget.queue, j = i) →
        ∃ h, h.state = .held ∧ h.granted = new ∧ h.load = g.load ∧ h.cls = g.cls ∧ h.mark = g.mark ∧
          h.floor = g.floor ∧ (s.withGrant i h).works.budgetJudged v)) ∧
  (∀ (i power : Nat) (g : Grant) (n : Nat) (s : State), s.works.budget.grants[i]? = some g → g.load = .gate n →
    exec (.adoptionNotice i power) s = .next s)

/-- R26, R27, R37, R38: the capacity by source (Table 2-2): the figure less the essential reserve, derated by a percentage
under a generator overload, nothing without a source, and for an unknown source that of the generator unless none was last
known. A switchboard response leaves its three inputs, the source they report and the capacity of that source in the supply
record; the loss of the unit leaves the source UNKNOWN. An outage takes every power granted to a served entry or a lamp,
every mark and every window back, and each entry that was served waits with the outage's time or is IDLE; a grant to an entry
that waits since an outage writes a RESTORE record. -/
def Obligations.CapacityBySource : Prop :=
  (∀ (s : Supply) (c : SiteSupply),
    (s.source = .mains → capacityOf s c = c.mains - c.reserve) ∧
    (s.source = .generator → s.overload = false → capacityOf s c = c.generator - c.reserve) ∧
    (s.source = .generator → s.overload = true → capacityOf s c = c.derate * (c.generator - c.reserve) / 100) ∧
    (s.source = .none → capacityOf s c = 0) ∧
    (s.source = .unknown → capacityOf s c = if s.lastKnown = some .none then 0 else c.generator - c.reserve)) ∧
  (∀ (w v : Works) (site : Site) (img : List Byte) (mains generator : Bool), w.station.site = some site →
    mains = UnitType.switchboard.digital img site.supply.mainsInput →
    generator = UnitType.switchboard.digital img site.supply.generatorInput → v = w.switchboardArrival img →
    v.budget.supply.mains = mains ∧ v.budget.supply.generator = generator ∧
    v.budget.supply.overload = UnitType.switchboard.digital img site.supply.overloadInput ∧
    v.budget.supply.source = (if generator then .generator else if mains then .mains else .none) ∧
    v.budget.supply.lastKnown = some v.budget.supply.source ∧
    v.budget.supply.capacity = capacityOf v.budget.supply site.supply) ∧
  (∀ (w : Works) (site : Site), w.station.site = some site → w.budget.supply.source ≠ .unknown →
    w.switchboardLost.budget.supply.source = .unknown ∧
    w.switchboardLost.budget.supply.lastKnown = w.budget.supply.lastKnown ∧
    w.switchboardLost.budget.supply.capacity = (if w.budget.supply.lastKnown = some .none then 0
      else site.supply.generator - site.supply.reserve)) ∧
  (∀ (w v : Works), v = w.outage → v.now = w.now ∧ v.budget.supply.source = .none ∧ v.budget.supply.capacity = 0 ∧
    v.budget.supply.state = .normal ∧ v.budget.supply.sequence = w.budget.supply.sequence ∧
    (∃ d, v.recorded .supply 0 (some w.budget.supply.source.code) (some Source.none.code) d false) ∧
    ∀ (i : Nat) (g : Grant), w.budget.grants[i]? = some g →
      ∃ h, v.budget.grants[i]? = some h ∧ h.load = g.load ∧ h.cls = g.cls ∧ h.mark = .none ∧ h.adopted = false ∧
        h.energised = none ∧ ((g.served = true ∨ g.load.isLamp = true) → h.granted = 0) ∧
        (g.served = true → h.state = .idle ∨ h.state = .queued ∧ h.outage = some w.now ∧ h.number = g.number) ∧
        (g.served = false → h.state = g.state)) ∧
  (∀ (w : Works) (i t : Nat) (g : Grant) (rest : List Nat), w.budget.queue = i :: rest → w.budget.grants[i]? = some g →
    g.outage = some t → grantable w.budget g = true →
    w.examineHead.recorded .restore i none none
      [g.cls, if g.load.isLamp then g.requested else g.inrush, w.now - t] false)

/-! ## Dewatering -/

/-- R54: a pump in WAITING that is granted starts its START pair, where its rest allows; where not, the grant is released, the
grant view is NONE and the pump waits with cause REST, or is RESTING where the serving that follows dismisses it as surplus
(R52). That the change of the cause of waiting writes a PUMP record from WAITING to WAITING is the model's choice (log 27). A grant
notice that meets no request changes nothing. R50: the demand of a sump by its table, judged with the able count and a DEMAND record
of a change. R52: serving calls the first callable pump from the lead on, calls a pump with ordered intent RUN
(of several the lowest index, log 27), dismisses the newest AUTO member of a surplus, and makes no call for demand in HELD.
R51: an ACTIVE cutout empties the list. R53: the lead of a sump at rest moves on past pumps out of service or tripped. -/
def Obligations.PumpGrantNotice : Prop :=
  (∀ (p : Nat) (x : Pump) (s : State), s.works.dewater.pumps[p]? = some x →
    (x.state = .waiting → x.grant = .requested → x.restAllows s.works.now = true → s.works.lineRoom →
      ∃ v, exec (.pumpGrantNotice p) s = .next (s.ended v) ∧ s.works.keepsPumps v ∧ v.notices = s.works.notices ∧
        v.dewater.sumps = s.works.dewater.sumps ∧ v.dewater.pumps = updAt
          (fun _ => { x with grant := .granted, pair := .inFlight, pairRefused := false }) p s.works.dewater.pumps ∧
        v.line.queue = joinLine (s.works.asking (.pair .start) x.unit x.motor (.pumpStart p)) s.works.line.queue ∧
        v.portals = s.works.portals ∧ v.lights = s.works.lights ∧ v.active = s.works.active) ∧
    (x.state = .waiting → x.grant = .requested → x.restAllows s.works.now = false →
      ∃ v, exec (.pumpGrantNotice p) s = .next (s.ended v) ∧ s.works.keepsPumps v ∧ v.handed (.loadRelease p) ∧
        (x.cause ≠ some .rest → v.recorded .pump p (some 4) (some 4)
          [4, (s.works.claimOf (.pump p)).code, 0, x.runSeconds] false) ∧
        (x.pair ≠ .inFlight → ∃ y, v.dewater.pumps[p]? = some y ∧ y.grant = .none ∧ y.pair = x.pair ∧
          (y.state = .waiting ∧ y.cause = some .rest ∨ y.state = .resting ∧ y.mark = .demand)) ∧
        ((s.works.claimOf (.pump p) ≠ .auto ∨ s.works.noneOrdered x.sump ∧
            ∀ y, s.works.dewater.sumps[x.sump]? = some y → y.list.length ≤ min y.demand (s.works.ableOf x.sump)) →
          ∃ a b, v.dewater.pumps[p]? = some { x with
            grant := .none, cause := some .rest, pairRefused := a, haltRefused := b })) ∧
    (x.state ≠ .waiting ∨ x.grant ≠ .requested → exec (.pumpGrantNotice p) s = .next (s.ended s.works))) ∧
  (∀ (s : Sump) (c : Channel) (n : Nat),
    n = ([Role.start1, .start2, .start3, .start4].filter c.isAbove).length →
    (s.cutout.state = .active → demandOf s (some c) = 0) ∧
    (s.cutout.state ≠ .active → c.validity ≠ .valid → s.high.state = .active → demandOf s (some c) = s.duty) ∧
    (s.cutout.state ≠ .active → c.validity ≠ .valid → s.high.state ≠ .active → demandOf s (some c) = s.demand) ∧
    (s.cutout.state ≠ .active → c.validity = .valid → c.isBelow .stop = true → demandOf s (some c) = 0) ∧
    (s.cutout.state ≠ .active → c.validity = .valid → c.isBelow .stop = false → c.isAbove .start1 = true →
      demandOf s (some c) = if s.storm then s.duty else max s.demand (min s.duty n)) ∧
    (s.cutout.state ≠ .active → c.validity = .valid → c.isBelow .stop = false → c.isAbove .start1 = false →
      demandOf s (some c) = s.demand)) ∧
  (∀ (w : Works) (si d : Nat) (s : Sump) (c : Channel), w.dewater.sumps[si]? = some s →
    w.water.channels[s.level]? = some c → d = demandOf s (some c) →
    (∃ y, (w.judgeDemand si).dewater.sumps[si]? = some y ∧ y.demand = d) ∧
    ((s.demand ≠ d ∨ min s.demand s.able ≠ min d (w.ableOf si)) →
      (w.judgeDemand si).recorded .demand si (some s.demand) (some d)
        [flag s.storm, min d (w.ableOf si), w.ableOf si, s.list.length] false)) ∧
  (∀ (w : Works) (si k i : Nat) (s : Sump) (p : Pump), w.dewater.sumps[si]? = some s → w.station.state = .running →
    w.noneOrdered si → s.cutout.state ≠ .active → s.list = [] → 0 < s.target → s.lead < s.rotation.length →
    (s.rotation.drop s.lead ++ s.rotation.take s.lead)[k]? = some i →
    (∀ j ∈ (s.rotation.drop s.lead ++ s.rotation.take s.lead).take k, ¬ w.callable j) → w.callable i →
    w.dewater.pumps[i]? = some p → p.sump = si → p.intent = none →
    (w.serve si).handed (.loadRequest i 1 p.runPower) ∧
    (∃ y, (w.serve si).dewater.sumps[si]? = some y ∧ y.list.head? = some i) ∧
    ∃ q, (w.serve si).dewater.pumps[i]? = some q ∧ q.state = .waiting ∧ q.cause = some .grant ∧ q.grant = .requested) ∧
  (∀ (w : Works) (si i : Nat) (s : Sump) (p : Pump), w.dewater.sumps[si]? = some s → w.takesOrders →
    s.cutout.state ≠ .active → (s.list.length ≤ s.target ∨ ∀ j ∈ s.list, w.claimOf (.pump j) ≠ .auto) →
    s.list.length < s.duty → w.dewater.pumps[i]? = some p → p.sump = si → p.intent = some .run → p.state = .idle →
    w.claimOf (.pump i) = .ordered → i ∉ s.list →
    (∀ j q, j < i → w.dewater.pumps[j]? = some q → q.sump = si → q.intent = some .run → q.state = .idle → j ∈ s.list) →
    (w.serve si).handed (.loadRequest i (if s.list = [] then 1 else 2) p.runPower) ∧
    ∃ q, (w.serve si).dewater.pumps[i]? = some q ∧ q.state = .waiting ∧ q.cause = some .grant ∧ q.grant = .requested) ∧
  (∀ (w : Works) (si i : Nat) (s : Sump) (p : Pump) (old : List Nat) (new : List Nat),
    w.dewater.sumps[si]? = some s → w.takesOrders → s.list = old ++ i :: new → s.target < s.list.length →
    w.claimOf (.pump i) = .auto → (∀ j ∈ new, w.claimOf (.pump j) ≠ .auto) → w.dewater.pumps[i]? = some p →
    p.sump = si → (p.state = .starting ∨ p.state = .running) →
    (∃ q, (w.serve si).dewater.pumps[i]? = some q ∧ q.state = .stopping ∧ q.mark = .demand) ∧
    (∃ y, (w.serve si).dewater.sumps[si]? = some y ∧ i ∉ y.list) ∧
    (w.lineRoom → (w.serve si).haltWaits p.unit p.motor)) ∧
  (∀ (w : Works) (si : Nat) (s : Sump), w.dewater.sumps[si]? = some s → w.station.state = .held → w.noneOrdered si →
    s.list.length ≤ s.target → w.serve si = w) ∧
  (∀ (w : Works) (si : Nat) (s : Sump), w.dewater.sumps[si]? = some s → s.cutout.state ≠ .active →
    (∀ i ∈ s.list, ∃ p, w.dewater.pumps[i]? = some p ∧ p.sump = si) →
    (w.setFloat si false .active).recorded .float si (some s.cutout.state.code) (some FloatState.active.code) [0] false ∧
    ∃ y, (w.setFloat si false .active).dewater.sumps[si]? = some y ∧ y.cutout.state = .active ∧ y.demand = 0 ∧
      y.list = []) ∧
  (∀ (w : Works) (si k : Nat) (s : Sump), w.dewater.sumps[si]? = some s → s.demand = 0 → s.list = [] →
    (∀ p ∈ w.dewater.pumps, p.sump = si → p.state ≠ .stopping) → k + 1 < s.rotation.length →
    (∃ p, w.dewater.pumps[s.rotation.getD ((s.lead + 1 + k) % s.rotation.length) 0]? = some p ∧
      p.state ≠ .outOfService ∧ p.state ≠ .tripped) →
    (∀ j, j < k → ∀ p, w.dewater.pumps[s.rotation.getD ((s.lead + 1 + j) % s.rotation.length) 0]? = some p →
      p.state = .outOfService ∨ p.state = .tripped) →
    (w.advanceLead si).dewater.sumps[si]? = some { s with lead := (s.lead + 1 + k) % s.rotation.length } ∧
    (w.advanceLead si).recorded .lead si (some s.lead) (some ((s.lead + 1 + k) % s.rotation.length))
      [s.rotation.getD ((s.lead + 1 + k) % s.rotation.length) 0, 0] false)

/-- R56, R57: the confirm time of a start runs out: a HALT is queued, the pump trips START_FAIL, its grant is released and it
leaves the list of its sump; that of a stop runs out with the motor not seen stopped: it trips STOP_FAIL, leaves the list and
keeps its grant, with a shed failure where it was asked to shed. R52: a new first member of the list has a class notice. An
expiry that does not find this changes nothing (log 4); that it changes nothing where the running view is STOPPED already is the
model's choice (log 27). -/
def Obligations.ConfirmExpiries : Prop :=
  (∀ (p : Nat) (x : Pump) (s : State), s.works.dewater.pumps[p]? = some x →
    (x.state = .starting → x.confirmOver s.works.now = true →
      ∃ v, exec (.startConfirmExpiry p) s = .next (s.ended v) ∧ s.works.keepsPumps v ∧
        v.recorded .pumpTrip p (some 5) (some 1) [1, 0, x.running.code, x.overload.code] true ∧
        (x.grant = .granted → v.handed (.loadRelease p)) ∧ (x.grant = .requested → v.handed (.loadWithdrawal p)) ∧
        (s.works.lineRoom → v.haltWaits x.unit x.motor) ∧
        (∀ t, s.works.dewater.sumps[x.sump]? = some t →
          (∃ z, v.dewater.sumps[x.sump]? = some z ∧ p ∉ z.list) ∧
          ∀ j rest, t.list = p :: j :: rest → j ≠ p → v.handed (.classNotice j 1)) ∧
        ∃ y, v.dewater.pumps[p]? = some y ∧ y.state = .tripped ∧ y.trip = some .startFail ∧ y.grant = .none) ∧
    (x.state ≠ .starting ∨ x.confirmOver s.works.now = false →
      exec (.startConfirmExpiry p) s = .next (s.ended s.works))) ∧
  (∀ (p : Nat) (x : Pump) (s : State), s.works.dewater.pumps[p]? = some x →
    (x.state = .stopping → x.confirmOver s.works.now = true → x.running ≠ .stopped →
      ∃ v, exec (.stopConfirmExpiry p) s = .next (s.ended v) ∧ s.works.keepsPumps v ∧
        v.recorded .pumpTrip p (some 7) (some 1) [2, 0, x.running.code, x.overload.code] true ∧
        (∀ g, s.works.budget.grants[p]? = some g → g.mark = .asked → v.handed (.shedFailure p)) ∧
        (∀ t, s.works.dewater.sumps[x.sump]? = some t →
          (∃ z, v.dewater.sumps[x.sump]? = some z ∧ p ∉ z.list) ∧
          ∀ j rest, t.list = p :: j :: rest → j ≠ p → v.handed (.classNotice j 1)) ∧
        ∃ y, v.dewater.pumps[p]? = some y ∧ y.state = .tripped ∧ y.trip = some .stopFail ∧ y.grant = x.grant) ∧
    (x.state ≠ .stopping ∨ x.confirmOver s.works.now = false ∨ x.running = .stopped →
      exec (.stopConfirmExpiry p) s = .next (s.ended s.works)))

/-- R59, R63: a rest that is over takes a RESTING pump to IDLE, and one that waits for its rest asks for its grant again; a
shed request stops a pump that starts or runs, with the mark SHED and a HALT, takes one that waits with its pair in flight to
STOPPING with the mark SHED and the pair ABANDONED, and fails where the pump is not in use. An end of the rest that comes
before its time changes nothing (log 4). R57: the end of a HALT starts the confirm time of a stop unless an abandoned pair is
still to end; a report of not running within it ends a stop of mark DEMAND or SERVICE: the mark is then NONE, or DEMAND where
the serving that follows calls the pump and dismisses it again (log 27). -/
def Obligations.RestAndShed : Prop :=
  (∀ (p : Nat) (x : Pump) (s : State), s.works.dewater.pumps[p]? = some x →
    (x.restAllows s.works.now = true → x.state = .resting →
      ∃ v, exec (.pumpRestExpiry p) s = .next (s.ended v) ∧ s.works.keepsPumps v ∧
        v.recorded .pump p (some 3) (some 2)
          [0, (s.works.claimOf (.pump p)).code, x.grant.code, x.runSeconds] false) ∧
    (x.restAllows s.works.now = true → x.state = .waiting → x.cause = some .rest →
      ∃ v, exec (.pumpRestExpiry p) s = .next (s.ended v) ∧ s.works.keepsPumps v ∧
        v.handed (.loadRequest p (s.works.pumpClass p) x.runPower) ∧
        v.dewater.pumps[p]? = some { x with cause := some .grant, grant := .requested }) ∧
    (x.restAllows s.works.now = false → exec (.pumpRestExpiry p) s = .next (s.ended s.works))) ∧
  (∀ (p : Nat) (x : Pump) (s : State), s.works.dewater.pumps[p]? = some x →
    (x.state = .starting ∨ x.state = .running →
      ∃ v, exec (.pumpShedRequest p) s = .next (s.ended v) ∧ s.works.keepsPumps v ∧
        (∃ y, v.dewater.pumps[p]? = some y ∧ y.state = .stopping ∧ y.mark = .shed ∧ y.grant = x.grant ∧
          y.confirmStart = none) ∧
        v.recorded .pump p (some x.state.code) (some 7)
          [2, (s.works.claimOf (.pump p)).code, x.grant.code, x.runSeconds] false ∧
        (s.works.lineRoom → v.haltWaits x.unit x.motor)) ∧
    (x.state = .waiting → x.pair = .inFlight → x.pairRefused = false →
      ∃ v, exec (.pumpShedRequest p) s = .next (s.ended v) ∧ s.works.keepsPumps v ∧
        v.recorded .pump p (some x.state.code) (some 7)
          [2, (s.works.claimOf (.pump p)).code, x.grant.code, x.runSeconds] false ∧
        ∃ y, v.dewater.pumps[p]? = some y ∧ y.state = .stopping ∧ y.cause = none ∧ y.pair = .abandoned ∧
          y.grant = x.grant ∧ (s.works.claimOf (.pump p) ≠ .auto → y.mark = .shed)) ∧
    (x.state = .stopping → exec (.pumpShedRequest p) s = .next (s.ended s.works)) ∧
    (x.state = .idle ∨ x.state = .resting ∨ x.state = .tripped ∨ x.state = .outOfService ∨ x.state = .uncommanded ∨
        (x.state = .waiting ∧ x.pair ≠ .inFlight) →
      exec (.pumpShedRequest p) s = .next (s.ended (s.works.send (.shedFailure p))))) ∧
  (∀ (w : Works) (i : Nat) (x : Pump), w.dewater.pumps[i]? = some x →
    (x.state = .stopping → x.confirmStart = none → w.line.abandonedRuns (.pumpStart i) = false →
      (w.pumpHaltEnd i).dewater.pumps[i]? = some { x with confirmStart := some w.now }) ∧
    ((x.state ≠ .stopping ∨ x.confirmStart.isSome = true ∨ w.line.abandonedRuns (.pumpStart i) = true) →
      w.pumpHaltEnd i = w)) ∧
  (∀ (w : Works) (i : Nat) (x : Pump) (o : Bool), w.dewater.pumps[i]? = some x → x.state = .stopping →
    (x.confirmStart = none → ∃ y, (w.pumpItem i false o).dewater.pumps[i]? = some y ∧ y.state = .stopping ∧
      y.confirmStart = none ∧ y.grant = x.grant ∧ y.mark = x.mark) ∧
    (x.confirmStart.isSome = true → x.mark ≠ .shed → (x.grant = .granted → (w.pumpItem i false o).handed (.loadRelease i)) ∧
      ∃ y r, (w.pumpItem i false o).dewater.pumps[i]? = some y ∧ y.lastStop = some w.now ∧ y.confirmStart = none ∧
        (x.pair ≠ .inFlight → y.mark = .none ∨ y.mark = .demand ∧ (y.state = .idle ∨ y.state = .resting)) ∧
        (x.mark = .service → y.state = .outOfService ∧ y.grant = .none) ∧
        (x.mark = .service → (w.pumpItem i false o).recorded .pump i (some 7) (some 0)
          [0, (w.claimOf (.pump i)).code, 0, r] false) ∧
        (x.mark ≠ .service → (w.pumpItem i false o).recorded .pump i (some 7)
          (some ({ x with lastStop := some w.now }.restState w.now).code)
          [0, (w.claimOf (.pump i)).code, 0, r] false)))

/-- R66 to R68: PUMP RUN and PUMP STOP are refused in hand control and fail on a pump that is tripped or out of service;
otherwise the claim is ORDERED, the intent is set, and the pump's ACTIVE orders are superseded. RUN of a pump that runs, and
STOP of one at rest, complete at once. A second detail of 0 where the rules name none is the model's choice (log 17). -/
def Obligations.PumpRunAndStop : Prop :=
  ∀ (k : Nat) (o : Order) (x : Pump) (i : Instr) (n : Intent) (s : State), s.orderWaits k o → s.works.takesOrders →
    (o.code = .pumpRun ∧ i = .pumpRun k ∧ n = .run ∨ o.code = .pumpStop ∧ i = .pumpStop k ∧ n = .stop) →
    s.works.dewater.pumps[o.subject]? = some x →
    ((s.works.claimOf (.pump o.subject)).commands = false →
      exec i s = .next (s.takenUp k (o.finish 5 (s.works.claimOf (.pump o.subject)).code 0 [] s.works))) ∧
    ((s.works.claimOf (.pump o.subject)).commands = true → x.state = .tripped →
      exec i s = .next (s.takenUp k (o.finish 10 1 x.tripSecond [x.tripCode] s.works))) ∧
    ((s.works.claimOf (.pump o.subject)).commands = true → x.state = .outOfService →
      exec i s = .next (s.takenUp k (o.finish 10 2 0 [] s.works))) ∧
    ((s.works.claimOf (.pump o.subject)).commands = true → x.state ≠ .tripped → x.state ≠ .outOfService →
      ∃ v, exec i s = .next (s.takenUp k v) ∧ s.works.keepsButClaims v ∧
        v.claimOf (.pump o.subject) = .ordered ∧
        (∃ y, v.dewater.pumps[o.subject]? = some y ∧ y.intent = some n) ∧
        (∀ a ∈ s.works.active, a.subject = o.subject →
          (a.code = .pumpRun ∨ a.code = .pumpStop ∨ a.code = .pumpService) → v.completed a.slot 7 k 0) ∧
        (n = .run → x.state = .running → v.completed k 0 0 0) ∧
        (n = .stop → (x.state = .resting ∨ x.state = .idle) → v.completed k 0 0 0))

/-- R69: PUMP AUTO is refused in hand control; otherwise the claim is AUTO, the intent absent, the pump's ACTIVE orders fail and
the order completes. PUMP CLEAR fails on a pump that is not tripped, and takes a tripped one out of TRIPPED. R64: a pump whose
claim becomes PANEL or LOCAL is UNCOMMANDED, with nothing sent to its motor, its ACTIVE orders PREEMPTED, out of the list of its
sump, its grant settled by the claim and its running view. R65: the settlement of a pump whose claim returns to AUTO by the
first row that applies. The stop mark NONE, the pair refused full, and a running view UNKNOWN are by log 27. A second detail of
0 where the rules name none is the model's choice (log 17). That the PUMP record to UNCOMMANDED comes after the grant is
settled, so that its detail 3 is the grant view after it, is the model's choice (log 27). -/
def Obligations.PumpAutoAndClear : Prop :=
  (∀ (k : Nat) (o : Order) (x : Pump) (s : State), s.orderWaits k o → s.works.takesOrders → o.code = .pumpAuto →
    s.works.dewater.pumps[o.subject]? = some x →
    ((s.works.claimOf (.pump o.subject)).commands = false →
      exec (.pumpAuto k) s =
        .next (s.takenUp k (o.finish 5 (s.works.claimOf (.pump o.subject)).code 0 [] s.works))) ∧
    ((s.works.claimOf (.pump o.subject)).commands = true →
      ∃ v, exec (.pumpAuto k) s = .next (s.takenUp k v) ∧ s.works.keepsButClaims v ∧
        v.claimOf (.pump o.subject) = .auto ∧ v.completed k 0 0 0 ∧
        (∃ y, v.dewater.pumps[o.subject]? = some y ∧ y.intent = none) ∧
        (∀ a ∈ s.works.active, a.subject = o.subject →
          (a.code = .pumpRun ∨ a.code = .pumpStop ∨ a.code = .pumpService) → v.completed a.slot 10 3 k))) ∧
  (∀ (k : Nat) (o : Order) (x : Pump) (s : State), s.orderWaits k o → s.works.takesOrders → o.code = .pumpClear →
    s.works.dewater.pumps[o.subject]? = some x →
    (x.state ≠ .tripped → exec (.pumpClear k) s = .next (s.takenUp k (o.finish 10 4 x.state.code [] s.works))) ∧
    (x.state = .tripped →
      ∃ v, exec (.pumpClear k) s = .next (s.takenUp k v) ∧ s.works.keepsPumps v ∧ v.completed k 0 0 0 ∧
        ((x.trip ≠ some .stopFail ∨ x.running = .stopped) → v.recorded .pump o.subject (some 1)
            (some (x.restState s.works.now).code) [0, (s.works.claimOf (.pump o.subject)).code, 0, x.runSeconds] false ∧
          (x.grant = .granted → v.handed (.loadRelease o.subject))) ∧
        (x.trip = some .stopFail → x.running ≠ .stopped → v.recorded .pump o.subject (some 1) (some 7)
          [1, (s.works.claimOf (.pump o.subject)).code, x.grant.code, x.runSeconds] false))) ∧
  (∀ (w v : Works) (i : Nat) (c : ClaimValue) (x : Pump), w.dewater.pumps[i]? = some x → (c = .panel ∨ c = .away) →
    v = w.uncommandPump i c →
    v.line.queue.map (fun e => (e.req, e.unit, e.output)) = w.line.queue.map (fun e => (e.req, e.unit, e.output)) ∧
    (∀ a ∈ w.active, a.subject = i → a.code.owner = .dewatering → v.completed a.slot 9 c.code 0) ∧
    (∀ g, w.budget.grants[i]? = some g → g.mark = .asked → v.handed (.shedFailure i)) ∧
    (∀ s, w.dewater.sumps[x.sump]? = some s → (∃ z, v.dewater.sumps[x.sump]? = some z ∧ i ∉ z.list) ∧
      ∀ j rest, s.list = i :: j :: rest → j ≠ i → v.handed (.classNotice j 1)) ∧
    ∃ y, v.dewater.pumps[i]? = some y ∧
      y = { x with state := .uncommanded, cause := none, confirmStart := none, lapse := false, intent := none, mark := .none,
                   haltRefused := false, pairRefused := false, grant := y.grant,
                   pair := if x.pair = .inFlight then (if x.pairRefused then .none else .abandoned) else x.pair } ∧
      (x.state ≠ .uncommanded → v.recorded .pump i (some x.state.code) (some 8)
        [0, (w.claimOf (.pump i)).code, y.grant.code, x.runSeconds] false) ∧
      (c = .panel → x.running = .running → y.grant = .granted ∧
        (x.grant ≠ .granted → v.handed (.adoptionNotice i x.runPower))) ∧
      (c = .panel → x.running = .stopped → y.grant = .none ∧ (x.grant = .granted → v.handed (.loadRelease i)) ∧
        (x.grant = .requested → v.handed (.loadWithdrawal i))) ∧
      (c = .away → (x.grant ≠ .requested → y.grant = x.grant) ∧
        (x.grant = .requested → y.grant = .none ∧ v.handed (.loadWithdrawal i))) ∧
      (x.pair = .inFlight → x.grant = .granted → (c = .away ∨ x.running = .running) → v.handed (.energisedNotice i))) ∧
  (∀ (w v : Works) (i : Nat) (x : Pump) (s : Sump), w.dewater.pumps[i]? = some x →
    w.dewater.sumps[x.sump]? = some s → x.running = .running → v = w.settlePump i →
    (x.grant ≠ .granted → v.handed (.adoptionNotice i x.runPower)) ∧
    ∃ y, v.dewater.pumps[i]? = some y ∧ y.grant = .granted ∧ y.history = x.history ∧ y.trip = x.trip ∧
      (x.trip.isSome = true → y.state = .tripped) ∧
      (x.trip = none → x.out = true → y.state = .stopping ∧ y.mark = .service ∧ (w.lineRoom → v.haltWaits x.unit x.motor)) ∧
      (x.trip = none → x.out = false → (s.cutout.state = .active ∨ s.duty ≤ s.list.length) →
        y.state = .stopping ∧ y.mark = .demand ∧ (w.lineRoom → v.haltWaits x.unit x.motor)) ∧
      (x.trip = none → x.out = false → s.cutout.state ≠ .active → s.list.length < s.duty → y.state = .running ∧
        (∃ z, v.dewater.sumps[x.sump]? = some z ∧ z.list = s.list ++ [i]) ∧
        (s.list = [] → v.handed (.classNotice i 1)) ∧
        ∀ j rest, s.list = j :: rest → j ≠ i → v.handed (.classNotice i 2))) ∧
  (∀ (w v : Works) (i : Nat) (x : Pump) (s : Sump), w.dewater.pumps[i]? = some x →
    w.dewater.sumps[x.sump]? = some s → x.running ≠ .running → v = w.settlePump i →
    (x.grant = .granted → v.handed (.loadRelease i)) ∧ (x.grant = .requested → v.handed (.loadWithdrawal i)) ∧
    v.line.queue = w.line.queue ∧
    ∃ y, v.dewater.pumps[i]? = some y ∧ y.grant = .none ∧ y.lastStop = some (x.lastStop.getD w.now) ∧ y.trip = x.trip ∧
      (x.trip.isSome = true → y.state = .tripped) ∧ (x.trip = none → x.out = true → y.state = .outOfService) ∧
      (x.trip = none → x.out = false → y.state = { x with lastStop := some (x.lastStop.getD w.now) }.restState w.now))

/-- R70: PUMP SERVICE 1 takes a pump out of service by its state: at once where it does not run, by a stop with the mark SERVICE
where it waits with its pair in flight, starts, runs or stops, and not at all after a STOP_FAIL. PUMP SERVICE 0 brings a pump
back that is out of service, and in any other state changes nothing but the orders it supersedes (by log 27). That the claim is
judged before the parameter, and that a parameter above 1 supersedes nothing, are the model's choices (log 27). LEAD SET moves
the lead of the pump's sump to it. A second detail of 0 where the rules name none is the model's choice (log 17). -/
def Obligations.PumpServiceAndLeadSet : Prop :=
  (∀ (k : Nat) (o : Order) (x : Pump) (s : State), s.orderWaits k o → s.works.takesOrders → o.code = .pumpService →
    s.works.dewater.pumps[o.subject]? = some x →
    ((s.works.claimOf (.pump o.subject)).commands = false →
      exec (.pumpService k) s =
        .next (s.takenUp k (o.finish 5 (s.works.claimOf (.pump o.subject)).code 0 [] s.works))) ∧
    ((s.works.claimOf (.pump o.subject)).commands = true → 1 < o.param →
      exec (.pumpService k) s = .next (s.takenUp k (o.finish 10 5 o.param [] s.works))) ∧
    ((s.works.claimOf (.pump o.subject)).commands = true → o.param = 1 → (x.state = .idle ∨ x.state = .resting) →
      ∃ v, exec (.pumpService k) s = .next (s.takenUp k v) ∧ s.works.keepsButClaims v ∧
        v.claimOf (.pump o.subject) = .ordered ∧ v.completed k 0 0 0 ∧
        ∃ y, v.dewater.pumps[o.subject]? = some y ∧ y.state = .outOfService ∧ y.out = true ∧ y.intent = none) ∧
    ((s.works.claimOf (.pump o.subject)).commands = true → o.param = 1 → x.state = .tripped → x.trip = some .stopFail →
      exec (.pumpService k) s = .next (s.takenUp k (o.finish 10 1 x.tripSecond [x.tripCode] s.works))) ∧
    ((s.works.claimOf (.pump o.subject)).commands = true → o.param = 1 →
      (x.state = .outOfService ∨ x.state = .tripped ∧ x.trip ≠ some .stopFail ∨ x.state = .waiting ∧ x.pair ≠ .inFlight) →
      ∃ v, exec (.pumpService k) s = .next (s.takenUp k v) ∧ s.works.keepsButClaims v ∧
        v.claimOf (.pump o.subject) = .ordered ∧ v.completed k 0 0 0 ∧
        (x.state = .waiting → x.grant = .requested → v.handed (.loadWithdrawal o.subject)) ∧
        ∃ y, v.dewater.pumps[o.subject]? = some y ∧ y.state = .outOfService ∧ y.out = true ∧ y.intent = none ∧
          (x.state ≠ .outOfService → y.cause = none ∨ x.state = .tripped) ∧ (x.state = .tripped → y.trip = none)) ∧
    ((s.works.claimOf (.pump o.subject)).commands = true → o.param = 1 →
      (x.state = .starting ∨ x.state = .running ∨ x.state = .stopping ∨
        x.state = .waiting ∧ x.pair = .inFlight ∧ x.pairRefused = false) →
      (∀ a ∈ s.works.active, a.slot ≠ o.slot) →
      ∃ v, exec (.pumpService k) s = .next (s.takenUp k v) ∧ s.works.keepsButClaims v ∧
        v.claimOf (.pump o.subject) = .ordered ∧ o.active 0 ∈ v.active ∧
        ((x.state = .starting ∨ x.state = .running) → s.works.lineRoom → v.haltWaits x.unit x.motor) ∧
        ∃ y, v.dewater.pumps[o.subject]? = some y ∧ y.state = .stopping ∧ y.mark = .service ∧ y.out = true ∧
          y.intent = none ∧ y.grant = x.grant ∧ (x.state = .waiting → y.pair = .abandoned)) ∧
    ((s.works.claimOf (.pump o.subject)).commands = true → o.param = 0 → x.state ≠ .outOfService →
      ∃ v, exec (.pumpService k) s = .next (s.takenUp k v) ∧ s.works.keepsButClaims v ∧ v.claims = s.works.claims ∧
        v.dewater = s.works.dewater ∧ v.completed k 0 0 0 ∧
        ∀ a ∈ s.works.active, a.subject = o.subject →
          (a.code = .pumpRun ∨ a.code = .pumpStop ∨ a.code = .pumpService) → v.completed a.slot 7 k 0) ∧
    ((s.works.claimOf (.pump o.subject)).commands = true → o.param = 0 → x.state = .outOfService →
      ∃ v, exec (.pumpService k) s = .next (s.takenUp k v) ∧ s.works.keepsButClaims v ∧
        v.claimOf (.pump o.subject) = .ordered ∧ v.completed k 0 0 0 ∧
        v.recorded .pump o.subject (some 0) (some (x.restState s.works.now).code) [0, 2, x.grant.code, x.runSeconds]
          false ∧
        ∃ y, v.dewater.pumps[o.subject]? = some y ∧ y.out = false ∧ y.intent = some .stop)) ∧
  (∀ (k j : Nat) (o : Order) (x : Pump) (y : Sump) (s : State), s.orderWaits k o → s.works.takesOrders →
    o.code = .leadSet → s.works.dewater.pumps[o.subject]? = some x → s.works.dewater.sumps[x.sump]? = some y →
    posOf (fun i => i == o.subject) y.rotation = some j →
    (x.state = .outOfService → exec (.leadSet k) s = .next (s.takenUp k (o.finish 10 2 0 [] s.works))) ∧
    (x.state = .tripped →
      exec (.leadSet k) s = .next (s.takenUp k (o.finish 10 1 x.tripSecond [x.tripCode] s.works))) ∧
    (x.state ≠ .outOfService → x.state ≠ .tripped →
      ∃ v, exec (.leadSet k) s = .next (s.takenUp k v) ∧ s.works.keepsPumps v ∧ v.completed k 0 0 0 ∧
        v.dewater.pumps = s.works.dewater.pumps ∧ v.dewater.sumps[x.sump]? = some { y with lead := j } ∧
        v.recorded .lead x.sump (some y.lead) (some j) [o.subject, 1] false))

/-! ## Portals -/

/-- R77, R88, R89: the warn time over, a portal in WARNING enters BARRING and wants RED; a barrier travel over in BARRING or
UNBARRING stalls the portal. The rules give a barrier travel that is over in another closure state no outcome: that it only ends
there, the closure state as it was and no stall, is the model's choice (log 29). An expiry before its time changes nothing
(log 4). -/
def Obligations.WarnAndBarrierTravel : Prop :=
  (∀ (n : Nat) (s : State), n < 2 → (s.works.portal n).closure = .warning → s.works.station.state = .running →
    ranOut (s.works.portal n).timer (s.works.portal n).warn s.works.now = true →
    ∃ v, exec (.warnTimeExpiry n) s = .next (s.ended v) ∧ s.works.keepsPortals v ∧
      v.recorded .portal n (some 2) (some 3) [(s.works.portal n).barrier.state.code, (s.works.portal n).gate.state.code,
        (s.works.portal n).gate.position, (s.works.portal n).gate.attempts] false ∧
      ((s.works.portal n).signals.shown ≠ .red → (v.portal n).closure = .barring) ∧
      (s.works.portalAuto n = true → (v.portal n).signals.wanted = .red)) ∧
  (∀ (n : Nat) (s : State), n < 2 →
    (ranOut (s.works.portal n).barrier.travel (s.works.portal n).barrier.limit s.works.now = true →
      ∃ v, exec (.barrierTravelExpiry n) s = .next (s.ended v) ∧ s.works.keepsPortals v ∧
        (v.portal n).barrier.travel = none ∧
        (((s.works.portal n).closure = .barring ∨ (s.works.portal n).closure = .unbarring) →
          (v.portal n).closure = .stalled ∧ (v.portal n).stall = some .barrierTravel ∧
          (v.portal n).interrupted = some (s.works.portal n).closure ∧
          v.recorded .portalStall n (some (s.works.portal n).closure.code) (some 9)
            [2, 0, (s.works.portal n).gate.position, (s.works.portal n).barrier.state.code] true) ∧
        (((s.works.portal n).closure ≠ .barring ∧ (s.works.portal n).closure ≠ .unbarring) →
          (v.portal n).closure = (s.works.portal n).closure)) ∧
    (ranOut (s.works.portal n).barrier.travel (s.works.portal n).barrier.limit s.works.now = false →
      exec (.barrierTravelExpiry n) s = .next (s.ended s.works)))

/-- R78, R79: the clear dwell over, the interior is clear and a portal in CLEARING goes on to GATING; the clear limit over, a
portal in CLEARING says INTERIOR_NOT_CLEAR once. R74, Table 4-2: the barrier and the gate states of a response by its end
switches and motion bits (Table 10-10), with a BARRIER or GATE record of a change and one PORTAL_FAULT for a conflict; a unit
that is lost leaves both UNKNOWN, position and obstruction as they were. Both motion bits set count as no motion, so a
barrier between its ends is UNKNOWN and a gate HALTED, and a position above 100 reads as 100: the model's choices (log 28). R84: a
vehicle in an open episode takes every portal in GATING back to CLEARING, the attempt count kept, and no portal of another state;
R78: the interior is then not clear. -/
def Obligations.ClearDwellAndLimit : Prop :=
  (∀ (site : Site) (s : State), s.works.station.site = some site → s.works.portals.interior.clear = false →
    ranOut s.works.portals.interior.dwellStart site.clearDwell s.works.now = true →
    ∃ v, exec .clearDwellExpiry s = .next (s.ended v) ∧ s.works.keepsPortals v ∧
      v.portals.interior.clear = true ∧ v.portals.interior.dwellStart = none ∧
      v.recorded .interior 0 (some 0) (some 1) [s.works.portals.interior.episode.toNat, 1, s.works.vehicleCount] false ∧
      ∀ n, n < 2 → (s.works.portal n).closure = .clearing → s.works.mayCommand n = true →
        v.recorded .portal n (some 4) (some 5) [(s.works.portal n).barrier.state.code,
          (s.works.portal n).gate.state.code, (s.works.portal n).gate.position, (s.works.portal n).gate.attempts]
          false) ∧
  (∀ (n : Nat) (c : Channel) (t : ThState) (s : State), n < 2 → (s.works.portal n).closure = .clearing →
    s.works.station.state = .running → ranOut (s.works.portal n).timer (s.works.portal n).clearLimit s.works.now = true →
    s.works.vehicles = some c → c.roleState .occupied = some t →
    ∃ v, exec (.clearLimitExpiry n) s = .next (s.ended v) ∧ s.works.keepsPortals v ∧ v.water = s.works.water ∧
      v.portal n = { s.works.portal n with clearFault := true, timer := none } ∧
      v.recorded .interiorNotClear n none none [s.works.portals.interior.episode.toNat, c.value, t.wide] true) ∧
  (∀ (w v : Works) (n b : Nat) (img : List Byte) (x y : Barrier), n < 2 → b = imgByte img 0 → v = w.takeBarrier n img →
    x = (w.portal n).barrier → y = (v.portal n).barrier →
    v.portal n = { w.portal n with barrier := y } ∧
    y = { x with conflict := bitAt b 0 && bitAt b 1, state := y.state } ∧
    (bitAt b 0 = true → bitAt b 1 = true → y.state = .unknown ∧
      (x.conflict = false → v.recorded .portalFault n none none [1, 0] true)) ∧
    (bitAt b 0 = false → bitAt b 1 = true → y.state = .down) ∧ (bitAt b 0 = true → bitAt b 1 = false → y.state = .up) ∧
    (bitAt b 0 = false → bitAt b 1 = false → y.state =
      if bitAt b 2 = true ∧ bitAt b 3 = false then .lowering else if bitAt b 2 = false ∧ bitAt b 3 = true then .raising
      else .unknown) ∧
    (y.state ≠ x.state → v.recorded .barrier n (some x.state.code) (some y.state.code) [actionCode x.action] false) ∧
    (y.state = x.state → (y.conflict = false ∨ x.conflict = true) → v.notices = w.notices)) ∧
  (∀ (w v : Works) (n b : Nat) (img : List Byte) (x y : Gate), n < 2 → b = imgByte img 1 → v = w.takeGate n img →
    x = (w.portal n).gate → y = (v.portal n).gate →
    v.portal n = { w.portal n with gate := y } ∧
    y = { x with conflict := bitAt b 0 && bitAt b 1, position := min 100 (imgByte img 2), obstruction := bitAt b 4,
                 state := y.state } ∧
    (bitAt b 0 = true → bitAt b 1 = true → y.state = .unknown ∧
      (x.conflict = false → v.recorded .portalFault n none none [1, 0] true)) ∧
    (bitAt b 0 = false → bitAt b 1 = true → y.state = .deployed) ∧
    (bitAt b 0 = true → bitAt b 1 = false → y.state = .stowed) ∧
    (bitAt b 0 = false → bitAt b 1 = false → y.state =
      if bitAt b 2 = true ∧ bitAt b 3 = false then .deploying else if bitAt b 2 = false ∧ bitAt b 3 = true then .stowing
      else .halted) ∧
    (y.state ≠ x.state → v.recorded .gate n (some x.state.code) (some y.state.code)
      [y.position, flag y.obstruction, x.grant.code] false) ∧
    (y.state = x.state → (y.conflict = false ∨ x.conflict = true) → v.notices = w.notices)) ∧
  (∀ (w v : Works) (n : Nat), n < 2 → v = w.portalLost n → v.portal n = { w.portal n with
    barrier := { (w.portal n).barrier with state := .unknown, conflict := false }
    gate := { (w.portal n).gate with state := .unknown, conflict := false }
    signals := { (w.portal n).signals with shown := .unknown } }) ∧
  (∀ (w v : Works), w.portals.interior.opened = true → v = w.vehiclesChanged true →
    v.portals.interior.clear = false ∧ v.portals.interior.confirm = none ∧
    (w.portals.interior.clear = true →
      v.recorded .interior 0 (some 1) (some 0) [w.portals.interior.episode.toNat, 3, w.vehicleCount] false) ∧
    ∀ n, n < 2 →
      ((w.portal n).closure ≠ .gating → (v.portal n).closure = (w.portal n).closure) ∧
      ((w.portal n).closure = .gating → (v.portal n).closure = .clearing ∧
        (v.portal n).gate.attempts = (w.portal n).gate.attempts ∧ (v.portal n).gate.travel = none ∧
        (v.portal n).gate.dwellStart = none ∧
        v.recorded .portal n (some 5) (some 4) [(w.portal n).barrier.state.code, (w.portal n).gate.state.code,
          (w.portal n).gate.position, (w.portal n).gate.attempts] false))

/-- R81, R88: a grant that a portal in GATING or UNGATING asked for starts the pair of the gate; where the portal may send no
command it is given back (the model's choice, log 29); a gate travel over stalls the portal. R81: a gate that has become
DEPLOYED in GATING takes the portal to SHUT, with the attempt count set to 0 ahead of the PORTAL record and the grant given
back. R80: while a stop is in progress the work of GATING and UNGATING waits. R76: a portal that is OPEN with the stage ALERT
in RUNNING begins the sequence. R86: the drift of the barrier in CLEARING, GATING and SHUT, and of the gate in UNBARRING, OPEN
and the closing states ahead of GATING. -/
def Obligations.GateGrantAndTravel : Prop :=
  (∀ (n : Nat) (m : Motion) (s : State), n < 2 → gateAction (s.works.portal n).closure = some m →
    (s.works.portal n).gate.grant = .requested → (s.works.portal n).gate.stopping = false →
    (s.works.portal n).gate.pair ≠ .abandoned →
    (s.works.mayCommand n = true → s.works.lineRoom →
      ∃ v, exec (.gateGrantNotice n) s = .next (s.ended v) ∧ s.works.keepsPortals v ∧ v.water = s.works.water ∧
        v.notices = s.works.notices ∧ (v.portal n).closure = (s.works.portal n).closure ∧
        (v.portal n).gate = { (s.works.portal n).gate with
          grant := .granted, pair := .inFlight, action := some m, pairRefused := false } ∧
        v.line.queue = joinLine (s.works.asking (.pair m) (s.works.portal n).unit (s.works.portal n).gateOut (.gatePair n))
          s.works.line.queue) ∧
    (s.works.mayCommand n = false →
      ∃ v, exec (.gateGrantNotice n) s = .next (s.ended v) ∧ s.works.keepsPortals v ∧ v.water = s.works.water ∧
        v.notices = s.works.notices ++ [.loadRelease (s.works.gateEntry n)] ∧ (v.portal n).gate.grant = .none)) ∧
  (∀ (n : Nat) (s : State), n < 2 →
    ranOut (s.works.portal n).gate.travel (s.works.portal n).gate.limit s.works.now = true →
    ((s.works.portal n).closure = .gating ∨ (s.works.portal n).closure = .ungating) →
    ∃ v, exec (.gateTravelExpiry n) s = .next (s.ended v) ∧ s.works.keepsPortals v ∧ (v.portal n).gate.travel = none ∧
      (v.portal n).closure = .stalled ∧ (v.portal n).stall = some .gateTravel ∧
      (v.portal n).interrupted = some (s.works.portal n).closure ∧
      v.recorded .portalStall n (some (s.works.portal n).closure.code) (some 9)
        [1, 0, (s.works.portal n).gate.position, (s.works.portal n).barrier.state.code] true) ∧
  (∀ (n : Nat) (old : GateState) (own : Bool) (w v : Works), n < 2 → (w.portal n).closure = .gating →
    (w.portal n).gate.state = .deployed → (w.portal n).gate.pair ≠ .inFlight → v = w.judgeGateAuto n old own →
    (v.portal n).closure = .shut ∧ (v.portal n).gate.attempts = 0 ∧ (v.portal n).gate.travel = none ∧
    (v.portal n).gate.grant = .none ∧
    v.recorded .portal n (some 5) (some 6) [(w.portal n).barrier.state.code, GateState.deployed.code,
      (w.portal n).gate.position, 0] false ∧
    ((w.portal n).gate.grant = .granted → v.handed (.loadRelease (w.gateEntry n)))) ∧
  (∀ (n : Nat) (w : Works), ((w.portal n).closure = .gating ∨ (w.portal n).closure = .ungating) →
    (w.portal n).gate.stopping = true → w.work n = w) ∧
  (∀ (n : Nat) (w : Works), n < 2 → (w.portal n).closure = .opened → w.water.stage.stage = .alert →
    w.station.state = .running →
    ((w.beginSequence n).portal n).closure = .warning ∧ (w.portalRun n) = w.beginSequence n ∧
    (w.portalAlert n) = w.beginSequence n ∧
    (w.beginSequence n).recorded .portal n (some 1) (some 2) [(w.portal n).barrier.state.code,
      (w.portal n).gate.state.code, (w.portal n).gate.position, (w.portal n).gate.attempts] false) ∧
  (∀ (w v : Works) (n : Nat) (p : Portal), n < 2 → p = w.portal n → w.portalAuto n = true → p.barrier.state ≠ .down →
    v = w.judgeBarrier n .down false →
    (p.closure = .clearing → (v.portal n).closure = .barring ∧ v.recorded .portal n (some 4) (some 3)
      [p.barrier.state.code, p.gate.state.code, p.gate.position, p.gate.attempts] false) ∧
    (p.closure = .gating → (v.portal n).closure = .barring ∧ (v.portal n).gate.travel = none ∧
      (v.portal n).gate.dwellStart = none ∧ v.recorded .portal n (some 5) (some 3)
        [p.barrier.state.code, p.gate.state.code, p.gate.position, p.gate.attempts] false ∧
      (p.gate.grant = .requested → p.gate.pair = .none → p.gate.stopping = false →
        v.handed (.loadWithdrawal (w.gateEntry n)))) ∧
    (p.closure = .shut → (v.portal n).closure = .shut ∧ v.recorded .portalFault n none none [2, 0] true)) ∧
  (∀ (w v : Works) (n : Nat) (p : Portal), n < 2 → p = w.portal n → w.portalAuto n = true → p.gate.state ≠ .stowed →
    v = w.judgeGateAuto n .stowed false →
    (p.closure = .unbarring → (v.portal n).closure = .ungating ∧
      v.recorded .portal n (some 8) (some 7)
        [p.barrier.state.code, p.gate.state.code, p.gate.position, p.gate.attempts] false ∧
      (p.barrier.state = .raising → w.lineRoom → v.haltWaits p.unit p.barrierOut) ∧
      (p.barrier.pair = .inFlight → p.barrier.pairRefused = false → (p.barrier.state ≠ .raising ∨ w.lineRoom) →
        (v.portal n).barrier.pair = .abandoned)) ∧
    ((p.closure = .opened ∨ p.closure = .warning ∨ p.closure = .barring ∨ p.closure = .clearing) →
      v.portal n = p ∧ v.recorded .portalFault n none none [3, 0] true))

/-- R83: an obstruction reported during a travel of GATING or UNGATING ends the travel, gives the grant back and writes an
OBSTRUCTION record; at the attempt limit the portal stalls OBSTRUCTED, else the obstruction dwell starts; without a travel it
changes nothing. The dwell over, the attempts move on and the gate asks for its grant again, in GATING with the barrier DOWN; an
expiry before its time changes nothing (log 4). R74: a POLL response is taken barrier first, then gate, each judged whole, then
the obstruction, then a SET that is to be queued again (R73). That the gate's state is judged ahead of its obstruction flag, so
that a gate at its end writes no OBSTRUCTION record, is the model's choice (log 29). -/
def Obligations.ObstructionDwell : Prop :=
  (∀ (n : Nat) (e : Grant) (s : State), n < 2 →
    (ranOut (s.works.portal n).gate.dwellStart (s.works.portal n).gate.dwell s.works.now = true →
      s.works.mayCommand n = true → (s.works.portal n).closure = .gating ∨ (s.works.portal n).closure = .ungating →
      (s.works.portal n).gate.state = .halted →
      ((s.works.portal n).closure = .gating → (s.works.portal n).barrier.state = .down) →
      (s.works.portal n).gate.grant = .none → (s.works.portal n).gate.stopping = false →
      (s.works.portal n).gate.pair ≠ .inFlight → s.works.budget.grants[s.works.gateEntry n]? = some e →
      ∃ v, exec (.obstructionDwellExpiry n) s = .next (s.ended v) ∧ s.works.keepsPortals v ∧ v.water = s.works.water ∧
        (v.portal n).closure = (s.works.portal n).closure ∧
        (v.portal n).gate.attempts = (s.works.portal n).gate.attempts + 1 ∧ (v.portal n).gate.dwellStart = none ∧
        (v.portal n).gate.grant = .requested ∧ v.handed (.loadRequest (s.works.gateEntry n) 0 e.requested)) ∧
    (ranOut (s.works.portal n).gate.dwellStart (s.works.portal n).gate.dwell s.works.now = false →
      exec (.obstructionDwellExpiry n) s = .next (s.ended s.works))) ∧
  (∀ (w v : Works) (n : Nat) (p : Portal) (g : Gate), n < 2 → p = w.portal n → g = p.gate → g.obstruction = true →
    g.travel.isSome = true → (p.closure = .gating ∨ p.closure = .ungating) → v = w.judgeObstruction n →
    v.recorded .obstruction n none none [g.attempts, g.position, if p.closure = .gating then 2 else 3] false ∧
    (v.portal n).gate.grant = .none ∧ (v.portal n).gate.travel = none ∧ (v.portal n).gate.attempts = g.attempts ∧
    (g.grant = .granted → v.handed (.loadRelease (w.gateEntry n))) ∧
    (g.attempts ≠ g.attemptLimit →
      v.portal n = { p with gate := { g with grant := .none, travel := none, dwellStart := some w.now } }) ∧
    (g.attempts = g.attemptLimit → (v.portal n).closure = .stalled ∧ (v.portal n).stall = some .obstructed ∧
      (v.portal n).interrupted = some p.closure ∧ (v.portal n).gate.dwellStart = none ∧
      v.recorded .portalStall n (some p.closure.code) (some 9) [3, 0, g.position, p.barrier.state.code] true)) ∧
  (∀ (w : Works) (n : Nat), ((w.portal n).gate.obstruction = false ∨ (w.portal n).gate.travel = none ∨
      (w.portal n).closure ≠ .gating ∧ (w.portal n).closure ≠ .ungating) → w.judgeObstruction n = w) ∧
  (∀ (w u v : Works) (n : Nat) (img : List Byte),
    u = (w.takeBarrier n img).judgeBarrier n (w.portal n).barrier.state
      (decide ((w.portal n).barrier.pair ≠ .none) || (w.portal n).barrier.travel.isSome) →
    v = ((u.takeGate n img).judgeGate n (u.portal n).gate.state
      (decide ((u.portal n).gate.pair ≠ .none) || (u.portal n).gate.travel.isSome)).judgeObstruction n →
    w.portalArrival n img = if (v.portal n).signals.again = true then v.signalsAgain n else v)

/-- R96, R97: PORTAL REOPEN is refused outside DRAINING and in hand control, fails on a portal that is not SHUT, and starts a
reopening of one that is; CONFIRM CLEAR is refused without an open episode and otherwise declares the interior clear. A second
detail of 0 where the rules name none is the model's choice (log 17). -/
def Obligations.ReopenAndConfirm : Prop :=
  (∀ (k : Nat) (o : Order) (s : State), s.orderWaits k o → s.works.takesOrders → o.code = .portalReopen → o.subject < 2 →
    (s.works.water.stage.stage ≠ .draining →
      exec (.portalReopen k) s = .next (s.takenUp k (o.finish 4 s.works.water.stage.stage.code 0 [] s.works))) ∧
    (s.works.water.stage.stage = .draining → (s.works.claimOf (.portal o.subject)).commands = false →
      exec (.portalReopen k) s =
        .next (s.takenUp k (o.finish 5 (s.works.claimOf (.portal o.subject)).code 0 [] s.works))) ∧
    (s.works.water.stage.stage = .draining → (s.works.claimOf (.portal o.subject)).commands = true →
      (s.works.portal o.subject).closure ≠ .shut →
      exec (.portalReopen k) s =
        .next (s.takenUp k (o.finish 10 3 (s.works.portal o.subject).closure.code [] s.works))) ∧
    (s.works.water.stage.stage = .draining → (s.works.claimOf (.portal o.subject)).commands = true →
      (s.works.portal o.subject).closure = .shut → (s.works.portal o.subject).gate.state ≠ .stowed →
      (∀ a ∈ s.works.active, a.slot ≠ o.slot) →
      ∃ v, exec (.portalReopen k) s = .next (s.takenUp k v) ∧ s.works.keepsPortals v ∧
        (v.portal o.subject).closure = .ungating ∧ o.active 0 ∈ v.active ∧
        v.recorded .portal o.subject (some 6) (some 7) [(s.works.portal o.subject).barrier.state.code,
          (s.works.portal o.subject).gate.state.code, (s.works.portal o.subject).gate.position,
          (s.works.portal o.subject).gate.attempts] false)) ∧
  (∀ (k : Nat) (o : Order) (s : State), s.orderWaits k o → s.works.takesOrders → o.code = .confirmClear →
    (s.works.portals.interior.opened = false →
      exec (.confirmClear k) s = .next (s.takenUp k (o.finish 4 s.works.water.stage.stage.code 0 [] s.works))) ∧
    (s.works.portals.interior.opened = true →
      ∃ v, exec (.confirmClear k) s = .next (s.takenUp k v) ∧ s.works.keepsPortals v ∧ v.completed k 0 0 0 ∧
        v.portals.interior.clear = true ∧ v.portals.interior.confirm = some k ∧
        (s.works.portals.interior.clear = false → v.recorded .interior 0 (some 0) (some 1)
          [s.works.portals.interior.episode.toNat, 2, s.works.vehicleCount] false)))

/-- R98: PORTAL RESET is refused outside ALERT and DRAINING and in hand control, fails on a portal that is not STALLED, and
brings a stalled one back to the state the stall interrupted. R93: a portal whose claim becomes PANEL or LOCAL keeps its closure
state and sends nothing, its pairs ABANDONED, its grant given back, its timers absent, its shown aspect UNKNOWN (R73) and its
PORTAL REOPEN PREEMPTED (that a stop in progress and a pair refused full end at once is by log 29); under PANEL a gate that
becomes DEPLOYED in GATING, or leaves DEPLOYED in SHUT, is followed. R94, Table 4-4: a portal whose claim returns to AUTO is
reconstructed from UNKNOWN, and in another state does its work against the reported sub-records. That a SHUT portal under PANEL
whose gate was UNKNOWN before counts as one whose gate leaves DEPLOYED is the model's choice (log 29). A second detail of 0
where the rules name none is the model's choice (log 17). That a settlement without a report, as at a join by a response with
ERROR set, takes the sub-records as they stand is the model's choice (log 29). -/
def Obligations.PortalResetOrder : Prop :=
  (∀ (k : Nat) (o : Order) (s : State), s.orderWaits k o → s.works.takesOrders → o.code = .portalReset → o.subject < 2 →
    (s.works.water.stage.stage ≠ .alert → s.works.water.stage.stage ≠ .draining →
      exec (.portalReset k) s = .next (s.takenUp k (o.finish 4 s.works.water.stage.stage.code 0 [] s.works))) ∧
    ((s.works.water.stage.stage = .alert ∨ s.works.water.stage.stage = .draining) →
      (s.works.claimOf (.portal o.subject)).commands = false →
      exec (.portalReset k) s =
        .next (s.takenUp k (o.finish 5 (s.works.claimOf (.portal o.subject)).code 0 [] s.works))) ∧
    ((s.works.water.stage.stage = .alert ∨ s.works.water.stage.stage = .draining) →
      (s.works.claimOf (.portal o.subject)).commands = true → (s.works.portal o.subject).closure ≠ .stalled →
      exec (.portalReset k) s =
        .next (s.takenUp k (o.finish 10 3 (s.works.portal o.subject).closure.code [] s.works))) ∧
    (∀ c r, (s.works.water.stage.stage = .alert ∨ s.works.water.stage.stage = .draining) →
      (s.works.claimOf (.portal o.subject)).commands = true → (s.works.portal o.subject).closure = .stalled →
      (s.works.portal o.subject).interrupted = some c → c ≠ .stalled → (s.works.portal o.subject).stall = some r →
      ∃ v, exec (.portalReset k) s = .next (s.takenUp k v) ∧ s.works.keepsPortals v ∧ v.completed k 0 0 0 ∧
        v.recorded .portal o.subject (some 9) (some c.code) [(s.works.portal o.subject).barrier.state.code,
          (s.works.portal o.subject).gate.state.code, (s.works.portal o.subject).gate.position, r.code] false)) ∧
  (∀ (w v : Works) (n : Nat) (c : ClaimValue) (p q : Portal), n < 2 → v = w.uncommandPortal n c → p = w.portal n →
    q = v.portal n →
    v.line.queue.map (fun e => (e.req, e.unit, e.output)) = w.line.queue.map (fun e => (e.req, e.unit, e.output)) ∧
    q.closure = p.closure ∧ q.timer = none ∧ q.signals.shown = .unknown ∧ q.signals.wanted = p.signals.wanted ∧
    q.barrier.state = p.barrier.state ∧ q.gate.state = p.gate.state ∧ q.gate.attempts = p.gate.attempts ∧
    q.gate.grant = .none ∧ q.gate.travel = none ∧ q.gate.dwellStart = none ∧ q.gate.stopping = false ∧
    q.barrier.travel = none ∧
    q.gate.pair = (if p.gate.pair = .inFlight then (if p.gate.pairRefused then .none else .abandoned) else p.gate.pair) ∧
    q.barrier.pair =
      (if p.barrier.pair = .inFlight then (if p.barrier.pairRefused then .none else .abandoned) else p.barrier.pair) ∧
    (p.gate.grant = .granted → v.handed (.loadRelease (w.gateEntry n))) ∧
    (p.gate.grant = .requested → v.handed (.loadWithdrawal (w.gateEntry n))) ∧
    ∀ a ∈ w.active, a.code = .portalReopen → a.subject = n → v.completed a.slot 9 c.code 0) ∧
  (∀ (w v : Works) (n : Nat) (old : GateState) (own : Bool) (p : Portal), n < 2 → w.claimOf (.portal n) = .panel →
    p = w.portal n → p.gate.state ≠ old → v = w.judgeGate n old own →
    (p.closure = .gating → p.gate.state = .deployed → (v.portal n).closure = .shut) ∧
    (p.closure = .shut → p.gate.state ≠ .deployed → (v.portal n).closure = .gating ∧
      { portal := n, old := View.shut, new := View.moving, reopening := false } ∈ v.reports) ∧
    (p.closure ≠ .gating → p.closure ≠ .shut → v = w)) ∧
  (∀ (g : GateState) (b : BarrierState), reconstructed .deployed b = .shut ∧ reconstructed .stowed .up = .opened ∧
    reconstructed .stowed .down = .clearing ∧ (b ≠ .up → b ≠ .down → reconstructed .stowed b = .barring) ∧
    (g ≠ .deployed → g ≠ .stowed → reconstructed g b = .gating)) ∧
  (∀ (w : Works) (n : Nat) (img : List Byte),
    w.settlePortal n (some img) = ((w.takeBarrier n img).takeGate n img).settlePortal n none) ∧
  (∀ (w v : Works) (n : Nat) (p : Portal), n < 2 → p = w.portal n → v = w.settlePortal n none →
    ((p.gate.state = .deploying ∨ p.gate.state = .stowing) → w.portalAuto n = true → w.lineRoom →
      v.haltWaits p.unit p.gateOut) ∧
    (p.closure = .unknown → v.recorded .portal n (some 0) (some (reconstructed p.gate.state p.barrier.state).code)
      [p.barrier.state.code, p.gate.state.code, p.gate.position, if p.gate.state = .deployed then 0 else p.gate.attempts]
      false) ∧
    (p.closure = .shut → p.gate.state ≠ .deployed → w.portalAuto n = true →
      v.recorded .portal n (some 6) (some 5)
        [p.barrier.state.code, p.gate.state.code, p.gate.position, p.gate.attempts] false ∧
      { portal := n, old := View.shut, new := View.moving, reopening := false } ∈ v.reports) ∧
    (∀ e, p.closure = .gating → p.gate.state = .stowed → p.barrier.state = .down → w.mayCommand n = true →
      p.gate.grant = .none → p.gate.stopping = false → p.gate.dwellStart = none → p.gate.pair ≠ .inFlight →
      w.budget.grants[w.gateEntry n]? = some e →
      (v.portal n).gate.grant = .requested ∧ v.handed (.loadRequest (w.gateEntry n) 0 e.requested)) ∧
    (p.closure = .opened → p.gate.state ≠ .stowed → w.portalAuto n = true →
      v.recorded .portalFault n none none [5, 0] true))

/-! ## Lighting -/

/-- R107, R108: a grant to a healthy circuit is the power it may draw, and a SET of its drive step joins the line where the
step differs from the last one; a circuit that is faulted or in hand control gives the grant back. -/
def Obligations.LampGrantNotice : Prop :=
  ∀ (c power g : Nat) (x : Circuit) (z : Zone) (s : State), s.works.lights.circuits[c]? = some x → x.grant = some g →
    s.works.zoneOf x = some z →
    ((x.healthy = false ∨ s.works.commandsCircuit x = false) →
      ∃ v, exec (.lampGrantNotice c power) s = .next (s.ended v) ∧ s.works.keepsLights v ∧
        v.lights.zones = s.works.lights.zones ∧ v.notices = s.works.notices ++ [.loadRelease g] ∧
        v.lights.circuits = updAt (fun _ => { x with granted := 0, request := none }) c s.works.lights.circuits) ∧
    (∀ y, x.healthy = true → s.works.commandsCircuit x = true → y = { x with granted := power, request := none } →
      power ≤ y.powerAt y.covered → s.works.lineRoom → s.works.noSetWaits z.unit x.output →
      (y.setList.getLast?.orElse (fun _ => y.reported)) ≠ some y.drive →
      ∃ v, exec (.lampGrantNotice c power) s = .next (s.ended v) ∧ s.works.keepsLights v ∧
        v.lights.zones = s.works.lights.zones ∧ v.notices = s.works.notices ∧
        v.lights.circuits =
          updAt (fun _ => { y with setList := y.setList ++ [y.drive] }) c s.works.lights.circuits ∧
        v.line.queue = joinLine (s.works.asking (.set y.drive) z.unit x.output (.lampSet c)) s.works.line.queue)

/-- R112: a shed request to a lit circuit above its minimum safe step starts a shed hold: it wants no more than that step, and a
SET of it joins the line; a circuit that is faulted or in hand control fails the request. R113: a zone whose claim becomes PANEL
or LOCAL loses its ordered step, its ACTIVE ZONE SET is PREEMPTED, and its circuits give up their SETs, requests and shed marks;
LOCAL leaves no reported step. A settlement takes the reported steps, adopts what a healthy circuit draws beyond its grant and
judges the fault flags; afterwards the circuits follow in one pass in index order, those of the settled zones with their
requests judged anew, the others where their wanted step changes (R107). The target of a zone that loses its ordered step
changes only once every subject that lost its command is told (log 32). A second detail of 0 where the rules name none is the
model's choice (log 17). -/
def Obligations.LampShedRequest : Prop :=
  (∀ (c g : Nat) (x : Circuit) (z : Zone) (s : State), s.works.lights.circuits[c]? = some x → x.grant = some g →
    s.works.zoneOf x = some z →
    ((x.healthy = false ∨ s.works.commandsCircuit x = false) →
      exec (.lampShedRequest c) s = .next (s.ended (s.works.send (.shedFailure g)))) ∧
    (∀ r m, x.healthy = true → s.works.commandsCircuit x = true → z.minSafe = some m → x.reported = some r →
      x.setList = [] → x.request = none → m < r → m ≤ z.target → x.granted = x.powerAt r →
      x.powerAt m < x.granted → s.works.lineRoom → s.works.noSetWaits z.unit x.output →
      ∃ v, exec (.lampShedRequest c) s = .next (s.ended v) ∧ s.works.keepsLights v ∧
        v.lights.zones = s.works.lights.zones ∧ v.notices = s.works.notices ∧
        v.lights.circuits =
          updAt (fun _ => { x with shedHold := true, wanted := m, setList := [m] }) c s.works.lights.circuits ∧
        v.line.queue = joinLine (s.works.asking (.set m) z.unit x.output (.lampSet c)) s.works.line.queue)) ∧
  (∀ (w v : Works) (z : Nat) (c : ClaimValue) (q : Zone), w.lights.zones[z]? = some q → v = w.uncommandZone z c →
    v.line.queue.map (fun e => (e.req, e.unit, e.output)) = w.line.queue.map (fun e => (e.req, e.unit, e.output)) ∧
    (∀ a ∈ w.active, a.code = .zoneSet → a.subject = z → v.completed a.slot 9 c.code 0) ∧
    (∃ y, v.lights.zones[z]? = some { q with ordered := none, current := y }) ∧
    ∀ (i : Nat) (x : Circuit), w.lights.circuits[i]? = some x →
      (x.zone ≠ z → v.lights.circuits[i]? = some x) ∧
      (x.zone = z → v.lights.circuits[i]? = some { x with
          setList := [], request := none, shedHold := false, reported := if c = .away then none else x.reported } ∧
        (∀ g, x.grant = some g → x.request.isSome = true → v.handed (.loadWithdrawal g)) ∧
        ∀ g e, x.grant = some g → w.budget.grants[g]? = some e → e.mark = .asked → v.handed (.shedFailure g))) ∧
  (∀ (w v : Works) (reports : List (Option Nat)) (img : Option (List Byte)) (z i g r : Nat) (x : Circuit),
    w.lights.circuits[i]? = some x → x.zone = z → x.grant = some g → reports[i]? = some (some r) →
    v = w.settleZone reports img z → ∃ y, v.lights.circuits[i]? = some y ∧ y.reported = some r ∧ y.setList = x.setList ∧
      (x.healthy = true → x.granted < x.powerAt r → v.handed (.adoptionNotice g (x.powerAt r))) ∧
      (∀ b, img = some b → y.fault = (if bitAt (imgByte b 8) x.output = true then .lamp else .clear)) ∧
      (img = none → y.fault = (if x.fault = .refused then .clear else x.fault)) ∧
      (y.healthy = true → y.granted = if x.healthy = true then max x.granted (x.powerAt r) else x.granted)) ∧
  (∀ (w : Works) (zones : List Nat), w.followCircuits zones =
    (indexed 0 w.lights.circuits).foldl (fun u x =>
      if zones.contains x.2.zone then (((u.judgeWanted x.1).judgeRequest x.1).judgeSet x.1).judgeShrink x.1
      else if u.wantedMoves x.1 then ((u.judgeWanted x.1).judgeSet x.1).judgeShrink x.1 else u) w)

/-- R115, R116: both zone orders are refused in hand control; ZONE SET fails on a step above 7 and otherwise takes the claim and
the ordered step, superseding the zone's ACTIVE ZONE SET (that the claim is judged before the parameter is the model's choice,
log 30); ZONE AUTO gives both back and completes. R102: a VALID sample of its luminance channel takes the selection of a
threshold zone up, down or nowhere, by its up and down indexes. R103: a channel that is no longer VALID selects step 7. R104:
the deciding channel, and the day decision as an UP threshold of its samples, with a DAYLIGHT record of a change. R105, Table
5-3: the mode of every zone by stage and portal view, with its minimum safe step and a ZONE_MODE record of a change (its target
step by log 30). R106, Table 5-4: the target step of every zone, no transition zone above its threshold zone, computed again at
each of these events. The count and bound left by a run that ends are by log 30. A second detail of 0 where the rules name none
is the model's choice (log 17). -/
def Obligations.ZonesAndTheirOrders : Prop :=
  (∀ (k : Nat) (o : Order) (s : State), s.orderWaits k o → s.works.takesOrders → o.code = .zoneSet →
    ((s.works.claimOf (.zone o.subject)).commands = false →
      exec (.zoneSet k) s =
        .next (s.takenUp k (o.finish 5 (s.works.claimOf (.zone o.subject)).code 0 [] s.works))) ∧
    ((s.works.claimOf (.zone o.subject)).commands = true → 7 < o.param →
      exec (.zoneSet k) s = .next (s.takenUp k (o.finish 10 5 o.param [] s.works))) ∧
    (∀ z, (s.works.claimOf (.zone o.subject)).commands = true → o.param ≤ 7 →
      s.works.lights.zones[o.subject]? = some z →
      ∃ v, exec (.zoneSet k) s = .next (s.takenUp k v) ∧ s.works.keepsButClaims v ∧
        v.claimOf (.zone o.subject) = .ordered ∧
        (∃ y, v.lights.zones[o.subject]? = some y ∧ y.ordered = some o.param ∧ y.mode = z.mode ∧
          (o.subject ≠ 1 → o.subject ≠ 3 → y.target = o.param)) ∧
        ∀ a ∈ s.works.active, a.code = .zoneSet → a.subject = o.subject → v.completed a.slot 7 k 0)) ∧
  (∀ (k : Nat) (o : Order) (s : State), s.orderWaits k o → s.works.takesOrders → o.code = .zoneAuto →
    ((s.works.claimOf (.zone o.subject)).commands = false →
      exec (.zoneAuto k) s =
        .next (s.takenUp k (o.finish 5 (s.works.claimOf (.zone o.subject)).code 0 [] s.works))) ∧
    (∀ z, (s.works.claimOf (.zone o.subject)).commands = true → s.works.lights.zones[o.subject]? = some z →
      ∃ v, exec (.zoneAuto k) s = .next (s.takenUp k v) ∧ s.works.keepsButClaims v ∧
        v.claimOf (.zone o.subject) = .auto ∧ v.completed k 0 0 0 ∧
        (∃ y, v.lights.zones[o.subject]? = some y ∧ y.ordered = none) ∧
        ∀ a ∈ s.works.active, a.code = .zoneSet → a.subject = o.subject → v.completed a.slot 10 3 k)) ∧
  (∀ (t : StepTable) (c : StepChoice) (v up down n b : Nat),
    up = (t.boundaries.filter (fun b => decide (b ≤ v))).length →
    down = (t.boundaries.filter (fun b => decide (b ≤ v + t.hysteresis))).length →
    (c.selected < up → n = (if c.dir = RunDir.up then c.count + 1 else 1) →
      b = (if c.dir = RunDir.up then min c.bound up else up) →
      c.next t v = if t.qualify ≤ n then { selected := b, dir := .none, count := 0, bound := b }
        else { selected := c.selected, dir := .up, count := n, bound := b }) ∧
    (up ≤ c.selected → down < c.selected → n = (if c.dir = RunDir.down then c.count + 1 else 1) →
      b = (if c.dir = RunDir.down then max c.bound down else down) →
      c.next t v = if t.qualify ≤ n then { selected := b, dir := .none, count := 0, bound := b }
        else { selected := c.selected, dir := .down, count := n, bound := b }) ∧
    (up ≤ c.selected → c.selected ≤ down → c.next t v = { c with dir := .none, count := 0 })) ∧
  (∀ (w : Works) (ch v z : Nat) (x : Channel) (y : Zone) (t : StepTable) (c : StepChoice),
    w.water.channels[ch]? = some x → x.kind = .luminance → w.lights.zones[z]? = some y → y.table = some t →
    y.choice = some c → t.channel = ch →
    (x.low ≤ v → v ≤ x.high → ∃ q, (w.sample ch v).lights.zones[z]? = some q ∧ q.choice = some (c.next t v) ∧
      (w.sample ch v).lights.targets[z]? = some q.target) ∧
    (x.validity = .valid → (v < x.low ∨ x.high < v) →
      ∃ q, (w.sample ch v).lights.zones[z]? = some q ∧ (w.sample ch v).lights.targets[z]? = some q.target ∧
        q.choice = some { selected := 7, dir := .none, count := 0, bound := c.bound }) ∧
    (x.validity = .valid →
      ∃ q, (w.channelLost ch).lights.zones[z]? = some q ∧ (w.channelLost ch).lights.targets[z]? = some q.target ∧
        q.choice = some { selected := 7, dir := .none, count := 0, bound := c.bound })) ∧
  (∀ (w : Works) (x y : Zone) (t u : StepTable) (c e : Channel), w.lights.zones[0]? = some x → x.table = some t →
    w.water.channels[t.channel]? = some c → w.lights.zones[2]? = some y → y.table = some u →
    w.water.channels[u.channel]? = some e →
    w.dayDecider = if c.validity = .valid then some t.channel else if e.validity = .valid then some u.channel else none) ∧
  (∀ (w v : Works) (ch : Nat) (x : Channel) (d : Day), w.water.channels[ch]? = some x → x.kind = .luminance →
    x.validity = .valid → v = w.channelLost ch → d = w.lights.day →
    v.lights.day = if d.decider = v.dayDecider then d else { d with state := d.state.settled, decider := v.dayDecider }) ∧
  (∀ (w v : Works) (ch n : Nat) (x : Channel) (d e : Day) (st : ThState), w.water.channels[ch]? = some x →
    x.kind = .luminance → x.low ≤ n → n ≤ x.high → v = w.sample ch n → d = w.lights.day →
    e = (if x.validity = .valid ∨ d.decider = v.dayDecider then d
      else { d with state := d.state.settled, decider := v.dayDecider }) →
    st = upStep e.boundary e.hysteresis e.qualify e.state n →
    (e.decider ≠ some ch → v.lights.day = e) ∧
    (e.decider = some ch → v.lights.day = { e with state := st } ∧
      (st.settled ≠ e.state.settled →
        v.recorded .daylight 4 (some (flag e.isDay)) (some (flag (!e.isDay))) [ch, n] false))) ∧
  (∀ (z : Nat) (view : Option View),
    zoneMode z .dry view = .normal ∧ zoneMode z .watch view = .normal ∧ (∀ st, 5 ≤ z → zoneMode z st view = .normal) ∧
    (z < 5 → zoneMode z .closed view = .closure) ∧
    (z = 4 → zoneMode z .alert view = .clearingFull ∧ zoneMode z .draining view = .closure) ∧
    (z < 4 → view = some .shut → zoneMode z .alert view = .closure ∧ zoneMode z .draining view = .closure) ∧
    (z = 0 ∨ z = 2 → view ≠ some .shut → zoneMode z .alert view = .normal ∧ zoneMode z .draining view = .normal) ∧
    (z = 1 ∨ z = 3 → view ≠ some .shut → zoneMode z .alert view = .clearingFull ∧ zoneMode z .draining view = .normal)) ∧
  (∀ (w v : Works) (z : Nat) (x : Zone) (m : ZoneMode) (safe : Option Nat), w.lights.zones[z]? = some x →
    v = w.judgeModes →
    m = zoneMode z w.water.stage.stage (if z < 2 then some w.water.stage.north else if z < 4 then some w.water.stage.south
      else none) →
    safe = (if m = x.mode ∨ x.minSafe = none then x.minSafe else some (if m = .normal then x.minNormal else x.minStorm)) →
    ∃ q, v.lights.zones[z]? = some q ∧ q.mode = m ∧ q.minSafe = safe ∧ v.lights.targets[z]? = some q.target ∧
      (m ≠ x.mode → v.recorded .zoneMode z (some x.mode.code) (some m.code)
        [w.water.stage.stage.code, viewDetail (w.zoneView z), stepCode safe, x.target] false)) ∧
  (∀ (w v : Works) (z : Nat) (x : Zone) (st : Stage) (cause : StageCause), w.lights.zones[z]? = some x →
    w.water.stage.stage ≠ st → v = w.changeStage st cause →
    ∃ q, v.lights.zones[z]? = some q ∧ q.mode = zoneMode z st (v.zoneView z) ∧ v.lights.targets[z]? = some q.target) ∧
  (∀ (l : Lights) (z : Nat) (x : Zone), l.zones[z]? = some x → z ≠ 1 → z ≠ 3 →
    (∀ k, x.ordered = some k → l.targets[z]? = some k) ∧
    (x.ordered = none → x.mode = .clearingFull → l.targets[z]? = some 7) ∧
    (∀ k, x.ordered = none → x.mode = .closure → x.closure = some k → l.targets[z]? = some k) ∧
    (∀ c, x.ordered = none → x.mode = .normal → x.choice = some c → l.targets[z]? = some c.selected) ∧
    (x.ordered = none → x.mode = .normal → x.choice = none →
      l.targets[z]? = some (if l.day.state.settled = .above then x.day else x.night))) ∧
  (∀ (l : Lights) (z thr int : Nat) (x : Zone), l.zones[z]? = some x → (z = 1 ∨ z = 3) →
    l.targets[z - 1]? = some thr → l.targets[4]? = some int →
    (∀ k, x.ordered = some k → l.targets[z]? = some (min k thr)) ∧
    (x.ordered = none → x.mode = .normal → l.targets[z]? = some (min (max (thr - x.offset) int) thr)) ∧
    (x.ordered = none → x.mode = .clearingFull → l.targets[z]? = some (min 7 thr)) ∧
    (∀ k, x.ordered = none → x.mode = .closure → x.closure = some k → l.targets[z]? = some (min k thr)) ∧
    ∀ k, l.targets[z]? = some k → k ≤ thr)


/-! ## Drop line -/

/-- R130, R134, R138: the end of a request opens the response window, or ends a broadcast; a response byte joins the frame in
progress, which starts at a sync byte and is dropped by a gap (log 5); the time of a poll round starts one, with the address
last polled 0 (the model's choice, log 8). An event before its time changes nothing (log 4). That a complete frame takes no more
bytes, and that its end is a notice of its own, are the model's choices (log 31); so is that a byte that comes more than 2 ms
after the last one drops the frame and is then taken as a first byte (log 5). -/
def Obligations.LineEvents : Prop :=
  (∀ (x : Exchange) (s : State), s.works.line.exchange = some x → x.awaiting = false →
    (x.unit = 31 → exec .requestTransmitted s =
      .next (s.ended (s.works.setLine { s.works.line with exchange := none }))) ∧
    (x.unit ≠ 31 → exec .requestTransmitted s =
      .next (s.ended (s.works.setLine { s.works.line with
        exchange := some { x with awaiting := true, windowStart := s.works.now },
        rx := { frame := [], lastByte := s.works.now, gapSeen := false } })))) ∧
  (∀ (b : Byte) (s : State), s.works.line.awaits = true → frameComplete s.works.line.rx.frame = false →
    (s.works.line.rx.frame = [] → b ≠ 0xC3 → exec (.responseByteReceived b) s = .next s) ∧
    (s.works.line.rx.frame = [] → b = 0xC3 → exec (.responseByteReceived b) s =
      .next { s with works := s.works.setLine { s.works.line with
        rx := { s.works.line.rx with frame := [b], lastByte := s.works.now } } }) ∧
    (s.works.line.rx.frame ≠ [] → s.works.now ≤ s.works.line.rx.lastByte + 2 →
      ∃ v, exec (.responseByteReceived b) s = .next { s with works := v } ∧
        v.line = { s.works.line with
          rx := { s.works.line.rx with frame := s.works.line.rx.frame ++ [b], lastByte := s.works.now } } ∧
        v.notices = s.works.notices ++
          (if frameComplete (s.works.line.rx.frame ++ [b]) then [.responseFrameComplete] else []) ∧
        s.works.sameOutsideLine v) ∧
    (s.works.line.rx.frame ≠ [] → s.works.line.rx.lastByte + 2 < s.works.now → exec (.responseByteReceived b) s =
      .next { s with works := s.works.setLine { s.works.line with
        rx := { frame := if b = 0xC3 then [b] else [],
                lastByte := if b = 0xC3 then s.works.now else s.works.line.rx.lastByte, gapSeen := true } } })) ∧
  (∀ (b : Byte) (s : State), s.works.line.awaits = false ∨ frameComplete s.works.line.rx.frame = true →
    exec (.responseByteReceived b) s = .next s) ∧
  (∀ s : State, s.works.line.awaits = true → s.works.line.rx.frame ≠ [] →
    frameComplete s.works.line.rx.frame = false →
    (s.works.line.rx.lastByte + 2 ≤ s.works.now → exec .frameGapTimeout s =
      .next { s with works := s.works.setLine { s.works.line with
        rx := { s.works.line.rx with frame := [], gapSeen := true } } }) ∧
    (s.works.now < s.works.line.rx.lastByte + 2 → exec .frameGapTimeout s = .next s)) ∧
  (∀ s : State, s.works.stageRuns = true → s.works.line.round.inProgress = false →
    (elapsed s.works.line.round.start (s.works.siteTime Site.roundPeriod) s.works.now = true →
      exec .pollRoundStart s = .next (s.ended (s.works.setLine { s.works.line with
        round := { s.works.line.round with start := s.works.now, lastAddr := 0, inProgress := true } }))) ∧
    (elapsed s.works.line.round.start (s.works.siteTime Site.roundPeriod) s.works.now = false →
      exec .pollRoundStart s = .next (s.ended s.works)))

/-- R134 to R136, R142, R144, R145: a completed frame whose exchange a LOAD SITE has overtaken only frees the line; a right one
of the roll call marks its unit heard and holds its image; a right one to a SET makes its unit PRESENT; one with ERROR set does
so too and leaves UNIT_ERROR with its code. A window that runs out, a wrong check, a wrong image length and a wrong address or
echo are misses of their kind, by Table 7-4. A right POLL response of an UNSEEN or LOST unit is its join: PRESENT, with a UNIT
record, and its claims take what their keys in that response give (R126). A right POLL response outside the roll call is handed
on in the order of R136: the roster, the keys, the inputs of the image to their blocks, and, the line free, the retry notices. A
pair goes SELECT, OPERATE, and a missed half of it queues a DESELECT. R82, R142: a DEPLOY whose portal's barrier is not DOWN,
and a RAISE whose portal's gate is not STOWED, sends no SELECT and ends WITHHELD, which for a DEPLOY gives the grant back;
whatever SELECT a choice puts on the line is that of the pair at the head, its condition holding. That a POLL response of
another address or echo and of a wrong length too is a WRONG_ADDRESS miss is the model's choice (log 31). -/
def Obligations.ExchangeEnds : Prop :=
  (∀ (x : Exchange) (s : State), s.works.line.exchange = some x → x.awaiting = true → x.discard = true →
    frameComplete s.works.line.rx.frame = true →
    exec .responseFrameComplete s = .next (s.ended (s.works.setLine { s.works.line with
      exchange := none, rx := { s.works.line.rx with frame := [] } }))) ∧
  (∀ (x : Exchange) (r : RosterEntry) (f : List Byte) (s : State), s.works.line.exchange = some x →
    x.awaiting = true → x.discard = false → x.kind = .rollPoll → x.cmd = .poll → s.works.line.rx.frame = f →
    frameComplete f = true → checkRight f = true → imgByte f 2 = x.unit → imgByte f 3 = 0x10 →
    s.works.rosterEntry x.unit = some r → imgByte f 4 = r.type.imageLength → (statusOf (imgByte f 1)).error = false →
    ∃ v q, exec .responseFrameComplete s = .next (s.ended v) ∧ v.now = s.works.now ∧ v.station = s.works.station ∧
      v.line.exchange = none ∧ v.rosterEntry x.unit = some q ∧ q.heard = true ∧ q.missCount = 0 ∧
      q.lastGood = some s.works.now ∧ q.held = some (frameData f) ∧ q.state = r.state) ∧
  (∀ (x : Exchange) (e : QEntry) (r : RosterEntry) (f : List Byte) (s : State), s.works.line.exchange = some x →
    x.awaiting = true → x.discard = false → x.kind = .single e → x.cmd = .set → s.works.line.rx.frame = f →
    frameComplete f = true → checkRight f = true → imgByte f 2 = x.unit → imgByte f 3 = 0x11 →
    s.works.rosterEntry x.unit = some r → (statusOf (imgByte f 1)).error = false →
    ∃ v q, exec .responseFrameComplete s = .next (s.ended v) ∧ v.now = s.works.now ∧ v.station = s.works.station ∧
      v.line.exchange = none ∧ v.rosterEntry x.unit = some q ∧ q.state = .present ∧ q.missCount = 0 ∧
      q.lastGood = some s.works.now) ∧
  (∀ (x : Exchange) (e : QEntry) (r : RosterEntry) (f d : List Byte) (b : Byte) (s : State),
    s.works.line.exchange = some x → x.awaiting = true → x.discard = false → x.kind = .single e → x.cmd ≠ .poll →
    s.works.line.rx.frame = f → frameComplete f = true → checkRight f = true → imgByte f 2 = x.unit →
    imgByte f 3 = x.cmd.code → s.works.rosterEntry x.unit = some r → (statusOf (imgByte f 1)).error = true →
    frameData f = b :: d →
    ∃ v q, exec .responseFrameComplete s = .next (s.ended v) ∧ v.now = s.works.now ∧ v.station = s.works.station ∧
      v.line.exchange = none ∧ v.rosterEntry x.unit = some q ∧ q.state = .present ∧ q.missCount = 0 ∧
      q.lastGood = some s.works.now ∧ q.lastError = some (.unitError b.toNat) ∧
      (r.lastError = none → v.recorded .lineError x.unit none none
        [LineError.code (some (.unitError b.toNat)), b.toNat, x.cmd.code, 1] false)) ∧
  (∀ (w : Works) (e : QEntry) (u c : Nat),
    w.reportEnd (.single e) u (some none) = w.reportEntry e .missed .acknowledged ∧
    w.reportEnd (.single e) u (some (some c)) = w.reportEntry e .missed (.refused c) ∧
    w.reportEnd (.single e) u none = w.reportEntry e .missed .missed) ∧
  (∀ (x : Exchange) (r : RosterEntry) (i : Instr) (k : LineError) (s : State), s.works.line.exchange = some x →
    x.awaiting = true → x.discard = false → (x.kind = .poll ∨ ∃ e, x.kind = .single e) →
    s.works.rosterEntry x.unit = some r → s.works.missedBy x r i k →
    ∃ v q, exec i s = .next (s.ended v) ∧ v.now = s.works.now ∧ v.station = s.works.station ∧
      v.line.exchange = none ∧ v.rosterEntry x.unit = some q ∧ q.lastError = some k ∧
      (r.state = .present → 1 < r.missLimit → q.state = .suspect ∧ q.missCount = 1) ∧
      (r.state = .present → r.missLimit = 1 → q.state = .lost ∧ q.missCount = 1) ∧
      ((r.state = .suspect ∨ r.state = .unseen) → r.missCount + 1 < r.missLimit →
        q.state = r.state ∧ q.missCount = r.missCount + 1) ∧
      ((r.state = .suspect ∨ r.state = .unseen) → r.missCount + 1 = r.missLimit →
        q.state = .lost ∧ q.missCount = r.missLimit) ∧
      (r.state = .lost → q.state = .lost ∧ q.missCount = r.missCount) ∧
      (r.lastError = none → v.recorded .lineError x.unit none none
        [LineError.code (some k), 0, x.cmd.code, q.state.code] false) ∧
      (q.state = .lost → r.state ≠ .lost → v.recorded .unit x.unit (some r.state.code) (some 3)
        [r.type.code, q.missCount, LineError.code (some k), 1] true)) ∧
  (∀ (x : Exchange) (r : RosterEntry) (f : List Byte) (s : State), s.works.line.exchange = some x →
    x.awaiting = true → x.discard = false → x.kind = .poll → x.cmd = .poll → s.works.line.rx.frame = f →
    frameComplete f = true → checkRight f = true → imgByte f 2 = x.unit → imgByte f 3 = 0x10 →
    s.works.rosterEntry x.unit = some r → (r.state = .unseen ∨ r.state = .lost) → imgByte f 4 = r.type.imageLength →
    (statusOf (imgByte f 1)).error = false → (s.works.claims.map Claim.subject).Nodup →
    ∃ v q, exec .responseFrameComplete s = .next (s.ended v) ∧ v.now = s.works.now ∧ v.station = s.works.station ∧
      v.line.exchange = none ∧ v.rosterEntry x.unit = some q ∧ q.state = .present ∧ q.missCount = 0 ∧
      q.lastGood = some s.works.now ∧ q.lastError = r.lastError ∧
      v.recorded .unit x.unit (some r.state.code) (some 1) [r.type.code, 0, LineError.code r.lastError, 2] false ∧
      ∀ (k : Nat) (c : Claim), s.works.claims[k]? = some c →
        (c.unit ≠ x.unit → v.claims[k]? = some c) ∧
        (c.unit = x.unit → ∃ y z, y = (if r.type.keyPanel (frameData f) c.key then KeyView.panel else .normal) ∧
          z = (if r.type.keyPanel (frameData f) c.key then ClaimValue.panel else .auto) ∧
          v.claims[k]? = some { c with keyView := y, value := z, slot := none, changed := s.works.now } ∧
          v.recorded .claim k (some c.value.code) (some z.code) [ClaimCause.code .unitJoined, absent16, c.unit, 1]
            false)) ∧
  (∀ (x : Exchange) (r : RosterEntry) (f : List Byte) (s : State) (w : Works), s.works.line.exchange = some x →
    x.awaiting = true → x.discard = false → x.kind = .poll → x.cmd = .poll → s.works.line.rx.frame = f →
    frameComplete f = true → checkRight f = true → imgByte f 2 = x.unit → imgByte f 3 = 0x10 →
    s.works.rosterEntry x.unit = some r → r.state.inHand = true → imgByte f 4 = r.type.imageLength →
    statusOf (imgByte f 1) = { error := false, isLocal := false, panel := false, restarted := false } →
    w = (s.works.updRoster x.unit (fun r => { r with state := .present, missCount := 0, lastGood := some s.works.now })).pollKeys
      x.unit r.type (frameData f) →
    w.keyChanges x.unit = [] →
    ∃ k v, (k, v) = (w.handInputs x.unit r.type (frameData f)).freeLine .poll ∧
      exec .responseFrameComplete s = .next (s.ended ((v.reportEnd k x.unit (some none)).retryNotices x.unit))) ∧
  (∀ (w : Works) (e : QEntry) (rest : List QEntry) (m : Motion), w.stageRuns = true → w.line.selected = none →
    w.line.queue = e :: rest → e.req = .pair m → w.interlockHolds e = true →
    ∃ v, w.choose = some v ∧ v.line.queue = rest ∧ v.selectionOf e.unit (w.rosterEntry e.unit) .selecting ∧
      v.line.sends (.selectOf e) e.unit .select [e.output, m.code]) ∧
  (∀ (w : Works) (e : QEntry) (m : Motion), e.req = .pair m → (w.interlockHolds e = true ↔ ∀ r ∈ e.requesters, ∀ n,
    (m = .deploy → r.who = .gatePair n → (w.portal n).barrier.state = .down) ∧
    (m = .raise → r.who = .barrierPair n → (w.portal n).gate.state = .stowed))) ∧
  (∀ (w v : Works) (e : QEntry) (rest : List QEntry) (m : Motion) (r : Requester) (n : Nat), w.stageRuns = true →
    w.line.selected = none → w.line.queue = e :: rest → w.line.exchange = none → e.req = .pair m → r ∈ e.requesters →
    (m = .deploy ∧ r.who = .gatePair n ∧ (w.portal n).barrier.state ≠ .down ∨
      m = .raise ∧ r.who = .barrierPair n ∧ (w.portal n).gate.state ≠ .stowed) →
    v = (w.setLineQueue rest).reportEntry e .withheld .removed →
    w.choose = some v ∧ v.line.exchange = none ∧
      (e.requesters = [r] → r.fate = .live → r.who = .gatePair n → (w.portal n).gate.grant = .granted →
        v.handed (.loadRelease (w.gateEntry n)))) ∧
  (∀ (w v : Works) (x : Exchange), w.line.exchange = none → w.choose = some v → v.line.exchange = some x →
    x.cmd = .select → ∃ e rest m, w.line.queue = e :: rest ∧ e.req = .pair m ∧ x.kind = .selectOf e ∧ x.unit = e.unit ∧
      ∀ r ∈ e.requesters, ∀ n,
        (m = .deploy → r.who = .gatePair n → (w.portal n).barrier.state = .down) ∧
        (m = .raise → r.who = .barrierPair n → (w.portal n).gate.state = .stowed)) ∧
  (∀ (w : Works) (e : QEntry) (u : Nat), w.reportEnd (.selectOf e) u (some none) =
    (w.setSelection u .selected).setLine { (w.setSelection u .selected).line with selected := some e }) ∧
  (∀ (w : Works) (e : QEntry) (m : Motion), w.stageRuns = true → w.line.selected = some e → e.req = .pair m →
    ∃ v, w.choose = some v ∧ v.line.queue = w.line.queue ∧ v.line.selected = none ∧
      v.selectionOf e.unit (w.rosterEntry e.unit) .operating ∧
      v.line.sends (.operateOf e) e.unit .operate [e.output, m.code]) ∧
  (∀ (w : Works) (e : QEntry) (u c : Nat),
    w.reportEnd (.operateOf e) u (some none) = (w.setSelection u .none).reportEntry e (.executed true) .acknowledged ∧
    w.reportEnd (.operateOf e) u (some (some c)) = (w.setSelection u .none).reportEntry e (.refused c) (.refused c) ∧
    w.reportEnd (.selectOf e) u (some (some c)) = (w.setSelection u .none).reportEntry e (.refused c) (.refused c) ∧
    w.reportEnd (.operateOf e) u none = ((w.setSelection u .none).reportEntry e (.executed false) .missed).deselect u ∧
    w.reportEnd (.selectOf e) u none = ((w.setSelection u .none).reportEntry e .missed .missed).deselect u) ∧
  (∀ (w : Works) (u : Nat), (w.unitState u).inHand = true → w.lineRoom →
    (∀ q ∈ w.line.queue, q.req.isDeselect = true → q.unit ≠ u) →
    (w.deselect u).line.queue = joinLine (w.asking .deselect u 0 .lineItself) w.line.queue)

/-- R147, R148: UNIT RETIRE of a portal unit is refused while a closure stands; a RETIRED unit completes at once; any other is
retired as soon as nothing of it is on the line. UNIT RESTORE fails on a unit that is not RETIRED and takes a RETIRED one to
UNSEEN. R120, R122, R123, R126, R127: the claims of a unit that is lost become LOCAL; the keys of one that is heard turn AUTO
and ORDERED into PANEL and PANEL into AUTO; at a join, and by force after a restart or a local fallback, each takes the value
its key gives. Each change has its CLAIM record and is given to the owner (R124): a pump whose claim a loss or a key takes is
UNCOMMANDED, a portal keeps its closure state, a zone loses its ordered step; what the owners do further is stated at
uncommandPump and settlePump (PumpAutoAndClear), uncommandPortal and settlePortal (PortalResetOrder), uncommandZone and
settleZone (LampShedRequest). Result word 25, the roster state, on refused and failed completions is by R146 and log 17 (the
model's reading). A second detail of 0 where the rules name none is the model's choice (log 17). That a portal that joins under
PANEL is not reconstructed is the model's choice (log 33). -/
def Obligations.UnitOrders : Prop :=
  (∀ (k : Nat) (o : Order) (r : RosterEntry) (s : State), s.orderWaits k o → s.works.takesOrders → o.code = .unitRetire →
    s.works.rosterEntry o.subject = some r →
    (r.type = .portal → (s.works.water.stage.stage = .alert ∨ s.works.water.stage.stage = .closed ∨
        s.works.water.stage.stage = .draining) →
      exec (.unitRetire k) s =
        .next (s.takenUp k (o.finish 4 s.works.water.stage.stage.code 0 [r.state.code] s.works))) ∧
    ((r.type ≠ .portal ∨ s.works.water.stage.stage = .dry ∨ s.works.water.stage.stage = .watch) →
      r.state = .retired → exec (.unitRetire k) s = .next (s.takenUp k (o.finish 0 0 0 [4] s.works))) ∧
    ((r.type ≠ .portal ∨ s.works.water.stage.stage = .dry ∨ s.works.water.stage.stage = .watch) →
      r.state ≠ .retired →
      exec (.unitRetire k) s = .next (s.takenUp k (s.works.hold (o.active 0))) ∧
      (s.works.busy o.subject = false → (∀ a ∈ s.works.active, a.code ≠ .unitRetire) →
        (s.takenUp k (s.works.hold (o.active 0))).works.recorded .unit o.subject (some r.state.code) (some 4)
          [r.type.code, r.missCount, LineError.code r.lastError, 4] false ∧
        (s.takenUp k (s.works.hold (o.active 0))).works.completed k 0 0 0))) ∧
  (∀ (k : Nat) (o : Order) (r : RosterEntry) (s : State), s.orderWaits k o → s.works.takesOrders →
    o.code = .unitRestore → s.works.rosterEntry o.subject = some r →
    (r.state ≠ .retired →
      exec (.unitRestore k) s = .next (s.takenUp k (o.finish 10 1 r.state.code [r.state.code] s.works))) ∧
    (r.state = .retired →
      ∃ v q, exec (.unitRestore k) s = .next (s.takenUp k v) ∧ v.now = s.works.now ∧ v.station = s.works.station ∧
        v.rosterEntry o.subject = some q ∧ q.state = .unseen ∧ q.missCount = 0 ∧ q.lastError = none ∧
        v.recorded .unit o.subject (some 4) (some 0) [r.type.code, 0, 0, 5] false ∧ v.completed k 0 0 0)) ∧
  (∀ (u k : Nat) (c : Claim) (w : Works), (w.claims.map Claim.subject).Nodup → w.claims[k]? = some c →
    (c.unit ≠ u → (w.claimsLost u).claims[k]? = some c) ∧
    (c.unit = u → c.value ≠ .away →
      w.claimTurns (w.claimsLost u) k { c with keyView := .unknown } .away .unitLost) ∧
    (c.unit = u → c.value = .away → (w.claimsLost u).claims[k]? = some { c with keyView := .unknown }) ∧
    (c.unit = u → c.value ≠ .away → w.ownerLoses (w.claimsLost u) c.subject)) ∧
  (∀ (u k : Nat) (c : Claim) (images : Nat → Option (List Byte)) (w : Works), (w.claims.map Claim.subject).Nodup →
    w.claims[k]? = some c →
    (c.unit = u → c.keyView = .panel → (c.value = .auto ∨ c.value = .ordered) →
      w.claimTurns (w.judgeKeys u images) k c .panel .keyPanel ∧ w.ownerLoses (w.judgeKeys u images) c.subject) ∧
    (c.unit = u → c.keyView = .normal → c.value = .panel →
      w.claimTurns (w.judgeKeys u images) k c .auto .keyNormal) ∧
    ((c.unit ≠ u ∨ c.value = .away ∨ c.keyView = .unknown ∨ (c.keyView = .panel ↔ c.value = .panel)) →
      (w.judgeKeys u images).claims[k]? = some c)) ∧
  (∀ (u k : Nat) (c : Claim) (cause : ClaimCause) (images : Nat → Option (List Byte)) (w : Works),
    (w.claims.map Claim.subject).Nodup → w.claims[k]? = some c →
    (c.unit ≠ u → (w.reconcile [u] cause images).claims[k]? = some c ∧
      (w.forceReconcile u cause images).claims[k]? = some c) ∧
    (c.unit = u → w.claimTurns (w.reconcile [u] cause images) k c (if c.keyView = .panel then .panel else .auto) cause ∧
      ∃ x code, x = (if c.keyView = .panel then ClaimValue.panel else .auto) ∧
        (w.forceReconcile u cause images).claims[k]? =
          some { c with value := x, slot := none, changed := if c.value = x then c.changed else w.now } ∧
        (w.forceReconcile u cause images).recorded .claim k (some c.value.code) (some x.code)
          [cause.code, absent16, c.unit, code] false)) ∧
  (∀ (w : Works) (images : Nat → Option (List Byte)) (reports : List (Option Nat)) (joined : Bool) (n : NewClaim) (c : Claim)
    (tell : Works → Works), w.claimEntry n.subject = some c → tell = Works.handClaim images reports joined n →
    (∀ i, n.subject = .pump i →
      (n.value = .away → tell w = w.uncommandPump i .away) ∧
      (∀ b, images c.unit = some b →
        (n.value = .panel → tell w = (w.pumpViews i b).uncommandPump i .panel) ∧
        (n.value = .auto → tell w = (w.pumpViews i b).settlePump i)) ∧
      (images c.unit = none → (n.value = .panel → tell w = w.uncommandPump i .panel) ∧
        (n.value = .auto → tell w = w.settlePump i))) ∧
    (∀ p, n.subject = .portal p →
      ((n.value = .away ∨ n.value = .panel) → tell w = w.uncommandPortal p n.value) ∧
      (n.value = .auto → tell w = w.settlePortal p (images c.unit))) ∧
    ∀ z, n.subject = .zone z →
      ((n.value = .away ∨ n.value = .panel ∧ joined = false) → tell w = w.uncommandZone z n.value) ∧
      ((n.value = .auto ∨ n.value = .panel ∧ joined = true) → tell w = w.settleZone reports (images c.unit) z))

/-! ## Station control -/

/-- R170, R173: LOADING ends with the judgement of the site store: a valid one brings its table into force and begins the roll
call, with every block's records built from it (R174), any other takes the station to UNSET, where the waiting orders of the
jobs complete NO_SITE. Outside LOADING the command changes nothing (the model's choice, log 6). A second detail of 0 where the
rules name none is the model's choice (log 17). -/
def Obligations.SiteStoreJudgement : Prop :=
  (∀ s : State, s.works.station.state ≠ .loading → exec .siteStoreJudgement s = .next s) ∧
  (∀ (reason index : Nat) (s : State), s.works.station.state = .loading → s.store.judge = .refused reason index →
    ∃ t, exec .siteStoreJudgement s = .next t ∧ t.works.station.state = .unset ∧ t.store = s.store ∧
      t.pending = s.pending ∧ t.port.mem = s.port.mem ∧ t.works.now = s.works.now ∧
      t.works.recorded .station 0 (some 0) (some 1) [2, if s.works.station.powerOn then 1 else 2, reason, index] true ∧
      t.works.handed .imageRewriteRequest ∧
      ∀ o ∈ waitingJobOrders s.port.working, t.works.completed o.slot 12 0 0) ∧
  (∀ (site : Site) (s : State), s.works.station.state = .loading → s.store.judge = .valid site →
    ∃ t, exec .siteStoreJudgement s = .next t ∧ t.works.station.site = some site ∧ t.store = s.store ∧
      t.pending = s.pending ∧ t.works.now = s.works.now ∧
      t.works.recorded .station 0 (some 0) (some 2) [1, if s.works.station.powerOn then 1 else 2, 0, 65535] false ∧
      t.works.handed .imageRewriteRequest ∧ (s.works.active = [] → t.works.station.state = .rollCall) ∧
      ((∀ a ∈ s.works.active, a.code ≠ .unitRetire) → t.works.builtFrom site))

/-- R171, R177: a row of the site store holds its bytes after 5 ms and the next follows; after the last the check cell is sealed
and the table comes into force; a row that reads back otherwise is a store fault, and the table comes into force with the check
cell as the LOAD SITE has left it, clear. As the table comes into force every other order is completed SITE_CHANGED and every
block's records are built from it (R174). That a row keeps its bytes until its 5 ms are over, and that a failed one holds the
bytes it reads back, are the model's choices (log 19). An event before the 5 ms are over changes nothing (log 4). A second
detail of 0 where the rules name none is the model's choice (log 17). -/
def Obligations.StoreRowProgrammed : Prop :=
  (∀ (rb : Option (List Byte)) (s : State), s.works.station.programming = none →
    exec (.storeRowProgrammed rb) s = .next s) ∧
  (∀ (p : Programming) (rb : Option (List Byte)) (s : State), s.works.station.programming = some p →
    (s.works.now < p.rowStart + 5 → exec (.storeRowProgrammed rb) s = .next s) ∧
    (p.rowStart + 5 ≤ s.works.now → (rb = none ∨ rb = some p.rowBytes) → p.row < p.lastRow →
      exec (.storeRowProgrammed rb) s = .next { s with
        store := { s.store with rows := Memory.writeBytes s.store.rows (64 * p.row) p.rowBytes }
        works := s.works.setProgramming (some { p with row := p.row + 1, rowStart := s.works.now }) }) ∧
    (p.rowStart + 5 ≤ s.works.now → (rb = none ∨ rb = some p.rowBytes) → p.lastRow ≤ p.row →
      ∃ t, exec (.storeRowProgrammed rb) s = .next t ∧ t.works.station.site = some p.site ∧
        t.store = { rows := Memory.writeBytes s.store.rows (64 * p.row) p.rowBytes,
                    checkLength := BitVec.ofNat 32 p.length, checkCrc := crc32 (p.bytes.take p.length) } ∧
        t.pending = s.pending ∧ t.works.now = s.works.now ∧ t.works.station.state = .rollCall ∧
        (Memory.wf s.port.mem = true → s.port.heldMatchesList → s.siteChangedAll t p.slot) ∧
        ((∀ a ∈ s.works.active, a.code = .unitRetire → a.slot ≠ p.slot) → t.works.builtFrom p.site)) ∧
    (∀ bs, p.rowStart + 5 ≤ s.works.now → rb = some bs → bs ≠ p.rowBytes →
      s.store.checkLength = 0xFFFFFFFF → s.store.checkCrc = 0xFFFFFFFF →
      ∃ t, exec (.storeRowProgrammed rb) s = .next t ∧ t.works.station.site = some p.site ∧
        t.store = { rows := Memory.writeBytes s.store.rows (64 * p.row) bs, checkLength := 0xFFFFFFFF,
                    checkCrc := 0xFFFFFFFF } ∧ t.pending = s.pending ∧
        t.works.now = s.works.now ∧ t.works.recorded .storeFault 0 none none [p.row, 22] true))

/-- R177, R174: LOAD SITE is turned away in LOADING, ROLL_CALL and RUNNING and while the store is being programmed; it fails on
a table that is not valid. A valid one is programmed first where the store flag is 1. Where it is 0 it comes into force at once:
every other order completes SITE_CHANGED with the slot of the LOAD SITE as detail, every block's records are built from the
table, the station is in ROLL_CALL, and the LOAD SITE is ACTIVE and holds its slot. That the clear check cell reads all ones in
its CRC too is the model's choice (log 7). A second detail of 0 where the rules name none is the model's choice (log 17). -/
def Obligations.LoadSite : Prop :=
  ∀ (k : Nat) (o : Order) (s : State), s.orderWaits k o → o.code = .loadSite →
    ((s.works.station.state = .loading ∨ s.works.station.state = .rollCall) →
      exec (.loadSite k) s = .next (markTaken k (finishIn o 6 s.works.station.state.code 0 [] s))) ∧
    (s.works.station.state = .running → exec (.loadSite k) s = .next (markTaken k (finishIn o 3 4 0 [] s))) ∧
    ((s.works.station.state = .unset ∨ s.works.station.state = .held) →
      (s.works.station.programming.isSome = true →
        exec (.loadSite k) s = .next (markTaken k (finishIn o 6 s.works.station.state.code 1 [] s))) ∧
      (s.works.station.programming = none → 1 < o.param →
        exec (.loadSite k) s = .next (markTaken k (finishIn o 10 16 o.param [] s))) ∧
      (∀ reason index, s.works.station.programming = none → o.param ≤ 1 →
        validate (siteArea s.port.mem) = .refused reason index →
        exec (.loadSite k) s = .next (markTaken k (finishIn o 10 reason index [] s))) ∧
      (∀ site, s.works.station.programming = none → o.param = 1 → validate (siteArea s.port.mem) = .valid site →
        exec (.loadSite k) s = .next (markTaken k { s with
          store := { s.store with checkLength := 0xFFFFFFFF, checkCrc := 0xFFFFFFFF }
          works := (s.works.hold (o.active 0)).setProgramming (some
            { slot := k, bytes := siteArea s.port.mem, site := site, row := 0, rowStart := s.works.now }) })) ∧
      (∀ site, s.works.station.programming = none → o.param = 0 → validate (siteArea s.port.mem) = .valid site →
        ∃ t, exec (.loadSite k) s = .next t ∧ t.works.station.site = some site ∧ t.store = s.store ∧
          t.pending = s.pending ∧ t.works.now = s.works.now ∧ t.works.station.state = .rollCall ∧
          t.works.station.load = some { slot := k, result := 0 } ∧
          (Memory.wf s.port.mem = true → s.port.heldMatchesList → s.siteChangedAll t k ∧
            (o.subject = 0 → (∀ a ∈ s.works.active, a.slot ≠ k) →
              t.port.isHeld k = true ∧ ∃ e, t.port.entry k = some e ∧ e.standing = .active)) ∧
          ((∀ a ∈ s.works.active, a.code = .unitRetire → a.slot ≠ k) → t.works.builtFrom site) ∧
          t.works.recorded .station 0 (some s.works.station.state.code) (some 2) [3, 0, 0, k] false))

/-- R176, R178: RUN takes the station from HELD to RUNNING, where a suppressed closure acts (R16), and HOLD from RUNNING to HELD
where no closure stands; in the other station states both complete by the table of R178. The detail of STATE_CHANGING (Table
8-6, R161) and result word 25 on refused completions are the model's reading (log 17). A second detail of 0 where the rules name
none is the model's choice (log 17). -/
def Obligations.RunAndHold : Prop :=
  (∀ (k : Nat) (o : Order) (s : State), s.orderWaits k o → o.code = .run →
    ((s.works.station.state = .loading ∨ s.works.station.state = .rollCall) →
      exec (.run k) s = .next (markTaken k
        (finishIn o 6 s.works.station.state.code 0 [s.works.station.state.code] s))) ∧
    (s.works.station.state = .unset → exec (.run k) s = .next (markTaken k (finishIn o 12 0 0 [1] s))) ∧
    (s.works.station.state = .running → exec (.run k) s = .next (markTaken k (finishIn o 0 0 0 [4] s))) ∧
    (s.works.station.state = .held → s.works.station.programming.isSome = true →
      exec (.run k) s = .next (markTaken k (finishIn o 6 3 1 [3] s))) ∧
    (s.works.station.state = .held → s.works.station.programming = none →
      ∃ v, exec (.run k) s = .next (s.takenUp k v) ∧ v.now = s.works.now ∧ v.claims = s.works.claims ∧
        v.station = { s.works.station with state := .running } ∧ v.completed k 0 0 0 ∧
        v.recorded .station 0 (some 3) (some 4) [6, 0, 0, k] false ∧ v.handed .imageRewriteRequest ∧
        (s.works.water.stage.suppressed = true → s.works.water.stage.stage ≠ .alert →
          v.water.stage.stage = .alert ∧ v.water.stage.cause = .stationRun ∧ v.water.stage.suppressed = false) ∧
        (s.works.water.stage.suppressed = false → v.water.stage.stage = s.works.water.stage.stage))) ∧
  (∀ (k : Nat) (o : Order) (s : State), s.orderWaits k o → o.code = .hold →
    ((s.works.station.state = .loading ∨ s.works.station.state = .rollCall) →
      exec (.hold k) s = .next (markTaken k
        (finishIn o 6 s.works.station.state.code 0 [s.works.station.state.code] s))) ∧
    (s.works.station.state = .unset → exec (.hold k) s = .next (markTaken k (finishIn o 12 0 0 [1] s))) ∧
    (s.works.station.state = .held → exec (.hold k) s = .next (markTaken k (finishIn o 0 0 0 [3] s))) ∧
    (s.works.station.state = .running → (s.works.water.stage.stage = .alert ∨ s.works.water.stage.stage = .closed ∨
        s.works.water.stage.stage = .draining) →
      exec (.hold k) s = .next (markTaken k (finishIn o 4 s.works.water.stage.stage.code 0 [4] s))) ∧
    (s.works.station.state = .running → (s.works.water.stage.stage = .dry ∨ s.works.water.stage.stage = .watch) →
      ∃ v, exec (.hold k) s = .next (s.takenUp k v) ∧ v.now = s.works.now ∧ v.claims = s.works.claims ∧
        v.water = s.works.water ∧ v.station = { s.works.station with state := .held } ∧ v.completed k 0 0 0 ∧
        v.recorded .station 0 (some 4) (some 3) [7, 0, 0, k] false ∧ v.handed .imageRewriteRequest))

/-! ## What ends an event, and the standing laws -/

/-- What ends the event of a block (log 9) leaves the store, the queue and station time as they are, and of the port all but the
marks of orders taken up at the end of a roll call; outside the roll call it leaves the port and the station's record; and
nothing changes where the line is taken and no report, displaced request, retirement or round waits. R140, R143: a HALT that
meets a full queue displaces a last entry that is no HALT; the displaced pair's block enters the retry list, and where its
requester has given it up, its end without execution is reported at the end of the event (its place there by log 9); the subject
0 of the LINE_QUEUE_FULL record, and the code of SELECT (0x12) as the command of a pair in it, are the model's choices (log 31).
R175: where the line is free and no unit is left to poll, the roll call ends with it: RUNNING or HELD by the autorun flag, every
order that waited taken up, the LOAD SITE completed, the first poll round begun, with the address last polled 0 (the model's
choice, log 8). A second detail of 0 where the rules name none is the model's choice (log 17). -/
def Obligations.EventEnd : Prop :=
  ∀ (s : State) (v : Works), s.port.sameButTaken (s.ended v).port ∧ (s.ended v).store = s.store ∧
    (s.ended v).pending = s.pending ∧ (s.ended v).works.now = v.now ∧
    (v.station.state ≠ .rollCall → (s.ended v).port = s.port ∧ (s.ended v).works.station = v.station) ∧
    (v.line.exchange.isSome = true → v.reports = [] → v.line.displaced = [] →
      (∀ a ∈ v.active, a.code ≠ .unitRetire) → v.line.round.inProgress = false → (s.ended v).works = v) ∧
    (∀ (q : QEntry) (u : Works), v.reports = [] → v.line.displaced = [q] → (∀ a ∈ v.active, a.code ≠ .unitRetire) →
      u = (v.setLine { v.line with displaced := [] }).reportEntry q .removed .removed → u.reports = [] →
      u.line.displaced = [] → u.line.exchange.isSome = true → u.line.round.inProgress = false →
      (s.ended v).works = u) ∧
    (∀ (e q : QEntry) (r : Requester) (m : Motion), e.req = .halt →
      (∀ x ∈ v.line.queue, x.req.isHalt = true → sameOutput e x = false) → v.line.queue.length = 32 →
      v.line.queue.getLast? = some q → q.req = .pair m → q.requesters = [r] → r.who.block ≠ .dropLine →
      ∃ u, v.enqueue e = (true, u) ∧ u.line.queue = joinLine e v.line.queue.dropLast ∧
        (∀ y, v.rosterEntry q.unit = some y → ∃ z, u.rosterEntry q.unit = some z ∧ r.who.block ∈ z.retry) ∧
        (v.line.fullEpisode = false → u.recorded .lineQueueFull 0 none none [q.unit, 0x12, r.who.block.code] true) ∧
        (r.fate = .live → u.line.displaced = v.line.displaced) ∧
        (r.fate ≠ .live → u.line.displaced = v.line.displaced ++ [q] ∧ u.dewater = v.dewater ∧ u.portals = v.portals)) ∧
    (∀ site, v.settle.rollCallOver = true → v.station.site = some site →
      (s.ended v).works.station =
        { v.station with state := if site.autorun then .running else .held, load := none } ∧
      (s.ended v).works.recorded .station 0 (some 2) (some (if site.autorun then 4 else 3))
        [if site.autorun then 4 else 5, 0, 0, absent16] false ∧
      (s.ended v).works.handed .imageRewriteRequest ∧
      (∀ l, v.station.load = some l → (s.ended v).works.completed l.slot 0 0 0) ∧
      (∀ o ∈ waitingJobOrders s.port.working, ∀ e ∈ (s.ended v).port.working, e.slot = o.slot → e.takenUp = true) ∧
      ∃ u, (s.ended v).works = Works.settle u ∧
        u.line.round = { u.line.round with start := v.now, lastAddr := 0, inProgress := true })

/-- Every step keeps the laws of the memory port: the canonical form of common memory and of the site store, held slots and
working list (R156), JOURNAL_COUNT (R162), IMAGE_GEN (R164). -/
def Obligations.StepKeepsPortLaws : Prop :=
  ∀ s t : State, s.memoryWf → s.portLaws → step s = .next t → t.memoryWf ∧ t.portLaws

/-- Every step keeps a site table in force in ROLL_CALL, HELD and RUNNING (Table 9-3). -/
def Obligations.StepKeepsSiteInForce : Prop :=
  ∀ s t : State, s.works.siteInForce → step s = .next t → t.works.siteInForce

/-- Every step keeps at most one grant entry in INRUSH (R33). -/
def Obligations.StepKeepsOneInrush : Prop :=
  ∀ s t : State, s.works.oneInrush → step s = .next t → t.works.oneInrush

/-- Every step keeps the line queue at 32 entries or fewer (R139). -/
def Obligations.StepKeepsLineQueueFits : Prop :=
  ∀ s t : State, s.works.lineQueueFits → step s = .next t → t.works.lineQueueFits
end

