-- ==== Sys2Proof/Laws/Leads.lean ====
section
/-! SUPPORT. What an operation of the blocks can do to their records, said once: `Works.Leads`. Each operation has one
lemma, `<operation>_leads`; what `Works.Leads` keeps is at the end. -/

set_option linter.unusedVariables false
set_option linter.unusedTactic false
set_option linter.unreachableTactic false
set_option linter.unusedSimpArgs false
set_option linter.unnecessarySimpa false

namespace Sys2Proof.Machine

open Sys2Proof

/-- The entries in INRUSH. -/
def inrushCount (l : List Grant) : Nat := (l.filter (fun g => decide (g.state = .inrush))).length

/-- The records that an operation may change: `channels` for the channel table within `water`, `voids` for notices taken
back. -/
inductive Part where
  | dewater | portals | lights | claims | active | reports | fresh | water | channels | budget | line | voids
  deriving DecidableEq, Repr

/-- `w` comes from `w0` by changes of the records that `ps` names, and by notices handed on. Station time and the station's
record stand; no change adds a second INRUSH entry or lets the line queue outgrow its 32 places. -/
inductive Works.Leads (ps : List Part) (w0 : Works) : Works → Prop where
  | refl : Works.Leads ps w0 w0
  | send (i : Instr) (w : Works) : Works.Leads ps w0 w → Works.Leads ps w0 { w with notices := w.notices ++ [i] }
  | dewater (x : Dewater) (w : Works) (hp : Part.dewater ∈ ps) :
      Works.Leads ps w0 w → Works.Leads ps w0 { w with dewater := x }
  | portals (x : Portals) (w : Works) (hp : Part.portals ∈ ps) :
      Works.Leads ps w0 w → Works.Leads ps w0 { w with portals := x }
  | lights (x : Lights) (w : Works) (hp : Part.lights ∈ ps) : Works.Leads ps w0 w → Works.Leads ps w0 { w with lights := x }
  | claims (x : List Claim) (w : Works) (hp : Part.claims ∈ ps) :
      Works.Leads ps w0 w → Works.Leads ps w0 { w with claims := x }
  | active (x : List Active) (w : Works) (hp : Part.active ∈ ps) :
      Works.Leads ps w0 w → Works.Leads ps w0 { w with active := x }
  | reports (x : List ViewReport) (w : Works) (hp : Part.reports ∈ ps) :
      Works.Leads ps w0 w → Works.Leads ps w0 { w with reports := x }
  | fresh (x : Nat) (w : Works) (hp : Part.fresh ∈ ps) : Works.Leads ps w0 w → Works.Leads ps w0 { w with fresh := x }
  | water (x : Water) (w : Works) (hp : Part.water ∈ ps) (h : x.channels = w.water.channels ∨ Part.channels ∈ ps) :
      Works.Leads ps w0 w → Works.Leads ps w0 { w with water := x }
  | budget (x : Budget) (w : Works) (hp : Part.budget ∈ ps) (h : inrushCount w.budget.grants ≤ 1 → inrushCount x.grants ≤ 1) :
      Works.Leads ps w0 w → Works.Leads ps w0 { w with budget := x }
  | line (x : Line) (w : Works) (hp : Part.line ∈ ps) (h : w.line.queue.length ≤ 32 → x.queue.length ≤ 32) :
      Works.Leads ps w0 w → Works.Leads ps w0 { w with line := x }
  | notices (x : List Instr) (w : Works) (hp : Part.voids ∈ ps) : Works.Leads ps w0 w → Works.Leads ps w0 { w with notices := x }

variable {ps : List Part} {w0 : Works}

theorem sub_trans {l m : List Part} (h1 : l ⊆ m) (h2 : m ⊆ ps) : l ⊆ ps := fun _ h => h2 (h1 h)

theorem each_leads {α : Type} (l : List α) (f : α → Works → Works) (w : Works)
    (hf : ∀ a w, Works.Leads ps w0 w → Works.Leads ps w0 (f a w)) (h : Works.Leads ps w0 w) :
    Works.Leads ps w0 (each l f w) := by
  unfold each
  induction l generalizing w with
  | nil => exact h
  | cons a l ih => exact ih _ (hf a w h)

theorem ite_leads {c : Prop} [Decidable c] {x y : Works} (hx : Works.Leads ps w0 x) (hy : Works.Leads ps w0 y) :
    Works.Leads ps w0 (if c then x else y) := by split <;> assumption

/-! ## Counts of INRUSH entries -/

theorem inrushCount_cons (g : Grant) (l : List Grant) :
    inrushCount (g :: l) = (if g.state = .inrush then 1 else 0) + inrushCount l := by
  unfold inrushCount
  rw [List.filter_cons]
  by_cases h : g.state = .inrush <;> simp [h]
  omega

theorem inrushCount_map (f : Grant → Grant) (l : List Grant) (hf : ∀ g, (f g).state = .inrush → g.state = .inrush) :
    inrushCount (l.map f) ≤ inrushCount l := by
  induction l with
  | nil => exact Nat.le_refl _
  | cons g l ih =>
    have := hf g
    rw [List.map_cons, inrushCount_cons, inrushCount_cons]
    split <;> split <;> first | omega | (exfalso; tauto)

theorem inrushCount_updAt (f : Grant → Grant) (i : Nat) (l : List Grant)
    (hf : ∀ g, (f g).state = .inrush → g.state = .inrush) : inrushCount (updAt f i l) ≤ inrushCount l := by
  induction l generalizing i with
  | nil => cases i <;> exact Nat.le_refl _
  | cons g l ih =>
    have hg := hf g
    cases i with
    | zero =>
      rw [updAt, inrushCount_cons, inrushCount_cons]
      split <;> split <;> first | omega | (exfalso; tauto)
    | succ i =>
      have := ih i
      rw [updAt, inrushCount_cons, inrushCount_cons]
      omega

theorem inrushCount_updAt_one (f : Grant → Grant) (i : Nat) (l : List Grant) (h : inrushCount l = 0) :
    inrushCount (updAt f i l) ≤ 1 := by
  induction l generalizing i with
  | nil => cases i <;> simp [updAt, inrushCount]
  | cons g l ih =>
    rw [inrushCount_cons] at h
    cases i with
    | zero =>
      rw [updAt, inrushCount_cons]
      split <;> omega
    | succ i =>
      have := ih i (by omega)
      rw [updAt, inrushCount_cons]
      omega

theorem inrushCount_idle (l : List Grant) (h : ∀ g ∈ l, g.state ≠ .inrush) : inrushCount l = 0 := by
  unfold inrushCount
  rw [List.length_eq_zero_iff, List.filter_eq_nil_iff]
  intro g hg
  simpa using h g hg

theorem lampRest_ne (p : Nat) : lampRest p ≠ .inrush := by unfold lampRest; split <;> simp

theorem Works.updGrant_leads (i : Nat) (f : Grant → Grant) (w : Works)
    (hf : ∀ g, (f g).state = .inrush → g.state = .inrush) (hp : [Part.budget] ⊆ ps) (h : Works.Leads ps w0 w) :
    Works.Leads ps w0 (w.updGrant i f) :=
  .budget _ w (hp (by decide)) (fun h1 => Nat.le_trans (inrushCount_updAt f i _ hf) h1) h

theorem Works.setQueue_leads (q : List Nat) (w : Works) (hp : [Part.budget] ⊆ ps) (h : Works.Leads ps w0 w) :
    Works.Leads ps w0 (w.setQueue q) :=
  .budget _ w (hp (by decide)) (fun h1 => h1) h

theorem Works.setSupply_leads (s : Supply) (w : Works) (hp : [Part.budget] ⊆ ps) (h : Works.Leads ps w0 w) :
    Works.Leads ps w0 (w.setSupply s) :=
  .budget _ w (hp (by decide)) (fun h1 => h1) h

theorem Works.clearMarks_leads (w : Works) (hp : [Part.budget] ⊆ ps) (h : Works.Leads ps w0 w) : Works.Leads ps w0
    w.clearMarks :=
  .budget _ w (hp (by decide)) (fun h1 => Nat.le_trans (inrushCount_map _ _ (fun _ h => h)) h1) h

theorem Works.send_leads (i : Instr) (w : Works) (h : Works.Leads ps w0 w) : Works.Leads ps w0 (w.send i) := .send i w
    h

theorem Works.grantHead_leads (i : Nat) (g : Grant) (rest : List Nat) (w : Works)
    (hg : grantable w.budget g = true) (hp : [Part.budget] ⊆ ps) (h : Works.Leads ps w0 w) : Works.Leads ps w0 (w.grantHead i g rest) := by
  have h0 : inrushCount w.budget.grants = 0 := by
    apply inrushCount_idle
    simp only [grantable, Bool.and_eq_true, List.all_eq_true] at hg
    intro e he
    simpa using hg.1.2 e he
  have h1 : ∀ f, Works.Leads ps w0 (((w.setQueue rest).setSupply
      { w.budget.supply with sequence := w.budget.supply.sequence + 1 }).updGrant i f) := fun f =>
    .budget _ ((w.setQueue rest).setSupply _) (hp (by decide)) (fun _ => inrushCount_updAt_one _ _ _ h0)
      (Works.setSupply_leads _ _ hp (Works.setQueue_leads _ _ hp h))
  unfold Works.grantHead
  dsimp only
  split
  · exact .send _ _ (.send _ _ (h1 _))
  · exact .send _ _ (h1 _)

theorem examine_leads (k : Nat) (w : Works) (hp : [Part.budget] ⊆ ps) (h : Works.Leads ps w0 w) : Works.Leads ps w0
    (examine k w) := by
  induction k generalizing w with
  | zero => exact h
  | succ k ih =>
    unfold examine
    split
    · exact h
    · split
      · exact h
      · split
        · rename_i hg
          split
          · exact ih _ (Works.grantHead_leads _ _ _ _ hg hp h)
          · exact Works.grantHead_leads _ _ _ _ hg hp h
        · exact h

/-! ## The line queue -/

theorem joinLine_length (e : QEntry) (l : List QEntry) : (joinLine e l).length = l.length + 1 := by
  induction l with
  | nil => rfl
  | cons x l ih =>
    unfold joinLine
    split
    · rfl
    · simp [ih]

theorem Works.setLineQueue_leads (q : List QEntry) (w : Works) (hq : w.line.queue.length ≤ 32 → q.length ≤ 32)
    (hp : [Part.line] ⊆ ps) (h : Works.Leads ps w0 w) : Works.Leads ps w0 (w.setLineQueue q) := .line _ w (hp (by decide)) hq h

theorem Works.setLine_leads (l : Line) (w : Works) (hq : w.line.queue.length ≤ 32 → l.queue.length ≤ 32)
    (hp : [Part.line] ⊆ ps) (h : Works.Leads ps w0 w) : Works.Leads ps w0 (w.setLine l) := .line _ w (hp (by decide)) hq h

theorem pair_leads {α : Type} {p : α × Works} {x : α} {w : Works} (e : p = (x, w)) (h : Works.Leads ps w0 p.2) :
    Works.Leads ps w0 w := by subst e; exact h

theorem Works.completeAll_leads (q : Active → Bool) (f : Active → Works → Works) (w : Works)
    (hf : ∀ a w, Works.Leads ps w0 w → Works.Leads ps w0 (f a w)) (h : Works.Leads ps w0 w) :
    Works.Leads ps w0 (w.completeAll q f) := each_leads _ f w hf h

/-! ## One lemma for each operation -/

theorem Works.record_leads (kind : JournalKind) (subject : Nat) (fromState toState : Option Nat) (details : List Nat)
    (fault : Bool) (w : Works) (h : Works.Leads ps w0 w) :
    Works.Leads ps w0 (Works.record kind subject fromState toState details fault w) := by
  unfold Works.record
  try dsimp only
  repeat' first
    | (with_reducible assumption) | (exact sub_trans (by decide) hp) | (exact hp (by decide)) | (intro _ _ _) | (intro _ _) | (intro _)
    | (with_reducible apply Works.send_leads) | (with_reducible apply ite_leads) | split

theorem Works.wantImage_leads  (w : Works) (h : Works.Leads ps w0 w) :
    Works.Leads ps w0 (Works.wantImage w) := by
  unfold Works.wantImage
  try dsimp only
  repeat' first
    | (with_reducible assumption) | (exact sub_trans (by decide) hp) | (exact hp (by decide)) | (intro _ _ _) | (intro _ _) | (intro _)
    | (with_reducible apply Works.send_leads) | (with_reducible apply ite_leads) | split

theorem Works.complete_leads (slot status detail second : Nat) (results : List Nat) (w : Works)
    (hp : [Part.active] ⊆ ps) (h : Works.Leads ps w0 w) :
    Works.Leads ps w0 (Works.complete slot status detail second results w) := by
  unfold Works.complete
  try dsimp only
  repeat' first
    | (with_reducible assumption) | (exact sub_trans (by decide) hp) | (exact hp (by decide)) | (intro _ _ _) | (intro _ _) | (intro _)
    | (with_reducible apply Works.send_leads) | exact Works.Leads.active _ _ (hp (by decide)) (by assumption)
    | (with_reducible apply ite_leads) | split

theorem Works.hold_leads (a : Active) (w : Works) (hp : [Part.active] ⊆ ps) (h : Works.Leads ps w0 w) :
    Works.Leads ps w0 (Works.hold a w) := by
  unfold Works.hold
  try dsimp only
  repeat' first
    | (with_reducible assumption) | (exact sub_trans (by decide) hp) | (exact hp (by decide)) | (intro _ _ _) | (intro _ _) | (intro _)
    | exact Works.Leads.active _ _ (hp (by decide)) (by assumption) | (with_reducible apply ite_leads) | split

theorem Works.draw_leads  (w : Works) (hp : [Part.fresh] ⊆ ps) (h : Works.Leads ps w0 w) :
    Works.Leads ps w0 (Works.draw w).2 := by
  unfold Works.draw
  try dsimp only
  repeat' first
    | (with_reducible assumption) | (exact sub_trans (by decide) hp) | (exact hp (by decide)) | (intro _ _ _) | (intro _ _) | (intro _)
    | exact Works.Leads.fresh _ _ (hp (by decide)) (by assumption) | (with_reducible apply ite_leads) | split

theorem Order.finish_leads (o : Order) (status detail second : Nat) (results : List Nat) (w : Works)
    (hp : [Part.active] ⊆ ps) (h : Works.Leads ps w0 w) :
    Works.Leads ps w0 (Order.finish o status detail second results w) := by
  unfold Order.finish
  try dsimp only
  repeat' first
    | (with_reducible assumption) | (exact sub_trans (by decide) hp) | (exact hp (by decide)) | (intro _ _ _) | (intro _ _) | (intro _)
    | (with_reducible apply Works.complete_leads) | (with_reducible apply ite_leads) | split

theorem Works.setPortal_leads (n : Nat) (p : Portal) (w : Works) (hp : [Part.portals] ⊆ ps) (h : Works.Leads ps w0 w)
    :
    Works.Leads ps w0 (w.setPortal n p) := by
  unfold Works.setPortal
  split
  · exact .portals _ w (hp (by decide)) h
  · exact .portals _ w (hp (by decide)) h

theorem Works.updPump_leads (i : Nat) (f : Pump → Pump) (w : Works) (hp : [Part.dewater] ⊆ ps)
    (h : Works.Leads ps w0 w) :
    Works.Leads ps w0 (Works.updPump i f w) := by
  unfold Works.updPump
  try dsimp only
  repeat' first
    | (with_reducible assumption) | (exact sub_trans (by decide) hp) | (exact hp (by decide)) | (intro _ _ _) | (intro _ _) | (intro _)
    | exact Works.Leads.dewater _ _ (hp (by decide)) (by assumption) | (with_reducible apply ite_leads) | split

theorem Works.updSump_leads (i : Nat) (f : Sump → Sump) (w : Works) (hp : [Part.dewater] ⊆ ps)
    (h : Works.Leads ps w0 w) :
    Works.Leads ps w0 (Works.updSump i f w) := by
  unfold Works.updSump
  try dsimp only
  repeat' first
    | (with_reducible assumption) | (exact sub_trans (by decide) hp) | (exact hp (by decide)) | (intro _ _ _) | (intro _ _) | (intro _)
    | exact Works.Leads.dewater _ _ (hp (by decide)) (by assumption) | (with_reducible apply ite_leads) | split

theorem Works.updCircuit_leads (i : Nat) (f : Circuit → Circuit) (w : Works) (hp : [Part.lights] ⊆ ps)
    (h : Works.Leads ps w0 w) :
    Works.Leads ps w0 (Works.updCircuit i f w) := by
  unfold Works.updCircuit
  try dsimp only
  repeat' first
    | (with_reducible assumption) | (exact sub_trans (by decide) hp) | (exact hp (by decide)) | (intro _ _ _) | (intro _ _) | (intro _)
    | exact Works.Leads.lights _ _ (hp (by decide)) (by assumption) | (with_reducible apply ite_leads) | split

theorem Works.updZone_leads (i : Nat) (f : Zone → Zone) (w : Works) (hp : [Part.lights] ⊆ ps)
    (h : Works.Leads ps w0 w) :
    Works.Leads ps w0 (Works.updZone i f w) := by
  unfold Works.updZone
  try dsimp only
  repeat' first
    | (with_reducible assumption) | (exact sub_trans (by decide) hp) | (exact hp (by decide)) | (intro _ _ _) | (intro _ _) | (intro _)
    | exact Works.Leads.lights _ _ (hp (by decide)) (by assumption) | (with_reducible apply ite_leads) | split

theorem Works.joinQueue_leads (i cls : Nat) (w : Works) (hp : [Part.budget] ⊆ ps) (h : Works.Leads ps w0 w) :
    Works.Leads ps w0 (Works.joinQueue i cls w) := by
  unfold Works.joinQueue
  try dsimp only
  repeat' first
    | (with_reducible assumption) | (exact sub_trans (by decide) hp) | (exact hp (by decide)) | (intro _ _ _) | (intro _ _) | (intro _)
    | (with_reducible apply Works.setQueue_leads) | (with_reducible apply ite_leads) | split

theorem Works.leaveQueue_leads (i : Nat) (w : Works) (hp : [Part.budget] ⊆ ps) (h : Works.Leads ps w0 w) :
    Works.Leads ps w0 (Works.leaveQueue i w) := by
  unfold Works.leaveQueue
  try dsimp only
  repeat' first
    | (with_reducible assumption) | (exact sub_trans (by decide) hp) | (exact hp (by decide)) | (intro _ _ _) | (intro _ _) | (intro _)
    | (with_reducible apply Works.setQueue_leads) | (with_reducible apply ite_leads) | split

theorem Works.examineHead_leads  (w : Works) (hp : [Part.budget] ⊆ ps) (h : Works.Leads ps w0 w) :
    Works.Leads ps w0 (Works.examineHead w) := by
  unfold Works.examineHead
  try dsimp only
  repeat' first
    | (with_reducible assumption) | (exact sub_trans (by decide) hp) | (exact hp (by decide)) | (intro _ _ _) | (intro _ _) | (intro _)
    | (with_reducible apply examine_leads) | (with_reducible apply ite_leads) | split

theorem Works.examineIfNewHead_leads (old : Option Nat) (w : Works) (hp : [Part.budget] ⊆ ps)
    (h : Works.Leads ps w0 w) :
    Works.Leads ps w0 (Works.examineIfNewHead old w) := by
  unfold Works.examineIfNewHead
  try dsimp only
  repeat' first
    | (with_reducible assumption) | (exact sub_trans (by decide) hp) | (exact hp (by decide)) | (intro _ _ _) | (intro _ _) | (intro _)
    | (with_reducible apply Works.examineHead_leads) | (with_reducible apply ite_leads) | split

theorem Works.setBudgetState_leads (st : BudgetState) (w : Works) (hp : [Part.budget] ⊆ ps) (h : Works.Leads ps w0 w)
    :
    Works.Leads ps w0 (Works.setBudgetState st w) := by
  unfold Works.setBudgetState
  try dsimp only
  repeat' first
    | (with_reducible assumption) | (exact sub_trans (by decide) hp) | (exact hp (by decide)) | (intro _ _ _) | (intro _ _) | (intro _)
    | (with_reducible apply Works.record_leads) | (with_reducible apply Works.setSupply_leads)
    | (with_reducible apply ite_leads) | split

theorem Works.askShed_leads (i : Nat) (w : Works) (hp : [Part.budget] ⊆ ps) (h : Works.Leads ps w0 w) :
    Works.Leads ps w0 (Works.askShed i w) := by
  unfold Works.askShed
  try dsimp only
  repeat' first
    | (with_reducible assumption) | (exact sub_trans (by decide) hp) | (exact hp (by decide)) | (intro _ _ _) | (intro _ _) | (intro _)
    | (with_reducible apply Works.send_leads) | (with_reducible apply Works.record_leads)
    | (with_reducible refine Works.updGrant_leads _ _ _ (by intro g; first | exact fun h => h | (simp; done) | (dsimp only; split <;> simp) | (simp [Grant.released, lampRest_ne]; done) | (simp only [Grant.shrunk]; split <;> simp [lampRest_ne]) | (dsimp only; split <;> simp [lampRest_ne])) ?_ ?_)
    | (with_reducible apply ite_leads) | split

theorem shedLoop_leads  (k : Nat) (w : Works) (hp : [Part.budget] ⊆ ps) (h : Works.Leads ps w0 w) :
    Works.Leads ps w0 (shedLoop  k w) := by
  induction k generalizing w with
  | zero => exact h
  | succ k ih =>
    unfold shedLoop
    try dsimp only
    repeat' first
      | (with_reducible assumption) | (with_reducible apply ih) | (exact sub_trans (by decide) hp) | (exact hp (by decide))
      | (intro _ _ _) | (intro _ _) | (intro _) | (with_reducible apply Works.askShed_leads)
      | (with_reducible apply ite_leads) | split

theorem Works.judgeBudget_leads  (w : Works) (hp : [Part.budget] ⊆ ps) (h : Works.Leads ps w0 w) :
    Works.Leads ps w0 (Works.judgeBudget w) := by
  unfold Works.judgeBudget
  try dsimp only
  repeat' first
    | (with_reducible assumption) | (exact sub_trans (by decide) hp) | (exact hp (by decide)) | (intro _ _ _) | (intro _ _) | (intro _)
    | (with_reducible apply Works.examineHead_leads) | (with_reducible apply Works.setBudgetState_leads)
    | (with_reducible apply shedLoop_leads) | (with_reducible apply Works.clearMarks_leads)
    | (with_reducible apply ite_leads) | split

theorem Works.judgeIfTight_leads  (w : Works) (hp : [Part.budget] ⊆ ps) (h : Works.Leads ps w0 w) :
    Works.Leads ps w0 (Works.judgeIfTight w) := by
  unfold Works.judgeIfTight
  try dsimp only
  repeat' first
    | (with_reducible assumption) | (exact sub_trans (by decide) hp) | (exact hp (by decide)) | (intro _ _ _) | (intro _ _) | (intro _)
    | (with_reducible apply Works.judgeBudget_leads) | (with_reducible apply ite_leads) | split

theorem Works.motorRequest_leads (i cls : Nat) (g : Grant) (w : Works) (hp : [Part.budget] ⊆ ps)
    (h : Works.Leads ps w0 w) :
    Works.Leads ps w0 (Works.motorRequest i cls g w) := by
  unfold Works.motorRequest
  try dsimp only
  repeat' first
    | (with_reducible assumption) | (exact sub_trans (by decide) hp) | (exact hp (by decide)) | (intro _ _ _) | (intro _ _) | (intro _)
    | (with_reducible refine Works.updGrant_leads _ _ _ (by intro g; first | exact fun h => h | (simp; done) | (dsimp only; split <;> simp) | (simp [Grant.released, lampRest_ne]; done) | (simp only [Grant.shrunk]; split <;> simp [lampRest_ne]) | (dsimp only; split <;> simp [lampRest_ne])) ?_ ?_)
    | (with_reducible apply Works.joinQueue_leads) | (with_reducible apply Works.examineHead_leads)
    | (with_reducible apply ite_leads) | split

theorem Works.lampRequest_leads (i power : Nat) (g : Grant) (w : Works) (hp : [Part.budget] ⊆ ps)
    (h : Works.Leads ps w0 w) :
    Works.Leads ps w0 (Works.lampRequest i power g w) := by
  unfold Works.lampRequest
  try dsimp only
  repeat' first
    | (with_reducible assumption) | (exact sub_trans (by decide) hp) | (exact hp (by decide)) | (intro _ _ _) | (intro _ _) | (intro _)
    | (with_reducible apply Works.send_leads)
    | (with_reducible refine Works.updGrant_leads _ _ _ (by intro g; first | exact fun h => h | (simp; done) | (dsimp only; split <;> simp) | (simp [Grant.released, lampRest_ne]; done) | (simp only [Grant.shrunk]; split <;> simp [lampRest_ne]) | (dsimp only; split <;> simp [lampRest_ne])) ?_ ?_)
    | (with_reducible apply Works.joinQueue_leads) | (with_reducible apply Works.leaveQueue_leads)
    | (with_reducible apply Works.examineHead_leads) | (with_reducible apply Works.examineIfNewHead_leads)
    | (with_reducible apply ite_leads) | split

theorem Works.loadRequest_leads (i cls power : Nat) (w : Works) (hp : [Part.budget] ⊆ ps) (h : Works.Leads ps w0 w) :
    Works.Leads ps w0 (Works.loadRequest i cls power w) := by
  unfold Works.loadRequest
  try dsimp only
  repeat' first
    | (with_reducible assumption) | (exact sub_trans (by decide) hp) | (exact hp (by decide)) | (intro _ _ _) | (intro _ _) | (intro _)
    | (with_reducible apply Works.motorRequest_leads) | (with_reducible apply Works.lampRequest_leads)
    | (with_reducible apply ite_leads) | split

theorem Works.energise_leads (i : Nat) (w : Works) (hp : [Part.budget] ⊆ ps) (h : Works.Leads ps w0 w) :
    Works.Leads ps w0 (Works.energise i w) := by
  unfold Works.energise
  try dsimp only
  repeat' first
    | (with_reducible assumption) | (exact sub_trans (by decide) hp) | (exact hp (by decide)) | (intro _ _ _) | (intro _ _) | (intro _)
    | (with_reducible refine Works.updGrant_leads _ _ _ (by intro g; first | exact fun h => h | (simp; done) | (dsimp only; split <;> simp) | (simp [Grant.released, lampRest_ne]; done) | (simp only [Grant.shrunk]; split <;> simp [lampRest_ne]) | (dsimp only; split <;> simp [lampRest_ne])) ?_ ?_)
    | (with_reducible apply ite_leads) | split

theorem Works.windowExpiry_leads (i : Nat) (w : Works) (hp : [Part.budget] ⊆ ps) (h : Works.Leads ps w0 w) :
    Works.Leads ps w0 (Works.windowExpiry i w) := by
  unfold Works.windowExpiry
  try dsimp only
  repeat' first
    | (with_reducible assumption) | (exact sub_trans (by decide) hp) | (exact hp (by decide)) | (intro _ _ _) | (intro _ _) | (intro _)
    | (with_reducible refine Works.updGrant_leads _ _ _ (by intro g; first | exact fun h => h | (simp; done) | (dsimp only; split <;> simp) | (simp [Grant.released, lampRest_ne]; done) | (simp only [Grant.shrunk]; split <;> simp [lampRest_ne]) | (dsimp only; split <;> simp [lampRest_ne])) ?_ ?_)
    | (with_reducible apply Works.examineHead_leads) | (with_reducible apply Works.judgeIfTight_leads)
    | (with_reducible apply ite_leads) | split

theorem Works.releaseGranted_leads (i : Nat) (w : Works) (hp : [Part.budget] ⊆ ps) (h : Works.Leads ps w0 w) :
    Works.Leads ps w0 (Works.releaseGranted i w) := by
  unfold Works.releaseGranted
  try dsimp only
  repeat' first
    | (with_reducible assumption) | (exact sub_trans (by decide) hp) | (exact hp (by decide)) | (intro _ _ _) | (intro _ _) | (intro _)
    | (with_reducible refine Works.updGrant_leads _ _ _ (by intro g; first | exact fun h => h | (simp; done) | (dsimp only; split <;> simp) | (simp [Grant.released, lampRest_ne]; done) | (simp only [Grant.shrunk]; split <;> simp [lampRest_ne]) | (dsimp only; split <;> simp [lampRest_ne])) ?_ ?_)
    | (with_reducible apply Works.examineHead_leads) | (with_reducible apply Works.judgeIfTight_leads)
    | (with_reducible apply ite_leads) | split

theorem Works.withdrawQueued_leads (i : Nat) (w : Works) (hp : [Part.budget] ⊆ ps) (h : Works.Leads ps w0 w) :
    Works.Leads ps w0 (Works.withdrawQueued i w) := by
  unfold Works.withdrawQueued
  try dsimp only
  repeat' first
    | (with_reducible assumption) | (exact sub_trans (by decide) hp) | (exact hp (by decide)) | (intro _ _ _) | (intro _ _) | (intro _)
    | (with_reducible refine Works.updGrant_leads _ _ _ (by intro g; first | exact fun h => h | (simp; done) | (dsimp only; split <;> simp) | (simp [Grant.released, lampRest_ne]; done) | (simp only [Grant.shrunk]; split <;> simp [lampRest_ne]) | (dsimp only; split <;> simp [lampRest_ne])) ?_ ?_)
    | (with_reducible apply Works.leaveQueue_leads) | (with_reducible apply Works.examineIfNewHead_leads)
    | (with_reducible apply Works.judgeIfTight_leads) | (with_reducible apply ite_leads) | split

theorem Works.loadRelease_leads (i : Nat) (w : Works) (hp : [Part.budget] ⊆ ps) (h : Works.Leads ps w0 w) :
    Works.Leads ps w0 (Works.loadRelease i w) := by
  unfold Works.loadRelease
  try dsimp only
  repeat' first
    | (with_reducible assumption) | (exact sub_trans (by decide) hp) | (exact hp (by decide)) | (intro _ _ _) | (intro _ _) | (intro _)
    | (with_reducible apply Works.releaseGranted_leads) | (with_reducible apply Works.withdrawQueued_leads)
    | (with_reducible apply ite_leads) | split

theorem Works.loadWithdrawal_leads (i : Nat) (w : Works) (hp : [Part.budget] ⊆ ps) (h : Works.Leads ps w0 w) :
    Works.Leads ps w0 (Works.loadWithdrawal i w) := by
  unfold Works.loadWithdrawal
  try dsimp only
  repeat' first
    | (with_reducible assumption) | (exact sub_trans (by decide) hp) | (exact hp (by decide)) | (intro _ _ _) | (intro _ _) | (intro _)
    | (with_reducible apply Works.releaseGranted_leads) | (with_reducible apply Works.withdrawQueued_leads)
    | (with_reducible apply ite_leads) | split

theorem Works.loadShrink_leads (i power : Nat) (w : Works) (hp : [Part.budget] ⊆ ps) (h : Works.Leads ps w0 w) :
    Works.Leads ps w0 (Works.loadShrink i power w) := by
  unfold Works.loadShrink
  try dsimp only
  repeat' first
    | (with_reducible assumption) | (exact sub_trans (by decide) hp) | (exact hp (by decide)) | (intro _ _ _) | (intro _ _) | (intro _)
    | (with_reducible refine Works.updGrant_leads _ _ _ (by intro g; first | exact fun h => h | (simp; done) | (dsimp only; split <;> simp) | (simp [Grant.released, lampRest_ne]; done) | (simp only [Grant.shrunk]; split <;> simp [lampRest_ne]) | (dsimp only; split <;> simp [lampRest_ne])) ?_ ?_)
    | (with_reducible apply Works.examineHead_leads) | (with_reducible apply Works.judgeIfTight_leads)
    | (with_reducible apply ite_leads) | split

theorem Works.classInPlace_leads (i cls : Nat) (w : Works)
    (hp : [Part.budget] ⊆ ps)
    (h : Works.Leads ps w0 w) :
    Works.Leads ps w0 (Works.classInPlace i cls w) := by
  unfold Works.classInPlace
  try dsimp only
  repeat' first
    | (with_reducible assumption) | (exact sub_trans (by decide) hp) | (exact hp (by decide)) | (intro _ _ _) | (intro _ _) | (intro _)
    | (with_reducible refine Works.updGrant_leads _ _ _ (by intro g; first | exact fun h => h | (simp; done) | (dsimp only; split <;> simp) | (simp [Grant.released, lampRest_ne]; done) | (simp only [Grant.shrunk]; split <;> simp [lampRest_ne]) | (dsimp only; split <;> simp [lampRest_ne])) ?_ ?_)
    | (with_reducible apply ite_leads) | split

theorem Works.classQueued_leads (i cls : Nat) (g : Grant) (w : Works)
    (hp : [Part.budget] ⊆ ps)
    (h : Works.Leads ps w0 w) :
    Works.Leads ps w0 (Works.classQueued i cls g w) := by
  unfold Works.classQueued
  try dsimp only
  repeat' first
    | (with_reducible assumption) | (exact sub_trans (by decide) hp) | (exact hp (by decide)) | (intro _ _ _) | (intro _ _) | (intro _)
    | (with_reducible apply Works.joinQueue_leads)
    | (with_reducible apply Works.leaveQueue_leads)
    | (with_reducible apply Works.examineIfNewHead_leads)
    | (with_reducible apply Works.classInPlace_leads)
    | (with_reducible apply ite_leads) | split

theorem Works.classUnjudged_leads (i cls : Nat) (w : Works)
    (hp : [Part.budget] ⊆ ps)
    (h : Works.Leads ps w0 w) :
    Works.Leads ps w0 (Works.classUnjudged i cls w) := by
  unfold Works.classUnjudged
  try dsimp only
  repeat' first
    | (with_reducible assumption) | (exact sub_trans (by decide) hp) | (exact hp (by decide)) | (intro _ _ _) | (intro _ _) | (intro _)
    | (with_reducible apply Works.classInPlace_leads)
    | (with_reducible apply Works.classQueued_leads)
    | (with_reducible apply ite_leads) | split

theorem Works.classNotice_leads (i cls : Nat) (w : Works)
    (hp : [Part.budget] ⊆ ps)
    (h : Works.Leads ps w0 w) :
    Works.Leads ps w0 (Works.classNotice i cls w) := by
  unfold Works.classNotice
  try dsimp only
  repeat' first
    | (with_reducible assumption) | (exact sub_trans (by decide) hp) | (exact hp (by decide)) | (intro _ _ _) | (intro _ _) | (intro _)
    | (with_reducible apply Works.judgeBudget_leads)
    | (with_reducible apply Works.classInPlace_leads)
    | (with_reducible apply Works.classQueued_leads)
    | (with_reducible apply ite_leads) | split

theorem Works.shedFailure_leads (i : Nat) (w : Works) (hp : [Part.budget] ⊆ ps) (h : Works.Leads ps w0 w) :
    Works.Leads ps w0 (Works.shedFailure i w) := by
  unfold Works.shedFailure
  try dsimp only
  repeat' first
    | (with_reducible assumption) | (exact sub_trans (by decide) hp) | (exact hp (by decide)) | (intro _ _ _) | (intro _ _) | (intro _)
    | (with_reducible refine Works.updGrant_leads _ _ _ (by intro g; first | exact fun h => h | (simp; done) | (dsimp only; split <;> simp) | (simp [Grant.released, lampRest_ne]; done) | (simp only [Grant.shrunk]; split <;> simp [lampRest_ne]) | (dsimp only; split <;> simp [lampRest_ne])) ?_ ?_)
    | (with_reducible apply Works.judgeBudget_leads) | (with_reducible apply ite_leads) | split

theorem Works.adoptEntry_leads (i power : Nat) (g : Grant) (w : Works)
    (hp : [Part.budget] ⊆ ps)
    (h : Works.Leads ps w0 w) :
    Works.Leads ps w0 (Works.adoptEntry i power g w) := by
  unfold Works.adoptEntry
  try dsimp only
  repeat' first
    | (with_reducible assumption) | (exact sub_trans (by decide) hp) | (exact hp (by decide)) | (intro _ _ _) | (intro _ _) | (intro _)
    | (with_reducible refine Works.updGrant_leads _ _ _ (by intro g; first | exact fun h => h | (simp; done) | (dsimp only; split <;> simp) | (simp [Grant.released, lampRest_ne]; done) | (simp only [Grant.shrunk]; split <;> simp [lampRest_ne]) | (dsimp only; split <;> simp [lampRest_ne])) ?_ ?_)
    | (with_reducible apply Works.setSupply_leads)
    | (with_reducible apply Works.record_leads)
    | (with_reducible apply Works.leaveQueue_leads)
    | (with_reducible apply ite_leads) | split

theorem Works.adoptUnjudged_leads (i power : Nat) (w : Works)
    (hp : [Part.budget] ⊆ ps)
    (h : Works.Leads ps w0 w) :
    Works.Leads ps w0 (Works.adoptUnjudged i power w) := by
  unfold Works.adoptUnjudged
  try dsimp only
  repeat' first
    | (with_reducible assumption) | (exact sub_trans (by decide) hp) | (exact hp (by decide)) | (intro _ _ _) | (intro _ _) | (intro _)
    | (with_reducible apply Works.examineHead_leads)
    | (with_reducible apply Works.examineIfNewHead_leads)
    | (with_reducible apply Works.adoptEntry_leads)
    | (with_reducible apply ite_leads) | split

theorem Works.adopt_leads (i power : Nat) (w : Works)
    (hp : [Part.budget] ⊆ ps)
    (h : Works.Leads ps w0 w) :
    Works.Leads ps w0 (Works.adopt i power w) := by
  unfold Works.adopt
  try dsimp only
  repeat' first
    | (with_reducible assumption) | (exact sub_trans (by decide) hp) | (exact hp (by decide)) | (intro _ _ _) | (intro _ _) | (intro _)
    | (with_reducible apply Works.judgeBudget_leads)
    | (with_reducible apply Works.adoptUnjudged_leads)
    | (with_reducible apply ite_leads) | split

theorem Works.capacityChanged_leads (old new : Nat) (w : Works) (hp : [Part.budget] ⊆ ps) (h : Works.Leads ps w0 w) :
    Works.Leads ps w0 (Works.capacityChanged old new w) := by
  unfold Works.capacityChanged
  try dsimp only
  repeat' first
    | (with_reducible assumption) | (exact sub_trans (by decide) hp) | (exact hp (by decide)) | (intro _ _ _) | (intro _ _) | (intro _)
    | (with_reducible apply Works.examineHead_leads) | (with_reducible apply Works.judgeBudget_leads)
    | (with_reducible apply Works.judgeIfTight_leads) | (with_reducible apply ite_leads) | split

theorem Works.recapacity_leads  (w : Works) (hp : [Part.budget] ⊆ ps) (h : Works.Leads ps w0 w) :
    Works.Leads ps w0 (Works.recapacity w) := by
  unfold Works.recapacity
  try dsimp only
  repeat' first
    | (with_reducible assumption) | (exact sub_trans (by decide) hp) | (exact hp (by decide)) | (intro _ _ _) | (intro _ _) | (intro _)
    | (with_reducible apply Works.setSupply_leads) | (with_reducible apply Works.capacityChanged_leads)
    | (with_reducible apply ite_leads) | split

theorem Works.setFloor_leads (i floor : Nat) (w : Works) (hp : [Part.budget] ⊆ ps) (h : Works.Leads ps w0 w) :
    Works.Leads ps w0 (Works.setFloor i floor w) := by
  unfold Works.setFloor
  try dsimp only
  repeat' first
    | (with_reducible assumption) | (exact sub_trans (by decide) hp) | (exact hp (by decide)) | (intro _ _ _) | (intro _ _) | (intro _)
    | (with_reducible refine Works.updGrant_leads _ _ _ (by intro g; first | exact fun h => h | (simp; done) | (dsimp only; split <;> simp) | (simp [Grant.released, lampRest_ne]; done) | (simp only [Grant.shrunk]; split <;> simp [lampRest_ne]) | (dsimp only; split <;> simp [lampRest_ne])) ?_ ?_)
    | (with_reducible apply Works.judgeBudget_leads) | (with_reducible apply ite_leads) | split

theorem Works.updRoster_leads (u : Nat) (f : RosterEntry → RosterEntry) (w : Works) (hp : [Part.line] ⊆ ps)
    (h : Works.Leads ps w0 w) :
    Works.Leads ps w0 (Works.updRoster u f w) := by
  unfold Works.updRoster
  try dsimp only
  repeat' first
    | (with_reducible assumption) | (exact sub_trans (by decide) hp) | (exact hp (by decide)) | (intro _ _ _) | (intro _ _) | (intro _)
    | (with_reducible refine Works.setLine_leads _ _ (by first | exact fun h => h | (intro h; simp at h ⊢; omega)) ?_ ?_)
    | (with_reducible apply ite_leads) | split

theorem Works.setLeaves_leads (r : Requester) (v : Nat) (w : Works) (hp : [Part.lights] ⊆ ps)
    (h : Works.Leads ps w0 w) :
    Works.Leads ps w0 (Works.setLeaves r v w) := by
  unfold Works.setLeaves
  try dsimp only
  repeat' first
    | (with_reducible assumption) | (exact sub_trans (by decide) hp) | (exact hp (by decide)) | (intro _ _ _) | (intro _ _) | (intro _)
    | (with_reducible apply Works.updCircuit_leads) | (with_reducible apply ite_leads) | split

theorem Works.refusedFull_leads (r : Requester) (w : Works) (hp : [Part.dewater, Part.portals] ⊆ ps)
    (h : Works.Leads ps w0 w) :
    Works.Leads ps w0 (Works.refusedFull r w) := by
  unfold Works.refusedFull
  try dsimp only
  repeat' first
    | (with_reducible assumption) | (exact sub_trans (by decide) hp) | (exact hp (by decide)) | (intro _ _ _) | (intro _ _) | (intro _)
    | (with_reducible apply Works.setPortal_leads) | (with_reducible apply Works.updPump_leads)
    | (with_reducible apply ite_leads) | split

theorem Works.addRetry_leads (u : Nat) (b : Block) (w : Works) (hp : [Part.line] ⊆ ps) (h : Works.Leads ps w0 w) :
    Works.Leads ps w0 (Works.addRetry u b w) := by
  unfold Works.addRetry
  try dsimp only
  repeat' first
    | (with_reducible assumption) | (exact sub_trans (by decide) hp) | (exact hp (by decide)) | (intro _ _ _) | (intro _ _) | (intro _)
    | (with_reducible apply Works.updRoster_leads) | (with_reducible apply ite_leads) | split

theorem Works.displace_leads (e : QEntry) (w : Works) (hp : [Part.line] ⊆ ps) (h : Works.Leads ps w0 w) :
    Works.Leads ps w0 (Works.displace e w) := by
  unfold Works.displace
  split
  · exact h
  · exact Works.setLine_leads _ _ (fun h => h) hp h

theorem Works.refuse_leads (e : QEntry) (w : Works) (hp : [Part.dewater, Part.portals, Part.line] ⊆ ps)
    (h : Works.Leads ps w0 w) :
    Works.Leads ps w0 (Works.refuse e w) := by
  unfold Works.refuse
  try dsimp only
  repeat' first
    | (with_reducible assumption) | (exact sub_trans (by decide) hp) | (exact hp (by decide)) | (intro _ _ _) | (intro _ _) | (intro _)
    | (with_reducible apply Works.record_leads)
    | (with_reducible refine Works.setLine_leads _ _ (by first | exact fun h => h | (intro h; simp at h ⊢; omega)) ?_ ?_)
    | (with_reducible apply Works.refusedFull_leads) | (with_reducible apply Works.addRetry_leads)
    | (with_reducible apply Works.displace_leads)
    | (with_reducible refine each_leads _ _ _ ?_ ?_) | (with_reducible apply ite_leads) | split

theorem Works.joinNew_leads (e : QEntry) (w : Works) (hp : [Part.dewater, Part.portals, Part.line] ⊆ ps)
    (h : Works.Leads ps w0 w) : Works.Leads ps w0 (w.joinNew e).2 := by
  unfold Works.joinNew
  split
  · exact Works.setLineQueue_leads _ _ (fun _ => by rw [joinLine_length]; omega) (sub_trans (by decide) hp) h
  · exact Works.refuse_leads _ _ (sub_trans (by decide) hp) h

theorem Works.joinHalt_leads (e : QEntry) (w : Works) (hp : [Part.dewater, Part.portals, Part.lights, Part.line] ⊆ ps)
    (h : Works.Leads ps w0 w) : Works.Leads ps w0 (w.joinHalt e).2 := by
  have hr := fun e v h => Works.refuse_leads (ps := ps) (w0 := w0) e v (sub_trans (by decide) hp) h
  unfold Works.joinHalt
  split
  · exact Works.setLineQueue_leads _ _ (fun _ => by rw [joinLine_length]; omega) (sub_trans (by decide) hp) h
  · split
    · exact hr _ _ h
    · split
      · exact hr _ _ h
      · rename_i last hlast _
        have h1 := each_leads (w0 := w0) (ps := ps) last.requesters (fun r w => w.setLeaves r last.req.value) w
          (fun _ _ h => Works.setLeaves_leads _ _ _ (sub_trans (by decide) hp) h) h
        refine hr _ _ (Works.setLine_leads _ _ (fun hq => ?_) (sub_trans (by decide) hp) h1)
        rw [joinLine_length, List.length_dropLast]
        omega

theorem Works.enqueue_leads (e : QEntry) (w : Works) (hp : [Part.dewater, Part.portals, Part.lights, Part.line] ⊆ ps)
    (h : Works.Leads ps w0 w) :
    Works.Leads ps w0 (Works.enqueue e w).2 := by
  unfold Works.enqueue
  try dsimp only
  repeat' first
    | (with_reducible assumption) | (exact sub_trans (by decide) hp) | (exact hp (by decide)) | (intro _ _ _) | (intro _ _) | (intro _)
    | (with_reducible refine Works.setLineQueue_leads _ _ (by first | exact fun h => h | (intro h; simp at h ⊢; omega)) ?_ ?_)
    | (with_reducible apply Works.setLeaves_leads) | (with_reducible apply Works.joinNew_leads)
    | (with_reducible apply Works.joinHalt_leads) | (with_reducible refine each_leads _ _ _ ?_ ?_)
    | (with_reducible apply ite_leads) | split | (refine pair_leads (by assumption) ?_)

theorem Works.request_leads (r : Request) (u out : Nat) (who : ReqFor) (w : Works)
    (hp : [Part.dewater, Part.portals, Part.lights, Part.line] ⊆ ps) (h : Works.Leads ps w0 w) :
    Works.Leads ps w0 (Works.request r u out who w).2 := by
  unfold Works.request
  try dsimp only
  repeat' first
    | (with_reducible assumption) | (exact sub_trans (by decide) hp) | (exact hp (by decide)) | (intro _ _ _) | (intro _ _) | (intro _)
    | (with_reducible apply Works.enqueue_leads) | (with_reducible apply ite_leads) | split
    | (refine pair_leads (by assumption) ?_)

theorem Works.giveUp_leads (who : ReqFor) (f : Fate) (w : Works) (hp : [Part.line] ⊆ ps) (h : Works.Leads ps w0 w) :
    Works.Leads ps w0 (Works.giveUp who f w) := by
  unfold Works.giveUp
  try dsimp only
  repeat' first
    | (with_reducible assumption) | (exact sub_trans (by decide) hp) | (exact hp (by decide)) | (intro _ _ _) | (intro _ _) | (intro _)
    | (with_reducible refine Works.setLine_leads _ _ (by first | exact fun h => h | (intro h; simp at h ⊢; omega)) ?_ ?_)
    | (with_reducible apply ite_leads) | split

theorem Works.setFigures_leads (si demand : Nat) (w : Works) (hp : [Part.dewater] ⊆ ps) (h : Works.Leads ps w0 w) :
    Works.Leads ps w0 (Works.setFigures si demand w) := by
  unfold Works.setFigures
  try dsimp only
  repeat' first
    | (with_reducible assumption) | (exact sub_trans (by decide) hp) | (exact hp (by decide)) | (intro _ _ _) | (intro _ _) | (intro _)
    | (with_reducible apply Works.record_leads) | (with_reducible apply Works.updSump_leads)
    | (with_reducible apply ite_leads) | split

theorem Works.recount_leads (si : Nat) (w : Works) (hp : [Part.dewater] ⊆ ps) (h : Works.Leads ps w0 w) :
    Works.Leads ps w0 (Works.recount si w) := by
  unfold Works.recount
  try dsimp only
  repeat' first
    | (with_reducible assumption) | (exact sub_trans (by decide) hp) | (exact hp (by decide)) | (intro _ _ _) | (intro _ _) | (intro _)
    | (with_reducible apply Works.setFigures_leads) | (with_reducible apply ite_leads) | split

theorem Works.refigure_leads (si : Nat) (w : Works)
    (hp : [Part.dewater] ⊆ ps)
    (h : Works.Leads ps w0 w) :
    Works.Leads ps w0 (Works.refigure si w) := by
  unfold Works.refigure
  try dsimp only
  repeat' first
    | (with_reducible assumption) | (exact sub_trans (by decide) hp) | (exact hp (by decide)) | (intro _ _ _) | (intro _ _) | (intro _)
    | (with_reducible apply Works.setFigures_leads)
    | (with_reducible apply ite_leads) | split

theorem Works.judgePumpOrders_leads (i : Nat) (w : Works) (hp : [Part.active] ⊆ ps) (h : Works.Leads ps w0 w) :
    Works.Leads ps w0 (Works.judgePumpOrders i w) := by
  unfold Works.judgePumpOrders
  try dsimp only
  repeat' first
    | (with_reducible assumption) | (exact sub_trans (by decide) hp) | (exact hp (by decide)) | (intro _ _ _) | (intro _ _) | (intro _)
    | (with_reducible apply Works.complete_leads) | (with_reducible refine Works.completeAll_leads _ _ _ ?_ ?_)
    | (with_reducible apply ite_leads) | split

theorem Works.movePump_leads (i : Nat) (f : Pump → Pump) (w : Works) (hp : [Part.dewater, Part.active] ⊆ ps)
    (h : Works.Leads ps w0 w) :
    Works.Leads ps w0 (Works.movePump i f w) := by
  unfold Works.movePump
  try dsimp only
  repeat' first
    | (with_reducible assumption) | (exact sub_trans (by decide) hp) | (exact hp (by decide)) | (intro _ _ _) | (intro _ _) | (intro _)
    | (with_reducible apply Works.record_leads) | (with_reducible apply Works.updPump_leads)
    | (with_reducible apply Works.recount_leads) | (with_reducible apply Works.judgePumpOrders_leads)
    | (with_reducible apply ite_leads) | split

theorem Works.requestPump_leads (i : Nat) (w : Works) (h : Works.Leads ps w0 w) :
    Works.Leads ps w0 (Works.requestPump i w) := by
  unfold Works.requestPump
  try dsimp only
  repeat' first
    | (with_reducible assumption) | (exact sub_trans (by decide) hp) | (exact hp (by decide)) | (intro _ _ _) | (intro _ _) | (intro _)
    | (with_reducible apply Works.send_leads) | (with_reducible apply ite_leads) | split

theorem Works.dropPumpGrant_leads (i : Nat) (w : Works) (hp : [Part.dewater] ⊆ ps) (h : Works.Leads ps w0 w) :
    Works.Leads ps w0 (Works.dropPumpGrant i w) := by
  unfold Works.dropPumpGrant
  try dsimp only
  repeat' first
    | (with_reducible assumption) | (exact sub_trans (by decide) hp) | (exact hp (by decide)) | (intro _ _ _) | (intro _ _) | (intro _)
    | (with_reducible apply Works.send_leads) | (with_reducible apply Works.updPump_leads)
    | (with_reducible apply ite_leads) | split

theorem Works.keepOrAdoptPump_leads (i : Nat) (w : Works) (hp : [Part.dewater] ⊆ ps) (h : Works.Leads ps w0 w) :
    Works.Leads ps w0 (Works.keepOrAdoptPump i w) := by
  unfold Works.keepOrAdoptPump
  try dsimp only
  repeat' first
    | (with_reducible assumption) | (exact sub_trans (by decide) hp) | (exact hp (by decide)) | (intro _ _ _) | (intro _ _) | (intro _)
    | (with_reducible apply Works.send_leads) | (with_reducible apply Works.updPump_leads)
    | (with_reducible apply ite_leads) | split

theorem Works.failShed_leads (i : Nat) (w : Works) (h : Works.Leads ps w0 w) :
    Works.Leads ps w0 (Works.failShed i w) := by
  unfold Works.failShed
  try dsimp only
  repeat' first
    | (with_reducible assumption) | (exact sub_trans (by decide) hp) | (exact hp (by decide)) | (intro _ _ _) | (intro _ _) | (intro _)
    | (with_reducible apply Works.send_leads) | (with_reducible apply ite_leads) | split

theorem Works.joinList_leads (i : Nat) (w : Works) (hp : [Part.dewater] ⊆ ps) (h : Works.Leads ps w0 w) :
    Works.Leads ps w0 (Works.joinList i w) := by
  unfold Works.joinList
  try dsimp only
  repeat' first
    | (with_reducible assumption) | (exact sub_trans (by decide) hp) | (exact hp (by decide)) | (intro _ _ _) | (intro _ _) | (intro _)
    | (with_reducible apply Works.updSump_leads) | (with_reducible apply ite_leads) | split

theorem Works.leaveList_leads (i : Nat) (w : Works) (hp : [Part.dewater] ⊆ ps) (h : Works.Leads ps w0 w) :
    Works.Leads ps w0 (Works.leaveList i w) := by
  unfold Works.leaveList
  try dsimp only
  repeat' first
    | (with_reducible assumption) | (exact sub_trans (by decide) hp) | (exact hp (by decide)) | (intro _ _ _) | (intro _ _) | (intro _)
    | (with_reducible apply Works.send_leads) | (with_reducible apply Works.updSump_leads)
    | (with_reducible apply ite_leads) | split

theorem Works.haltPump_leads (i : Nat) (w : Works) (hp : [Part.dewater, Part.portals, Part.lights, Part.line] ⊆ ps)
    (h : Works.Leads ps w0 w) :
    Works.Leads ps w0 (Works.haltPump i w) := by
  unfold Works.haltPump
  try dsimp only
  repeat' first
    | (with_reducible assumption) | (exact sub_trans (by decide) hp) | (exact hp (by decide)) | (intro _ _ _) | (intro _ _) | (intro _)
    | (with_reducible apply Works.updPump_leads) | (with_reducible apply Works.request_leads)
    | (with_reducible apply ite_leads) | split | (refine pair_leads (by assumption) ?_)

theorem Works.queueStart_leads (i : Nat) (w : Works) (hp : [Part.dewater, Part.portals, Part.lights, Part.line] ⊆ ps)
    (h : Works.Leads ps w0 w) :
    Works.Leads ps w0 (Works.queueStart i w) := by
  unfold Works.queueStart
  try dsimp only
  repeat' first
    | (with_reducible assumption) | (exact sub_trans (by decide) hp) | (exact hp (by decide)) | (intro _ _ _) | (intro _ _) | (intro _)
    | (with_reducible apply Works.updPump_leads) | (with_reducible apply Works.request_leads)
    | (with_reducible apply ite_leads) | split | (refine pair_leads (by assumption) ?_)

theorem Works.setLead_leads (si lead why : Nat) (w : Works) (hp : [Part.dewater] ⊆ ps) (h : Works.Leads ps w0 w) :
    Works.Leads ps w0 (Works.setLead si lead why w) := by
  unfold Works.setLead
  try dsimp only
  repeat' first
    | (with_reducible assumption) | (exact sub_trans (by decide) hp) | (exact hp (by decide)) | (intro _ _ _) | (intro _ _) | (intro _)
    | (with_reducible apply Works.record_leads) | (with_reducible apply Works.updSump_leads)
    | (with_reducible apply ite_leads) | split

theorem Works.advanceLead_leads (si : Nat) (w : Works) (hp : [Part.dewater] ⊆ ps) (h : Works.Leads ps w0 w) :
    Works.Leads ps w0 (Works.advanceLead si w) := by
  unfold Works.advanceLead
  try dsimp only
  repeat' first
    | (with_reducible assumption) | (exact sub_trans (by decide) hp) | (exact hp (by decide)) | (intro _ _ _) | (intro _ _) | (intro _)
    | (with_reducible apply Works.setLead_leads) | (with_reducible apply ite_leads) | split

theorem Works.waitShed_leads (i : Nat) (w : Works) (hp : [Part.dewater, Part.active] ⊆ ps) (h : Works.Leads ps w0 w) :
    Works.Leads ps w0 (Works.waitShed i w) := by
  unfold Works.waitShed
  try dsimp only
  repeat' first
    | (with_reducible assumption) | (exact sub_trans (by decide) hp) | (exact hp (by decide)) | (intro _ _ _) | (intro _ _) | (intro _)
    | (with_reducible apply Works.movePump_leads) | (with_reducible apply Works.requestPump_leads)
    | (with_reducible apply Works.dropPumpGrant_leads) | (with_reducible apply ite_leads) | split

theorem Works.abandonedUnexecuted_leads (i : Nat) (w : Works) (hp : [Part.dewater, Part.active] ⊆ ps)
    (h : Works.Leads ps w0 w) :
    Works.Leads ps w0 (Works.abandonedUnexecuted i w) := by
  unfold Works.abandonedUnexecuted
  try dsimp only
  repeat' first
    | (with_reducible assumption) | (exact sub_trans (by decide) hp) | (exact hp (by decide)) | (intro _ _ _) | (intro _ _) | (intro _)
    | (with_reducible apply Works.send_leads) | (with_reducible apply Works.updPump_leads)
    | (with_reducible apply Works.movePump_leads) | (with_reducible apply Works.requestPump_leads)
    | (with_reducible apply Works.dropPumpGrant_leads) | (with_reducible apply Works.advanceLead_leads)
    | (with_reducible apply Works.waitShed_leads) | (with_reducible apply ite_leads) | split

theorem Works.abandonStart_leads (i : Nat) (w : Works) (hp : [Part.dewater, Part.active, Part.line] ⊆ ps)
    (h : Works.Leads ps w0 w) :
    Works.Leads ps w0 (Works.abandonStart i w) := by
  unfold Works.abandonStart
  try dsimp only
  repeat' first
    | (with_reducible assumption) | (exact sub_trans (by decide) hp) | (exact hp (by decide)) | (intro _ _ _) | (intro _ _) | (intro _)
    | (with_reducible apply Works.updPump_leads) | (with_reducible apply Works.giveUp_leads)
    | (with_reducible apply Works.abandonedUnexecuted_leads) | (with_reducible apply ite_leads) | split

theorem Works.dismiss_leads (i : Nat) (w : Works)
    (hp : [Part.dewater, Part.portals, Part.lights, Part.active, Part.line] ⊆ ps) (h : Works.Leads ps w0 w) :
    Works.Leads ps w0 (Works.dismiss i w) := by
  unfold Works.dismiss
  try dsimp only
  repeat' first
    | (with_reducible assumption) | (exact sub_trans (by decide) hp) | (exact hp (by decide)) | (intro _ _ _) | (intro _ _) | (intro _)
    | (with_reducible apply Works.updPump_leads) | (with_reducible apply Works.movePump_leads)
    | (with_reducible apply Works.dropPumpGrant_leads) | (with_reducible apply Works.leaveList_leads)
    | (with_reducible apply Works.haltPump_leads) | (with_reducible apply Works.abandonStart_leads)
    | (with_reducible apply ite_leads) | split

theorem Works.callPump_leads (i : Nat) (w : Works) (hp : [Part.dewater, Part.active] ⊆ ps) (h : Works.Leads ps w0 w) :
    Works.Leads ps w0 (Works.callPump i w) := by
  unfold Works.callPump
  try dsimp only
  repeat' first
    | (with_reducible assumption) | (exact sub_trans (by decide) hp) | (exact hp (by decide)) | (intro _ _ _) | (intro _ _) | (intro _)
    | (with_reducible apply Works.movePump_leads) | (with_reducible apply Works.requestPump_leads)
    | (with_reducible apply Works.joinList_leads) | (with_reducible apply ite_leads) | split

theorem Works.serveOnce_leads {si : Nat} {w w' : Works} (e : Works.serveOnce si w = some w')
    (hp : [Part.dewater, Part.portals, Part.lights, Part.active, Part.line] ⊆ ps) (h : Works.Leads ps w0 w) :
    Works.Leads ps w0 w' := by
  unfold Works.serveOnce at e
  dsimp only at e
  repeat' (first | contradiction | (injection e with e; subst e) | split at e)
  all_goals repeat' first
    | (with_reducible assumption) | (exact sub_trans (by decide) hp) | (exact hp (by decide)) | (intro _ _ _) | (intro _ _) | (intro _)
    | (with_reducible apply Works.dismiss_leads) | (with_reducible apply Works.callPump_leads)
    | (with_reducible apply ite_leads) | split

theorem Works.callForDemand_leads {si : Nat} {w w' : Works} (e : w.callForDemand si = some w')
    (hp : [Part.dewater, Part.active] ⊆ ps) (h : Works.Leads ps w0 w) : Works.Leads ps w0 w' := by
  unfold Works.callForDemand at e
  split at e
  · contradiction
  · split at e
    · obtain ⟨i, -, rfl⟩ := Option.map_eq_some_iff.mp e
      exact Works.callPump_leads _ _ (sub_trans (by decide) hp) h
    · contradiction

theorem serveLoop_leads (si : Nat) (k : Nat) (w : Works)
    (hp : [Part.dewater, Part.portals, Part.lights, Part.active, Part.line] ⊆ ps) (h : Works.Leads ps w0 w) :
    Works.Leads ps w0 (serveLoop si k w) := by
  induction k generalizing w with
  | zero => exact h
  | succ k ih =>
    unfold serveLoop
    try dsimp only
    repeat' first
      | (with_reducible assumption) | (with_reducible apply ih) | (exact sub_trans (by decide) hp) | (exact hp (by decide))
      | (intro _ _ _) | (intro _ _) | (intro _) | (with_reducible refine Works.serveOnce_leads (by assumption) ?_ ?_)
      | (with_reducible refine Works.callForDemand_leads (by assumption) ?_ ?_) | (with_reducible apply ite_leads)
      | split

theorem Works.serve_leads (si : Nat) (w : Works)
    (hp : [Part.dewater, Part.portals, Part.lights, Part.active, Part.line] ⊆ ps) (h : Works.Leads ps w0 w) :
    Works.Leads ps w0 (Works.serve si w) := by
  unfold Works.serve
  try dsimp only
  repeat' first
    | (with_reducible assumption) | (exact sub_trans (by decide) hp) | (exact hp (by decide)) | (intro _ _ _) | (intro _ _) | (intro _)
    | (with_reducible apply serveLoop_leads) | (with_reducible apply ite_leads) | split

theorem Works.serveAll_leads
    (w : Works) (hp : [Part.dewater, Part.portals, Part.lights, Part.active, Part.line] ⊆ ps) (h : Works.Leads ps w0 w) :
    Works.Leads ps w0 (Works.serveAll w) := by
  unfold Works.serveAll
  try dsimp only
  repeat' first
    | (with_reducible assumption) | (exact sub_trans (by decide) hp) | (exact hp (by decide)) | (intro _ _ _) | (intro _ _) | (intro _)
    | (with_reducible apply Works.serve_leads) | (with_reducible refine each_leads _ _ _ ?_ ?_)
    | (with_reducible apply ite_leads) | split

theorem Works.judgeDemand_leads (si : Nat) (w : Works)
    (hp : [Part.dewater, Part.portals, Part.lights, Part.active, Part.line] ⊆ ps)
    (h : Works.Leads ps w0 w) :
    Works.Leads ps w0 (Works.judgeDemand si w) := by
  unfold Works.judgeDemand
  try dsimp only
  repeat' first
    | (with_reducible assumption) | (exact sub_trans (by decide) hp) | (exact hp (by decide)) | (intro _ _ _) | (intro _ _) | (intro _)
    | (with_reducible apply Works.refigure_leads)
    | (with_reducible apply Works.serve_leads)
    | (with_reducible apply ite_leads) | split

theorem Works.cutoutActive_leads (si : Nat) (w : Works)
    (hp : [Part.dewater, Part.portals, Part.lights, Part.active, Part.line] ⊆ ps)
    (h : Works.Leads ps w0 w) :
    Works.Leads ps w0 (Works.cutoutActive si w) := by
  unfold Works.cutoutActive
  try dsimp only
  repeat' first
    | (with_reducible assumption) | (exact sub_trans (by decide) hp) | (exact hp (by decide)) | (intro _ _ _) | (intro _ _) | (intro _)
    | (with_reducible refine each_leads _ _ _ ?_ ?_)
    | (with_reducible apply Works.setFigures_leads)
    | (with_reducible apply Works.dismiss_leads)
    | (with_reducible apply ite_leads) | split

theorem Works.dutyFromStage_leads
    (w : Works) (hp : [Part.dewater, Part.portals, Part.lights, Part.active, Part.line] ⊆ ps) (h : Works.Leads ps w0 w) :
    Works.Leads ps w0 (Works.dutyFromStage w) := by
  unfold Works.dutyFromStage
  try dsimp only
  repeat' first
    | (with_reducible assumption) | (exact sub_trans (by decide) hp) | (exact hp (by decide)) | (intro _ _ _) | (intro _ _) | (intro _)
    | (with_reducible apply Works.updSump_leads) | (with_reducible apply Works.judgeDemand_leads)
    | (with_reducible refine each_leads _ _ _ ?_ ?_) | (with_reducible apply ite_leads) | split

theorem Works.levelChanged_leads (c : Nat) (w : Works)
    (hp : [Part.dewater, Part.portals, Part.lights, Part.active, Part.line] ⊆ ps) (h : Works.Leads ps w0 w) :
    Works.Leads ps w0 (Works.levelChanged c w) := by
  unfold Works.levelChanged
  try dsimp only
  repeat' first
    | (with_reducible assumption) | (exact sub_trans (by decide) hp) | (exact hp (by decide)) | (intro _ _ _) | (intro _ _) | (intro _)
    | (with_reducible apply Works.judgeDemand_leads) | (with_reducible refine each_leads _ _ _ ?_ ?_)
    | (with_reducible apply ite_leads) | split

theorem Works.addRun_leads (i : Nat) (w : Works) (hp : [Part.dewater] ⊆ ps) (h : Works.Leads ps w0 w) :
    Works.Leads ps w0 (Works.addRun i w) := by
  unfold Works.addRun
  try dsimp only
  repeat' first
    | (with_reducible assumption) | (exact sub_trans (by decide) hp) | (exact hp (by decide)) | (intro _ _ _) | (intro _ _) | (intro _)
    | (with_reducible apply Works.record_leads) | (with_reducible apply Works.updPump_leads)
    | (with_reducible apply ite_leads) | split

theorem Works.setRunning_leads (i : Nat) (v : RunView) (w : Works) (hp : [Part.dewater] ⊆ ps)
    (h : Works.Leads ps w0 w) :
    Works.Leads ps w0 (Works.setRunning i v w) := by
  unfold Works.setRunning
  try dsimp only
  repeat' first
    | (with_reducible assumption) | (exact sub_trans (by decide) hp) | (exact hp (by decide)) | (intro _ _ _) | (intro _ _) | (intro _)
    | (with_reducible apply Works.updPump_leads) | (with_reducible apply Works.addRun_leads)
    | (with_reducible apply ite_leads) | split

theorem Works.takeFloat_leads (si : Nat) (high : Bool) (v : FloatState) (w : Works)
    (hp : [Part.dewater, Part.portals, Part.lights, Part.active, Part.line] ⊆ ps)
    (h : Works.Leads ps w0 w) :
    Works.Leads ps w0 (Works.takeFloat si high v w) := by
  unfold Works.takeFloat
  try dsimp only
  repeat' first
    | (with_reducible assumption) | (exact sub_trans (by decide) hp) | (exact hp (by decide)) | (intro _ _ _) | (intro _ _) | (intro _)
    | (with_reducible apply Works.record_leads)
    | (with_reducible apply Works.updSump_leads)
    | (with_reducible apply Works.refigure_leads)
    | (with_reducible apply Works.cutoutActive_leads)
    | (with_reducible apply ite_leads) | split

theorem Works.pumpStopped_leads (i : Nat) (w : Works)
    (hp : [Part.dewater, Part.portals, Part.lights, Part.active, Part.line] ⊆ ps) (h : Works.Leads ps w0 w) :
    Works.Leads ps w0 (Works.pumpStopped i w) := by
  unfold Works.pumpStopped
  try dsimp only
  repeat' first
    | (with_reducible assumption) | (exact sub_trans (by decide) hp) | (exact hp (by decide)) | (intro _ _ _) | (intro _ _) | (intro _)
    | (with_reducible apply Works.updPump_leads) | (with_reducible apply Works.movePump_leads)
    | (with_reducible apply Works.dropPumpGrant_leads) | (with_reducible apply Works.advanceLead_leads)
    | (with_reducible apply Works.waitShed_leads) | (with_reducible apply Works.serve_leads)
    | (with_reducible apply ite_leads) | split

theorem Works.tripPump_leads (i : Nat) (r : TripReason) (w : Works)
    (hp : [Part.dewater, Part.portals, Part.lights, Part.active, Part.line] ⊆ ps) (h : Works.Leads ps w0 w) :
    Works.Leads ps w0 (Works.tripPump i r w) := by
  unfold Works.tripPump
  try dsimp only
  repeat' first
    | (with_reducible assumption) | (exact sub_trans (by decide) hp) | (exact hp (by decide)) | (intro _ _ _) | (intro _ _) | (intro _)
    | (with_reducible apply Works.movePump_leads) | (with_reducible apply Works.dropPumpGrant_leads)
    | (with_reducible apply Works.leaveList_leads) | (with_reducible apply Works.haltPump_leads)
    | (with_reducible apply Works.serve_leads) | (with_reducible apply ite_leads) | split

theorem Works.pumpItem_leads (i : Nat) (running overload : Bool) (w : Works)
    (hp : [Part.dewater, Part.portals, Part.lights, Part.active, Part.line] ⊆ ps) (h : Works.Leads ps w0 w) :
    Works.Leads ps w0 (Works.pumpItem i running overload w) := by
  unfold Works.pumpItem
  try dsimp only
  repeat' first
    | (with_reducible assumption) | (exact sub_trans (by decide) hp) | (exact hp (by decide)) | (intro _ _ _) | (intro _ _) | (intro _)
    | (with_reducible apply Works.updPump_leads) | (with_reducible apply Works.movePump_leads)
    | (with_reducible apply Works.dropPumpGrant_leads) | (with_reducible apply Works.keepOrAdoptPump_leads)
    | (with_reducible apply Works.serve_leads) | (with_reducible apply Works.setRunning_leads)
    | (with_reducible apply Works.pumpStopped_leads) | (with_reducible apply Works.tripPump_leads)
    | (with_reducible apply ite_leads) | split

theorem Works.setFloat_leads (si : Nat) (high : Bool) (v : FloatState) (w : Works)
    (hp : [Part.dewater, Part.portals, Part.lights, Part.active, Part.line] ⊆ ps)
    (h : Works.Leads ps w0 w) :
    Works.Leads ps w0 (Works.setFloat si high v w) := by
  unfold Works.setFloat
  try dsimp only
  repeat' first
    | (with_reducible assumption) | (exact sub_trans (by decide) hp) | (exact hp (by decide)) | (intro _ _ _) | (intro _ _) | (intro _)
    | (with_reducible apply Works.serve_leads)
    | (with_reducible apply Works.takeFloat_leads)
    | (with_reducible apply ite_leads) | split

theorem Works.floatItems_leads (u : Nat) (t : UnitType) (img : List Byte) (w : Works)
    (hp : [Part.dewater, Part.portals, Part.lights, Part.active, Part.line] ⊆ ps) (h : Works.Leads ps w0 w) :
    Works.Leads ps w0 (Works.floatItems u t img w) := by
  unfold Works.floatItems
  try dsimp only
  repeat' first
    | (with_reducible assumption) | (exact sub_trans (by decide) hp) | (exact hp (by decide)) | (intro _ _ _) | (intro _ _) | (intro _)
    | (with_reducible apply Works.setFloat_leads) | (with_reducible refine each_leads _ _ _ ?_ ?_)
    | (with_reducible apply ite_leads) | split

theorem Works.floatsAhead_leads (u : Nat) (t : UnitType) (img : List Byte) (w : Works)
    (hp : [Part.dewater, Part.portals, Part.lights, Part.active, Part.line] ⊆ ps)
    (h : Works.Leads ps w0 w) :
    Works.Leads ps w0 (Works.floatsAhead u t img w) := by
  unfold Works.floatsAhead
  try dsimp only
  repeat' first
    | (with_reducible assumption) | (exact sub_trans (by decide) hp) | (exact hp (by decide)) | (intro _ _ _) | (intro _ _) | (intro _)
    | (with_reducible refine each_leads _ _ _ ?_ ?_)
    | (with_reducible apply Works.takeFloat_leads)
    | (with_reducible apply ite_leads) | split

theorem Works.dewaterArrival_leads (u : Nat) (t : UnitType) (img : List Byte) (w : Works)
    (hp : [Part.dewater, Part.portals, Part.lights, Part.active, Part.line] ⊆ ps) (h : Works.Leads ps w0 w) :
    Works.Leads ps w0 (Works.dewaterArrival u t img w) := by
  unfold Works.dewaterArrival
  try dsimp only
  repeat' first
    | (with_reducible assumption) | (exact sub_trans (by decide) hp) | (exact hp (by decide)) | (intro _ _ _) | (intro _ _) | (intro _)
    | (with_reducible apply Works.pumpItem_leads) | (with_reducible apply Works.floatItems_leads)
    | (with_reducible refine each_leads _ _ _ ?_ ?_) | (with_reducible apply ite_leads) | split

theorem Works.dewaterLost_leads (u : Nat) (w : Works)
    (hp : [Part.dewater, Part.portals, Part.lights, Part.active, Part.line] ⊆ ps) (h : Works.Leads ps w0 w) :
    Works.Leads ps w0 (Works.dewaterLost u w) := by
  unfold Works.dewaterLost
  try dsimp only
  repeat' first
    | (with_reducible assumption) | (exact sub_trans (by decide) hp) | (exact hp (by decide)) | (intro _ _ _) | (intro _ _) | (intro _)
    | (with_reducible apply Works.updPump_leads) | (with_reducible apply Works.setRunning_leads)
    | (with_reducible apply Works.setFloat_leads) | (with_reducible refine each_leads _ _ _ ?_ ?_)
    | (with_reducible apply ite_leads) | split

theorem Works.pumpViews_leads (i : Nat) (img : List Byte) (w : Works) (hp : [Part.dewater] ⊆ ps)
    (h : Works.Leads ps w0 w) :
    Works.Leads ps w0 (Works.pumpViews i img w) := by
  unfold Works.pumpViews
  try dsimp only
  repeat' first
    | (with_reducible assumption) | (exact sub_trans (by decide) hp) | (exact hp (by decide)) | (intro _ _ _) | (intro _ _) | (intro _)
    | (with_reducible apply Works.updPump_leads) | (with_reducible apply Works.setRunning_leads)
    | (with_reducible apply ite_leads) | split

theorem Works.pumpGranted_leads (i : Nat) (w : Works)
    (hp : [Part.dewater, Part.portals, Part.lights, Part.active, Part.line] ⊆ ps) (h : Works.Leads ps w0 w) :
    Works.Leads ps w0 (Works.pumpGranted i w) := by
  unfold Works.pumpGranted
  try dsimp only
  repeat' first
    | (with_reducible assumption) | (exact sub_trans (by decide) hp) | (exact hp (by decide)) | (intro _ _ _) | (intro _ _) | (intro _)
    | (with_reducible apply Works.updPump_leads) | (with_reducible apply Works.movePump_leads)
    | (with_reducible apply Works.dropPumpGrant_leads) | (with_reducible apply Works.queueStart_leads)
    | (with_reducible apply Works.serve_leads) | (with_reducible apply ite_leads) | split

theorem Works.abandonedExecuted_leads (i : Nat) (w : Works)
    (hp : [Part.dewater, Part.portals, Part.lights, Part.active, Part.line] ⊆ ps)
    (h : Works.Leads ps w0 w) :
    Works.Leads ps w0 (Works.abandonedExecuted i w) := by
  unfold Works.abandonedExecuted
  try dsimp only
  repeat' first
    | (with_reducible assumption) | (exact sub_trans (by decide) hp) | (exact hp (by decide)) | (intro _ _ _) | (intro _ _) | (intro _)
    | (with_reducible apply Works.send_leads)
    | (with_reducible apply Works.updPump_leads)
    | (with_reducible apply Works.giveUp_leads)
    | (with_reducible apply Works.movePump_leads)
    | (with_reducible apply Works.dropPumpGrant_leads)
    | (with_reducible apply Works.haltPump_leads)
    | (with_reducible apply ite_leads) | split

theorem Works.startPairEnd_leads (i : Nat) (f : Fate) (e : PairEnd) (w : Works)
    (hp : [Part.dewater, Part.portals, Part.lights, Part.active, Part.reports, Part.water, Part.line] ⊆ ps)
    (h : Works.Leads ps w0 w) :
    Works.Leads ps w0 (Works.startPairEnd i f e w) := by
  unfold Works.startPairEnd
  try dsimp only
  repeat' first
    | (with_reducible assumption) | (exact sub_trans (by decide) hp) | (exact hp (by decide)) | (intro _ _ _) | (intro _ _) | (intro _)
    | (with_reducible apply Works.send_leads)
    | (with_reducible apply Works.updPump_leads)
    | (with_reducible apply Works.movePump_leads)
    | (with_reducible apply Works.requestPump_leads)
    | (with_reducible apply Works.dropPumpGrant_leads)
    | (with_reducible apply Works.leaveList_leads)
    | (with_reducible apply Works.abandonedUnexecuted_leads)
    | (with_reducible apply Works.serve_leads)
    | (with_reducible apply Works.abandonedExecuted_leads)
    | (with_reducible apply Works.missed_leads)
    | (with_reducible apply ite_leads) | split

theorem Works.pumpHaltEnd_leads (i : Nat) (w : Works)
    (hp : [Part.dewater] ⊆ ps)
    (h : Works.Leads ps w0 w) :
    Works.Leads ps w0 (Works.pumpHaltEnd i w) := by
  unfold Works.pumpHaltEnd
  try dsimp only
  repeat' first
    | (with_reducible assumption) | (exact sub_trans (by decide) hp) | (exact hp (by decide)) | (intro _ _ _) | (intro _ _) | (intro _)
    | (with_reducible apply Works.updPump_leads)
    | (with_reducible apply ite_leads) | split

theorem Works.dewaterRetry_leads (u : Nat) (w : Works)
    (hp : [Part.dewater, Part.portals, Part.lights, Part.active, Part.line] ⊆ ps) (h : Works.Leads ps w0 w) :
    Works.Leads ps w0 (Works.dewaterRetry u w) := by
  unfold Works.dewaterRetry
  try dsimp only
  repeat' first
    | (with_reducible assumption) | (exact sub_trans (by decide) hp) | (exact hp (by decide)) | (intro _ _ _) | (intro _ _) | (intro _)
    | (with_reducible apply Works.updPump_leads) | (with_reducible apply Works.haltPump_leads)
    | (with_reducible apply Works.queueStart_leads) | (with_reducible refine each_leads _ _ _ ?_ ?_)
    | (with_reducible apply ite_leads) | split

theorem Works.startConfirmExpiry_leads (i : Nat) (w : Works)
    (hp : [Part.dewater, Part.portals, Part.lights, Part.active, Part.line] ⊆ ps) (h : Works.Leads ps w0 w) :
    Works.Leads ps w0 (Works.startConfirmExpiry i w) := by
  unfold Works.startConfirmExpiry
  try dsimp only
  repeat' first
    | (with_reducible assumption) | (exact sub_trans (by decide) hp) | (exact hp (by decide)) | (intro _ _ _) | (intro _ _) | (intro _)
    | (with_reducible apply Works.tripPump_leads) | (with_reducible apply ite_leads) | split

theorem Works.stopConfirmExpiry_leads (i : Nat) (w : Works)
    (hp : [Part.dewater, Part.portals, Part.lights, Part.active, Part.line] ⊆ ps) (h : Works.Leads ps w0 w) :
    Works.Leads ps w0 (Works.stopConfirmExpiry i w) := by
  unfold Works.stopConfirmExpiry
  try dsimp only
  repeat' first
    | (with_reducible assumption) | (exact sub_trans (by decide) hp) | (exact hp (by decide)) | (intro _ _ _) | (intro _ _) | (intro _)
    | (with_reducible apply Works.movePump_leads) | (with_reducible apply Works.failShed_leads)
    | (with_reducible apply Works.leaveList_leads) | (with_reducible apply Works.serve_leads)
    | (with_reducible apply ite_leads) | split

theorem Works.pumpRestExpiry_leads (i : Nat) (w : Works)
    (hp : [Part.dewater, Part.portals, Part.lights, Part.active, Part.line] ⊆ ps) (h : Works.Leads ps w0 w) :
    Works.Leads ps w0 (Works.pumpRestExpiry i w) := by
  unfold Works.pumpRestExpiry
  try dsimp only
  repeat' first
    | (with_reducible assumption) | (exact sub_trans (by decide) hp) | (exact hp (by decide)) | (intro _ _ _) | (intro _ _) | (intro _)
    | (with_reducible apply Works.movePump_leads) | (with_reducible apply Works.requestPump_leads)
    | (with_reducible apply Works.serve_leads) | (with_reducible apply ite_leads) | split

theorem Works.pumpOutage_leads (i : Nat) (w : Works)
    (hp : [Part.dewater, Part.portals, Part.lights, Part.active, Part.line] ⊆ ps) (h : Works.Leads ps w0 w) :
    Works.Leads ps w0 (Works.pumpOutage i w).2 := by
  unfold Works.pumpOutage
  try dsimp only
  repeat' first
    | (with_reducible assumption) | (exact sub_trans (by decide) hp) | (exact hp (by decide)) | (intro _ _ _) | (intro _ _) | (intro _)
    | (with_reducible apply Works.updPump_leads) | (with_reducible apply Works.movePump_leads)
    | (with_reducible apply Works.haltPump_leads) | (with_reducible apply Works.abandonStart_leads)
    | (with_reducible apply ite_leads) | split

theorem Works.pumpShed_leads (i : Nat) (w : Works)
    (hp : [Part.dewater, Part.portals, Part.lights, Part.active, Part.line] ⊆ ps) (h : Works.Leads ps w0 w) :
    Works.Leads ps w0 (Works.pumpShed i w) := by
  unfold Works.pumpShed
  try dsimp only
  repeat' first
    | (with_reducible assumption) | (exact sub_trans (by decide) hp) | (exact hp (by decide)) | (intro _ _ _) | (intro _ _) | (intro _)
    | (with_reducible apply Works.send_leads) | (with_reducible apply Works.movePump_leads)
    | (with_reducible apply Works.haltPump_leads) | (with_reducible apply Works.abandonStart_leads)
    | (with_reducible apply Works.serve_leads) | (with_reducible apply ite_leads) | split

theorem Works.preemptPump_leads (i : Nat) (v : ClaimValue) (w : Works) (hp : [Part.active] ⊆ ps)
    (h : Works.Leads ps w0 w) :
    Works.Leads ps w0 (Works.preemptPump i v w) := by
  unfold Works.preemptPump
  try dsimp only
  repeat' first
    | (with_reducible assumption) | (exact sub_trans (by decide) hp) | (exact hp (by decide)) | (intro _ _ _) | (intro _ _) | (intro _)
    | (with_reducible apply Works.complete_leads) | (with_reducible refine Works.completeAll_leads _ _ _ ?_ ?_)
    | (with_reducible apply ite_leads) | split

theorem Works.uncommandPump_leads (i : Nat) (v : ClaimValue) (w : Works)
    (hp : [Part.dewater, Part.active, Part.line] ⊆ ps)
    (h : Works.Leads ps w0 w) :
    Works.Leads ps w0 (Works.uncommandPump i v w) := by
  unfold Works.uncommandPump
  try dsimp only
  repeat' first
    | (with_reducible assumption) | (exact sub_trans (by decide) hp) | (exact hp (by decide)) | (intro _ _ _) | (intro _ _) | (intro _)
    | (with_reducible apply Works.send_leads)
    | (with_reducible apply Works.giveUp_leads)
    | (with_reducible apply Works.movePump_leads)
    | (with_reducible apply Works.dropPumpGrant_leads)
    | (with_reducible apply Works.keepOrAdoptPump_leads)
    | (with_reducible apply Works.failShed_leads)
    | (with_reducible apply Works.leaveList_leads)
    | (with_reducible apply Works.preemptPump_leads)
    | (with_reducible apply ite_leads) | split

theorem Works.settlePump_leads (i : Nat) (w : Works)
    (hp : [Part.dewater, Part.portals, Part.lights, Part.active, Part.budget, Part.line] ⊆ ps)
    (h : Works.Leads ps w0 w) :
    Works.Leads ps w0 (Works.settlePump i w) := by
  unfold Works.settlePump
  try dsimp only
  repeat' first
    | (with_reducible assumption) | (exact sub_trans (by decide) hp) | (exact hp (by decide)) | (intro _ _ _) | (intro _ _) | (intro _)
    | (with_reducible apply Works.send_leads)
    | (with_reducible apply Works.updPump_leads)
    | (with_reducible apply Works.classNotice_leads)
    | (with_reducible apply Works.movePump_leads)
    | (with_reducible apply Works.dropPumpGrant_leads)
    | (with_reducible apply Works.keepOrAdoptPump_leads)
    | (with_reducible apply Works.joinList_leads)
    | (with_reducible apply Works.haltPump_leads)
    | (with_reducible apply ite_leads) | split

theorem Works.failTripped_leads (o : Order) (p : Pump) (w : Works) (hp : [Part.active] ⊆ ps) (h : Works.Leads ps w0 w)
    :
    Works.Leads ps w0 (Works.failTripped o p w) := by
  unfold Works.failTripped
  try dsimp only
  repeat' first
    | (with_reducible assumption) | (exact sub_trans (by decide) hp) | (exact hp (by decide)) | (intro _ _ _) | (intro _ _) | (intro _)
    | (with_reducible apply Order.finish_leads) | (with_reducible apply ite_leads) | split

theorem Works.supersedePump_leads (o : Order) (w : Works) (hp : [Part.active] ⊆ ps) (h : Works.Leads ps w0 w) :
    Works.Leads ps w0 (Works.supersedePump o w) := by
  unfold Works.supersedePump
  try dsimp only
  repeat' first
    | (with_reducible assumption) | (exact sub_trans (by decide) hp) | (exact hp (by decide)) | (intro _ _ _) | (intro _ _) | (intro _)
    | (with_reducible apply Works.complete_leads) | (with_reducible refine Works.completeAll_leads _ _ _ ?_ ?_)
    | (with_reducible apply ite_leads) | split

theorem Works.setClaim_leads (s : ClaimSubject) (v : ClaimValue) (slot : Option Nat) (cause : ClaimCause)
    (detail2 : Nat) (w : Works) (hp : [Part.claims] ⊆ ps) (h : Works.Leads ps w0 w) :
    Works.Leads ps w0 (Works.setClaim s v slot cause detail2 w) := by
  unfold Works.setClaim
  try dsimp only
  repeat' first
    | (with_reducible assumption) | (exact sub_trans (by decide) hp) | (exact hp (by decide)) | (intro _ _ _) | (intro _ _) | (intro _)
    | (with_reducible apply Works.record_leads) | exact Works.Leads.claims _ _ (hp (by decide)) (by assumption)
    | (with_reducible apply ite_leads) | split

theorem Works.orderClaim_leads (s : ClaimSubject) (slot : Nat) (w : Works) (hp : [Part.claims] ⊆ ps)
    (h : Works.Leads ps w0 w) :
    Works.Leads ps w0 (Works.orderClaim s slot w) := by
  unfold Works.orderClaim
  try dsimp only
  repeat' first
    | (with_reducible assumption) | (exact sub_trans (by decide) hp) | (exact hp (by decide)) | (intro _ _ _) | (intro _ _) | (intro _)
    | (with_reducible apply Works.setClaim_leads) | exact Works.Leads.claims _ _ (hp (by decide)) (by assumption)
    | (with_reducible apply ite_leads) | split

theorem Works.autoClaim_leads (s : ClaimSubject) (slot : Nat) (w : Works) (hp : [Part.claims] ⊆ ps)
    (h : Works.Leads ps w0 w) :
    Works.Leads ps w0 (Works.autoClaim s slot w) := by
  unfold Works.autoClaim
  try dsimp only
  repeat' first
    | (with_reducible assumption) | (exact sub_trans (by decide) hp) | (exact hp (by decide)) | (intro _ _ _) | (intro _ _) | (intro _)
    | (with_reducible apply Works.setClaim_leads) | (with_reducible apply ite_leads) | split

theorem Works.pumpRunOrder_leads (o : Order) (w : Works)
    (hp : [Part.dewater, Part.portals, Part.lights, Part.claims, Part.active, Part.line] ⊆ ps)
    (h : Works.Leads ps w0 w) :
    Works.Leads ps w0 (Works.pumpRunOrder o w) := by
  unfold Works.pumpRunOrder
  try dsimp only
  repeat' first
    | (with_reducible assumption) | (exact sub_trans (by decide) hp) | (exact hp (by decide)) | (intro _ _ _) | (intro _ _) | (intro _)
    | (with_reducible apply Works.hold_leads) | (with_reducible apply Order.finish_leads)
    | (with_reducible apply Works.updPump_leads) | (with_reducible apply Works.recount_leads)
    | (with_reducible apply Works.judgePumpOrders_leads) | (with_reducible apply Works.serve_leads)
    | (with_reducible apply Works.failTripped_leads) | (with_reducible apply Works.supersedePump_leads)
    | (with_reducible apply Works.orderClaim_leads) | (with_reducible apply ite_leads) | split

theorem Works.pumpStopOrder_leads (o : Order) (w : Works)
    (hp : [Part.dewater, Part.portals, Part.lights, Part.claims, Part.active, Part.line] ⊆ ps)
    (h : Works.Leads ps w0 w) :
    Works.Leads ps w0 (Works.pumpStopOrder o w) := by
  unfold Works.pumpStopOrder
  try dsimp only
  repeat' first
    | (with_reducible assumption) | (exact sub_trans (by decide) hp) | (exact hp (by decide)) | (intro _ _ _) | (intro _ _) | (intro _)
    | (with_reducible apply Works.hold_leads) | (with_reducible apply Order.finish_leads)
    | (with_reducible apply Works.updPump_leads) | (with_reducible apply Works.recount_leads)
    | (with_reducible apply Works.judgePumpOrders_leads) | (with_reducible apply Works.dismiss_leads)
    | (with_reducible apply Works.serve_leads) | (with_reducible apply Works.failTripped_leads)
    | (with_reducible apply Works.supersedePump_leads) | (with_reducible apply Works.orderClaim_leads)
    | (with_reducible apply ite_leads) | split

theorem Works.pumpAutoOrder_leads (o : Order) (w : Works)
    (hp : [Part.dewater, Part.portals, Part.lights, Part.claims, Part.active, Part.line] ⊆ ps)
    (h : Works.Leads ps w0 w) :
    Works.Leads ps w0 (Works.pumpAutoOrder o w) := by
  unfold Works.pumpAutoOrder
  try dsimp only
  repeat' first
    | (with_reducible assumption) | (exact sub_trans (by decide) hp) | (exact hp (by decide)) | (intro _ _ _) | (intro _ _) | (intro _)
    | (with_reducible apply Works.complete_leads) | (with_reducible refine Works.completeAll_leads _ _ _ ?_ ?_)
    | (with_reducible apply Order.finish_leads) | (with_reducible apply Works.updPump_leads)
    | (with_reducible apply Works.recount_leads) | (with_reducible apply Works.serve_leads)
    | (with_reducible apply Works.autoClaim_leads) | (with_reducible apply ite_leads) | split

theorem Works.pumpClearOrder_leads (o : Order) (w : Works)
    (hp : [Part.dewater, Part.portals, Part.lights, Part.active, Part.line] ⊆ ps) (h : Works.Leads ps w0 w) :
    Works.Leads ps w0 (Works.pumpClearOrder o w) := by
  unfold Works.pumpClearOrder
  try dsimp only
  repeat' first
    | (with_reducible assumption) | (exact sub_trans (by decide) hp) | (exact hp (by decide)) | (intro _ _ _) | (intro _ _) | (intro _)
    | (with_reducible apply Order.finish_leads) | (with_reducible apply Works.movePump_leads)
    | (with_reducible apply Works.dropPumpGrant_leads) | (with_reducible apply Works.haltPump_leads)
    | (with_reducible apply Works.serve_leads) | (with_reducible apply ite_leads) | split

theorem Works.pumpOut_leads (i : Nat) (p : Pump) (w : Works)
    (hp : [Part.dewater, Part.portals, Part.lights, Part.active, Part.line] ⊆ ps) (h : Works.Leads ps w0 w) :
    Works.Leads ps w0 (Works.pumpOut i p w) := by
  unfold Works.pumpOut
  try dsimp only
  repeat' first
    | (with_reducible assumption) | (exact sub_trans (by decide) hp) | (exact hp (by decide)) | (intro _ _ _) | (intro _ _) | (intro _)
    | (with_reducible apply Works.updPump_leads) | (with_reducible apply Works.movePump_leads)
    | (with_reducible apply Works.dropPumpGrant_leads) | (with_reducible apply Works.leaveList_leads)
    | (with_reducible apply Works.haltPump_leads) | (with_reducible apply Works.abandonStart_leads)
    | (with_reducible apply ite_leads) | split

theorem Works.pumpServiceOrder_leads (o : Order) (w : Works)
    (hp : [Part.dewater, Part.portals, Part.lights, Part.claims, Part.active, Part.line] ⊆ ps)
    (h : Works.Leads ps w0 w) :
    Works.Leads ps w0 (Works.pumpServiceOrder o w) := by
  unfold Works.pumpServiceOrder
  try dsimp only
  repeat' first
    | (with_reducible assumption) | (exact sub_trans (by decide) hp) | (exact hp (by decide)) | (intro _ _ _) | (intro _ _) | (intro _)
    | (with_reducible apply Works.hold_leads) | (with_reducible apply Order.finish_leads)
    | (with_reducible apply Works.updPump_leads) | (with_reducible apply Works.recount_leads)
    | (with_reducible apply Works.judgePumpOrders_leads) | (with_reducible apply Works.movePump_leads)
    | (with_reducible apply Works.serve_leads) | (with_reducible apply Works.failTripped_leads)
    | (with_reducible apply Works.supersedePump_leads) | (with_reducible apply Works.orderClaim_leads)
    | (with_reducible apply Works.pumpOut_leads) | (with_reducible apply ite_leads) | split

theorem Works.leadSetOrder_leads (o : Order) (w : Works) (hp : [Part.dewater, Part.active] ⊆ ps)
    (h : Works.Leads ps w0 w) :
    Works.Leads ps w0 (Works.leadSetOrder o w) := by
  unfold Works.leadSetOrder
  try dsimp only
  repeat' first
    | (with_reducible assumption) | (exact sub_trans (by decide) hp) | (exact hp (by decide)) | (intro _ _ _) | (intro _ _) | (intro _)
    | (with_reducible apply Order.finish_leads) | (with_reducible apply Works.setLead_leads)
    | (with_reducible apply Works.failTripped_leads) | (with_reducible apply ite_leads) | split

theorem Works.judgeZoneSet_leads (z : Nat) (w : Works) (hp : [Part.active] ⊆ ps) (h : Works.Leads ps w0 w) :
    Works.Leads ps w0 (Works.judgeZoneSet z w) := by
  unfold Works.judgeZoneSet
  try dsimp only
  repeat' first
    | (with_reducible assumption) | (exact sub_trans (by decide) hp) | (exact hp (by decide)) | (intro _ _ _) | (intro _ _) | (intro _)
    | (with_reducible apply Works.complete_leads) | (with_reducible refine Works.completeAll_leads _ _ _ ?_ ?_)
    | (with_reducible apply ite_leads) | split

theorem Works.judgeCurrent_leads (z : Nat) (w : Works) (hp : [Part.lights, Part.active] ⊆ ps)
    (h : Works.Leads ps w0 w) :
    Works.Leads ps w0 (Works.judgeCurrent z w) := by
  unfold Works.judgeCurrent
  try dsimp only
  repeat' first
    | (with_reducible assumption) | (exact sub_trans (by decide) hp) | (exact hp (by decide)) | (intro _ _ _) | (intro _ _) | (intro _)
    | (with_reducible apply Works.record_leads) | (with_reducible apply Works.updZone_leads)
    | (with_reducible apply Works.judgeZoneSet_leads) | (with_reducible apply ite_leads) | split

theorem Works.judgeRequest_leads (c : Nat) (w : Works)
    (hp : [Part.dewater, Part.portals, Part.lights, Part.line] ⊆ ps) (h : Works.Leads ps w0 w) :
    Works.Leads ps w0 (Works.judgeRequest c w) := by
  unfold Works.judgeRequest
  try dsimp only
  repeat' first
    | (with_reducible assumption) | (exact sub_trans (by decide) hp) | (exact hp (by decide)) | (intro _ _ _) | (intro _ _) | (intro _)
    | (with_reducible apply Works.send_leads) | (with_reducible apply Works.updCircuit_leads)
    | (with_reducible apply Works.request_leads) | (with_reducible apply ite_leads) | split
    | (refine pair_leads (by assumption) ?_)

theorem Works.queueSet_leads (c step : Nat) (w : Works)
    (hp : [Part.dewater, Part.portals, Part.lights, Part.line] ⊆ ps) (h : Works.Leads ps w0 w) :
    Works.Leads ps w0 (Works.queueSet c step w) := by
  unfold Works.queueSet
  try dsimp only
  repeat' first
    | (with_reducible assumption) | (exact sub_trans (by decide) hp) | (exact hp (by decide)) | (intro _ _ _) | (intro _ _) | (intro _)
    | (with_reducible apply Works.updCircuit_leads) | (with_reducible apply Works.request_leads)
    | (with_reducible apply ite_leads) | split | (refine pair_leads (by assumption) ?_)

theorem Works.judgeSet_leads (c : Nat) (w : Works) (hp : [Part.dewater, Part.portals, Part.lights, Part.line] ⊆ ps)
    (h : Works.Leads ps w0 w) :
    Works.Leads ps w0 (Works.judgeSet c w) := by
  unfold Works.judgeSet
  try dsimp only
  repeat' first
    | (with_reducible assumption) | (exact sub_trans (by decide) hp) | (exact hp (by decide)) | (intro _ _ _) | (intro _ _) | (intro _)
    | (with_reducible apply Works.queueSet_leads) | (with_reducible apply ite_leads) | split

theorem Works.judgeWanted_leads (c : Nat) (w : Works) (hp : [Part.dewater, Part.portals, Part.lights, Part.line] ⊆ ps)
    (h : Works.Leads ps w0 w) :
    Works.Leads ps w0 (Works.judgeWanted c w) := by
  unfold Works.judgeWanted
  try dsimp only
  repeat' first
    | (with_reducible assumption) | (exact sub_trans (by decide) hp) | (exact hp (by decide)) | (intro _ _ _) | (intro _ _) | (intro _)
    | (with_reducible apply Works.updCircuit_leads) | (with_reducible apply Works.judgeRequest_leads)
    | (with_reducible apply ite_leads) | split

theorem Works.endHold_leads (c : Nat) (w : Works) (hp : [Part.dewater, Part.portals, Part.lights, Part.line] ⊆ ps)
    (h : Works.Leads ps w0 w) :
    Works.Leads ps w0 (Works.endHold c w) := by
  unfold Works.endHold
  try dsimp only
  repeat' first
    | (with_reducible assumption) | (exact sub_trans (by decide) hp) | (exact hp (by decide)) | (intro _ _ _) | (intro _ _) | (intro _)
    | (with_reducible apply Works.updCircuit_leads) | (with_reducible apply Works.judgeSet_leads)
    | (with_reducible apply Works.judgeWanted_leads) | (with_reducible apply ite_leads) | split

theorem Works.judgeShrink_leads (c : Nat) (w : Works) (hp : [Part.dewater, Part.portals, Part.lights, Part.line] ⊆ ps)
    (h : Works.Leads ps w0 w) :
    Works.Leads ps w0 (Works.judgeShrink c w) := by
  unfold Works.judgeShrink
  try dsimp only
  repeat' first
    | (with_reducible assumption) | (exact sub_trans (by decide) hp) | (exact hp (by decide)) | (intro _ _ _) | (intro _ _) | (intro _)
    | (with_reducible apply Works.send_leads) | (with_reducible apply Works.updCircuit_leads)
    | (with_reducible apply Works.endHold_leads) | (with_reducible apply ite_leads) | split

theorem Works.judgeCircuit_leads (c : Nat) (w : Works)
    (hp : [Part.dewater, Part.portals, Part.lights, Part.line] ⊆ ps) (h : Works.Leads ps w0 w) :
    Works.Leads ps w0 (Works.judgeCircuit c w) := by
  unfold Works.judgeCircuit
  try dsimp only
  repeat' first
    | (with_reducible assumption) | (exact sub_trans (by decide) hp) | (exact hp (by decide)) | (intro _ _ _) | (intro _ _) | (intro _)
    | (with_reducible apply Works.judgeSet_leads) | (with_reducible apply Works.judgeWanted_leads)
    | (with_reducible apply Works.judgeShrink_leads) | (with_reducible apply ite_leads) | split

theorem Works.followTarget_leads (c : Nat) (w : Works)
    (hp : [Part.dewater, Part.portals, Part.lights, Part.line] ⊆ ps) (h : Works.Leads ps w0 w) :
    Works.Leads ps w0 (Works.followTarget c w) := by
  unfold Works.followTarget
  try dsimp only
  repeat' first
    | (with_reducible assumption) | (exact sub_trans (by decide) hp) | (exact hp (by decide)) | (intro _ _ _) | (intro _ _) | (intro _)
    | (with_reducible apply Works.judgeCircuit_leads) | (with_reducible apply ite_leads) | split

theorem Works.settleCircuit_leads (c : Nat) (w : Works)
    (hp : [Part.dewater, Part.portals, Part.lights, Part.line] ⊆ ps) (h : Works.Leads ps w0 w) :
    Works.Leads ps w0 (Works.settleCircuit c w) := by
  unfold Works.settleCircuit
  try dsimp only
  repeat' first
    | (with_reducible assumption) | (exact sub_trans (by decide) hp) | (exact hp (by decide)) | (intro _ _ _) | (intro _ _) | (intro _)
    | (with_reducible apply Works.judgeRequest_leads) | (with_reducible apply Works.judgeSet_leads)
    | (with_reducible apply Works.judgeWanted_leads) | (with_reducible apply Works.judgeShrink_leads)
    | (with_reducible apply ite_leads) | split

theorem Works.setTargets_leads (w : Works) (hp : [Part.lights] ⊆ ps) (h : Works.Leads ps w0 w) :
    Works.Leads ps w0 (Works.setTargets w) :=
  Works.Leads.lights _ _ (hp (by decide)) h

theorem Works.followCircuits_leads (settled : List Nat) (w : Works)
    (hp : [Part.dewater, Part.portals, Part.lights, Part.line] ⊆ ps) (h : Works.Leads ps w0 w) :
    Works.Leads ps w0 (Works.followCircuits settled w) := by
  unfold Works.followCircuits
  repeat' first
    | (with_reducible assumption) | (exact sub_trans (by decide) hp) | (exact hp (by decide)) | (intro _ _ _) | (intro _ _) | (intro _)
    | (with_reducible refine each_leads _ _ _ ?_ ?_)
    | (with_reducible apply Works.settleCircuit_leads) | (with_reducible apply Works.followTarget_leads)
    | (with_reducible apply ite_leads) | split

theorem Works.retarget_leads
    (w : Works) (hp : [Part.dewater, Part.portals, Part.lights, Part.active, Part.line] ⊆ ps) (h : Works.Leads ps w0 w) :
    Works.Leads ps w0 (Works.retarget w) := by
  unfold Works.retarget
  repeat' first
    | (with_reducible assumption) | (exact sub_trans (by decide) hp) | (exact hp (by decide)) | (intro _ _ _) | (intro _ _) | (intro _)
    | (with_reducible apply Works.judgeZoneSet_leads) | (with_reducible apply Works.followCircuits_leads)
    | (with_reducible apply Works.setTargets_leads) | (with_reducible refine each_leads _ _ _ ?_ ?_)

theorem Works.giveFloors_leads (z : Nat) (w : Works) (hp : [Part.budget] ⊆ ps) (h : Works.Leads ps w0 w) :
    Works.Leads ps w0 (Works.giveFloors z w) := by
  unfold Works.giveFloors
  try dsimp only
  repeat' first
    | (with_reducible assumption) | (exact sub_trans (by decide) hp) | (exact hp (by decide)) | (intro _ _ _) | (intro _ _) | (intro _)
    | (with_reducible apply Works.setFloor_leads) | (with_reducible refine each_leads _ _ _ ?_ ?_)
    | (with_reducible apply ite_leads) | split

theorem Works.judgeMode_leads (z : Nat) (w : Works) (hp : [Part.lights, Part.budget] ⊆ ps) (h : Works.Leads ps w0 w) :
    Works.Leads ps w0 (Works.judgeMode z w) := by
  unfold Works.judgeMode
  try dsimp only
  repeat' first
    | (with_reducible assumption) | (exact sub_trans (by decide) hp) | (exact hp (by decide)) | (intro _ _ _) | (intro _ _) | (intro _)
    | (with_reducible apply Works.record_leads) | (with_reducible apply Works.updZone_leads)
    | (with_reducible apply Works.giveFloors_leads) | (with_reducible apply ite_leads) | split

theorem Works.judgeModes_leads
    (w : Works) (hp : [Part.dewater, Part.portals, Part.lights, Part.active, Part.budget, Part.line] ⊆ ps) (h : Works.Leads ps w0 w) :
    Works.Leads ps w0 (Works.judgeModes w) := by
  unfold Works.judgeModes
  try dsimp only
  repeat' first
    | (with_reducible assumption) | (exact sub_trans (by decide) hp) | (exact hp (by decide)) | (intro _ _ _) | (intro _ _) | (intro _)
    | (with_reducible apply Works.retarget_leads) | (with_reducible apply Works.judgeMode_leads)
    | (with_reducible refine each_leads _ _ _ ?_ ?_) | (with_reducible apply ite_leads) | split

theorem Works.updChoices_leads (ch : Nat) (f : StepTable → StepChoice → StepChoice) (w : Works)
    (hp : [Part.lights] ⊆ ps) (h : Works.Leads ps w0 w) :
    Works.Leads ps w0 (Works.updChoices ch f w) := by
  unfold Works.updChoices
  try dsimp only
  repeat' first
    | (with_reducible assumption) | (exact sub_trans (by decide) hp) | (exact hp (by decide)) | (intro _ _ _) | (intro _ _) | (intro _)
    | exact Works.Leads.lights _ _ (hp (by decide)) (by assumption) | (with_reducible apply ite_leads) | split

theorem Works.setDay_leads (d : Day) (w : Works) (hp : [Part.lights] ⊆ ps) (h : Works.Leads ps w0 w) :
    Works.Leads ps w0 (Works.setDay d w) := by
  unfold Works.setDay
  try dsimp only
  repeat' first
    | (with_reducible assumption) | (exact sub_trans (by decide) hp) | (exact hp (by decide)) | (intro _ _ _) | (intro _ _) | (intro _)
    | exact Works.Leads.lights _ _ (hp (by decide)) (by assumption) | (with_reducible apply ite_leads) | split

theorem Works.judgeDecider_leads  (w : Works) (hp : [Part.lights] ⊆ ps) (h : Works.Leads ps w0 w) :
    Works.Leads ps w0 (Works.judgeDecider w) := by
  unfold Works.judgeDecider
  try dsimp only
  repeat' first
    | (with_reducible assumption) | (exact sub_trans (by decide) hp) | (exact hp (by decide)) | (intro _ _ _) | (intro _ _) | (intro _)
    | (with_reducible apply Works.setDay_leads) | (with_reducible apply ite_leads) | split

theorem Works.judgeDay_leads (ch v : Nat) (w : Works) (hp : [Part.lights] ⊆ ps) (h : Works.Leads ps w0 w) :
    Works.Leads ps w0 (Works.judgeDay ch v w) := by
  unfold Works.judgeDay
  try dsimp only
  repeat' first
    | (with_reducible assumption) | (exact sub_trans (by decide) hp) | (exact hp (by decide)) | (intro _ _ _) | (intro _ _) | (intro _)
    | (with_reducible apply Works.record_leads) | (with_reducible apply Works.setDay_leads)
    | (with_reducible apply ite_leads) | split

theorem Works.luminanceValidity_leads (ch : Nat) (valid : Bool) (w : Works)
    (hp : [Part.dewater, Part.portals, Part.lights, Part.active, Part.line] ⊆ ps) (h : Works.Leads ps w0 w) :
    Works.Leads ps w0 (Works.luminanceValidity ch valid w) := by
  unfold Works.luminanceValidity
  try dsimp only
  repeat' first
    | (with_reducible assumption) | (exact sub_trans (by decide) hp) | (exact hp (by decide)) | (intro _ _ _) | (intro _ _) | (intro _)
    | (with_reducible apply Works.retarget_leads) | (with_reducible apply Works.updChoices_leads)
    | (with_reducible apply Works.judgeDecider_leads) | (with_reducible apply ite_leads) | split

theorem Works.luminanceSample_leads (ch v : Nat) (w : Works)
    (hp : [Part.dewater, Part.portals, Part.lights, Part.active, Part.line] ⊆ ps) (h : Works.Leads ps w0 w) :
    Works.Leads ps w0 (Works.luminanceSample ch v w) := by
  unfold Works.luminanceSample
  try dsimp only
  repeat' first
    | (with_reducible assumption) | (exact sub_trans (by decide) hp) | (exact hp (by decide)) | (intro _ _ _) | (intro _ _) | (intro _)
    | (with_reducible apply Works.retarget_leads) | (with_reducible apply Works.updChoices_leads)
    | (with_reducible apply Works.judgeDay_leads) | (with_reducible apply ite_leads) | split

theorem Works.lampGranted_leads (c power : Nat) (w : Works)
    (hp : [Part.dewater, Part.portals, Part.lights, Part.line] ⊆ ps) (h : Works.Leads ps w0 w) :
    Works.Leads ps w0 (Works.lampGranted c power w) := by
  unfold Works.lampGranted
  try dsimp only
  repeat' first
    | (with_reducible assumption) | (exact sub_trans (by decide) hp) | (exact hp (by decide)) | (intro _ _ _) | (intro _ _) | (intro _)
    | (with_reducible apply Works.send_leads) | (with_reducible apply Works.updCircuit_leads)
    | (with_reducible apply Works.judgeSet_leads) | (with_reducible apply Works.judgeShrink_leads)
    | (with_reducible apply ite_leads) | split

theorem Works.dropLampGrant_leads (c : Nat) (w : Works)
    (hp : [Part.dewater, Part.portals, Part.lights, Part.line] ⊆ ps) (h : Works.Leads ps w0 w) :
    Works.Leads ps w0 (Works.dropLampGrant c w) := by
  unfold Works.dropLampGrant
  try dsimp only
  repeat' first
    | (with_reducible assumption) | (exact sub_trans (by decide) hp) | (exact hp (by decide)) | (intro _ _ _) | (intro _ _) | (intro _)
    | (with_reducible apply Works.send_leads) | (with_reducible apply Works.updCircuit_leads)
    | (with_reducible apply Works.request_leads) | (with_reducible apply ite_leads) | split
    | (refine pair_leads (by assumption) ?_)

theorem Works.markFault_leads (c : Nat) (f : LampFlag) (code : Nat) (w : Works)
    (hp : [Part.dewater, Part.portals, Part.lights, Part.line] ⊆ ps)
    (h : Works.Leads ps w0 w) :
    Works.Leads ps w0 (Works.markFault c f code w) := by
  unfold Works.markFault
  try dsimp only
  repeat' first
    | (with_reducible assumption) | (exact sub_trans (by decide) hp) | (exact hp (by decide)) | (intro _ _ _) | (intro _ _) | (intro _)
    | (with_reducible apply Works.record_leads)
    | (with_reducible apply Works.updCircuit_leads)
    | (with_reducible apply Works.updZone_leads)
    | (with_reducible apply Works.dropLampGrant_leads)
    | (with_reducible apply ite_leads) | split

theorem Works.faultCircuit_leads (c : Nat) (f : LampFlag) (code : Nat) (w : Works)
    (hp : [Part.dewater, Part.portals, Part.lights, Part.active, Part.line] ⊆ ps)
    (h : Works.Leads ps w0 w) :
    Works.Leads ps w0 (Works.faultCircuit c f code w) := by
  unfold Works.faultCircuit
  try dsimp only
  repeat' first
    | (with_reducible assumption) | (exact sub_trans (by decide) hp) | (exact hp (by decide)) | (intro _ _ _) | (intro _ _) | (intro _)
    | (with_reducible apply Works.judgeZoneSet_leads)
    | (with_reducible apply Works.judgeCurrent_leads)
    | (with_reducible apply Works.markFault_leads)
    | (with_reducible apply ite_leads) | split

theorem Works.clearFault_leads (c : Nat) (w : Works) (hp : [Part.lights] ⊆ ps) (h : Works.Leads ps w0 w) :
    Works.Leads ps w0 (Works.clearFault c w) := by
  unfold Works.clearFault
  try dsimp only
  repeat' first
    | (with_reducible assumption) | (exact sub_trans (by decide) hp) | (exact hp (by decide)) | (intro _ _ _) | (intro _ _) | (intro _)
    | (with_reducible apply Works.record_leads) | (with_reducible apply Works.updCircuit_leads)
    | (with_reducible apply Works.updZone_leads) | (with_reducible apply ite_leads) | split

theorem Works.healCircuit_leads (c : Nat) (w : Works)
    (hp : [Part.dewater, Part.portals, Part.lights, Part.active, Part.line] ⊆ ps) (h : Works.Leads ps w0 w) :
    Works.Leads ps w0 (Works.healCircuit c w) := by
  unfold Works.healCircuit
  try dsimp only
  repeat' first
    | (with_reducible assumption) | (exact sub_trans (by decide) hp) | (exact hp (by decide)) | (intro _ _ _) | (intro _ _) | (intro _)
    | (with_reducible apply Works.judgeZoneSet_leads) | (with_reducible apply Works.judgeCurrent_leads)
    | (with_reducible apply Works.settleCircuit_leads) | (with_reducible apply Works.clearFault_leads)
    | (with_reducible apply ite_leads) | split

theorem Works.judgeLampFault_leads (c : Nat) (active : Bool) (w : Works)
    (hp : [Part.dewater, Part.portals, Part.lights, Part.active, Part.line] ⊆ ps) (h : Works.Leads ps w0 w) :
    Works.Leads ps w0 (Works.judgeLampFault c active w) := by
  unfold Works.judgeLampFault
  try dsimp only
  repeat' first
    | (with_reducible assumption) | (exact sub_trans (by decide) hp) | (exact hp (by decide)) | (intro _ _ _) | (intro _ _) | (intro _)
    | (with_reducible apply Works.faultCircuit_leads) | (with_reducible apply Works.healCircuit_leads)
    | (with_reducible apply ite_leads) | split

theorem Works.setReported_leads (c : Nat) (step : Option Nat) (w : Works) (hp : [Part.lights, Part.active] ⊆ ps)
    (h : Works.Leads ps w0 w) :
    Works.Leads ps w0 (Works.setReported c step w) := by
  unfold Works.setReported
  try dsimp only
  repeat' first
    | (with_reducible assumption) | (exact sub_trans (by decide) hp) | (exact hp (by decide)) | (intro _ _ _) | (intro _ _) | (intro _)
    | (with_reducible apply Works.updCircuit_leads) | (with_reducible apply Works.judgeCurrent_leads)
    | (with_reducible apply ite_leads) | split

theorem Works.setEnded_leads (c step : Nat) (w : Works) (hp : [Part.lights] ⊆ ps) (h : Works.Leads ps w0 w) :
    Works.Leads ps w0 (Works.setEnded c step w) := by
  unfold Works.setEnded
  try dsimp only
  repeat' first
    | (with_reducible assumption) | (exact sub_trans (by decide) hp) | (exact hp (by decide)) | (intro _ _ _) | (intro _ _) | (intro _)
    | (with_reducible apply Works.updCircuit_leads) | (with_reducible apply ite_leads) | split

theorem Works.lampSetEnd_leads (c step : Nat) (f : Fate) (e : ReqEnd) (w : Works)
    (hp : [Part.dewater, Part.portals, Part.lights, Part.active, Part.line] ⊆ ps) (h : Works.Leads ps w0 w) :
    Works.Leads ps w0 (Works.lampSetEnd c step f e w) := by
  unfold Works.lampSetEnd
  try dsimp only
  repeat' first
    | (with_reducible assumption) | (exact sub_trans (by decide) hp) | (exact hp (by decide)) | (intro _ _ _) | (intro _ _) | (intro _)
    | (with_reducible apply Works.judgeSet_leads) | (with_reducible apply Works.judgeShrink_leads)
    | (with_reducible apply Works.faultCircuit_leads) | (with_reducible apply Works.setReported_leads)
    | (with_reducible apply Works.setEnded_leads) | (with_reducible apply ite_leads) | split

theorem Works.adoptCircuit_leads (c : Nat) (w : Works) (hp : [Part.lights] ⊆ ps) (h : Works.Leads ps w0 w) :
    Works.Leads ps w0 (Works.adoptCircuit c w) := by
  unfold Works.adoptCircuit
  try dsimp only
  repeat' first
    | (with_reducible assumption) | (exact sub_trans (by decide) hp) | (exact hp (by decide)) | (intro _ _ _) | (intro _ _) | (intro _)
    | (with_reducible apply Works.send_leads) | (with_reducible apply Works.updCircuit_leads)
    | (with_reducible apply ite_leads) | split

theorem Works.takeReport_leads (reports : List (Option Nat)) (c : Nat) (w : Works)
    (hp : [Part.lights] ⊆ ps)
    (h : Works.Leads ps w0 w) :
    Works.Leads ps w0 (Works.takeReport reports c w) := by
  unfold Works.takeReport
  try dsimp only
  repeat' first
    | (with_reducible assumption) | (exact sub_trans (by decide) hp) | (exact hp (by decide)) | (intro _ _ _) | (intro _ _) | (intro _)
    | (with_reducible apply Works.updCircuit_leads)
    | (with_reducible apply ite_leads) | split

theorem Works.panelReports_leads (reports : List (Option Nat)) (w : Works)
    (hp : [Part.lights] ⊆ ps)
    (h : Works.Leads ps w0 w) :
    Works.Leads ps w0 (Works.panelReports reports w) := by
  unfold Works.panelReports
  try dsimp only
  repeat' first
    | (with_reducible assumption) | (exact sub_trans (by decide) hp) | (exact hp (by decide)) | (intro _ _ _) | (intro _ _) | (intro _)
    | (with_reducible refine each_leads _ _ _ ?_ ?_)
    | (with_reducible apply Works.takeReport_leads)
    | (with_reducible apply ite_leads) | split

theorem Works.settleFault_leads (img : Option (List Byte)) (c : Nat) (w : Works)
    (hp : [Part.dewater, Part.portals, Part.lights, Part.line] ⊆ ps)
    (h : Works.Leads ps w0 w) :
    Works.Leads ps w0 (Works.settleFault img c w) := by
  unfold Works.settleFault
  try dsimp only
  repeat' first
    | (with_reducible assumption) | (exact sub_trans (by decide) hp) | (exact hp (by decide)) | (intro _ _ _) | (intro _ _) | (intro _)
    | (with_reducible apply Works.markFault_leads)
    | (with_reducible apply Works.clearFault_leads)
    | (with_reducible apply ite_leads) | split

theorem Works.lampItem_leads (img : List Byte) (c : Nat) (w : Works)
    (hp : [Part.dewater, Part.portals, Part.lights, Part.active, Part.line] ⊆ ps) (h : Works.Leads ps w0 w) :
    Works.Leads ps w0 (Works.lampItem img c w) := by
  unfold Works.lampItem
  try dsimp only
  repeat' first
    | (with_reducible assumption) | (exact sub_trans (by decide) hp) | (exact hp (by decide)) | (intro _ _ _) | (intro _ _) | (intro _)
    | (with_reducible apply Works.judgeSet_leads) | (with_reducible apply Works.judgeShrink_leads)
    | (with_reducible apply Works.judgeLampFault_leads) | (with_reducible apply Works.setReported_leads)
    | (with_reducible apply Works.adoptCircuit_leads) | (with_reducible apply ite_leads) | split

theorem Works.lampArrival_leads (u : Nat) (img : List Byte) (w : Works)
    (hp : [Part.dewater, Part.portals, Part.lights, Part.active, Part.line] ⊆ ps) (h : Works.Leads ps w0 w) :
    Works.Leads ps w0 (Works.lampArrival u img w) := by
  unfold Works.lampArrival
  try dsimp only
  repeat' first
    | (with_reducible assumption) | (exact sub_trans (by decide) hp) | (exact hp (by decide)) | (intro _ _ _) | (intro _ _) | (intro _)
    | (with_reducible apply Works.lampItem_leads) | (with_reducible refine each_leads _ _ _ ?_ ?_)
    | (with_reducible apply ite_leads) | split

theorem Works.lightingRetry_leads (u : Nat) (w : Works)
    (hp : [Part.dewater, Part.portals, Part.lights, Part.line] ⊆ ps) (h : Works.Leads ps w0 w) :
    Works.Leads ps w0 (Works.lightingRetry u w) := by
  unfold Works.lightingRetry
  try dsimp only
  repeat' first
    | (with_reducible assumption) | (exact sub_trans (by decide) hp) | (exact hp (by decide)) | (intro _ _ _) | (intro _ _) | (intro _)
    | (with_reducible apply Works.judgeSet_leads) | (with_reducible refine each_leads _ _ _ ?_ ?_)
    | (with_reducible apply ite_leads) | split

theorem Works.lampDark_leads (c : Nat) (w : Works)
    (hp : [Part.dewater, Part.portals, Part.lights, Part.active, Part.line] ⊆ ps) (h : Works.Leads ps w0 w) :
    Works.Leads ps w0 (Works.lampDark c w) := by
  unfold Works.lampDark
  try dsimp only
  repeat' first
    | (with_reducible assumption) | (exact sub_trans (by decide) hp) | (exact hp (by decide)) | (intro _ _ _) | (intro _ _) | (intro _)
    | (with_reducible apply Works.updCircuit_leads) | (with_reducible apply Works.queueSet_leads)
    | (with_reducible apply Works.setReported_leads) | (with_reducible apply ite_leads) | split

theorem Works.lampOutage_leads (c : Nat) (w : Works)
    (hp : [Part.dewater, Part.portals, Part.lights, Part.active, Part.line] ⊆ ps) (h : Works.Leads ps w0 w) :
    Works.Leads ps w0 (Works.lampOutage c w).2 := by
  unfold Works.lampOutage
  try dsimp only
  repeat' first
    | (with_reducible assumption) | (exact sub_trans (by decide) hp) | (exact hp (by decide)) | (intro _ _ _) | (intro _ _) | (intro _)
    | (with_reducible apply Works.updCircuit_leads) | (with_reducible apply Works.lampDark_leads)
    | (with_reducible apply ite_leads) | split

theorem Works.lampOutageQueued_leads (c : Nat) (w : Works)
    (hp : [Part.dewater, Part.portals, Part.lights, Part.active, Part.line] ⊆ ps) (h : Works.Leads ps w0 w) :
    Works.Leads ps w0 (Works.lampOutageQueued c w) := by
  unfold Works.lampOutageQueued
  try dsimp only
  repeat' first
    | (with_reducible assumption) | (exact sub_trans (by decide) hp) | (exact hp (by decide)) | (intro _ _ _) | (intro _ _) | (intro _)
    | (with_reducible apply Works.judgeWanted_leads) | (with_reducible apply Works.lampDark_leads)
    | (with_reducible apply ite_leads) | split

theorem Works.lampShed_leads (c : Nat) (w : Works) (hp : [Part.dewater, Part.portals, Part.lights, Part.line] ⊆ ps)
    (h : Works.Leads ps w0 w) :
    Works.Leads ps w0 (Works.lampShed c w) := by
  unfold Works.lampShed
  try dsimp only
  repeat' first
    | (with_reducible assumption) | (exact sub_trans (by decide) hp) | (exact hp (by decide)) | (intro _ _ _) | (intro _ _) | (intro _)
    | (with_reducible apply Works.send_leads) | (with_reducible apply Works.updCircuit_leads)
    | (with_reducible apply Works.endHold_leads) | (with_reducible apply Works.settleCircuit_leads)
    | (with_reducible apply ite_leads) | split

theorem Works.uncommandCircuit_leads (v : ClaimValue) (c : Nat) (w : Works)
    (hp : [Part.dewater, Part.portals, Part.lights, Part.line] ⊆ ps) (h : Works.Leads ps w0 w) :
    Works.Leads ps w0 (Works.uncommandCircuit v c w) := by
  unfold Works.uncommandCircuit
  try dsimp only
  repeat' first
    | (with_reducible assumption) | (exact sub_trans (by decide) hp) | (exact hp (by decide)) | (intro _ _ _) | (intro _ _) | (intro _)
    | (with_reducible apply Works.send_leads) | (with_reducible apply Works.updCircuit_leads)
    | (with_reducible apply Works.request_leads) | (with_reducible apply Works.giveUp_leads)
    | (with_reducible apply ite_leads) | split | (refine pair_leads (by assumption) ?_)

theorem Works.uncommandZone_leads (z : Nat) (v : ClaimValue) (w : Works)
    (hp : [Part.dewater, Part.portals, Part.lights, Part.active, Part.line] ⊆ ps)
    (h : Works.Leads ps w0 w) :
    Works.Leads ps w0 (Works.uncommandZone z v w) := by
  unfold Works.uncommandZone
  try dsimp only
  repeat' first
    | (with_reducible assumption) | (exact sub_trans (by decide) hp) | (exact hp (by decide)) | (intro _ _ _) | (intro _ _) | (intro _)
    | (with_reducible refine each_leads _ _ _ ?_ ?_)
    | (with_reducible apply Works.complete_leads) | (with_reducible refine Works.completeAll_leads _ _ _ ?_ ?_)
    | (with_reducible apply Works.updZone_leads)
    | (with_reducible apply Works.judgeCurrent_leads)
    | (with_reducible apply Works.uncommandCircuit_leads)
    | (with_reducible apply ite_leads) | split

theorem Works.settleZone_leads (reports : List (Option Nat)) (img : Option (List Byte)) (z : Nat) (w : Works)
    (hp : [Part.dewater, Part.portals, Part.lights, Part.active, Part.line] ⊆ ps)
    (h : Works.Leads ps w0 w) :
    Works.Leads ps w0 (Works.settleZone reports img z w) := by
  unfold Works.settleZone
  try dsimp only
  repeat' first
    | (with_reducible assumption) | (exact sub_trans (by decide) hp) | (exact hp (by decide)) | (intro _ _ _) | (intro _ _) | (intro _)
    | (with_reducible refine each_leads _ _ _ ?_ ?_)
    | (with_reducible apply Works.judgeCurrent_leads)
    | (with_reducible apply Works.adoptCircuit_leads)
    | (with_reducible apply Works.takeReport_leads)
    | (with_reducible apply Works.settleFault_leads)
    | (with_reducible apply ite_leads) | split

theorem Works.zoneSetOrder_leads (o : Order) (w : Works)
    (hp : [Part.dewater, Part.portals, Part.lights, Part.claims, Part.active, Part.line] ⊆ ps)
    (h : Works.Leads ps w0 w) :
    Works.Leads ps w0 (Works.zoneSetOrder o w) := by
  unfold Works.zoneSetOrder
  try dsimp only
  repeat' first
    | (with_reducible assumption) | (exact sub_trans (by decide) hp) | (exact hp (by decide)) | (intro _ _ _) | (intro _ _) | (intro _)
    | (with_reducible apply Works.complete_leads) | (with_reducible refine Works.completeAll_leads _ _ _ ?_ ?_)
    | (with_reducible apply Works.hold_leads) | (with_reducible apply Order.finish_leads)
    | (with_reducible apply Works.updZone_leads) | (with_reducible apply Works.orderClaim_leads)
    | (with_reducible apply Works.judgeZoneSet_leads) | (with_reducible apply Works.retarget_leads)
    | (with_reducible apply ite_leads) | split

theorem Works.zoneAutoOrder_leads (o : Order) (w : Works)
    (hp : [Part.dewater, Part.portals, Part.lights, Part.claims, Part.active, Part.line] ⊆ ps)
    (h : Works.Leads ps w0 w) :
    Works.Leads ps w0 (Works.zoneAutoOrder o w) := by
  unfold Works.zoneAutoOrder
  try dsimp only
  repeat' first
    | (with_reducible assumption) | (exact sub_trans (by decide) hp) | (exact hp (by decide)) | (intro _ _ _) | (intro _ _) | (intro _)
    | (with_reducible apply Works.complete_leads) | (with_reducible refine Works.completeAll_leads _ _ _ ?_ ?_)
    | (with_reducible apply Order.finish_leads) | (with_reducible apply Works.updZone_leads)
    | (with_reducible apply Works.autoClaim_leads) | (with_reducible apply Works.retarget_leads)
    | (with_reducible apply ite_leads) | split

theorem Works.updPortal_leads (n : Nat) (f : Portal → Portal) (w : Works) (hp : [Part.portals] ⊆ ps)
    (h : Works.Leads ps w0 w) :
    Works.Leads ps w0 (Works.updPortal n f w) := by
  unfold Works.updPortal
  try dsimp only
  repeat' first
    | (with_reducible assumption) | (exact sub_trans (by decide) hp) | (exact hp (by decide)) | (intro _ _ _) | (intro _ _) | (intro _)
    | (with_reducible apply Works.setPortal_leads) | (with_reducible apply ite_leads) | split

theorem Works.updSignals_leads (n : Nat) (f : Signals → Signals) (w : Works) (hp : [Part.portals] ⊆ ps)
    (h : Works.Leads ps w0 w) :
    Works.Leads ps w0 (Works.updSignals n f w) := by
  unfold Works.updSignals
  try dsimp only
  repeat' first
    | (with_reducible assumption) | (exact sub_trans (by decide) hp) | (exact hp (by decide)) | (intro _ _ _) | (intro _ _) | (intro _)
    | (with_reducible apply Works.updPortal_leads) | (with_reducible apply ite_leads) | split

theorem Works.updBarrier_leads (n : Nat) (f : Barrier → Barrier) (w : Works) (hp : [Part.portals] ⊆ ps)
    (h : Works.Leads ps w0 w) :
    Works.Leads ps w0 (Works.updBarrier n f w) := by
  unfold Works.updBarrier
  try dsimp only
  repeat' first
    | (with_reducible assumption) | (exact sub_trans (by decide) hp) | (exact hp (by decide)) | (intro _ _ _) | (intro _ _) | (intro _)
    | (with_reducible apply Works.updPortal_leads) | (with_reducible apply ite_leads) | split

theorem Works.updGate_leads (n : Nat) (f : Gate → Gate) (w : Works) (hp : [Part.portals] ⊆ ps)
    (h : Works.Leads ps w0 w) :
    Works.Leads ps w0 (Works.updGate n f w) := by
  unfold Works.updGate
  try dsimp only
  repeat' first
    | (with_reducible assumption) | (exact sub_trans (by decide) hp) | (exact hp (by decide)) | (intro _ _ _) | (intro _ _) | (intro _)
    | (with_reducible apply Works.updPortal_leads) | (with_reducible apply ite_leads) | split

theorem Works.setInterior_leads (i : Interior) (w : Works) (hp : [Part.portals] ⊆ ps) (h : Works.Leads ps w0 w) :
    Works.Leads ps w0 (Works.setInterior i w) := by
  unfold Works.setInterior
  try dsimp only
  repeat' first
    | (with_reducible assumption) | (exact sub_trans (by decide) hp) | (exact hp (by decide)) | (intro _ _ _) | (intro _ _) | (intro _)
    | exact Works.Leads.portals _ _ (hp (by decide)) (by assumption) | (with_reducible apply ite_leads) | split

theorem Works.portalFault_leads (n kind code : Nat) (w : Works) (h : Works.Leads ps w0 w) :
    Works.Leads ps w0 (Works.portalFault n kind code w) := by
  unfold Works.portalFault
  try dsimp only
  repeat' first
    | (with_reducible assumption) | (exact sub_trans (by decide) hp) | (exact hp (by decide)) | (intro _ _ _) | (intro _ _) | (intro _)
    | (with_reducible apply Works.record_leads) | (with_reducible apply ite_leads) | split

theorem Works.setGate_leads (n : Nat) (s : GateState) (w : Works) (hp : [Part.portals] ⊆ ps) (h : Works.Leads ps w0 w)
    :
    Works.Leads ps w0 (Works.setGate n s w) := by
  unfold Works.setGate
  try dsimp only
  repeat' first
    | (with_reducible assumption) | (exact sub_trans (by decide) hp) | (exact hp (by decide)) | (intro _ _ _) | (intro _ _) | (intro _)
    | (with_reducible apply Works.record_leads) | (with_reducible apply Works.updGate_leads)
    | (with_reducible apply ite_leads) | split

theorem Works.setBarrier_leads (n : Nat) (s : BarrierState) (w : Works) (hp : [Part.portals] ⊆ ps)
    (h : Works.Leads ps w0 w) :
    Works.Leads ps w0 (Works.setBarrier n s w) := by
  unfold Works.setBarrier
  try dsimp only
  repeat' first
    | (with_reducible assumption) | (exact sub_trans (by decide) hp) | (exact hp (by decide)) | (intro _ _ _) | (intro _ _) | (intro _)
    | (with_reducible apply Works.record_leads) | (with_reducible apply Works.updBarrier_leads)
    | (with_reducible apply ite_leads) | split

theorem Works.judgeClearDwell_leads  (w : Works) (hp : [Part.portals] ⊆ ps) (h : Works.Leads ps w0 w) :
    Works.Leads ps w0 (Works.judgeClearDwell w) := by
  unfold Works.judgeClearDwell
  try dsimp only
  repeat' first
    | (with_reducible assumption) | (exact sub_trans (by decide) hp) | (exact hp (by decide)) | (intro _ _ _) | (intro _ _) | (intro _)
    | (with_reducible apply Works.setInterior_leads) | (with_reducible apply ite_leads) | split

theorem Works.setClear_leads (b : Bool) (cause : Nat) (w : Works) (hp : [Part.portals] ⊆ ps) (h : Works.Leads ps w0 w)
    :
    Works.Leads ps w0 (Works.setClear b cause w) := by
  unfold Works.setClear
  try dsimp only
  repeat' first
    | (with_reducible assumption) | (exact sub_trans (by decide) hp) | (exact hp (by decide)) | (intro _ _ _) | (intro _ _) | (intro _)
    | (with_reducible apply Works.record_leads) | (with_reducible apply Works.setInterior_leads)
    | (with_reducible apply ite_leads) | split

theorem Works.openEpisode_leads (old new : Closure) (w : Works) (hp : [Part.portals] ⊆ ps) (h : Works.Leads ps w0 w) :
    Works.Leads ps w0 (Works.openEpisode old new w) := by
  unfold Works.openEpisode
  try dsimp only
  repeat' first
    | (with_reducible assumption) | (exact sub_trans (by decide) hp) | (exact hp (by decide)) | (intro _ _ _) | (intro _ _) | (intro _)
    | (with_reducible apply Works.setInterior_leads) | (with_reducible apply Works.judgeClearDwell_leads)
    | (with_reducible apply ite_leads) | split

theorem Works.closeEpisode_leads  (w : Works) (hp : [Part.portals] ⊆ ps) (h : Works.Leads ps w0 w) :
    Works.Leads ps w0 (Works.closeEpisode w) := by
  unfold Works.closeEpisode
  try dsimp only
  repeat' first
    | (with_reducible assumption) | (exact sub_trans (by decide) hp) | (exact hp (by decide)) | (intro _ _ _) | (intro _ _) | (intro _)
    | (with_reducible apply Works.setInterior_leads) | (with_reducible apply Works.setClear_leads)
    | (with_reducible apply ite_leads) | split

theorem Works.endReopen_leads (n status detail second : Nat) (results : List Nat) (w : Works)
    (hp : [Part.active] ⊆ ps) (h : Works.Leads ps w0 w) :
    Works.Leads ps w0 (Works.endReopen n status detail second results w) := by
  unfold Works.endReopen
  try dsimp only
  repeat' first
    | (with_reducible assumption) | (exact sub_trans (by decide) hp) | (exact hp (by decide)) | (intro _ _ _) | (intro _ _) | (intro _)
    | (with_reducible apply Works.complete_leads) | (with_reducible refine Works.completeAll_leads _ _ _ ?_ ?_)
    | (with_reducible apply ite_leads) | split

theorem Works.setView_leads (n : Nat) (v : View) (w : Works) (hp : [Part.water] ⊆ ps) (h : Works.Leads ps w0 w) :
    Works.Leads ps w0 (Works.setView n v w) := by
  unfold Works.setView
  try dsimp only
  repeat' first
    | (with_reducible assumption) | (exact sub_trans (by decide) hp) | (exact hp (by decide)) | (intro _ _ _) | (intro _ _) | (intro _)
    | exact Works.Leads.water _ _ (hp (by decide)) (by first | exact .inl rfl | exact .inr (hp (by decide))) (by assumption)
    | (with_reducible apply ite_leads) | split

theorem Works.reportView_leads (n : Nat) (old new : Closure) (reopening : Bool) (w : Works)
    (hp : [Part.reports, Part.water] ⊆ ps) (h : Works.Leads ps w0 w) : Works.Leads ps w0 (w.reportView n old new reopening) := by
  unfold Works.reportView
  split
  · exact h
  · exact .reports _ _ (hp (by decide)) (Works.setView_leads _ _ _ (sub_trans (by decide) hp) h)

theorem Works.attemptsBefore_leads (n : Nat) (c : Closure) (w : Works)
    (hp : [Part.portals] ⊆ ps)
    (h : Works.Leads ps w0 w) :
    Works.Leads ps w0 (Works.attemptsBefore n c w) := by
  unfold Works.attemptsBefore
  try dsimp only
  repeat' first
    | (with_reducible assumption) | (exact sub_trans (by decide) hp) | (exact hp (by decide)) | (intro _ _ _) | (intro _ _) | (intro _)
    | (with_reducible apply Works.updGate_leads)
    | (with_reducible apply ite_leads) | split

theorem Works.changeClosure_leads (n : Nat) (c : Closure) (w : Works)
    (hp : [Part.dewater, Part.portals, Part.lights, Part.active, Part.reports, Part.water, Part.line] ⊆ ps)
    (h : Works.Leads ps w0 w) :
    Works.Leads ps w0 (Works.changeClosure n c w) := by
  unfold Works.changeClosure
  try dsimp only
  repeat' first
    | (with_reducible assumption) | (exact sub_trans (by decide) hp) | (exact hp (by decide)) | (intro _ _ _) | (intro _ _) | (intro _)
    | (with_reducible apply Works.record_leads)
    | (with_reducible apply Works.updPortal_leads)
    | (with_reducible apply Works.openEpisode_leads)
    | (with_reducible apply Works.closeEpisode_leads)
    | (with_reducible apply Works.endReopen_leads)
    | (with_reducible apply Works.reportView_leads)
    | (with_reducible apply Works.attemptsBefore_leads)
    | (with_reducible apply Works.stall_leads)
    | (with_reducible apply ite_leads) | split

theorem Works.setAspect_leads (n : Nat) (a : Aspect) (w : Works)
    (hp : [Part.dewater, Part.portals, Part.lights, Part.line] ⊆ ps) (h : Works.Leads ps w0 w) :
    Works.Leads ps w0 (Works.setAspect n a w) := by
  unfold Works.setAspect
  try dsimp only
  repeat' first
    | (with_reducible assumption) | (exact sub_trans (by decide) hp) | (exact hp (by decide)) | (intro _ _ _) | (intro _ _) | (intro _)
    | (with_reducible apply Works.request_leads) | (with_reducible apply Works.updSignals_leads)
    | (with_reducible apply ite_leads) | split | (refine pair_leads (by assumption) ?_)

theorem Works.haltBarrier_leads (n : Nat) (w : Works) (hp : [Part.dewater, Part.portals, Part.lights, Part.line] ⊆ ps)
    (h : Works.Leads ps w0 w) :
    Works.Leads ps w0 (Works.haltBarrier n w) := by
  unfold Works.haltBarrier
  try dsimp only
  repeat' first
    | (with_reducible assumption) | (exact sub_trans (by decide) hp) | (exact hp (by decide)) | (intro _ _ _) | (intro _ _) | (intro _)
    | (with_reducible apply Works.request_leads) | (with_reducible apply Works.updBarrier_leads)
    | (with_reducible apply ite_leads) | split | (refine pair_leads (by assumption) ?_)

theorem Works.haltGate_leads (n : Nat) (stop : Bool) (w : Works)
    (hp : [Part.dewater, Part.portals, Part.lights, Part.line] ⊆ ps) (h : Works.Leads ps w0 w) :
    Works.Leads ps w0 (Works.haltGate n stop w) := by
  unfold Works.haltGate
  try dsimp only
  repeat' first
    | (with_reducible assumption) | (exact sub_trans (by decide) hp) | (exact hp (by decide)) | (intro _ _ _) | (intro _ _) | (intro _)
    | (with_reducible apply Works.request_leads) | (with_reducible apply Works.updGate_leads)
    | (with_reducible apply ite_leads) | split | (refine pair_leads (by assumption) ?_)

theorem Works.queueBarrier_leads (n : Nat) (m : Motion) (w : Works)
    (hp : [Part.dewater, Part.portals, Part.lights, Part.line] ⊆ ps) (h : Works.Leads ps w0 w) :
    Works.Leads ps w0 (Works.queueBarrier n m w) := by
  unfold Works.queueBarrier
  try dsimp only
  repeat' first
    | (with_reducible assumption) | (exact sub_trans (by decide) hp) | (exact hp (by decide)) | (intro _ _ _) | (intro _ _) | (intro _)
    | (with_reducible apply Works.request_leads) | (with_reducible apply Works.updBarrier_leads)
    | (with_reducible apply ite_leads) | split | (refine pair_leads (by assumption) ?_)

theorem Works.queueGate_leads (n : Nat) (m : Motion) (w : Works)
    (hp : [Part.dewater, Part.portals, Part.lights, Part.line] ⊆ ps) (h : Works.Leads ps w0 w) :
    Works.Leads ps w0 (Works.queueGate n m w) := by
  unfold Works.queueGate
  try dsimp only
  repeat' first
    | (with_reducible assumption) | (exact sub_trans (by decide) hp) | (exact hp (by decide)) | (intro _ _ _) | (intro _ _) | (intro _)
    | (with_reducible apply Works.request_leads) | (with_reducible apply Works.updGate_leads)
    | (with_reducible apply ite_leads) | split | (refine pair_leads (by assumption) ?_)

theorem Works.dropGateGrant_leads (n : Nat) (w : Works) (hp : [Part.portals] ⊆ ps) (h : Works.Leads ps w0 w) :
    Works.Leads ps w0 (Works.dropGateGrant n w) := by
  unfold Works.dropGateGrant
  try dsimp only
  repeat' first
    | (with_reducible assumption) | (exact sub_trans (by decide) hp) | (exact hp (by decide)) | (intro _ _ _) | (intro _ _) | (intro _)
    | (with_reducible apply Works.send_leads) | (with_reducible apply Works.updGate_leads)
    | (with_reducible apply ite_leads) | split

theorem Works.requestGate_leads (n : Nat) (w : Works) (hp : [Part.portals] ⊆ ps) (h : Works.Leads ps w0 w) :
    Works.Leads ps w0 (Works.requestGate n w) := by
  unfold Works.requestGate
  try dsimp only
  repeat' first
    | (with_reducible assumption) | (exact sub_trans (by decide) hp) | (exact hp (by decide)) | (intro _ _ _) | (intro _ _) | (intro _)
    | (with_reducible apply Works.send_leads) | (with_reducible apply Works.updGate_leads)
    | (with_reducible apply ite_leads) | split

theorem Works.haltMoving_leads (n : Nat) (m : Motion) (w : Works)
    (hp : [Part.dewater, Part.portals, Part.lights, Part.line] ⊆ ps)
    (h : Works.Leads ps w0 w) :
    Works.Leads ps w0 (Works.haltMoving n m w) := by
  unfold Works.haltMoving
  try dsimp only
  repeat' first
    | (with_reducible assumption) | (exact sub_trans (by decide) hp) | (exact hp (by decide)) | (intro _ _ _) | (intro _ _) | (intro _)
    | (with_reducible apply Works.haltBarrier_leads)
    | (with_reducible apply ite_leads) | split

theorem Works.dropBarrierPair_leads (n : Nat) (w : Works)
    (hp : [Part.portals, Part.line] ⊆ ps)
    (h : Works.Leads ps w0 w) :
    Works.Leads ps w0 (Works.dropBarrierPair n w) := by
  unfold Works.dropBarrierPair
  try dsimp only
  repeat' first
    | (with_reducible assumption) | (exact sub_trans (by decide) hp) | (exact hp (by decide)) | (intro _ _ _) | (intro _ _) | (intro _)
    | (with_reducible apply Works.giveUp_leads)
    | (with_reducible apply Works.updBarrier_leads)
    | (with_reducible apply ite_leads) | split

theorem Works.abandonBarrier_leads (n : Nat) (m : Motion) (w : Works)
    (hp : [Part.dewater, Part.portals, Part.lights, Part.line] ⊆ ps)
    (h : Works.Leads ps w0 w) :
    Works.Leads ps w0 (Works.abandonBarrier n m w) := by
  unfold Works.abandonBarrier
  try dsimp only
  repeat' first
    | (with_reducible assumption) | (exact sub_trans (by decide) hp) | (exact hp (by decide)) | (intro _ _ _) | (intro _ _) | (intro _)
    | (with_reducible apply Works.haltMoving_leads)
    | (with_reducible apply Works.dropBarrierPair_leads)
    | (with_reducible apply ite_leads) | split

theorem Works.moveBarrier_leads (n : Nat) (m : Motion) (w : Works)
    (hp : [Part.dewater, Part.portals, Part.lights, Part.line] ⊆ ps)
    (h : Works.Leads ps w0 w) :
    Works.Leads ps w0 (Works.moveBarrier n m w) := by
  unfold Works.moveBarrier
  try dsimp only
  repeat' first
    | (with_reducible assumption) | (exact sub_trans (by decide) hp) | (exact hp (by decide)) | (intro _ _ _) | (intro _ _) | (intro _)
    | (with_reducible apply Works.queueBarrier_leads)
    | (with_reducible apply Works.abandonBarrier_leads)
    | (with_reducible apply ite_leads) | split

theorem Works.clearStop_leads (n : Nat) (w : Works) (hp : [Part.portals] ⊆ ps) (h : Works.Leads ps w0 w) :
    Works.Leads ps w0 (Works.clearStop n w) := by
  unfold Works.clearStop
  try dsimp only
  repeat' first
    | (with_reducible assumption) | (exact sub_trans (by decide) hp) | (exact hp (by decide)) | (intro _ _ _) | (intro _ _) | (intro _)
    | (with_reducible apply Works.updGate_leads) | (with_reducible apply ite_leads) | split

theorem Works.beginStop_leads (n : Nat) (w : Works) (hp : [Part.dewater, Part.portals, Part.lights, Part.line] ⊆ ps)
    (h : Works.Leads ps w0 w) :
    Works.Leads ps w0 (Works.beginStop n w) := by
  unfold Works.beginStop
  try dsimp only
  repeat' first
    | (with_reducible assumption) | (exact sub_trans (by decide) hp) | (exact hp (by decide)) | (intro _ _ _) | (intro _ _) | (intro _)
    | (with_reducible apply Works.giveUp_leads) | (with_reducible apply Works.updGate_leads)
    | (with_reducible apply Works.haltGate_leads) | (with_reducible apply Works.dropGateGrant_leads)
    | (with_reducible apply ite_leads) | split

theorem Works.stopGate_leads (n : Nat) (w : Works) (hp : [Part.dewater, Part.portals, Part.lights, Part.line] ⊆ ps)
    (h : Works.Leads ps w0 w) :
    Works.Leads ps w0 (Works.stopGate n w) := by
  unfold Works.stopGate
  try dsimp only
  repeat' first
    | (with_reducible assumption) | (exact sub_trans (by decide) hp) | (exact hp (by decide)) | (intro _ _ _) | (intro _ _) | (intro _)
    | (with_reducible apply Works.giveUp_leads) | (with_reducible apply Works.updGate_leads)
    | (with_reducible apply Works.dropGateGrant_leads) | (with_reducible apply Works.clearStop_leads)
    | (with_reducible apply Works.beginStop_leads) | (with_reducible apply ite_leads) | split

theorem Works.barringGo_leads (n : Nat) (w : Works) (hp : [Part.dewater, Part.portals, Part.lights, Part.line] ⊆ ps)
    (h : Works.Leads ps w0 w) :
    Works.Leads ps w0 (Works.barringGo n w).2 := by
  unfold Works.barringGo
  try dsimp only
  repeat' first
    | (with_reducible assumption) | (exact sub_trans (by decide) hp) | (exact hp (by decide)) | (intro _ _ _) | (intro _ _) | (intro _)
    | (with_reducible apply Works.moveBarrier_leads) | (with_reducible apply ite_leads) | split

theorem Works.workStep_leads (n : Nat) (w : Works) (hp : [Part.dewater, Part.portals, Part.lights, Part.line] ⊆ ps)
    (h : Works.Leads ps w0 w) :
    Works.Leads ps w0 (Works.workStep n w).2 := by
  unfold Works.workStep
  try dsimp only
  repeat' first
    | (with_reducible assumption) | (exact sub_trans (by decide) hp) | (exact hp (by decide)) | (intro _ _ _) | (intro _ _) | (intro _)
    | (with_reducible apply Works.clearFault_leads) | (with_reducible apply Works.updPortal_leads)
    | (with_reducible apply Works.updGate_leads) | (with_reducible apply Works.portalFault_leads)
    | (with_reducible apply Works.setAspect_leads) | (with_reducible apply Works.moveBarrier_leads)
    | (with_reducible apply Works.dropGateGrant_leads) | (with_reducible apply Works.requestGate_leads)
    | (with_reducible apply Works.stopGate_leads) | (with_reducible apply Works.barringGo_leads)
    | (with_reducible apply ite_leads) | split | (refine pair_leads (by assumption) ?_)

theorem workLoop_leads (n : Nat) (k : Nat) (w : Works)
    (hp : [Part.dewater, Part.portals, Part.lights, Part.active, Part.reports, Part.water, Part.line] ⊆ ps)
    (h : Works.Leads ps w0 w) :
    Works.Leads ps w0 (workLoop n k w) := by
  induction k generalizing w with
  | zero => exact h
  | succ k ih =>
    unfold workLoop
    try dsimp only
    repeat' first
      | (with_reducible assumption) | (with_reducible apply ih) | (exact sub_trans (by decide) hp) | (exact hp (by decide))
      | (intro _ _ _) | (intro _ _) | (intro _) | (with_reducible apply Works.changeClosure_leads)
      | (with_reducible apply Works.workStep_leads) | (with_reducible apply ite_leads) | split
      | (refine pair_leads (by assumption) ?_)

theorem Works.work_leads (n : Nat) (w : Works)
    (hp : [Part.dewater, Part.portals, Part.lights, Part.active, Part.reports, Part.water, Part.line] ⊆ ps)
    (h : Works.Leads ps w0 w) :
    Works.Leads ps w0 (Works.work n w) := by
  unfold Works.work
  try dsimp only
  repeat' first
    | (with_reducible assumption) | (exact sub_trans (by decide) hp) | (exact hp (by decide)) | (intro _ _ _) | (intro _ _) | (intro _)
    | (with_reducible apply workLoop_leads) | (with_reducible apply ite_leads) | split

theorem Works.enter_leads (n : Nat) (c : Closure) (w : Works)
    (hp : [Part.dewater, Part.portals, Part.lights, Part.active, Part.reports, Part.water, Part.line] ⊆ ps)
    (h : Works.Leads ps w0 w) :
    Works.Leads ps w0 (Works.enter n c w) := by
  unfold Works.enter
  try dsimp only
  repeat' first
    | (with_reducible assumption) | (exact sub_trans (by decide) hp) | (exact hp (by decide)) | (intro _ _ _) | (intro _ _) | (intro _)
    | (with_reducible apply Works.changeClosure_leads) | (with_reducible apply Works.work_leads)
    | (with_reducible apply ite_leads) | split

theorem Works.endStop_leads (n : Nat) (w : Works)
    (hp : [Part.dewater, Part.portals, Part.lights, Part.active, Part.reports, Part.water, Part.line] ⊆ ps)
    (h : Works.Leads ps w0 w) :
    Works.Leads ps w0 (Works.endStop n w) := by
  unfold Works.endStop
  try dsimp only
  repeat' first
    | (with_reducible assumption) | (exact sub_trans (by decide) hp) | (exact hp (by decide)) | (intro _ _ _) | (intro _ _) | (intro _)
    | (with_reducible apply Works.clearStop_leads) | (with_reducible apply Works.work_leads)
    | (with_reducible apply ite_leads) | split

theorem Works.stall_leads (n : Nat) (r : StallReason) (detail : Nat) (w : Works)
    (hp : [Part.dewater, Part.portals, Part.lights, Part.active, Part.reports, Part.water, Part.line] ⊆ ps)
    (h : Works.Leads ps w0 w) :
    Works.Leads ps w0 (Works.stall n r detail w) := by
  unfold Works.stall
  try dsimp only
  repeat' first
    | (with_reducible assumption) | (exact sub_trans (by decide) hp) | (exact hp (by decide)) | (intro _ _ _) | (intro _ _) | (intro _)
    | (with_reducible apply Works.record_leads)
    | (with_reducible apply Works.updPortal_leads)
    | (with_reducible apply Works.updGate_leads)
    | (with_reducible apply Works.endReopen_leads)
    | (with_reducible apply Works.changeClosure_leads)
    | (with_reducible apply Works.haltMoving_leads)
    | (with_reducible apply Works.dropBarrierPair_leads)
    | (with_reducible apply Works.stopGate_leads)
    | (with_reducible apply ite_leads) | split

theorem Works.shown_leads (n : Nat) (a : Aspect) (w : Works)
    (hp : [Part.dewater, Part.portals, Part.lights, Part.active, Part.reports, Part.water, Part.line] ⊆ ps)
    (h : Works.Leads ps w0 w) :
    Works.Leads ps w0 (Works.shown n a w) := by
  unfold Works.shown
  try dsimp only
  repeat' first
    | (with_reducible assumption) | (exact sub_trans (by decide) hp) | (exact hp (by decide)) | (intro _ _ _) | (intro _ _) | (intro _)
    | (with_reducible apply Works.updPortal_leads) | (with_reducible apply Works.updSignals_leads)
    | (with_reducible apply Works.barringGo_leads) | (with_reducible apply Works.enter_leads)
    | (with_reducible apply ite_leads) | split | (refine pair_leads (by assumption) ?_)

theorem Works.signalSetEnd_leads (n value : Nat) (e : ReqEnd) (w : Works)
    (hp : [Part.dewater, Part.portals, Part.lights, Part.active, Part.reports, Part.water, Part.line] ⊆ ps)
    (h : Works.Leads ps w0 w) :
    Works.Leads ps w0 (Works.signalSetEnd n value e w) := by
  unfold Works.signalSetEnd
  try dsimp only
  repeat' first
    | (with_reducible assumption) | (exact sub_trans (by decide) hp) | (exact hp (by decide)) | (intro _ _ _) | (intro _ _) | (intro _)
    | (with_reducible apply Works.updSignals_leads) | (with_reducible apply Works.portalFault_leads)
    | (with_reducible apply Works.shown_leads) | (with_reducible apply ite_leads) | split

theorem Works.signalsAgain_leads (n : Nat) (w : Works)
    (hp : [Part.dewater, Part.portals, Part.lights, Part.active, Part.reports, Part.water, Part.line] ⊆ ps)
    (h : Works.Leads ps w0 w) :
    Works.Leads ps w0 (Works.signalsAgain n w) := by
  unfold Works.signalsAgain
  try dsimp only
  repeat' first
    | (with_reducible assumption) | (exact sub_trans (by decide) hp) | (exact hp (by decide)) | (intro _ _ _) | (intro _ _) | (intro _)
    | (with_reducible apply Works.updSignals_leads) | (with_reducible apply Works.setAspect_leads)
    | (with_reducible apply Works.shown_leads) | (with_reducible apply ite_leads) | split

theorem Works.shutBreach_leads (n : Nat) (w : Works)
    (hp : [Part.dewater, Part.portals, Part.lights, Part.active, Part.reports, Part.water, Part.line] ⊆ ps)
    (h : Works.Leads ps w0 w) :
    Works.Leads ps w0 (Works.shutBreach n w) := by
  unfold Works.shutBreach
  try dsimp only
  repeat' first
    | (with_reducible assumption) | (exact sub_trans (by decide) hp) | (exact hp (by decide)) | (intro _ _ _) | (intro _ _) | (intro _)
    | (with_reducible apply Works.enter_leads) | (with_reducible apply ite_leads) | split

theorem Works.gateUnexecuted_leads (n : Nat) (w : Works)
    (hp : [Part.dewater, Part.portals, Part.lights, Part.active, Part.reports, Part.water, Part.line] ⊆ ps)
    (h : Works.Leads ps w0 w) :
    Works.Leads ps w0 (Works.gateUnexecuted n w) := by
  unfold Works.gateUnexecuted
  try dsimp only
  repeat' first
    | (with_reducible assumption) | (exact sub_trans (by decide) hp) | (exact hp (by decide)) | (intro _ _ _) | (intro _ _) | (intro _)
    | (with_reducible apply Works.updGate_leads) | (with_reducible apply Works.dropGateGrant_leads)
    | (with_reducible apply Works.clearStop_leads) | (with_reducible apply Works.work_leads)
    | (with_reducible apply ite_leads) | split

theorem Works.gateExecutedAbandoned_leads (n : Nat) (m : Motion) (w : Works)
    (hp : [Part.dewater, Part.portals, Part.lights, Part.active, Part.reports, Part.water, Part.line] ⊆ ps)
    (h : Works.Leads ps w0 w) :
    Works.Leads ps w0 (Works.gateExecutedAbandoned n m w) := by
  unfold Works.gateExecutedAbandoned
  try dsimp only
  repeat' first
    | (with_reducible assumption) | (exact sub_trans (by decide) hp) | (exact hp (by decide)) | (intro _ _ _) | (intro _ _) | (intro _)
    | (with_reducible apply Works.send_leads) | (with_reducible apply Works.updGate_leads)
    | (with_reducible apply Works.setGate_leads) | (with_reducible apply Works.haltGate_leads)
    | (with_reducible apply Works.shutBreach_leads) | (with_reducible apply ite_leads) | split

theorem Works.gateRefused_leads (n : Nat) (stalls : Option Nat) (w : Works)
    (hp : [Part.dewater, Part.portals, Part.lights, Part.active, Part.reports, Part.water, Part.line] ⊆ ps)
    (h : Works.Leads ps w0 w) :
    Works.Leads ps w0 (Works.gateRefused n stalls w) := by
  unfold Works.gateRefused
  try dsimp only
  repeat' first
    | (with_reducible assumption) | (exact sub_trans (by decide) hp) | (exact hp (by decide)) | (intro _ _ _) | (intro _ _) | (intro _)
    | (with_reducible apply Works.updGate_leads) | (with_reducible apply Works.dropGateGrant_leads)
    | (with_reducible apply Works.work_leads) | (with_reducible apply Works.stall_leads)
    | (with_reducible apply ite_leads) | split

theorem Works.gateResume_leads (n : Nat) (w : Works) (hp : [Part.dewater, Part.portals, Part.lights, Part.line] ⊆ ps)
    (h : Works.Leads ps w0 w) :
    Works.Leads ps w0 (Works.gateResume n w) := by
  unfold Works.gateResume
  try dsimp only
  repeat' first
    | (with_reducible assumption) | (exact sub_trans (by decide) hp) | (exact hp (by decide)) | (intro _ _ _) | (intro _ _) | (intro _)
    | (with_reducible apply Works.queueGate_leads) | (with_reducible apply ite_leads) | split

theorem Works.gatePairEnd_leads (n : Nat) (m : Motion) (f : Fate) (e : PairEnd) (w : Works)
    (hp : [Part.dewater, Part.portals, Part.lights, Part.active, Part.reports, Part.water, Part.line] ⊆ ps)
    (h : Works.Leads ps w0 w) :
    Works.Leads ps w0 (Works.gatePairEnd n m f e w) := by
  unfold Works.gatePairEnd
  try dsimp only
  repeat' first
    | (with_reducible assumption) | (exact sub_trans (by decide) hp) | (exact hp (by decide)) | (intro _ _ _) | (intro _ _) | (intro _)
    | (with_reducible apply Works.send_leads)
    | (with_reducible apply Works.updGate_leads)
    | (with_reducible apply Works.setGate_leads)
    | (with_reducible apply Works.endStop_leads)
    | (with_reducible apply Works.gateUnexecuted_leads)
    | (with_reducible apply Works.gateExecutedAbandoned_leads)
    | (with_reducible apply Works.gateRefused_leads)
    | (with_reducible apply Works.gateResume_leads)
    | (with_reducible apply ite_leads) | split

theorem Works.gateHaltEnd_leads (n : Nat) (stop : Bool) (f : Fate) (w : Works)
    (hp : [Part.dewater, Part.portals, Part.lights, Part.active, Part.reports, Part.water, Part.line] ⊆ ps)
    (h : Works.Leads ps w0 w) :
    Works.Leads ps w0 (Works.gateHaltEnd n stop f w) := by
  unfold Works.gateHaltEnd
  try dsimp only
  repeat' first
    | (with_reducible assumption) | (exact sub_trans (by decide) hp) | (exact hp (by decide)) | (intro _ _ _) | (intro _ _) | (intro _)
    | (with_reducible apply Works.updGate_leads) | (with_reducible apply Works.dropGateGrant_leads)
    | (with_reducible apply Works.endStop_leads) | (with_reducible apply ite_leads) | split

theorem Works.barrierAgain_leads (n : Nat) (m : Motion) (w : Works)
    (hp : [Part.dewater, Part.portals, Part.lights, Part.line] ⊆ ps)
    (h : Works.Leads ps w0 w) :
    Works.Leads ps w0 (Works.barrierAgain n m w) := by
  unfold Works.barrierAgain
  try dsimp only
  repeat' first
    | (with_reducible assumption) | (exact sub_trans (by decide) hp) | (exact hp (by decide)) | (intro _ _ _) | (intro _ _) | (intro _)
    | (with_reducible apply Works.queueBarrier_leads)
    | (with_reducible apply ite_leads) | split

theorem Works.barrierPairEnd_leads (n : Nat) (m : Motion) (f : Fate) (e : PairEnd) (w : Works)
    (hp : [Part.dewater, Part.portals, Part.lights, Part.active, Part.reports, Part.water, Part.line] ⊆ ps)
    (h : Works.Leads ps w0 w) :
    Works.Leads ps w0 (Works.barrierPairEnd n m f e w) := by
  unfold Works.barrierPairEnd
  try dsimp only
  repeat' first
    | (with_reducible assumption) | (exact sub_trans (by decide) hp) | (exact hp (by decide)) | (intro _ _ _) | (intro _ _) | (intro _)
    | (with_reducible apply Works.updBarrier_leads)
    | (with_reducible apply Works.setBarrier_leads)
    | (with_reducible apply Works.haltBarrier_leads)
    | (with_reducible apply Works.work_leads)
    | (with_reducible apply Works.stall_leads)
    | (with_reducible apply Works.barrierAgain_leads)
    | (with_reducible apply Works.missed_leads)
    | (with_reducible apply ite_leads) | split

theorem Works.takeBarrier_leads (n : Nat) (img : List Byte) (w : Works) (hp : [Part.portals] ⊆ ps)
    (h : Works.Leads ps w0 w) :
    Works.Leads ps w0 (Works.takeBarrier n img w) := by
  unfold Works.takeBarrier
  try dsimp only
  repeat' first
    | (with_reducible assumption) | (exact sub_trans (by decide) hp) | (exact hp (by decide)) | (intro _ _ _) | (intro _ _) | (intro _)
    | (with_reducible apply Works.updBarrier_leads) | (with_reducible apply Works.portalFault_leads)
    | (with_reducible apply Works.setBarrier_leads) | (with_reducible apply ite_leads) | split

theorem Works.takeGate_leads (n : Nat) (img : List Byte) (w : Works) (hp : [Part.portals] ⊆ ps)
    (h : Works.Leads ps w0 w) :
    Works.Leads ps w0 (Works.takeGate n img w) := by
  unfold Works.takeGate
  try dsimp only
  repeat' first
    | (with_reducible assumption) | (exact sub_trans (by decide) hp) | (exact hp (by decide)) | (intro _ _ _) | (intro _ _) | (intro _)
    | (with_reducible apply Works.updGate_leads) | (with_reducible apply Works.portalFault_leads)
    | (with_reducible apply Works.setGate_leads) | (with_reducible apply ite_leads) | split

theorem Works.judgeBarrier_leads (n : Nat) (old : BarrierState) (own : Bool) (w : Works)
    (hp : [Part.dewater, Part.portals, Part.lights, Part.active, Part.reports, Part.water, Part.line] ⊆ ps)
    (h : Works.Leads ps w0 w) :
    Works.Leads ps w0 (Works.judgeBarrier n old own w) := by
  unfold Works.judgeBarrier
  try dsimp only
  repeat' first
    | (with_reducible assumption) | (exact sub_trans (by decide) hp) | (exact hp (by decide)) | (intro _ _ _) | (intro _ _) | (intro _)
    | (with_reducible apply Works.updBarrier_leads)
    | (with_reducible apply Works.portalFault_leads)
    | (with_reducible apply Works.stopGate_leads)
    | (with_reducible apply Works.enter_leads)
    | (with_reducible apply Works.shown_leads)
    | (with_reducible apply ite_leads) | split

theorem Works.gateArrived_leads (n : Nat) (w : Works) (hp : [Part.dewater, Part.portals, Part.lights, Part.line] ⊆ ps)
    (h : Works.Leads ps w0 w) :
    Works.Leads ps w0 (Works.gateArrived n w) := by
  unfold Works.gateArrived
  try dsimp only
  repeat' first
    | (with_reducible assumption) | (exact sub_trans (by decide) hp) | (exact hp (by decide)) | (intro _ _ _) | (intro _ _) | (intro _)
    | (with_reducible apply Works.updGate_leads) | (with_reducible apply Works.dropGateGrant_leads)
    | (with_reducible apply Works.stopGate_leads) | (with_reducible apply ite_leads) | split

theorem Works.judgeGateAuto_leads (n : Nat) (old : GateState) (own : Bool) (w : Works)
    (hp : [Part.dewater, Part.portals, Part.lights, Part.active, Part.reports, Part.water, Part.line] ⊆ ps)
    (h : Works.Leads ps w0 w) :
    Works.Leads ps w0 (Works.judgeGateAuto n old own w) := by
  unfold Works.judgeGateAuto
  try dsimp only
  repeat' first
    | (with_reducible assumption) | (exact sub_trans (by decide) hp) | (exact hp (by decide)) | (intro _ _ _) | (intro _ _) | (intro _)
    | (with_reducible apply Works.updGate_leads) | (with_reducible apply Works.portalFault_leads)
    | (with_reducible apply Works.abandonBarrier_leads) | (with_reducible apply Works.enter_leads)
    | (with_reducible apply Works.shutBreach_leads) | (with_reducible apply Works.gateArrived_leads)
    | (with_reducible apply ite_leads) | split

theorem Works.judgeGate_leads (n : Nat) (old : GateState) (own : Bool) (w : Works)
    (hp : [Part.dewater, Part.portals, Part.lights, Part.active, Part.reports, Part.water, Part.line] ⊆ ps)
    (h : Works.Leads ps w0 w) :
    Works.Leads ps w0 (Works.judgeGate n old own w) := by
  unfold Works.judgeGate
  try dsimp only
  repeat' first
    | (with_reducible assumption) | (exact sub_trans (by decide) hp) | (exact hp (by decide)) | (intro _ _ _) | (intro _ _) | (intro _)
    | (with_reducible apply Works.enter_leads) | (with_reducible apply Works.shutBreach_leads)
    | (with_reducible apply Works.judgeGateAuto_leads) | (with_reducible apply ite_leads) | split

theorem Works.judgeObstruction_leads (n : Nat) (w : Works)
    (hp : [Part.dewater, Part.portals, Part.lights, Part.active, Part.reports, Part.water, Part.line] ⊆ ps)
    (h : Works.Leads ps w0 w) :
    Works.Leads ps w0 (Works.judgeObstruction n w) := by
  unfold Works.judgeObstruction
  try dsimp only
  repeat' first
    | (with_reducible assumption) | (exact sub_trans (by decide) hp) | (exact hp (by decide)) | (intro _ _ _) | (intro _ _) | (intro _)
    | (with_reducible apply Works.record_leads) | (with_reducible apply Works.updGate_leads)
    | (with_reducible apply Works.dropGateGrant_leads) | (with_reducible apply Works.stall_leads)
    | (with_reducible apply ite_leads) | split

theorem Works.portalArrival_leads (n : Nat) (img : List Byte) (w : Works)
    (hp : [Part.dewater, Part.portals, Part.lights, Part.active, Part.reports, Part.water, Part.line] ⊆ ps)
    (h : Works.Leads ps w0 w) :
    Works.Leads ps w0 (Works.portalArrival n img w) := by
  unfold Works.portalArrival
  try dsimp only
  repeat' first
    | (with_reducible assumption) | (exact sub_trans (by decide) hp) | (exact hp (by decide)) | (intro _ _ _) | (intro _ _) | (intro _)
    | (with_reducible apply Works.signalsAgain_leads) | (with_reducible apply Works.takeBarrier_leads)
    | (with_reducible apply Works.takeGate_leads) | (with_reducible apply Works.judgeBarrier_leads)
    | (with_reducible apply Works.judgeGate_leads) | (with_reducible apply Works.judgeObstruction_leads)
    | (with_reducible apply ite_leads) | split

theorem Works.portalLost_leads (n : Nat) (w : Works) (hp : [Part.portals] ⊆ ps) (h : Works.Leads ps w0 w) :
    Works.Leads ps w0 (Works.portalLost n w) := by
  unfold Works.portalLost
  try dsimp only
  repeat' first
    | (with_reducible assumption) | (exact sub_trans (by decide) hp) | (exact hp (by decide)) | (intro _ _ _) | (intro _ _) | (intro _)
    | (with_reducible apply Works.updSignals_leads) | (with_reducible apply Works.updBarrier_leads)
    | (with_reducible apply Works.updGate_leads) | (with_reducible apply Works.setGate_leads)
    | (with_reducible apply Works.setBarrier_leads) | (with_reducible apply ite_leads) | split

theorem Works.portalRetry_leads (n : Nat) (w : Works)
    (hp : [Part.dewater, Part.portals, Part.lights, Part.active, Part.reports, Part.water, Part.line] ⊆ ps)
    (h : Works.Leads ps w0 w) :
    Works.Leads ps w0 (Works.portalRetry n w) := by
  unfold Works.portalRetry
  try dsimp only
  repeat' first
    | (with_reducible assumption) | (exact sub_trans (by decide) hp) | (exact hp (by decide)) | (intro _ _ _) | (intro _ _) | (intro _)
    | (with_reducible apply Works.updBarrier_leads) | (with_reducible apply Works.updGate_leads)
    | (with_reducible apply Works.haltBarrier_leads) | (with_reducible apply Works.haltGate_leads)
    | (with_reducible apply Works.queueBarrier_leads) | (with_reducible apply Works.queueGate_leads)
    | (with_reducible apply Works.dropGateGrant_leads) | (with_reducible apply Works.signalsAgain_leads)
    | (with_reducible apply ite_leads) | split

theorem Works.gateGranted_leads (n : Nat) (w : Works) (hp : [Part.dewater, Part.portals, Part.lights, Part.line] ⊆ ps)
    (h : Works.Leads ps w0 w) :
    Works.Leads ps w0 (Works.gateGranted n w) := by
  unfold Works.gateGranted
  try dsimp only
  repeat' first
    | (with_reducible assumption) | (exact sub_trans (by decide) hp) | (exact hp (by decide)) | (intro _ _ _) | (intro _ _) | (intro _)
    | (with_reducible apply Works.updGate_leads) | (with_reducible apply Works.queueGate_leads)
    | (with_reducible apply Works.dropGateGrant_leads) | (with_reducible apply ite_leads) | split

theorem Works.warnExpiry_leads (n : Nat) (w : Works)
    (hp : [Part.dewater, Part.portals, Part.lights, Part.active, Part.reports, Part.water, Part.line] ⊆ ps)
    (h : Works.Leads ps w0 w) :
    Works.Leads ps w0 (Works.warnExpiry n w) := by
  unfold Works.warnExpiry
  try dsimp only
  repeat' first
    | (with_reducible assumption) | (exact sub_trans (by decide) hp) | (exact hp (by decide)) | (intro _ _ _) | (intro _ _) | (intro _)
    | (with_reducible apply Works.enter_leads) | (with_reducible apply ite_leads) | split

theorem Works.barrierTravelExpiry_leads (n : Nat) (w : Works)
    (hp : [Part.dewater, Part.portals, Part.lights, Part.active, Part.reports, Part.water, Part.line] ⊆ ps)
    (h : Works.Leads ps w0 w) :
    Works.Leads ps w0 (Works.barrierTravelExpiry n w) := by
  unfold Works.barrierTravelExpiry
  try dsimp only
  repeat' first
    | (with_reducible assumption) | (exact sub_trans (by decide) hp) | (exact hp (by decide)) | (intro _ _ _) | (intro _ _) | (intro _)
    | (with_reducible apply Works.updBarrier_leads) | (with_reducible apply Works.haltBarrier_leads)
    | (with_reducible apply Works.stall_leads) | (with_reducible apply ite_leads) | split

theorem Works.clearLimitExpiry_leads (n : Nat) (w : Works) (hp : [Part.portals] ⊆ ps) (h : Works.Leads ps w0 w) :
    Works.Leads ps w0 (Works.clearLimitExpiry n w) := by
  unfold Works.clearLimitExpiry
  try dsimp only
  repeat' first
    | (with_reducible assumption) | (exact sub_trans (by decide) hp) | (exact hp (by decide)) | (intro _ _ _) | (intro _ _) | (intro _)
    | (with_reducible apply Works.record_leads) | (with_reducible apply Works.updPortal_leads)
    | (with_reducible apply ite_leads) | split

theorem Works.gateTravelExpiry_leads (n : Nat) (w : Works)
    (hp : [Part.dewater, Part.portals, Part.lights, Part.active, Part.reports, Part.water, Part.line] ⊆ ps)
    (h : Works.Leads ps w0 w) :
    Works.Leads ps w0 (Works.gateTravelExpiry n w) := by
  unfold Works.gateTravelExpiry
  try dsimp only
  repeat' first
    | (with_reducible assumption) | (exact sub_trans (by decide) hp) | (exact hp (by decide)) | (intro _ _ _) | (intro _ _) | (intro _)
    | (with_reducible apply Works.stopGate_leads) | (with_reducible apply Works.stall_leads)
    | (with_reducible apply ite_leads) | split

theorem Works.obstructionDwellExpiry_leads (n : Nat) (w : Works)
    (hp : [Part.dewater, Part.portals, Part.lights, Part.active, Part.reports, Part.water, Part.line] ⊆ ps)
    (h : Works.Leads ps w0 w) :
    Works.Leads ps w0 (Works.obstructionDwellExpiry n w) := by
  unfold Works.obstructionDwellExpiry
  try dsimp only
  repeat' first
    | (with_reducible assumption) | (exact sub_trans (by decide) hp) | (exact hp (by decide)) | (intro _ _ _) | (intro _ _) | (intro _)
    | (with_reducible apply Works.updGate_leads) | (with_reducible apply Works.work_leads)
    | (with_reducible apply ite_leads) | split

theorem Works.clearToGating_leads (n : Nat) (w : Works)
    (hp : [Part.dewater, Part.portals, Part.lights, Part.active, Part.reports, Part.water, Part.line] ⊆ ps)
    (h : Works.Leads ps w0 w) :
    Works.Leads ps w0 (Works.clearToGating n w) := by
  unfold Works.clearToGating
  try dsimp only
  repeat' first
    | (with_reducible assumption) | (exact sub_trans (by decide) hp) | (exact hp (by decide)) | (intro _ _ _) | (intro _ _) | (intro _)
    | (with_reducible apply Works.enter_leads) | (with_reducible apply ite_leads) | split

theorem Works.clearDwellExpiry_leads
    (w : Works) (hp : [Part.dewater, Part.portals, Part.lights, Part.active, Part.reports, Part.water, Part.line] ⊆ ps) (h : Works.Leads ps w0 w) :
    Works.Leads ps w0 (Works.clearDwellExpiry w) := by
  unfold Works.clearDwellExpiry
  try dsimp only
  repeat' first
    | (with_reducible assumption) | (exact sub_trans (by decide) hp) | (exact hp (by decide)) | (intro _ _ _) | (intro _ _) | (intro _)
    | (with_reducible apply Works.judgeClearDwell_leads) | (with_reducible apply Works.setClear_leads)
    | (with_reducible apply Works.clearToGating_leads) | (with_reducible apply ite_leads) | split

theorem Works.vehicleStop_leads (n : Nat) (w : Works)
    (hp : [Part.dewater, Part.portals, Part.lights, Part.active, Part.reports, Part.water, Part.line] ⊆ ps)
    (h : Works.Leads ps w0 w) :
    Works.Leads ps w0 (Works.vehicleStop n w) := by
  unfold Works.vehicleStop
  try dsimp only
  repeat' first
    | (with_reducible assumption) | (exact sub_trans (by decide) hp) | (exact hp (by decide)) | (intro _ _ _) | (intro _ _) | (intro _)
    | (with_reducible apply Works.stopGate_leads) | (with_reducible apply Works.enter_leads)
    | (with_reducible apply ite_leads) | split

theorem Works.vehiclesChanged_leads (above : Bool) (w : Works)
    (hp : [Part.dewater, Part.portals, Part.lights, Part.active, Part.reports, Part.water, Part.line] ⊆ ps)
    (h : Works.Leads ps w0 w) :
    Works.Leads ps w0 (Works.vehiclesChanged above w) := by
  unfold Works.vehiclesChanged
  try dsimp only
  repeat' first
    | (with_reducible assumption) | (exact sub_trans (by decide) hp) | (exact hp (by decide)) | (intro _ _ _) | (intro _ _) | (intro _)
    | (with_reducible apply Works.setInterior_leads) | (with_reducible apply Works.judgeClearDwell_leads)
    | (with_reducible apply Works.setClear_leads) | (with_reducible apply Works.vehicleStop_leads)
    | (with_reducible apply ite_leads) | split

theorem Works.gateOutage_leads (n : Nat) (w : Works) (hp : [Part.dewater, Part.portals, Part.lights, Part.line] ⊆ ps)
    (h : Works.Leads ps w0 w) :
    Works.Leads ps w0 (Works.gateOutage n w).2 := by
  unfold Works.gateOutage
  try dsimp only
  repeat' first
    | (with_reducible assumption) | (exact sub_trans (by decide) hp) | (exact hp (by decide)) | (intro _ _ _) | (intro _ _) | (intro _)
    | (with_reducible apply Works.giveUp_leads) | (with_reducible apply Works.updGate_leads)
    | (with_reducible apply Works.setGate_leads) | (with_reducible apply Works.haltGate_leads)
    | (with_reducible apply ite_leads) | split

theorem Works.beginSequence_leads (n : Nat) (w : Works)
    (hp : [Part.dewater, Part.portals, Part.lights, Part.active, Part.reports, Part.water, Part.line] ⊆ ps)
    (h : Works.Leads ps w0 w) :
    Works.Leads ps w0 (Works.beginSequence n w) := by
  unfold Works.beginSequence
  try dsimp only
  repeat' first
    | (with_reducible assumption) | (exact sub_trans (by decide) hp) | (exact hp (by decide)) | (intro _ _ _) | (intro _ _) | (intro _)
    | (with_reducible apply Works.enter_leads)
    | (with_reducible apply ite_leads) | split

theorem Works.portalAlert_leads (n : Nat) (w : Works)
    (hp : [Part.dewater, Part.portals, Part.lights, Part.active, Part.reports, Part.water, Part.line] ⊆ ps)
    (h : Works.Leads ps w0 w) :
    Works.Leads ps w0 (Works.portalAlert n w) := by
  unfold Works.portalAlert
  try dsimp only
  repeat' first
    | (with_reducible assumption) | (exact sub_trans (by decide) hp) | (exact hp (by decide)) | (intro _ _ _) | (intro _ _) | (intro _)
    | (with_reducible apply Works.updPortal_leads)
    | (with_reducible apply Works.endReopen_leads)
    | (with_reducible apply Works.abandonBarrier_leads)
    | (with_reducible apply Works.stopGate_leads)
    | (with_reducible apply Works.enter_leads)
    | (with_reducible apply Works.beginSequence_leads)
    | (with_reducible apply ite_leads) | split

theorem Works.portalReverse_leads (n : Nat) (w : Works)
    (hp : [Part.dewater, Part.portals, Part.lights, Part.active, Part.reports, Part.water, Part.line] ⊆ ps)
    (h : Works.Leads ps w0 w) :
    Works.Leads ps w0 (Works.portalReverse n w) := by
  unfold Works.portalReverse
  try dsimp only
  repeat' first
    | (with_reducible assumption) | (exact sub_trans (by decide) hp) | (exact hp (by decide)) | (intro _ _ _) | (intro _ _) | (intro _)
    | (with_reducible apply Works.updGate_leads) | (with_reducible apply Works.abandonBarrier_leads)
    | (with_reducible apply Works.stopGate_leads) | (with_reducible apply Works.enter_leads)
    | (with_reducible apply ite_leads) | split

theorem Works.portalRun_leads (n : Nat) (w : Works)
    (hp : [Part.dewater, Part.portals, Part.lights, Part.active, Part.reports, Part.water, Part.line] ⊆ ps)
    (h : Works.Leads ps w0 w) :
    Works.Leads ps w0 (Works.portalRun n w) := by
  unfold Works.portalRun
  try dsimp only
  repeat' first
    | (with_reducible assumption) | (exact sub_trans (by decide) hp) | (exact hp (by decide)) | (intro _ _ _) | (intro _ _) | (intro _)
    | (with_reducible apply Works.work_leads)
    | (with_reducible apply Works.beginSequence_leads)
    | (with_reducible apply ite_leads) | split

theorem Works.portalHold_leads (n : Nat) (w : Works) (hp : [Part.portals] ⊆ ps) (h : Works.Leads ps w0 w) :
    Works.Leads ps w0 (Works.portalHold n w) := by
  unfold Works.portalHold
  try dsimp only
  repeat' first
    | (with_reducible assumption) | (exact sub_trans (by decide) hp) | (exact hp (by decide)) | (intro _ _ _) | (intro _ _) | (intro _)
    | (with_reducible apply Works.updPortal_leads) | (with_reducible apply ite_leads) | split

theorem Works.uncommandPortal_leads (n : Nat) (v : ClaimValue) (w : Works)
    (hp : [Part.portals, Part.active, Part.line] ⊆ ps) (h : Works.Leads ps w0 w) :
    Works.Leads ps w0 (Works.uncommandPortal n v w) := by
  unfold Works.uncommandPortal
  try dsimp only
  repeat' first
    | (with_reducible assumption) | (exact sub_trans (by decide) hp) | (exact hp (by decide)) | (intro _ _ _) | (intro _ _) | (intro _)
    | (with_reducible apply Works.giveUp_leads) | (with_reducible apply Works.updPortal_leads)
    | (with_reducible apply Works.updSignals_leads) | (with_reducible apply Works.updBarrier_leads)
    | (with_reducible apply Works.updGate_leads) | (with_reducible apply Works.endReopen_leads)
    | (with_reducible apply Works.dropGateGrant_leads) | (with_reducible apply ite_leads) | split

theorem Works.haltFound_leads (n : Nat) (w : Works) (hp : [Part.dewater, Part.portals, Part.lights, Part.line] ⊆ ps)
    (h : Works.Leads ps w0 w) :
    Works.Leads ps w0 (Works.haltFound n w) := by
  unfold Works.haltFound
  try dsimp only
  repeat' first
    | (with_reducible assumption) | (exact sub_trans (by decide) hp) | (exact hp (by decide)) | (intro _ _ _) | (intro _ _) | (intro _)
    | (with_reducible apply Works.haltGate_leads) | (with_reducible apply ite_leads) | split

theorem Works.reconstruct_leads (n : Nat) (w : Works)
    (hp : [Part.dewater, Part.portals, Part.lights, Part.active, Part.reports, Part.water, Part.line] ⊆ ps)
    (h : Works.Leads ps w0 w) :
    Works.Leads ps w0 (Works.reconstruct n w) := by
  unfold Works.reconstruct
  try dsimp only
  repeat' first
    | (with_reducible assumption) | (exact sub_trans (by decide) hp) | (exact hp (by decide)) | (intro _ _ _) | (intro _ _) | (intro _)
    | (with_reducible apply Works.enter_leads)
    | (with_reducible apply Works.beginSequence_leads)
    | (with_reducible apply Works.haltFound_leads)
    | (with_reducible apply ite_leads) | split

theorem Works.settlePortal_leads (n : Nat) (img : Option (List Byte)) (w : Works)
    (hp : [Part.dewater, Part.portals, Part.lights, Part.active, Part.reports, Part.water, Part.line] ⊆ ps)
    (h : Works.Leads ps w0 w) :
    Works.Leads ps w0 (Works.settlePortal n img w) := by
  unfold Works.settlePortal
  try dsimp only
  repeat' first
    | (with_reducible assumption) | (exact sub_trans (by decide) hp) | (exact hp (by decide)) | (intro _ _ _) | (intro _ _) | (intro _)
    | (with_reducible apply Works.work_leads) | (with_reducible apply Works.takeBarrier_leads)
    | (with_reducible apply Works.takeGate_leads) | (with_reducible apply Works.haltFound_leads)
    | (with_reducible apply Works.reconstruct_leads) | (with_reducible apply ite_leads) | split

theorem Works.portalReopenOrder_leads (o : Order) (w : Works)
    (hp : [Part.dewater, Part.portals, Part.lights, Part.active, Part.reports, Part.water, Part.line] ⊆ ps)
    (h : Works.Leads ps w0 w) :
    Works.Leads ps w0 (Works.portalReopenOrder o w) := by
  unfold Works.portalReopenOrder
  try dsimp only
  repeat' first
    | (with_reducible assumption) | (exact sub_trans (by decide) hp) | (exact hp (by decide)) | (intro _ _ _) | (intro _ _) | (intro _)
    | (with_reducible apply Works.hold_leads) | (with_reducible apply Order.finish_leads)
    | (with_reducible apply Works.updPortal_leads) | (with_reducible apply Works.enter_leads)
    | (with_reducible apply ite_leads) | split

theorem Works.confirmClearOrder_leads (o : Order) (w : Works)
    (hp : [Part.dewater, Part.portals, Part.lights, Part.active, Part.reports, Part.water, Part.line] ⊆ ps)
    (h : Works.Leads ps w0 w) :
    Works.Leads ps w0 (Works.confirmClearOrder o w) := by
  unfold Works.confirmClearOrder
  try dsimp only
  repeat' first
    | (with_reducible assumption) | (exact sub_trans (by decide) hp) | (exact hp (by decide)) | (intro _ _ _) | (intro _ _) | (intro _)
    | (with_reducible apply Order.finish_leads) | (with_reducible apply Works.setInterior_leads)
    | (with_reducible apply Works.judgeClearDwell_leads) | (with_reducible apply Works.setClear_leads)
    | (with_reducible apply Works.clearToGating_leads) | (with_reducible apply ite_leads) | split

theorem Works.portalResetOrder_leads (o : Order) (w : Works)
    (hp : [Part.dewater, Part.portals, Part.lights, Part.active, Part.reports, Part.water, Part.line] ⊆ ps)
    (h : Works.Leads ps w0 w) :
    Works.Leads ps w0 (Works.portalResetOrder o w) := by
  unfold Works.portalResetOrder
  try dsimp only
  repeat' first
    | (with_reducible assumption) | (exact sub_trans (by decide) hp) | (exact hp (by decide)) | (intro _ _ _) | (intro _ _) | (intro _)
    | (with_reducible apply Order.finish_leads) | (with_reducible apply Works.updGate_leads)
    | (with_reducible apply Works.enter_leads) | (with_reducible apply Works.portalAlert_leads)
    | (with_reducible apply ite_leads) | split

theorem Works.setStage_leads (s : StageRec) (w : Works) (hp : [Part.water] ⊆ ps) (h : Works.Leads ps w0 w) :
    Works.Leads ps w0 (Works.setStage s w) := by
  unfold Works.setStage
  try dsimp only
  repeat' first
    | (with_reducible assumption) | (exact sub_trans (by decide) hp) | (exact hp (by decide)) | (intro _ _ _) | (intro _ _) | (intro _)
    | exact Works.Leads.water _ _ (hp (by decide)) (by first | exact .inl rfl | exact .inr (hp (by decide))) (by assumption)
    | (with_reducible apply ite_leads) | split

theorem Works.recomputeDepth_leads  (w : Works) (hp : [Part.water] ⊆ ps) (h : Works.Leads ps w0 w) :
    Works.Leads ps w0 (Works.recomputeDepth w) := by
  unfold Works.recomputeDepth
  try dsimp only
  repeat' first
    | (with_reducible assumption) | (exact sub_trans (by decide) hp) | (exact hp (by decide)) | (intro _ _ _) | (intro _ _) | (intro _)
    | (with_reducible apply Works.record_leads)
    | exact Works.Leads.water _ _ (hp (by decide)) (by first | exact .inl rfl | exact .inr (hp (by decide))) (by assumption)
    | (with_reducible apply ite_leads) | split

theorem Works.judgeDwell_leads  (w : Works) (hp : [Part.water] ⊆ ps) (h : Works.Leads ps w0 w) :
    Works.Leads ps w0 (Works.judgeDwell w) := by
  unfold Works.judgeDwell
  try dsimp only
  repeat' first
    | (with_reducible assumption) | (exact sub_trans (by decide) hp) | (exact hp (by decide)) | (intro _ _ _) | (intro _ _) | (intro _)
    | (with_reducible apply Works.setStage_leads) | (with_reducible apply ite_leads) | split

theorem Works.judgeStageOrders_leads  (w : Works) (hp : [Part.active] ⊆ ps) (h : Works.Leads ps w0 w) :
    Works.Leads ps w0 (Works.judgeStageOrders w) := by
  unfold Works.judgeStageOrders
  try dsimp only
  repeat' first
    | (with_reducible assumption) | (exact sub_trans (by decide) hp) | (exact hp (by decide)) | (intro _ _ _) | (intro _ _) | (intro _)
    | (with_reducible apply Works.complete_leads) | (with_reducible refine Works.completeAll_leads _ _ _ ?_ ?_)
    | (with_reducible apply ite_leads) | split

theorem Works.changeStage_leads (st : Stage) (cause : StageCause) (w : Works)
    (hp : [Part.dewater, Part.portals, Part.lights, Part.active, Part.reports, Part.water, Part.budget, Part.line] ⊆ ps)
    (h : Works.Leads ps w0 w) :
    Works.Leads ps w0 (Works.changeStage st cause w) := by
  unfold Works.changeStage
  try dsimp only
  repeat' first
    | (with_reducible assumption) | (exact sub_trans (by decide) hp) | (exact hp (by decide)) | (intro _ _ _) | (intro _ _) | (intro _)
    | (with_reducible apply Works.record_leads) | (with_reducible apply Works.wantImage_leads)
    | (with_reducible apply Works.dutyFromStage_leads) | (with_reducible apply Works.judgeModes_leads)
    | (with_reducible apply Works.portalAlert_leads) | (with_reducible apply Works.setStage_leads)
    | (with_reducible apply Works.judgeDwell_leads) | (with_reducible apply Works.judgeStageOrders_leads)
    | (with_reducible apply ite_leads) | split

theorem Works.closure_leads
    (w : Works) (hp : [Part.dewater, Part.portals, Part.lights, Part.active, Part.reports, Part.water, Part.budget, Part.line] ⊆ ps) (h : Works.Leads ps w0 w) :
    Works.Leads ps w0 (Works.closure w) := by
  unfold Works.closure
  try dsimp only
  repeat' first
    | (with_reducible assumption) | (exact sub_trans (by decide) hp) | (exact hp (by decide)) | (intro _ _ _) | (intro _ _) | (intro _)
    | (with_reducible apply Works.record_leads) | (with_reducible apply Works.setStage_leads)
    | (with_reducible apply Works.changeStage_leads) | (with_reducible apply ite_leads) | split

theorem Works.judgeStage_leads (old : Facts) (rise : Bool) (w : Works)
    (hp : [Part.dewater, Part.portals, Part.lights, Part.active, Part.reports, Part.water, Part.budget, Part.line] ⊆ ps)
    (h : Works.Leads ps w0 w) :
    Works.Leads ps w0 (Works.judgeStage old rise w) := by
  unfold Works.judgeStage
  try dsimp only
  repeat' first
    | (with_reducible assumption) | (exact sub_trans (by decide) hp) | (exact hp (by decide)) | (intro _ _ _) | (intro _ _) | (intro _)
    | (with_reducible apply Works.setStage_leads) | (with_reducible apply Works.judgeDwell_leads)
    | (with_reducible apply Works.changeStage_leads) | (with_reducible apply Works.closure_leads)
    | (with_reducible apply ite_leads) | split

theorem Works.standDownReport_leads (r : ViewReport) (w : Works) (hp : [Part.active] ⊆ ps) (h : Works.Leads ps w0 w) :
    Works.Leads ps w0 (Works.standDownReport r w) := by
  unfold Works.standDownReport
  try dsimp only
  repeat' first
    | (with_reducible assumption) | (exact sub_trans (by decide) hp) | (exact hp (by decide)) | (intro _ _ _) | (intro _ _) | (intro _)
    | (with_reducible apply Works.complete_leads) | (with_reducible refine Works.completeAll_leads _ _ _ ?_ ?_)
    | (with_reducible apply ite_leads) | split

theorem Works.stageReport_leads (r : ViewReport) (w : Works)
    (hp : [Part.dewater, Part.portals, Part.lights, Part.active, Part.reports, Part.water, Part.budget, Part.line] ⊆ ps)
    (h : Works.Leads ps w0 w) :
    Works.Leads ps w0 (Works.stageReport r w) := by
  unfold Works.stageReport
  try dsimp only
  repeat' first
    | (with_reducible assumption) | (exact sub_trans (by decide) hp) | (exact hp (by decide)) | (intro _ _ _) | (intro _ _) | (intro _)
    | (with_reducible apply Works.changeStage_leads) | (with_reducible apply Works.standDownReport_leads)
    | (with_reducible apply ite_leads) | split

theorem reportLoop_leads  (k : Nat) (w : Works)
    (hp : [Part.dewater, Part.portals, Part.lights, Part.active, Part.reports, Part.water, Part.budget, Part.line] ⊆ ps)
    (h : Works.Leads ps w0 w) :
    Works.Leads ps w0 (reportLoop  k w) := by
  induction k generalizing w with
  | zero => exact h
  | succ k ih =>
    unfold reportLoop
    try dsimp only
    repeat' first
      | (with_reducible assumption) | (with_reducible apply ih) | (exact sub_trans (by decide) hp) | (exact hp (by decide))
      | (intro _ _ _) | (intro _ _) | (intro _) | (with_reducible apply Works.judgeModes_leads)
      | (with_reducible apply Works.stageReport_leads)
      | exact Works.Leads.reports _ _ (hp (by decide)) (by assumption) | (with_reducible apply ite_leads) | split

theorem Works.runReports_leads
    (w : Works) (hp : [Part.dewater, Part.portals, Part.lights, Part.active, Part.reports, Part.water, Part.budget, Part.line] ⊆ ps) (h : Works.Leads ps w0 w) :
    Works.Leads ps w0 (Works.runReports w) := by
  unfold Works.runReports
  try dsimp only
  repeat' first
    | (with_reducible assumption) | (exact sub_trans (by decide) hp) | (exact hp (by decide)) | (intro _ _ _) | (intro _ _) | (intro _)
    | (with_reducible apply reportLoop_leads) | (with_reducible apply ite_leads) | split

theorem Works.watchDwellExpiry_leads
    (w : Works) (hp : [Part.dewater, Part.portals, Part.lights, Part.active, Part.reports, Part.water, Part.budget, Part.line] ⊆ ps) (h : Works.Leads ps w0 w) :
    Works.Leads ps w0 (Works.watchDwellExpiry w) := by
  unfold Works.watchDwellExpiry
  try dsimp only
  repeat' first
    | (with_reducible assumption) | (exact sub_trans (by decide) hp) | (exact hp (by decide)) | (intro _ _ _) | (intro _ _) | (intro _)
    | (with_reducible apply Works.changeStage_leads) | (with_reducible apply ite_leads) | split

theorem Works.reopenDwellExpiry_leads
    (w : Works) (hp : [Part.dewater, Part.portals, Part.lights, Part.active, Part.reports, Part.water, Part.budget, Part.line] ⊆ ps) (h : Works.Leads ps w0 w) :
    Works.Leads ps w0 (Works.reopenDwellExpiry w) := by
  unfold Works.reopenDwellExpiry
  try dsimp only
  repeat' first
    | (with_reducible assumption) | (exact sub_trans (by decide) hp) | (exact hp (by decide)) | (intro _ _ _) | (intro _ _) | (intro _)
    | (with_reducible apply Works.changeStage_leads) | (with_reducible apply ite_leads) | split

theorem Works.stageRun_leads
    (w : Works) (hp : [Part.dewater, Part.portals, Part.lights, Part.active, Part.reports, Part.water, Part.budget, Part.line] ⊆ ps) (h : Works.Leads ps w0 w) :
    Works.Leads ps w0 (Works.stageRun w) := by
  unfold Works.stageRun
  try dsimp only
  repeat' first
    | (with_reducible assumption) | (exact sub_trans (by decide) hp) | (exact hp (by decide)) | (intro _ _ _) | (intro _ _) | (intro _)
    | (with_reducible apply Works.setStage_leads) | (with_reducible apply Works.changeStage_leads)
    | (with_reducible apply ite_leads) | split

theorem Works.stageFromPortals_leads
    (w : Works) (hp : [Part.dewater, Part.portals, Part.lights, Part.active, Part.reports, Part.water, Part.budget, Part.line] ⊆ ps) (h : Works.Leads ps w0 w) :
    Works.Leads ps w0 (Works.stageFromPortals w) := by
  unfold Works.stageFromPortals
  try dsimp only
  repeat' first
    | (with_reducible assumption) | (exact sub_trans (by decide) hp) | (exact hp (by decide)) | (intro _ _ _) | (intro _ _) | (intro _)
    | (with_reducible apply Works.setStage_leads) | (with_reducible apply Works.changeStage_leads)
    | (with_reducible apply ite_leads) | split

theorem Works.judgeStanding_leads
    (w : Works) (hp : [Part.dewater, Part.portals, Part.lights, Part.active, Part.reports, Part.water, Part.budget, Part.line] ⊆ ps) (h : Works.Leads ps w0 w) :
    Works.Leads ps w0 (Works.judgeStanding w) := by
  unfold Works.judgeStanding
  try dsimp only
  repeat' first
    | (with_reducible assumption) | (exact sub_trans (by decide) hp) | (exact hp (by decide)) | (intro _ _ _) | (intro _ _) | (intro _)
    | (with_reducible apply Works.record_leads) | (with_reducible apply Works.judgeDwell_leads)
    | (with_reducible apply Works.judgeStage_leads) | (with_reducible apply ite_leads) | split

theorem Works.declareOrder_leads (o : Order) (w : Works)
    (hp : [Part.dewater, Part.portals, Part.lights, Part.active, Part.reports, Part.water, Part.budget, Part.line] ⊆ ps)
    (h : Works.Leads ps w0 w) :
    Works.Leads ps w0 (Works.declareOrder o w) := by
  unfold Works.declareOrder
  try dsimp only
  repeat' first
    | (with_reducible assumption) | (exact sub_trans (by decide) hp) | (exact hp (by decide)) | (intro _ _ _) | (intro _ _) | (intro _)
    | (with_reducible apply Works.hold_leads) | (with_reducible apply Order.finish_leads)
    | (with_reducible apply Works.setStage_leads) | (with_reducible apply Works.changeStage_leads)
    | (with_reducible apply ite_leads) | split

theorem Works.standDownOrder_leads (o : Order) (w : Works)
    (hp : [Part.dewater, Part.portals, Part.lights, Part.active, Part.reports, Part.water, Part.budget, Part.line] ⊆ ps)
    (h : Works.Leads ps w0 w) :
    Works.Leads ps w0 (Works.standDownOrder o w) := by
  unfold Works.standDownOrder
  try dsimp only
  repeat' first
    | (with_reducible assumption) | (exact sub_trans (by decide) hp) | (exact hp (by decide)) | (intro _ _ _) | (intro _ _) | (intro _)
    | (with_reducible apply Works.hold_leads) | (with_reducible apply Order.finish_leads)
    | (with_reducible apply Works.portalReverse_leads) | (with_reducible apply Works.changeStage_leads)
    | (with_reducible apply ite_leads) | split

theorem Works.updChannel_leads (c : Nat) (f : Channel → Channel) (w : Works) (hp : [Part.water, Part.channels] ⊆ ps)
    (h : Works.Leads ps w0 w) :
    Works.Leads ps w0 (Works.updChannel c f w) := by
  unfold Works.updChannel
  try dsimp only
  repeat' first
    | (with_reducible assumption) | (exact sub_trans (by decide) hp) | (exact hp (by decide)) | (intro _ _ _) | (intro _ _) | (intro _)
    | exact Works.Leads.water _ _ (hp (by decide)) (by first | exact .inl rfl | exact .inr (hp (by decide))) (by assumption)
    | (with_reducible apply ite_leads) | split

theorem Works.rebaseOrder_leads (o : Order) (w : Works) (hp : [Part.active, Part.water, Part.channels] ⊆ ps)
    (h : Works.Leads ps w0 w) :
    Works.Leads ps w0 (Works.rebaseOrder o w) := by
  unfold Works.rebaseOrder
  try dsimp only
  repeat' first
    | (with_reducible assumption) | (exact sub_trans (by decide) hp) | (exact hp (by decide)) | (intro _ _ _) | (intro _ _) | (intro _)
    | (with_reducible apply Order.finish_leads) | (with_reducible apply Works.updChannel_leads)
    | (with_reducible apply ite_leads) | split

theorem Works.recordSource_leads (old : Source) (w : Works) (h : Works.Leads ps w0 w) :
    Works.Leads ps w0 (Works.recordSource old w) := by
  unfold Works.recordSource
  try dsimp only
  repeat' first
    | (with_reducible assumption) | (exact sub_trans (by decide) hp) | (exact hp (by decide)) | (intro _ _ _) | (intro _ _) | (intro _)
    | (with_reducible apply Works.record_leads) | (with_reducible apply ite_leads) | split

theorem Works.setSource_leads (new : Source) (w : Works) (hp : [Part.budget] ⊆ ps) (h : Works.Leads ps w0 w) :
    Works.Leads ps w0 (Works.setSource new w) := by
  unfold Works.setSource
  try dsimp only
  repeat' first
    | (with_reducible assumption) | (exact sub_trans (by decide) hp) | (exact hp (by decide)) | (intro _ _ _) | (intro _ _) | (intro _)
    | (with_reducible apply Works.setSupply_leads) | (with_reducible apply Works.capacityChanged_leads)
    | (with_reducible apply Works.recordSource_leads) | (with_reducible apply ite_leads) | split

theorem Works.voidGrants_leads (served : List Nat) (w : Works) (hp : [Part.voids] ⊆ ps) (h : Works.Leads ps w0 w) :
    Works.Leads ps w0 (Works.voidGrants served w) := by
  unfold Works.voidGrants
  try dsimp only
  repeat' first
    | (with_reducible assumption) | (exact sub_trans (by decide) hp) | (exact hp (by decide)) | (intro _ _ _) | (intro _ _) | (intro _)
    | exact Works.Leads.send _ _ (by assumption) | exact Works.Leads.notices _ _ (hp (by decide)) (by assumption)
    | (with_reducible apply ite_leads) | split

theorem Works.ownerAnswer_leads (l : Load) (w : Works)
    (hp : [Part.dewater, Part.portals, Part.lights, Part.active, Part.line] ⊆ ps) (h : Works.Leads ps w0 w) :
    Works.Leads ps w0 (Works.ownerAnswer l w).2 := by
  unfold Works.ownerAnswer
  try dsimp only
  repeat' first
    | (with_reducible assumption) | (exact sub_trans (by decide) hp) | (exact hp (by decide)) | (intro _ _ _) | (intro _ _) | (intro _)
    | (with_reducible apply Works.pumpOutage_leads) | (with_reducible apply Works.lampOutage_leads)
    | (with_reducible apply Works.gateOutage_leads) | (with_reducible apply ite_leads) | split
    | (refine pair_leads (by assumption) ?_)

theorem Works.answerEntry_leads (i : Nat) (w : Works)
    (hp : [Part.dewater, Part.portals, Part.lights, Part.active, Part.budget, Part.line] ⊆ ps)
    (h : Works.Leads ps w0 w) : Works.Leads ps w0 (w.answerEntry i) := by
  unfold Works.answerEntry
  split
  · exact h
  · refine Works.updGrant_leads _ _ _ (fun g => ?_) (sub_trans (by decide) hp)
      (Works.ownerAnswer_leads _ _ (sub_trans (by decide) hp) h)
    unfold Grant.answered
    split <;> simp [Grant.released]

theorem Works.tellQueued_leads (i : Nat) (w : Works)
    (hp : [Part.dewater, Part.portals, Part.lights, Part.active, Part.line] ⊆ ps) (h : Works.Leads ps w0 w) :
    Works.Leads ps w0 (Works.tellQueued i w) := by
  unfold Works.tellQueued
  try dsimp only
  repeat' first
    | (with_reducible assumption) | (exact sub_trans (by decide) hp) | (exact hp (by decide)) | (intro _ _ _) | (intro _ _) | (intro _)
    | (with_reducible apply Works.lampOutageQueued_leads) | (with_reducible apply ite_leads) | split

theorem Works.outage_leads
    (w : Works) (hp : [Part.dewater, Part.portals, Part.lights, Part.active, Part.budget, Part.line, Part.voids] ⊆ ps)
    (h : Works.Leads ps w0 w) : Works.Leads ps w0 w.outage := by
  unfold Works.outage
  dsimp only
  refine each_leads _ _ _ (fun _ _ h => Works.tellQueued_leads _ _ (sub_trans (by decide) hp) h)
    (Works.setQueue_leads _ _ (sub_trans (by decide) hp) ?_)
  refine each_leads _ _ _ (fun _ _ h => Works.answerEntry_leads _ _ (sub_trans (by decide) hp) h)
    (Works.voidGrants_leads _ _ (sub_trans (by decide) hp) ?_)
  refine Works.setBudgetState_leads _ _ (sub_trans (by decide) hp) (Works.recordSource_leads _ _ ?_)
  exact .budget _ _ (hp (by decide)) (fun h1 => Nat.le_trans (inrushCount_map _ _ (fun _ h => h)) h1)
    (Works.setSupply_leads _ _ (sub_trans (by decide) hp) h)

theorem Works.transfer_leads (new : Source) (w : Works)
    (hp : [Part.dewater, Part.portals, Part.lights, Part.active, Part.budget, Part.line, Part.voids] ⊆ ps)
    (h : Works.Leads ps w0 w) :
    Works.Leads ps w0 (Works.transfer new w) := by
  unfold Works.transfer
  try dsimp only
  repeat' first
    | (with_reducible assumption) | (exact sub_trans (by decide) hp) | (exact hp (by decide)) | (intro _ _ _) | (intro _ _) | (intro _)
    | (with_reducible apply Works.setSource_leads) | (with_reducible apply Works.outage_leads)
    | (with_reducible apply ite_leads) | split

theorem Works.changeSource_leads (last : Option Source) (new : Source) (w : Works)
    (hp : [Part.dewater, Part.portals, Part.lights, Part.active, Part.budget, Part.line, Part.voids] ⊆ ps)
    (h : Works.Leads ps w0 w) :
    Works.Leads ps w0 (Works.changeSource last new w) := by
  unfold Works.changeSource
  try dsimp only
  repeat' first
    | (with_reducible assumption) | (exact sub_trans (by decide) hp) | (exact hp (by decide)) | (intro _ _ _) | (intro _ _) | (intro _)
    | (with_reducible apply Works.setSource_leads) | (with_reducible apply Works.outage_leads)
    | (with_reducible apply Works.transfer_leads) | (with_reducible apply ite_leads) | split

theorem Works.switchboardArrival_leads (img : List Byte) (w : Works)
    (hp : [Part.dewater, Part.portals, Part.lights, Part.active, Part.budget, Part.line, Part.voids] ⊆ ps)
    (h : Works.Leads ps w0 w) :
    Works.Leads ps w0 (Works.switchboardArrival img w) := by
  unfold Works.switchboardArrival
  try dsimp only
  repeat' first
    | (with_reducible assumption) | (exact sub_trans (by decide) hp) | (exact hp (by decide)) | (intro _ _ _) | (intro _ _) | (intro _)
    | (with_reducible apply Works.setSupply_leads) | (with_reducible apply Works.recapacity_leads)
    | (with_reducible apply Works.changeSource_leads) | (with_reducible apply ite_leads) | split

theorem Works.switchboardLost_leads  (w : Works) (hp : [Part.budget] ⊆ ps) (h : Works.Leads ps w0 w) :
    Works.Leads ps w0 (Works.switchboardLost w) := by
  unfold Works.switchboardLost
  try dsimp only
  repeat' first
    | (with_reducible assumption) | (exact sub_trans (by decide) hp) | (exact hp (by decide)) | (intro _ _ _) | (intro _ _) | (intro _)
    | (with_reducible apply Works.setSource_leads) | (with_reducible apply ite_leads) | split

theorem Works.recordValidity_leads (c : Nat) (old new : Validity) (value : Nat) (w : Works) (h : Works.Leads ps w0 w)
    :
    Works.Leads ps w0 (Works.recordValidity c old new value w) := by
  unfold Works.recordValidity
  try dsimp only
  repeat' first
    | (with_reducible assumption) | (exact sub_trans (by decide) hp) | (exact hp (by decide)) | (intro _ _ _) | (intro _ _) | (intro _)
    | (with_reducible apply Works.record_leads) | (with_reducible apply ite_leads) | split

theorem Works.recordThreshold_leads (c v : Nat) (t : Threshold) (w : Works) (h : Works.Leads ps w0 w) :
    Works.Leads ps w0 (Works.recordThreshold c v t w) := by
  unfold Works.recordThreshold
  try dsimp only
  repeat' first
    | (with_reducible assumption) | (exact sub_trans (by decide) hp) | (exact hp (by decide)) | (intro _ _ _) | (intro _ _) | (intro _)
    | (with_reducible apply Works.record_leads) | (with_reducible apply ite_leads) | split

theorem Works.riseSample_leads (c v : Nat) (w : Works) (hp : [Part.water, Part.channels] ⊆ ps)
    (h : Works.Leads ps w0 w) :
    Works.Leads ps w0 (Works.riseSample c v w) := by
  unfold Works.riseSample
  try dsimp only
  repeat' first
    | (with_reducible assumption) | (exact sub_trans (by decide) hp) | (exact hp (by decide)) | (intro _ _ _) | (intro _ _) | (intro _)
    | (with_reducible apply Works.record_leads) | (with_reducible apply Works.updChannel_leads)
    | (with_reducible apply ite_leads) | split

theorem Works.setDisagree_leads (c p : Nat) (b : Bool) (w : Works) (hp : [Part.water, Part.channels] ⊆ ps)
    (h : Works.Leads ps w0 w) :
    Works.Leads ps w0 (Works.setDisagree c p b w) := by
  unfold Works.setDisagree
  try dsimp only
  repeat' first
    | (with_reducible assumption) | (exact sub_trans (by decide) hp) | (exact hp (by decide)) | (intro _ _ _) | (intro _ _) | (intro _)
    | (with_reducible apply Works.updChannel_leads) | (with_reducible apply ite_leads) | split

theorem Works.comparePartner_leads (c : Nat) (w : Works) (hp : [Part.water, Part.channels] ⊆ ps)
    (h : Works.Leads ps w0 w) :
    Works.Leads ps w0 (Works.comparePartner c w) := by
  unfold Works.comparePartner
  try dsimp only
  repeat' first
    | (with_reducible assumption) | (exact sub_trans (by decide) hp) | (exact hp (by decide)) | (intro _ _ _) | (intro _ _) | (intro _)
    | (with_reducible apply Works.record_leads) | (with_reducible apply Works.setDisagree_leads)
    | (with_reducible apply ite_leads) | split

theorem Works.handOn_leads (c : Nat) (old : Channel) (facts : Facts) (rise : Bool) (w : Works)
    (hp : [Part.dewater, Part.portals, Part.lights, Part.active, Part.reports, Part.water, Part.budget, Part.line] ⊆ ps)
    (h : Works.Leads ps w0 w) :
    Works.Leads ps w0 (Works.handOn c old facts rise w) := by
  unfold Works.handOn
  try dsimp only
  repeat' first
    | (with_reducible assumption) | (exact sub_trans (by decide) hp) | (exact hp (by decide)) | (intro _ _ _) | (intro _ _) | (intro _)
    | (with_reducible apply Works.levelChanged_leads) | (with_reducible apply Works.luminanceValidity_leads)
    | (with_reducible apply Works.luminanceSample_leads) | (with_reducible apply Works.vehiclesChanged_leads)
    | (with_reducible apply Works.recomputeDepth_leads) | (with_reducible apply Works.judgeStage_leads)
    | (with_reducible apply ite_leads) | split

theorem Works.sample_leads (c v : Nat) (w : Works)
    (hp : [Part.dewater, Part.portals, Part.lights, Part.active, Part.reports, Part.water, Part.channels, Part.budget, Part.line] ⊆ ps)
    (h : Works.Leads ps w0 w) :
    Works.Leads ps w0 (Works.sample c v w) := by
  unfold Works.sample
  try dsimp only
  repeat' first
    | (with_reducible assumption) | (exact sub_trans (by decide) hp) | (exact hp (by decide)) | (intro _ _ _) | (intro _ _) | (intro _)
    | (with_reducible apply Works.updChannel_leads) | (with_reducible apply Works.recordValidity_leads)
    | (with_reducible apply Works.recordThreshold_leads) | (with_reducible apply Works.riseSample_leads)
    | (with_reducible apply Works.comparePartner_leads) | (with_reducible apply Works.handOn_leads)
    | (with_reducible refine each_leads _ _ _ ?_ ?_) | (with_reducible apply ite_leads) | split

theorem Works.reading_leads (t : UnitType) (img : List Byte) (k : Nat) (kind : ChannelKind) (w : Works)
    (hp : [Part.fresh] ⊆ ps) (h : Works.Leads ps w0 w) :
    Works.Leads ps w0 (Works.reading t img k kind w).2 := by
  unfold Works.reading
  try dsimp only
  repeat' first
    | (with_reducible assumption) | (exact sub_trans (by decide) hp) | (exact hp (by decide)) | (intro _ _ _) | (intro _ _) | (intro _)
    | (with_reducible apply Works.draw_leads) | (with_reducible apply ite_leads) | split
    | (refine pair_leads (by assumption) ?_)

theorem Works.analogItem_leads (u : Nat) (t : UnitType) (img : List Byte) (k : Nat) (w : Works)
    (hp : [Part.dewater, Part.portals, Part.lights, Part.active, Part.reports, Part.fresh, Part.water, Part.channels, Part.budget, Part.line] ⊆ ps)
    (h : Works.Leads ps w0 w) :
    Works.Leads ps w0 (Works.analogItem u t img k w) := by
  unfold Works.analogItem
  try dsimp only
  repeat' first
    | (with_reducible assumption) | (exact sub_trans (by decide) hp) | (exact hp (by decide)) | (intro _ _ _) | (intro _ _) | (intro _)
    | (with_reducible apply Works.sample_leads) | (with_reducible apply Works.reading_leads)
    | (with_reducible apply ite_leads) | split | (refine pair_leads (by assumption) ?_)

theorem Works.analogArrival_leads (u : Nat) (t : UnitType) (img : List Byte) (w : Works)
    (hp : [Part.dewater, Part.portals, Part.lights, Part.active, Part.reports, Part.fresh, Part.water, Part.channels, Part.budget, Part.line] ⊆ ps)
    (h : Works.Leads ps w0 w) :
    Works.Leads ps w0 (Works.analogArrival u t img w) := by
  unfold Works.analogArrival
  try dsimp only
  repeat' first
    | (with_reducible assumption) | (exact sub_trans (by decide) hp) | (exact hp (by decide)) | (intro _ _ _) | (intro _ _) | (intro _)
    | (with_reducible apply Works.analogItem_leads) | (with_reducible refine each_leads _ _ _ ?_ ?_)
    | (with_reducible apply ite_leads) | split

theorem Works.channelLost_leads (c : Nat) (w : Works)
    (hp : [Part.dewater, Part.portals, Part.lights, Part.active, Part.reports, Part.water, Part.channels, Part.budget, Part.line] ⊆ ps)
    (h : Works.Leads ps w0 w) :
    Works.Leads ps w0 (Works.channelLost c w) := by
  unfold Works.channelLost
  try dsimp only
  repeat' first
    | (with_reducible assumption) | (exact sub_trans (by decide) hp) | (exact hp (by decide)) | (intro _ _ _) | (intro _ _) | (intro _)
    | (with_reducible apply Works.updChannel_leads) | (with_reducible apply Works.recordValidity_leads)
    | (with_reducible apply Works.handOn_leads) | (with_reducible apply ite_leads) | split

theorem Works.channelsLost_leads (u : Nat) (w : Works)
    (hp : [Part.dewater, Part.portals, Part.lights, Part.active, Part.reports, Part.water, Part.channels, Part.budget, Part.line] ⊆ ps)
    (h : Works.Leads ps w0 w) :
    Works.Leads ps w0 (Works.channelsLost u w) := by
  unfold Works.channelsLost
  try dsimp only
  repeat' first
    | (with_reducible assumption) | (exact sub_trans (by decide) hp) | (exact hp (by decide)) | (intro _ _ _) | (intro _ _) | (intro _)
    | (with_reducible refine each_leads _ _ _ ?_ ?_)
    | (with_reducible apply Works.updChoices_leads)
    | (with_reducible apply Works.channelLost_leads)
    | (with_reducible apply ite_leads) | split

theorem Works.riseExpiry_leads (c : Nat) (w : Works) (hp : [Part.water, Part.channels] ⊆ ps) (h : Works.Leads ps w0 w)
    :
    Works.Leads ps w0 (Works.riseExpiry c w) := by
  unfold Works.riseExpiry
  try dsimp only
  repeat' first
    | (with_reducible assumption) | (exact sub_trans (by decide) hp) | (exact hp (by decide)) | (intro _ _ _) | (intro _ _) | (intro _)
    | (with_reducible apply Works.updChannel_leads) | (with_reducible apply ite_leads) | split

theorem Works.updClaims_leads (f : Claim → Claim) (w : Works) (hp : [Part.claims] ⊆ ps) (h : Works.Leads ps w0 w) :
    Works.Leads ps w0 (Works.updClaims f w) := by
  unfold Works.updClaims
  try dsimp only
  repeat' first
    | (with_reducible assumption) | (exact sub_trans (by decide) hp) | (exact hp (by decide)) | (intro _ _ _) | (intro _ _) | (intro _)
    | exact Works.Leads.claims _ _ (hp (by decide)) (by assumption) | (with_reducible apply ite_leads) | split

theorem Works.pollKeys_leads (u : Nat) (t : UnitType) (img : List Byte) (w : Works) (hp : [Part.claims] ⊆ ps)
    (h : Works.Leads ps w0 w) :
    Works.Leads ps w0 (Works.pollKeys u t img w) := by
  unfold Works.pollKeys
  try dsimp only
  repeat' first
    | (with_reducible assumption) | (exact sub_trans (by decide) hp) | (exact hp (by decide)) | (intro _ _ _) | (intro _ _) | (intro _)
    | (with_reducible apply Works.updClaims_leads) | (with_reducible apply ite_leads) | split

theorem Works.flagKeys_leads (u : Nat) (w : Works) (hp : [Part.claims] ⊆ ps) (h : Works.Leads ps w0 w) :
    Works.Leads ps w0 (Works.flagKeys u w) := by
  unfold Works.flagKeys
  try dsimp only
  repeat' first
    | (with_reducible assumption) | (exact sub_trans (by decide) hp) | (exact hp (by decide)) | (intro _ _ _) | (intro _ _) | (intro _)
    | (with_reducible apply Works.updClaims_leads) | (with_reducible apply ite_leads) | split

theorem Works.handClaim_leads (images : Nat → Option (List Byte)) (reports : List (Option Nat)) (joined : Bool) (n : NewClaim) (w : Works)
    (hp : [Part.dewater, Part.portals, Part.lights, Part.active, Part.reports, Part.water, Part.budget, Part.line] ⊆ ps)
    (h : Works.Leads ps w0 w) :
    Works.Leads ps w0 (Works.handClaim images reports joined n w) := by
  unfold Works.handClaim
  try dsimp only
  repeat' first
    | (with_reducible assumption) | (exact sub_trans (by decide) hp) | (exact hp (by decide)) | (intro _ _ _) | (intro _ _) | (intro _)
    | (with_reducible apply Works.pumpViews_leads)
    | (with_reducible apply Works.uncommandPump_leads)
    | (with_reducible apply Works.settlePump_leads)
    | (with_reducible apply Works.uncommandZone_leads)
    | (with_reducible apply Works.settleZone_leads)
    | (with_reducible apply Works.uncommandPortal_leads)
    | (with_reducible apply Works.settlePortal_leads)
    | (with_reducible apply ite_leads) | split

theorem Works.takeFloats_leads (images : Nat → Option (List Byte)) (w : Works)
    (hp : [Part.dewater, Part.portals, Part.lights, Part.active, Part.line] ⊆ ps)
    (h : Works.Leads ps w0 w) :
    Works.Leads ps w0 (Works.takeFloats images w) := by
  unfold Works.takeFloats
  try dsimp only
  repeat' first
    | (with_reducible assumption) | (exact sub_trans (by decide) hp) | (exact hp (by decide)) | (intro _ _ _) | (intro _ _) | (intro _)
    | (with_reducible refine each_leads _ _ _ ?_ ?_)
    | (with_reducible apply Works.floatsAhead_leads)
    | (with_reducible apply ite_leads) | split

theorem Works.tellLosses_leads (images : Nat → Option (List Byte)) (reports : List (Option Nat)) (joined : Bool)
    (gone : List NewClaim) (w : Works) (hp : [Part.dewater, Part.portals, Part.lights, Part.active, Part.reports, Part.water, Part.budget, Part.line] ⊆ ps)
    (h : Works.Leads ps w0 w) :
    Works.Leads ps w0 (Works.tellLosses images reports joined gone w) := by
  unfold Works.tellLosses
  repeat' first
    | (with_reducible assumption) | (exact sub_trans (by decide) hp) | (exact hp (by decide)) | (intro _ _ _) | (intro _ _) | (intro _)
    | (with_reducible refine each_leads _ _ _ ?_ ?_)
    | (with_reducible apply Works.panelReports_leads)
    | (with_reducible apply Works.handClaim_leads)
    | (with_reducible apply ite_leads)

theorem Works.tellSettlements_leads (images : Nat → Option (List Byte)) (reports : List (Option Nat)) (joined : Bool)
    (gone back : List NewClaim) (w : Works) (hp : [Part.dewater, Part.portals, Part.lights, Part.active, Part.reports, Part.water, Part.budget, Part.line] ⊆ ps)
    (h : Works.Leads ps w0 w) :
    Works.Leads ps w0 (Works.tellSettlements images reports joined gone back w) := by
  unfold Works.tellSettlements
  dsimp only
  repeat' first
    | (with_reducible assumption) | (exact sub_trans (by decide) hp) | (exact hp (by decide)) | (intro _ _ _) | (intro _ _) | (intro _)
    | (with_reducible refine each_leads _ _ _ ?_ ?_)
    | (with_reducible apply Works.takeFloats_leads)
    | (with_reducible apply Works.handClaim_leads)
    | (with_reducible apply ite_leads)

theorem Works.handClaims_leads (images : Nat → Option (List Byte)) (reports : List (Option Nat)) (joined : Bool)
    (l : List NewClaim) (w : Works)
    (hp : [Part.dewater, Part.portals, Part.lights, Part.active, Part.reports, Part.water, Part.budget, Part.line] ⊆ ps)
    (h : Works.Leads ps w0 w) :
    Works.Leads ps w0 (Works.handClaims images reports joined l w) := by
  unfold Works.handClaims
  try dsimp only
  repeat' first
    | (with_reducible assumption) | (exact sub_trans (by decide) hp) | (exact hp (by decide)) | (intro _ _ _) | (intro _ _) | (intro _)
    | (with_reducible refine each_leads _ _ _ ?_ ?_)
    | (with_reducible apply Works.judgeBudget_leads)
    | (with_reducible apply Works.serveAll_leads)
    | (with_reducible apply Works.judgeZoneSet_leads)
    | (with_reducible apply Works.followCircuits_leads)
    | (with_reducible apply Works.setTargets_leads)
    | (with_reducible apply Works.tellLosses_leads)
    | (with_reducible apply Works.tellSettlements_leads)
    | (with_reducible apply ite_leads)

theorem Works.setClaims_leads (cause : ClaimCause) (l : List NewClaim) (w : Works) (hp : [Part.claims] ⊆ ps)
    (h : Works.Leads ps w0 w) :
    Works.Leads ps w0 (Works.setClaims cause l w) := by
  unfold Works.setClaims
  try dsimp only
  repeat' first
    | (with_reducible assumption) | (exact sub_trans (by decide) hp) | (exact hp (by decide)) | (intro _ _ _) | (intro _ _) | (intro _)
    | (with_reducible apply Works.setClaim_leads) | (with_reducible refine each_leads _ _ _ ?_ ?_)
    | (with_reducible apply ite_leads) | split

theorem Works.claimsLost_leads (u : Nat) (w : Works)
    (hp : [Part.dewater, Part.portals, Part.lights, Part.claims, Part.active, Part.reports, Part.water, Part.budget, Part.line] ⊆ ps)
    (h : Works.Leads ps w0 w) :
    Works.Leads ps w0 (Works.claimsLost u w) := by
  unfold Works.claimsLost
  try dsimp only
  repeat' first
    | (with_reducible assumption) | (exact sub_trans (by decide) hp) | (exact hp (by decide)) | (intro _ _ _) | (intro _ _) | (intro _)
    | (with_reducible apply Works.updClaims_leads)
    | (with_reducible apply Works.handClaims_leads)
    | (with_reducible apply Works.setClaims_leads)
    | (with_reducible apply ite_leads) | split

theorem Works.judgeKeys_leads (u : Nat) (images : Nat → Option (List Byte)) (w : Works)
    (hp : [Part.dewater, Part.portals, Part.lights, Part.claims, Part.active, Part.reports, Part.water, Part.budget, Part.line] ⊆ ps)
    (h : Works.Leads ps w0 w) :
    Works.Leads ps w0 (Works.judgeKeys u images w) := by
  unfold Works.judgeKeys
  try dsimp only
  repeat' first
    | (with_reducible assumption) | (exact sub_trans (by decide) hp) | (exact hp (by decide)) | (intro _ _ _) | (intro _ _) | (intro _)
    | (with_reducible apply Works.handClaims_leads)
    | (with_reducible apply Works.setClaims_leads)
    | (with_reducible apply ite_leads) | split

theorem Works.reconcile_leads (units : List Nat) (cause : ClaimCause) (images : Nat → Option (List Byte)) (w : Works)
    (hp : [Part.dewater, Part.portals, Part.lights, Part.claims, Part.active, Part.reports, Part.water, Part.budget, Part.line] ⊆ ps)
    (h : Works.Leads ps w0 w) :
    Works.Leads ps w0 (Works.reconcile units cause images w) := by
  unfold Works.reconcile
  try dsimp only
  repeat' first
    | (with_reducible assumption) | (exact sub_trans (by decide) hp) | (exact hp (by decide)) | (intro _ _ _) | (intro _ _) | (intro _)
    | (with_reducible apply Works.handClaims_leads)
    | (with_reducible apply Works.setClaims_leads)
    | (with_reducible apply ite_leads) | split

theorem Works.forceClaim_leads (old : List Claim) (cause : ClaimCause) (n : NewClaim) (w : Works)
    (hp : [Part.claims] ⊆ ps) (h : Works.Leads ps w0 w) :
    Works.Leads ps w0 (Works.forceClaim old cause n w) := by
  unfold Works.forceClaim
  try dsimp only
  repeat' first
    | (with_reducible assumption) | (exact sub_trans (by decide) hp) | (exact hp (by decide)) | (intro _ _ _) | (intro _ _) | (intro _)
    | (with_reducible apply Works.record_leads) | exact Works.Leads.claims _ _ (hp (by decide)) (by assumption)
    | (with_reducible apply ite_leads) | split

theorem Works.forceReconcile_leads (u : Nat) (cause : ClaimCause) (images : Nat → Option (List Byte)) (w : Works)
    (hp : [Part.dewater, Part.portals, Part.lights, Part.claims, Part.active, Part.reports, Part.water, Part.budget, Part.line] ⊆ ps)
    (h : Works.Leads ps w0 w) :
    Works.Leads ps w0 (Works.forceReconcile u cause images w) := by
  unfold Works.forceReconcile
  try dsimp only
  repeat' first
    | (with_reducible assumption) | (exact sub_trans (by decide) hp) | (exact hp (by decide)) | (intro _ _ _) | (intro _ _) | (intro _)
    | (with_reducible refine each_leads _ _ _ ?_ ?_)
    | (with_reducible apply Works.updClaims_leads)
    | (with_reducible apply Works.handClaim_leads)
    | (with_reducible apply Works.handClaims_leads)
    | (with_reducible apply Works.forceClaim_leads)
    | (with_reducible apply ite_leads) | split

theorem Works.reportPair_leads (m : Motion) (e : PairEnd) (r : Requester) (w : Works)
    (hp : [Part.dewater, Part.portals, Part.lights, Part.active, Part.reports, Part.water, Part.line] ⊆ ps)
    (h : Works.Leads ps w0 w) :
    Works.Leads ps w0 (Works.reportPair m e r w) := by
  unfold Works.reportPair
  try dsimp only
  repeat' first
    | (with_reducible assumption) | (exact sub_trans (by decide) hp) | (exact hp (by decide)) | (intro _ _ _) | (intro _ _) | (intro _)
    | (with_reducible apply Works.startPairEnd_leads) | (with_reducible apply Works.gatePairEnd_leads)
    | (with_reducible apply Works.barrierPairEnd_leads) | (with_reducible apply ite_leads) | split

theorem Works.reportReq_leads (value : Nat) (e : ReqEnd) (r : Requester) (w : Works)
    (hp : [Part.dewater, Part.portals, Part.lights, Part.active, Part.reports, Part.water, Part.line] ⊆ ps)
    (h : Works.Leads ps w0 w) :
    Works.Leads ps w0 (Works.reportReq value e r w) := by
  unfold Works.reportReq
  try dsimp only
  repeat' first
    | (with_reducible assumption) | (exact sub_trans (by decide) hp) | (exact hp (by decide)) | (intro _ _ _) | (intro _ _) | (intro _)
    | (with_reducible apply Works.pumpHaltEnd_leads) | (with_reducible apply Works.lampSetEnd_leads)
    | (with_reducible apply Works.signalSetEnd_leads) | (with_reducible apply Works.gateHaltEnd_leads)
    | (with_reducible apply ite_leads) | split

theorem Works.reportEntry_leads (q : QEntry) (pair : PairEnd) (req : ReqEnd) (w : Works)
    (hp : [Part.dewater, Part.portals, Part.lights, Part.active, Part.reports, Part.water, Part.line] ⊆ ps)
    (h : Works.Leads ps w0 w) :
    Works.Leads ps w0 (Works.reportEntry q pair req w) := by
  unfold Works.reportEntry
  try dsimp only
  repeat' first
    | (with_reducible assumption) | (exact sub_trans (by decide) hp) | (exact hp (by decide)) | (intro _ _ _) | (intro _ _) | (intro _)
    | (with_reducible apply Works.reportPair_leads) | (with_reducible apply Works.reportReq_leads)
    | (with_reducible refine each_leads _ _ _ ?_ ?_) | (with_reducible apply ite_leads) | split

theorem Works.unitGone_leads (u : Nat) (stale : Bool) (w : Works)
    (hp : [Part.dewater, Part.portals, Part.lights, Part.claims, Part.active, Part.reports, Part.water, Part.channels, Part.budget, Part.line] ⊆ ps)
    (h : Works.Leads ps w0 w) :
    Works.Leads ps w0 (Works.unitGone u stale w) := by
  unfold Works.unitGone
  try dsimp only
  repeat' first
    | (with_reducible assumption) | (exact sub_trans (by decide) hp) | (exact hp (by decide)) | (intro _ _ _) | (intro _ _) | (intro _)
    | (with_reducible apply Works.dewaterLost_leads) | (with_reducible apply Works.portalLost_leads)
    | (with_reducible apply Works.switchboardLost_leads) | (with_reducible apply Works.channelsLost_leads)
    | (with_reducible apply Works.claimsLost_leads) | (with_reducible refine each_leads _ _ _ ?_ ?_)
    | (with_reducible apply ite_leads) | split

theorem Works.removeRequests_leads (u : Nat) (w : Works)
    (hp : [Part.dewater, Part.portals, Part.lights, Part.active, Part.reports, Part.water, Part.line] ⊆ ps)
    (h : Works.Leads ps w0 w) : Works.Leads ps w0 (w.removeRequests u) := by
  unfold Works.removeRequests
  refine Works.updRoster_leads _ _ _ (sub_trans (by decide) hp)
    (each_leads _ _ _ (fun _ _ h => Works.reportEntry_leads _ _ _ _ (sub_trans (by decide) hp) h) ?_)
  exact Works.setLineQueue_leads _ _ (fun hq => Nat.le_trans (List.length_filter_le _ _) hq)
    (sub_trans (by decide) hp) h

theorem Works.recordUnit_leads (u : Nat) (old : RosterState) (cause : UnitCause) (w : Works) (h : Works.Leads ps w0 w)
    :
    Works.Leads ps w0 (Works.recordUnit u old cause w) := by
  unfold Works.recordUnit
  try dsimp only
  repeat' first
    | (with_reducible assumption) | (exact sub_trans (by decide) hp) | (exact hp (by decide)) | (intro _ _ _) | (intro _ _) | (intro _)
    | (with_reducible apply Works.record_leads) | (with_reducible apply ite_leads) | split

theorem Works.jobsRun_leads
    (w : Works) (hp : [Part.dewater, Part.portals, Part.lights, Part.active, Part.reports, Part.water, Part.line] ⊆ ps) (h : Works.Leads ps w0 w) :
    Works.Leads ps w0 (Works.jobsRun w) := by
  unfold Works.jobsRun
  try dsimp only
  repeat' first
    | (with_reducible assumption) | (exact sub_trans (by decide) hp) | (exact hp (by decide)) | (intro _ _ _) | (intro _ _) | (intro _)
    | (with_reducible apply Works.serveAll_leads) | (with_reducible apply Works.portalRun_leads)
    | (with_reducible apply ite_leads) | split

theorem Works.jobsHold_leads
    (w : Works) (hp : [Part.dewater, Part.portals, Part.lights, Part.active, Part.line] ⊆ ps) (h : Works.Leads ps w0 w) :
    Works.Leads ps w0 (Works.jobsHold w) := by
  unfold Works.jobsHold
  try dsimp only
  repeat' first
    | (with_reducible assumption) | (exact sub_trans (by decide) hp) | (exact hp (by decide)) | (intro _ _ _) | (intro _ _) | (intro _)
    | (with_reducible apply Works.serveAll_leads) | (with_reducible apply Works.portalHold_leads)
    | (with_reducible apply ite_leads) | split

theorem Works.startRound_leads  (w : Works) (hp : [Part.line] ⊆ ps) (h : Works.Leads ps w0 w) :
    Works.Leads ps w0 (Works.startRound w) := by
  unfold Works.startRound
  try dsimp only
  repeat' first
    | (with_reducible assumption) | (exact sub_trans (by decide) hp) | (exact hp (by decide)) | (intro _ _ _) | (intro _ _) | (intro _)
    | (with_reducible refine Works.setLine_leads _ _ (by first | exact fun h => h | (intro h; simp at h ⊢; omega)) ?_ ?_)
    | (with_reducible apply ite_leads) | split

theorem Works.endRound_leads (w : Works)
    (hp : [Part.line] ⊆ ps)
    (h : Works.Leads ps w0 w) :
    Works.Leads ps w0 (Works.endRound w) := by
  unfold Works.endRound
  try dsimp only
  repeat' first
    | (with_reducible assumption) | (exact sub_trans (by decide) hp) | (exact hp (by decide)) | (intro _ _ _) | (intro _ _) | (intro _)
    | (with_reducible apply Works.setLine_leads)
    | (with_reducible apply Works.wantImage_leads)
    | (with_reducible apply ite_leads) | split

theorem Works.endIfOver_leads (w : Works)
    (hp : [Part.line] ⊆ ps)
    (h : Works.Leads ps w0 w) :
    Works.Leads ps w0 (Works.endIfOver w) := by
  unfold Works.endIfOver
  try dsimp only
  repeat' first
    | (with_reducible assumption) | (exact sub_trans (by decide) hp) | (exact hp (by decide)) | (intro _ _ _) | (intro _ _) | (intro _)
    | (with_reducible apply Works.endRound_leads)
    | (with_reducible apply ite_leads) | split

theorem Works.takeOfReconciliation_leads (i : Instr) (w : Works)
    (hp : [Part.budget] ⊆ ps)
    (h : Works.Leads ps w0 w) :
    Works.Leads ps w0 (Works.takeOfReconciliation i w) := by
  unfold Works.takeOfReconciliation
  try dsimp only
  repeat' first
    | (with_reducible assumption) | (exact sub_trans (by decide) hp) | (exact hp (by decide)) | (intro _ _ _) | (intro _ _) | (intro _)
    | (with_reducible apply Works.classUnjudged_leads)
    | (with_reducible apply Works.classNotice_leads)
    | (with_reducible apply Works.adoptUnjudged_leads)
    | (with_reducible apply ite_leads) | split

theorem Works.decideUnit_leads (r : RosterEntry) (w : Works)
    (hp : [Part.dewater, Part.portals, Part.lights, Part.claims, Part.active, Part.reports, Part.water, Part.channels, Part.budget, Part.line] ⊆ ps)
    (h : Works.Leads ps w0 w) : Works.Leads ps w0 (w.decideUnit r) := by
  have h1 := Works.recordUnit_leads r.address r.state .rollCall _ (Works.updRoster_leads r.address
    (fun r => { r with state := if r.heard then .present else .lost }) w (sub_trans (by decide) hp) h)
  unfold Works.decideUnit
  split
  · exact h1
  · exact Works.unitGone_leads _ _ _ (sub_trans (by decide) hp) h1

theorem Works.reconstructPanel_leads (images : Nat → Option (List Byte)) (n : Nat) (w : Works)
    (hp : [Part.dewater, Part.portals, Part.lights, Part.active, Part.reports, Part.water, Part.budget, Part.line] ⊆ ps)
    (h : Works.Leads ps w0 w) :
    Works.Leads ps w0 (Works.reconstructPanel images n w) := by
  unfold Works.reconstructPanel
  try dsimp only
  repeat' first
    | (with_reducible assumption) | (exact sub_trans (by decide) hp) | (exact hp (by decide)) | (intro _ _ _) | (intro _ _) | (intro _)
    | (with_reducible apply Works.takeBarrier_leads) | (with_reducible apply Works.takeGate_leads)
    | (with_reducible apply Works.reconstruct_leads) | (with_reducible apply Works.closure_leads)
    | (with_reducible apply ite_leads) | split

theorem Works.takeAdoptions_leads (w : Works) (hp : [Part.budget, Part.voids] ⊆ ps) (h : Works.Leads ps w0 w) :
    Works.Leads ps w0 (Works.takeAdoptions w) :=
  Works.judgeBudget_leads _ (sub_trans (by decide) hp)
    (each_leads _ _ _ (fun _ _ h => Works.takeOfReconciliation_leads _ _ (sub_trans (by decide) hp) h)
      (.notices _ _ (hp (by decide)) h))

theorem Works.rollCallReconcile_leads (w : Works)
    (hp : [Part.dewater, Part.portals, Part.lights, Part.claims, Part.active, Part.reports, Part.water, Part.channels, Part.budget, Part.line, Part.voids] ⊆ ps)
    (h : Works.Leads ps w0 w) : Works.Leads ps w0 w.rollCallReconcile := by
  unfold Works.rollCallReconcile
  dsimp only
  refine Works.takeAdoptions_leads _ (sub_trans (by decide) hp)
    (Works.runReports_leads _ (sub_trans (by decide) hp) ?_)
  refine Works.reconstructPanel_leads _ _ _ (sub_trans (by decide) hp) (Works.reconstructPanel_leads _ _ _
    (sub_trans (by decide) hp) (Works.reconcile_leads _ _ _ _ (sub_trans (by decide) hp) ?_))
  refine each_leads _ _ _ (fun r w h => ?_) ?_
  · split
    · exact Works.floatItems_leads _ _ _ _ (sub_trans (by decide) hp) h
    · exact h
  · exact Works.setLine_leads _ _ (fun h => h) (sub_trans (by decide) hp)
      (each_leads _ _ _ (fun _ _ h => Works.decideUnit_leads _ _ (sub_trans (by decide) hp) h) h)

theorem Works.startExchange_leads (k : ExKind) (unit : Nat) (c : LineCmd) (params : List Nat) (w : Works)
    (hp : [Part.line] ⊆ ps) (h : Works.Leads ps w0 w) :
    Works.Leads ps w0 (Works.startExchange k unit c params w) := by
  unfold Works.startExchange
  try dsimp only
  repeat' first
    | (with_reducible assumption) | (exact sub_trans (by decide) hp) | (exact hp (by decide)) | (intro _ _ _) | (intro _ _) | (intro _)
    | (with_reducible refine Works.setLine_leads _ _ (by first | exact fun h => h | (intro h; simp at h ⊢; omega)) ?_ ?_)
    | (with_reducible apply ite_leads) | split

theorem Works.setSelection_leads (u : Nat) (s : Selection) (w : Works) (hp : [Part.line] ⊆ ps)
    (h : Works.Leads ps w0 w) :
    Works.Leads ps w0 (Works.setSelection u s w) := by
  unfold Works.setSelection
  try dsimp only
  repeat' first
    | (with_reducible assumption) | (exact sub_trans (by decide) hp) | (exact hp (by decide)) | (intro _ _ _) | (intro _ _) | (intro _)
    | (with_reducible apply Works.updRoster_leads) | (with_reducible apply ite_leads) | split

theorem Works.judgeRound_leads (w : Works)
    (hp : [Part.line] ⊆ ps)
    (h : Works.Leads ps w0 w) :
    Works.Leads ps w0 (Works.judgeRound w) := by
  unfold Works.judgeRound
  try dsimp only
  repeat' first
    | (with_reducible assumption) | (exact sub_trans (by decide) hp) | (exact hp (by decide)) | (intro _ _ _) | (intro _ _) | (intro _)
    | (with_reducible apply Works.startRound_leads)
    | (with_reducible apply Works.endRound_leads)
    | (with_reducible apply Works.endIfOver_leads)
    | (with_reducible apply ite_leads) | split

theorem Works.pollRoundStart_leads  (w : Works) (hp : [Part.line] ⊆ ps) (h : Works.Leads ps w0 w) :
    Works.Leads ps w0 (Works.pollRoundStart w) := by
  unfold Works.pollRoundStart
  try dsimp only
  repeat' first
    | (with_reducible assumption) | (exact sub_trans (by decide) hp) | (exact hp (by decide)) | (intro _ _ _) | (intro _ _) | (intro _)
    | (with_reducible apply Works.startRound_leads) | (with_reducible apply ite_leads) | split

theorem Works.retireUnit_leads (slot u : Nat) (w : Works)
    (hp : [Part.dewater, Part.portals, Part.lights, Part.claims, Part.active, Part.reports, Part.water, Part.channels, Part.budget, Part.line] ⊆ ps)
    (h : Works.Leads ps w0 w) : Works.Leads ps w0 (w.retireUnit slot u) := by
  unfold Works.retireUnit
  split
  · exact h
  · split
    · exact Works.complete_leads _ _ _ _ _ _ (sub_trans (by decide) hp) h
    · exact Works.complete_leads _ _ _ _ _ _ (sub_trans (by decide) hp)
        (Works.removeRequests_leads _ _ (sub_trans (by decide) hp) (Works.unitGone_leads _ _ _ (sub_trans (by decide) hp)
        (Works.recordUnit_leads _ _ _ _ (Works.updRoster_leads _ _ _ (sub_trans (by decide) hp) h))))

theorem Works.judgeRetire_leads
    (w : Works) (hp : [Part.dewater, Part.portals, Part.lights, Part.claims, Part.active, Part.reports, Part.water, Part.channels, Part.budget, Part.line] ⊆ ps) (h : Works.Leads ps w0 w) :
    Works.Leads ps w0 (Works.judgeRetire w) := by
  unfold Works.judgeRetire
  try dsimp only
  repeat' first
    | (with_reducible assumption) | (exact sub_trans (by decide) hp) | (exact hp (by decide)) | (intro _ _ _) | (intro _ _) | (intro _)
    | (with_reducible refine Works.completeAll_leads _ _ _ ?_ ?_) | (with_reducible apply Works.retireUnit_leads)
    | (with_reducible apply ite_leads) | split

theorem Works.requestTransmitted_leads  (w : Works) (hp : [Part.line] ⊆ ps) (h : Works.Leads ps w0 w) :
    Works.Leads ps w0 (Works.requestTransmitted w) := by
  unfold Works.requestTransmitted
  try dsimp only
  repeat' first
    | (with_reducible assumption) | (exact sub_trans (by decide) hp) | (exact hp (by decide)) | (intro _ _ _) | (intro _ _) | (intro _)
    | (with_reducible refine Works.setLine_leads _ _ (by first | exact fun h => h | (intro h; simp at h ⊢; omega)) ?_ ?_)
    | (with_reducible apply ite_leads) | split

theorem Works.byteReceived_leads (b : Byte) (w : Works) (hp : [Part.line] ⊆ ps) (h : Works.Leads ps w0 w) :
    Works.Leads ps w0 (Works.byteReceived b w) := by
  unfold Works.byteReceived
  try dsimp only
  repeat' first
    | (with_reducible assumption) | (exact sub_trans (by decide) hp) | (exact hp (by decide)) | (intro _ _ _) | (intro _ _) | (intro _)
    | (with_reducible apply Works.send_leads)
    | (with_reducible refine Works.setLine_leads _ _ (by first | exact fun h => h | (intro h; simp at h ⊢; omega)) ?_ ?_)
    | (with_reducible apply ite_leads) | split

theorem Works.gapTimeout_leads  (w : Works) (hp : [Part.line] ⊆ ps) (h : Works.Leads ps w0 w) :
    Works.Leads ps w0 (Works.gapTimeout w) := by
  unfold Works.gapTimeout
  try dsimp only
  repeat' first
    | (with_reducible assumption) | (exact sub_trans (by decide) hp) | (exact hp (by decide)) | (intro _ _ _) | (intro _ _) | (intro _)
    | (with_reducible refine Works.setLine_leads _ _ (by first | exact fun h => h | (intro h; simp at h ⊢; omega)) ?_ ?_)
    | (with_reducible apply ite_leads) | split

theorem Works.lineError_leads (x : Exchange) (e : LineError) (state : RosterState) (w : Works) (hp : [Part.line] ⊆ ps)
    (h : Works.Leads ps w0 w) :
    Works.Leads ps w0 (Works.lineError x e state w) := by
  unfold Works.lineError
  try dsimp only
  repeat' first
    | (with_reducible assumption) | (exact sub_trans (by decide) hp) | (exact hp (by decide)) | (intro _ _ _) | (intro _ _) | (intro _)
    | (with_reducible apply Works.record_leads) | (with_reducible apply Works.updRoster_leads)
    | (with_reducible apply ite_leads) | split

theorem Works.errorCode_leads (data : List Byte) (w : Works) (hp : [Part.fresh] ⊆ ps) (h : Works.Leads ps w0 w) :
    Works.Leads ps w0 (Works.errorCode data w).2 := by
  unfold Works.errorCode
  try dsimp only
  repeat' first
    | (with_reducible assumption) | (exact sub_trans (by decide) hp) | (exact hp (by decide)) | (intro _ _ _) | (intro _ _) | (intro _)
    | (with_reducible apply Works.draw_leads) | (with_reducible apply ite_leads) | split
    | (refine pair_leads (by assumption) ?_)

theorem Works.handInputs_leads (u : Nat) (t : UnitType) (img : List Byte) (w : Works)
    (hp : [Part.dewater, Part.portals, Part.lights, Part.active, Part.reports, Part.fresh, Part.water, Part.channels, Part.budget, Part.line, Part.voids] ⊆ ps)
    (h : Works.Leads ps w0 w) : Works.Leads ps w0 (w.handInputs u t img) := by
  have h1 := Works.analogArrival_leads u t img w (sub_trans (by decide) hp) h
  unfold Works.handInputs
  generalize w.analogArrival u t img = v at *
  cases t <;> dsimp only <;> repeat' first
    | exact h1 | (exact sub_trans (by decide) hp) | (with_reducible apply ite_leads)
    | (with_reducible apply Works.switchboardArrival_leads)
    | (with_reducible apply Works.dewaterArrival_leads) | (with_reducible apply Works.floatItems_leads)
    | (with_reducible apply Works.lampArrival_leads)
    | (with_reducible refine each_leads _ _ _ (fun _ _ h => Works.portalArrival_leads _ _ _ (sub_trans (by decide) hp) h) ?_)

theorem Works.retryNotices_leads (u : Nat) (w : Works)
    (hp : [Part.dewater, Part.portals, Part.lights, Part.active, Part.reports, Part.water, Part.line] ⊆ ps)
    (h : Works.Leads ps w0 w) :
    Works.Leads ps w0 (Works.retryNotices u w) := by
  unfold Works.retryNotices
  try dsimp only
  repeat' first
    | (with_reducible assumption) | (exact sub_trans (by decide) hp) | (exact hp (by decide)) | (intro _ _ _) | (intro _ _) | (intro _)
    | (with_reducible apply Works.updRoster_leads) | (with_reducible apply Works.dewaterRetry_leads)
    | (with_reducible apply Works.lightingRetry_leads) | (with_reducible apply Works.portalRetry_leads)
    | (with_reducible refine each_leads _ _ _ ?_ ?_) | (with_reducible apply ite_leads) | split

theorem Works.deselect_leads (u : Nat) (w : Works) (hp : [Part.dewater, Part.portals, Part.lights, Part.line] ⊆ ps)
    (h : Works.Leads ps w0 w) :
    Works.Leads ps w0 (Works.deselect u w) := by
  unfold Works.deselect
  try dsimp only
  repeat' first
    | (with_reducible assumption) | (exact sub_trans (by decide) hp) | (exact hp (by decide)) | (intro _ _ _) | (intro _ _) | (intro _)
    | (with_reducible apply Works.request_leads) | (with_reducible apply ite_leads) | split
    | (refine pair_leads (by assumption) ?_)

theorem Works.reportEnd_leads (k : ExKind) (u : Nat) (good : Option (Option Nat)) (w : Works)
    (hp : [Part.dewater, Part.portals, Part.lights, Part.active, Part.reports, Part.water, Part.line] ⊆ ps)
    (h : Works.Leads ps w0 w) :
    Works.Leads ps w0 (Works.reportEnd k u good w) := by
  unfold Works.reportEnd
  try dsimp only
  repeat' first
    | (with_reducible assumption) | (exact sub_trans (by decide) hp) | (exact hp (by decide)) | (intro _ _ _) | (intro _ _) | (intro _)
    | (with_reducible refine Works.setLine_leads _ _ (by first | exact fun h => h | (intro h; simp at h ⊢; omega)) ?_ ?_)
    | (with_reducible apply Works.reportEntry_leads) | (with_reducible apply Works.setSelection_leads)
    | (with_reducible apply Works.deselect_leads) | (with_reducible apply ite_leads) | split

theorem Works.freeLine_leads (k : ExKind) (w : Works) (hp : [Part.line] ⊆ ps) (h : Works.Leads ps w0 w) :
    Works.Leads ps w0 (Works.freeLine k w).2 := by
  unfold Works.freeLine
  try dsimp only
  repeat' first
    | (with_reducible assumption) | (exact sub_trans (by decide) hp) | (exact hp (by decide)) | (intro _ _ _) | (intro _ _) | (intro _)
    | (with_reducible refine Works.setLine_leads _ _ (by first | exact fun h => h | (intro h; simp at h ⊢; omega)) ?_ ?_)
    | (with_reducible apply ite_leads) | split

theorem Works.claimsResponse_leads (x : Exchange) (t : UnitType) (was : RosterState) (st : Status4)
    (img : Option (List Byte)) (w : Works)
    (hp : [Part.dewater, Part.portals, Part.lights, Part.claims, Part.active, Part.reports, Part.water, Part.budget, Part.line] ⊆ ps)
    (h : Works.Leads ps w0 w) :
    Works.Leads ps w0 (Works.claimsResponse x t was st img w) := by
  unfold Works.claimsResponse
  try dsimp only
  repeat' first
    | (with_reducible assumption) | (exact sub_trans (by decide) hp) | (exact hp (by decide)) | (intro _ _ _) | (intro _ _) | (intro _)
    | (with_reducible apply Works.pollKeys_leads) | (with_reducible apply Works.flagKeys_leads)
    | (with_reducible apply Works.judgeKeys_leads) | (with_reducible apply Works.reconcile_leads)
    | (with_reducible apply Works.forceReconcile_leads) | (with_reducible apply ite_leads) | split

theorem Works.goodResponse_leads (x : Exchange) (st : Status4) (data : List Byte) (w : Works)
    (hp : [Part.dewater, Part.portals, Part.lights, Part.claims, Part.active, Part.reports, Part.fresh, Part.water, Part.channels, Part.budget, Part.line, Part.voids] ⊆ ps)
    (h : Works.Leads ps w0 w) :
    Works.Leads ps w0 (Works.goodResponse x st data w) := by
  unfold Works.goodResponse
  try dsimp only
  repeat' first
    | (with_reducible assumption) | (exact sub_trans (by decide) hp) | (exact hp (by decide)) | (intro _ _ _) | (intro _ _) | (intro _)
    | (with_reducible apply Works.updRoster_leads) | (with_reducible apply Works.recordUnit_leads)
    | (with_reducible apply Works.lineError_leads) | (with_reducible apply Works.errorCode_leads)
    | (with_reducible apply Works.handInputs_leads) | (with_reducible apply Works.retryNotices_leads)
    | (with_reducible apply Works.reportEnd_leads) | (with_reducible apply Works.freeLine_leads)
    | (with_reducible apply Works.claimsResponse_leads) | (with_reducible apply ite_leads) | split
    | (refine pair_leads (by assumption) ?_)

theorem Works.missed_leads (x : Exchange) (e : LineError) (w : Works)
    (hp : [Part.dewater, Part.portals, Part.lights, Part.claims, Part.active, Part.reports, Part.water, Part.channels, Part.budget, Part.line] ⊆ ps)
    (h : Works.Leads ps w0 w) : Works.Leads ps w0 (w.missed x e) := by
  unfold Works.missed
  split
  · exact Works.freeLine_leads _ _ (sub_trans (by decide) hp) h
  · rename_i r _
    have h1 := Works.updRoster_leads x.unit RosterEntry.afterMiss _ (sub_trans (by decide) hp)
      (Works.lineError_leads x e r.afterMiss.state w (sub_trans (by decide) hp) h)
    dsimp only
    generalize (w.lineError x e r.afterMiss.state).updRoster x.unit RosterEntry.afterMiss = v at *
    have h2 : Works.Leads ps w0 (if (decide (r.afterMiss.state = .lost) && !decide (r.state = .lost)) = true then
        ((v.recordUnit x.unit r.state .misses).unitGone x.unit true).removeRequests x.unit else v) := by
      split
      · exact Works.removeRequests_leads _ _ (sub_trans (by decide) hp)
          (Works.unitGone_leads _ _ _ (sub_trans (by decide) hp) (Works.recordUnit_leads _ _ _ _ h1))
      · exact h1
    exact Works.reportEnd_leads _ _ _ _ (sub_trans (by decide) hp)
      (Works.freeLine_leads x.kind _ (sub_trans (by decide) hp) h2)

theorem Works.rollGood_leads (x : Exchange) (st : Status4) (data : List Byte) (w : Works)
    (hp : [Part.dewater, Part.portals, Part.lights, Part.claims, Part.active, Part.reports, Part.fresh, Part.water, Part.channels, Part.budget, Part.line, Part.voids] ⊆ ps)
    (h : Works.Leads ps w0 w) :
    Works.Leads ps w0 (Works.rollGood x st data w) := by
  unfold Works.rollGood
  try dsimp only
  repeat' first
    | (with_reducible assumption) | (exact sub_trans (by decide) hp) | (exact hp (by decide)) | (intro _ _ _) | (intro _ _) | (intro _)
    | (with_reducible apply Works.updRoster_leads) | (with_reducible apply Works.switchboardArrival_leads)
    | (with_reducible apply Works.analogArrival_leads) | (with_reducible apply Works.pollKeys_leads)
    | (with_reducible apply Works.flagKeys_leads)
    | (with_reducible apply Works.lineError_leads) | (with_reducible apply Works.errorCode_leads)
    | (with_reducible apply Works.freeLine_leads) | (with_reducible apply ite_leads) | split
    | (refine pair_leads (by assumption) ?_)

theorem Works.rollMissed_leads (x : Exchange) (e : LineError) (w : Works) (hp : [Part.line] ⊆ ps)
    (h : Works.Leads ps w0 w) :
    Works.Leads ps w0 (Works.rollMissed x e w) := by
  unfold Works.rollMissed
  try dsimp only
  repeat' first
    | (with_reducible assumption) | (exact sub_trans (by decide) hp) | (exact hp (by decide)) | (intro _ _ _) | (intro _ _) | (intro _)
    | (with_reducible apply Works.updRoster_leads) | (with_reducible apply Works.lineError_leads)
    | (with_reducible apply Works.freeLine_leads) | (with_reducible apply ite_leads) | split
    | (refine pair_leads (by assumption) ?_)

theorem Works.endExchange_leads (x : Exchange) (e : ExEnd) (w : Works)
    (hp : [Part.dewater, Part.portals, Part.lights, Part.claims, Part.active, Part.reports, Part.fresh, Part.water, Part.channels, Part.budget, Part.line, Part.voids] ⊆ ps)
    (h : Works.Leads ps w0 w) :
    Works.Leads ps w0 (Works.endExchange x e w) := by
  unfold Works.endExchange
  try dsimp only
  repeat' first
    | (with_reducible assumption) | (exact sub_trans (by decide) hp) | (exact hp (by decide)) | (intro _ _ _) | (intro _ _) | (intro _)
    | (with_reducible apply Works.freeLine_leads) | (with_reducible apply Works.goodResponse_leads)
    | (with_reducible apply Works.missed_leads) | (with_reducible apply Works.rollGood_leads)
    | (with_reducible apply Works.rollMissed_leads) | (with_reducible apply ite_leads) | split
    | (refine pair_leads (by assumption) ?_)

theorem Works.responseComplete_leads
    (w : Works) (hp : [Part.dewater, Part.portals, Part.lights, Part.claims, Part.active, Part.reports, Part.fresh, Part.water, Part.channels, Part.budget, Part.line, Part.voids] ⊆ ps) (h : Works.Leads ps w0 w) :
    Works.Leads ps w0 (Works.responseComplete w) := by
  unfold Works.responseComplete
  try dsimp only
  repeat' first
    | (with_reducible assumption) | (exact sub_trans (by decide) hp) | (exact hp (by decide)) | (intro _ _ _) | (intro _ _) | (intro _)
    | (with_reducible apply Works.endExchange_leads) | (with_reducible apply ite_leads) | split

theorem Works.windowExpired_leads
    (w : Works) (hp : [Part.dewater, Part.portals, Part.lights, Part.claims, Part.active, Part.reports, Part.fresh, Part.water, Part.channels, Part.budget, Part.line, Part.voids] ⊆ ps) (h : Works.Leads ps w0 w) :
    Works.Leads ps w0 (Works.windowExpired w) := by
  unfold Works.windowExpired
  try dsimp only
  repeat' first
    | (with_reducible assumption) | (exact sub_trans (by decide) hp) | (exact hp (by decide)) | (intro _ _ _) | (intro _ _) | (intro _)
    | (with_reducible apply Works.endExchange_leads) | (with_reducible apply ite_leads) | split

theorem Works.unitRetireOrder_leads (o : Order) (w : Works) (hp : [Part.active] ⊆ ps) (h : Works.Leads ps w0 w) :
    Works.Leads ps w0 (Works.unitRetireOrder o w) := by
  unfold Works.unitRetireOrder
  try dsimp only
  repeat' first
    | (with_reducible assumption) | (exact sub_trans (by decide) hp) | (exact hp (by decide)) | (intro _ _ _) | (intro _ _) | (intro _)
    | (with_reducible apply Works.hold_leads) | (with_reducible apply Order.finish_leads)
    | (with_reducible apply ite_leads) | split

theorem Works.unitRestoreOrder_leads (o : Order) (w : Works)
    (hp : [Part.dewater, Part.portals, Part.lights, Part.claims, Part.active, Part.reports, Part.water, Part.channels, Part.budget, Part.line] ⊆ ps)
    (h : Works.Leads ps w0 w) :
    Works.Leads ps w0 (Works.unitRestoreOrder o w) := by
  unfold Works.unitRestoreOrder
  try dsimp only
  repeat' first
    | (with_reducible assumption) | (exact sub_trans (by decide) hp) | (exact hp (by decide)) | (intro _ _ _) | (intro _ _) | (intro _)
    | (with_reducible apply Order.finish_leads) | (with_reducible apply Works.updRoster_leads)
    | (with_reducible apply Works.unitGone_leads) | (with_reducible apply Works.recordUnit_leads)
    | (with_reducible apply ite_leads) | split

theorem Works.addAllRun_leads  (w : Works) (hp : [Part.dewater] ⊆ ps) (h : Works.Leads ps w0 w) :
    Works.Leads ps w0 (Works.addAllRun w) := by
  unfold Works.addAllRun
  try dsimp only
  repeat' first
    | (with_reducible assumption) | (exact sub_trans (by decide) hp) | (exact hp (by decide)) | (intro _ _ _) | (intro _ _) | (intro _)
    | (with_reducible apply Works.addRun_leads) | (with_reducible refine each_leads _ _ _ ?_ ?_)
    | (with_reducible apply ite_leads) | split

theorem Works.dropLineErrors_leads  (w : Works) (hp : [Part.line] ⊆ ps) (h : Works.Leads ps w0 w) :
    Works.Leads ps w0 (Works.dropLineErrors w) := by
  unfold Works.dropLineErrors
  try dsimp only
  repeat' first
    | (with_reducible assumption) | (exact sub_trans (by decide) hp) | (exact hp (by decide)) | (intro _ _ _) | (intro _ _) | (intro _)
    | (with_reducible refine Works.setLine_leads _ _ (by first | exact fun h => h | (intro h; simp at h ⊢; omega)) ?_ ?_)
    | (with_reducible apply ite_leads) | split

theorem Works.beforeSection_leads (n : Nat) (w : Works) (hp : [Part.dewater] ⊆ ps) (h : Works.Leads ps w0 w) :
    Works.Leads ps w0 (Works.beforeSection n w) := by
  unfold Works.beforeSection
  try dsimp only
  repeat' first
    | (with_reducible assumption) | (exact sub_trans (by decide) hp) | (exact hp (by decide)) | (intro _ _ _) | (intro _ _) | (intro _)
    | (with_reducible apply Works.addAllRun_leads) | (with_reducible apply ite_leads) | split

theorem Works.afterSection_leads (n : Nat) (w : Works) (hp : [Part.line] ⊆ ps) (h : Works.Leads ps w0 w) :
    Works.Leads ps w0 (Works.afterSection n w) := by
  unfold Works.afterSection
  try dsimp only
  repeat' first
    | (with_reducible assumption) | (exact sub_trans (by decide) hp) | (exact hp (by decide)) | (intro _ _ _) | (intro _ _) | (intro _)
    | (with_reducible apply Works.dropLineErrors_leads) | (with_reducible apply ite_leads) | split

theorem Works.withdrawActive_leads (a : Active) (w : Works) (hp : [Part.active] ⊆ ps) (h : Works.Leads ps w0 w) :
    Works.Leads ps w0 (Works.withdrawActive a w) := by
  unfold Works.withdrawActive
  try dsimp only
  repeat' first
    | (with_reducible assumption) | (exact sub_trans (by decide) hp) | (exact hp (by decide)) | (intro _ _ _) | (intro _ _) | (intro _)
    | (with_reducible apply Works.complete_leads) | (with_reducible apply ite_leads) | split

theorem Works.forget_leads (e : Entry) (w : Works) (hp : [Part.voids] ⊆ ps) (h : Works.Leads ps w0 w) :
    Works.Leads ps w0 (Works.forget e w) := by
  unfold Works.forget
  try dsimp only
  repeat' first
    | (with_reducible assumption) | (exact sub_trans (by decide) hp) | (exact hp (by decide)) | (intro _ _ _) | (intro _ _) | (intro _)
    | exact Works.Leads.send _ _ (by assumption) | exact Works.Leads.notices _ _ (hp (by decide)) (by assumption)
    | (with_reducible apply ite_leads) | split

theorem Works.buildWater_leads (site : Site) (byLoad : Bool) (w : Works) (hp : [Part.water, Part.channels] ⊆ ps)
    (h : Works.Leads ps w0 w) :
    Works.Leads ps w0 (Works.buildWater site byLoad w) := by
  unfold Works.buildWater
  try dsimp only
  repeat' first
    | (with_reducible assumption) | (exact sub_trans (by decide) hp) | (exact hp (by decide)) | (intro _ _ _) | (intro _ _) | (intro _)
    | (with_reducible apply Works.record_leads) | (with_reducible apply Works.wantImage_leads)
    | exact Works.Leads.water _ _ (hp (by decide)) (by first | exact .inl rfl | exact .inr (hp (by decide))) (by assumption)
    | (with_reducible apply ite_leads) | split

theorem Works.healRefused_leads (w : Works)
    (h : Works.Leads ps w0 w) :
    Works.Leads ps w0 (Works.healRefused w) := by
  unfold Works.healRefused
  try dsimp only
  repeat' first
    | (with_reducible assumption) | (intro _ _ _) | (intro _ _) | (intro _)
    | (with_reducible refine each_leads _ _ _ ?_ ?_)
    | (with_reducible apply Works.record_leads)
    | (with_reducible apply ite_leads) | split

theorem Works.reportRemoved_leads (w : Works)
    (hp : [Part.dewater, Part.portals, Part.lights, Part.active, Part.reports, Part.water, Part.line] ⊆ ps)
    (h : Works.Leads ps w0 w) : Works.Leads ps w0 w.reportRemoved := by
  unfold Works.reportRemoved
  exact each_leads _ _ _ (fun _ _ h => Works.reportEntry_leads _ _ _ _ (sub_trans (by decide) hp) h)
    (Works.setLine_leads _ _ (fun _ => Nat.zero_le _) (sub_trans (by decide) hp) h)

theorem Works.dropNotices_leads  (w : Works) (hp : [Part.voids] ⊆ ps) (h : Works.Leads ps w0 w) :
    Works.Leads ps w0 (Works.dropNotices w) := by
  unfold Works.dropNotices
  try dsimp only
  repeat' first
    | (with_reducible assumption) | (exact sub_trans (by decide) hp) | (exact hp (by decide)) | (intro _ _ _) | (intro _ _) | (intro _)
    | exact Works.Leads.send _ _ (by assumption) | exact Works.Leads.notices _ _ (hp (by decide)) (by assumption)
    | (with_reducible apply ite_leads) | split

theorem Works.keepActive_leads (slot : Nat) (w : Works) (hp : [Part.active] ⊆ ps) (h : Works.Leads ps w0 w) :
    Works.Leads ps w0 (Works.keepActive slot w) := by
  unfold Works.keepActive
  try dsimp only
  repeat' first
    | (with_reducible assumption) | (exact sub_trans (by decide) hp) | (exact hp (by decide)) | (intro _ _ _) | (intro _ _) | (intro _)
    | exact Works.Leads.active _ _ (hp (by decide)) (by assumption) | (with_reducible apply ite_leads) | split


/-! ## What `Works.Leads` keeps -/

theorem Works.Leads.now_eq {w : Works} (h : Works.Leads ps w0 w) : w.now = w0.now := by
  induction h <;> simp_all

theorem Works.Leads.station_eq {w : Works} (h : Works.Leads ps w0 w) : w.station = w0.station := by
  induction h <;> simp_all

theorem Works.Leads.dewater_eq {w : Works} (h : Works.Leads ps w0 w) (hp : Part.dewater ∉ ps) : w.dewater = w0.dewater
    := by
  induction h with
  | refl => rfl
  | dewater x w hq _ _ => exact absurd hq hp
  | _ => assumption

theorem Works.Leads.portals_eq {w : Works} (h : Works.Leads ps w0 w) (hp : Part.portals ∉ ps) : w.portals = w0.portals
    := by
  induction h with
  | refl => rfl
  | portals x w hq _ _ => exact absurd hq hp
  | _ => assumption

theorem Works.Leads.lights_eq {w : Works} (h : Works.Leads ps w0 w) (hp : Part.lights ∉ ps) : w.lights = w0.lights :=
    by
  induction h with
  | refl => rfl
  | lights x w hq _ _ => exact absurd hq hp
  | _ => assumption

theorem Works.Leads.claims_eq {w : Works} (h : Works.Leads ps w0 w) (hp : Part.claims ∉ ps) : w.claims = w0.claims :=
    by
  induction h with
  | refl => rfl
  | claims x w hq _ _ => exact absurd hq hp
  | _ => assumption

theorem Works.Leads.active_eq {w : Works} (h : Works.Leads ps w0 w) (hp : Part.active ∉ ps) : w.active = w0.active :=
    by
  induction h with
  | refl => rfl
  | active x w hq _ _ => exact absurd hq hp
  | _ => assumption

theorem Works.Leads.reports_eq {w : Works} (h : Works.Leads ps w0 w) (hp : Part.reports ∉ ps) : w.reports = w0.reports
    := by
  induction h with
  | refl => rfl
  | reports x w hq _ _ => exact absurd hq hp
  | _ => assumption

theorem Works.Leads.fresh_eq {w : Works} (h : Works.Leads ps w0 w) (hp : Part.fresh ∉ ps) : w.fresh = w0.fresh := by
  induction h with
  | refl => rfl
  | fresh x w hq _ _ => exact absurd hq hp
  | _ => assumption

theorem Works.Leads.water_eq {w : Works} (h : Works.Leads ps w0 w) (hp : Part.water ∉ ps) : w.water = w0.water := by
  induction h with
  | refl => rfl
  | water x w hq _ _ _ => exact absurd hq hp
  | _ => assumption

theorem Works.Leads.budget_eq {w : Works} (h : Works.Leads ps w0 w) (hp : Part.budget ∉ ps) : w.budget = w0.budget :=
    by
  induction h with
  | refl => rfl
  | budget x w hq _ _ _ => exact absurd hq hp
  | _ => assumption

theorem Works.Leads.line_eq {w : Works} (h : Works.Leads ps w0 w) (hp : Part.line ∉ ps) : w.line = w0.line := by
  induction h with
  | refl => rfl
  | line x w hq _ _ _ => exact absurd hq hp
  | _ => assumption

theorem Works.Leads.channels_eq {w : Works} (h : Works.Leads ps w0 w) (hp : Part.channels ∉ ps) :
    w.water.channels = w0.water.channels := by
  induction h with
  | refl => rfl
  | water x w hq hx _ ih => exact (hx.resolve_right hp).trans ih
  | _ => assumption

theorem Works.Leads.handsOn {w : Works} (h : Works.Leads ps w0 w) (hp : Part.voids ∉ ps) : w0.handsOn w := by
  induction h with
  | refl => exact ⟨[], by simp⟩
  | send i w _ ih => obtain ⟨l, hl⟩ := ih; exact ⟨l ++ [i], by simp [hl]⟩
  | notices x w hq _ _ => exact absurd hq hp
  | _ => assumption

theorem Works.Leads.handed {w : Works} (h : Works.Leads ps w0 w) (hp : Part.voids ∉ ps) {i : Instr} (hi : w0.handed i)
    :
    w.handed i := by
  obtain ⟨l, hl⟩ := h.handsOn hp
  unfold Works.handed at *
  rw [hl]
  exact List.mem_append_left l hi

theorem Works.Leads.oneInrush {w : Works} (h : Works.Leads ps w0 w) (h0 : w0.oneInrush) : w.oneInrush := by
  induction h with
  | budget x w _ hb _ ih => exact hb ih
  | _ => assumption

theorem Works.Leads.lineQueueFits {w : Works} (h : Works.Leads ps w0 w) (h0 : w0.lineQueueFits) : w.lineQueueFits :=
    by
  induction h with
  | line x w _ hb _ ih => exact hb ih
  | _ => assumption

theorem Works.Leads.siteInForce {w : Works} (h : Works.Leads ps w0 w) (h0 : w0.siteInForce) : w.siteInForce := by
  unfold Works.siteInForce at *
  rw [h.station_eq]
  exact h0

/-- All records. -/
def Part.all : List Part :=
  [.dewater, .portals, .lights, .claims, .active, .reports, .fresh, .water, .channels, .budget, .line, .voids]

/-- All records but that no notice is taken back. -/
def Part.kept : List Part :=
  [.dewater, .portals, .lights, .claims, .active, .reports, .fresh, .water, .channels, .budget, .line]

/-! ## The end of the roll call and the arbiter -/

/-- What the events of the blocks keep, those included that end the roll call. -/
structure Works.Settles (w0 w : Works) : Prop where
  now_eq : w.now = w0.now
  site_eq : w.station.site = w0.station.site
  siteInForce : w0.siteInForce → w.siteInForce
  oneInrush : w0.oneInrush → w.oneInrush
  lineQueueFits : w0.lineQueueFits → w.lineQueueFits

theorem Works.Settles.refl (w : Works) : Works.Settles w w := ⟨rfl, rfl, id, id, id⟩

theorem Works.Leads.settles {w : Works} (h : Works.Leads ps w0 w) : Works.Settles w0 w :=
  ⟨h.now_eq, by rw [h.station_eq], h.siteInForce, h.oneInrush, h.lineQueueFits⟩

theorem Works.Settles.trans {w1 w2 : Works} (h1 : Works.Settles w0 w1) (h2 : Works.Settles w1 w2) : Works.Settles w0
    w2 :=
  ⟨h2.now_eq.trans h1.now_eq, h2.site_eq.trans h1.site_eq, fun h => h2.siteInForce (h1.siteInForce h),
    fun h => h2.oneInrush (h1.oneInrush h), fun h => h2.lineQueueFits (h1.lineQueueFits h)⟩

/-- A change of station state from one that has a site table in force. -/
theorem Works.enterState_settles (new : StationState) (cause : StationCause) (third fourth : Nat) (w : Works)
    (h : w.station.state = .rollCall ∨ w.station.state = .held ∨ w.station.state = .running) :
    Works.Settles w (w.enterState new cause third fourth) :=
  ⟨rfl, rfl, fun hs _ => hs h, id, id⟩

theorem Works.completeLoad_settles (w : Works) : Works.Settles w w.completeLoad := by
  unfold Works.completeLoad
  split
  · exact .refl w
  · exact ⟨rfl, rfl, id, id, id⟩

theorem rollCallTail_settles (auto : Bool) (v : Works) (hs : v.station.state = .rollCall) :
    Works.Settles v
      (if auto then (if auto then v.enterState .running .autorunSet 0 absent16
          else v.enterState .held .autorunClear 0 absent16).judgeStanding.runReports.jobsRun
        else (if auto then v.enterState .running .autorunSet 0 absent16
          else v.enterState .held .autorunClear 0 absent16).judgeStanding.runReports.jobsHold).runReports := by
  have ht : ∀ u : Works, Works.Leads Part.all u u.judgeStanding.runReports := fun u =>
    Works.runReports_leads _ (by decide) (Works.judgeStanding_leads _ (by decide) .refl)
  cases auto
  · exact (Works.enterState_settles .held .autorunClear 0 absent16 v (.inl hs)).trans
      (Works.Leads.settles (Works.runReports_leads _ (by decide) (Works.jobsHold_leads _ (by decide) (ht _))))
  · exact (Works.enterState_settles .running .autorunSet 0 absent16 v (.inl hs)).trans
      (Works.Leads.settles (Works.runReports_leads _ (by decide) (Works.jobsRun_leads _ (by decide) (ht _))))

/-- What the end of the roll call decides keeps. -/
theorem Works.rollCallDecide_settles (w : Works) (h : w.station.state = .rollCall) :
    Works.Settles w w.rollCallDecide := by
  have h1 : Works.Leads Part.all w w.rollCallReconcile.stageFromPortals :=
    Works.stageFromPortals_leads _ (by decide) (Works.rollCallReconcile_leads _ (by decide) .refl)
  have hs : w.rollCallReconcile.stageFromPortals.station.state = .rollCall := by rw [h1.station_eq, h]
  exact h1.settles.trans (rollCallTail_settles _ _ hs)

/-- What an order does as its owner takes it up. -/
theorem Works.carryOut_leads (o : Order) (w : Works) (h : Works.Leads Part.kept w0 w) :
    Works.Leads Part.kept w0 (w.carryOut o) := by
  unfold Works.carryOut
  split
  · exact Works.declareOrder_leads _ _ (by decide) h
  · exact Works.standDownOrder_leads _ _ (by decide) h
  · exact Works.rebaseOrder_leads _ _ (by decide) h
  · exact Works.pumpRunOrder_leads _ _ (by decide) h
  · exact Works.pumpStopOrder_leads _ _ (by decide) h
  · exact Works.pumpAutoOrder_leads _ _ (by decide) h
  · exact Works.pumpClearOrder_leads _ _ (by decide) h
  · exact Works.pumpServiceOrder_leads _ _ (by decide) h
  · exact Works.leadSetOrder_leads _ _ (by decide) h
  · exact Works.portalReopenOrder_leads _ _ (by decide) h
  · exact Works.confirmClearOrder_leads _ _ (by decide) h
  · exact Works.portalResetOrder_leads _ _ (by decide) h
  · exact Works.zoneSetOrder_leads _ _ (by decide) h
  · exact Works.zoneAutoOrder_leads _ _ (by decide) h
  · exact Works.unitRetireOrder_leads _ _ (by decide) h
  · exact Works.unitRestoreOrder_leads _ _ (by decide) h
  · exact h
  · exact h
  · exact h

/-- The works after an order that waited through the roll call. -/
theorem takeWaiting_leads (o : Order) (s : State) : Works.Leads Part.kept s.works (takeWaiting o s).works :=
  Works.judgeRetire_leads _ (by decide) (Works.runReports_leads _ (by decide) (Works.carryOut_leads o _ .refl))

theorem Works.rollCallFinish_settles (w : Works) : Works.Settles w w.rollCallFinish :=
  (Works.completeLoad_settles w).trans
    (Works.Leads.settles (ps := Part.all) (Works.startRound_leads _ (by decide) .refl))

theorem Works.sendHead_leads (e : QEntry) (rest : List QEntry) (w : Works) (h : w.line.queue = e :: rest) :
    Works.Leads Part.kept w (w.sendHead e rest).2 := by
  unfold Works.sendHead
  have h0 : Works.Leads Part.kept w (w.setLineQueue rest) :=
    Works.setLineQueue_leads _ _ (by rw [h]; simp; omega) (by decide) .refl
  dsimp only
  split
  · split
    · exact Works.startExchange_leads _ _ _ _ _ (by decide) (Works.setSelection_leads _ _ _ (by decide) h0)
    · exact Works.reportEntry_leads _ _ _ _ (by decide) h0
  · exact Works.startExchange_leads _ _ _ _ _ (by decide) h0

theorem Works.choose_leads {w w' : Works} (e : w.choose = some w') : Works.Leads Part.kept w w' := by
  unfold Works.choose at e
  split at e
  · contradiction
  · contradiction
  · split at e
    · injection e with e; subst e
      exact Works.startExchange_leads _ _ _ _ _ (by decide) (.line _ _ (by decide) (fun h => h) .refl)
    · split at e
      · injection e with e; subst e
        exact Works.startExchange_leads _ _ _ _ _ (by decide) .refl
      · contradiction
  · split at e
    · injection e with e; subst e
      exact Works.startExchange_leads _ _ _ _ _ (by decide)
        (Works.setSelection_leads _ _ _ (by decide) (.line _ _ (by decide) (fun h => h) .refl))
    · split at e
      · rename_i hq
        injection e with e; subst e
        exact Works.sendHead_leads _ _ w hq
      · split at e
        · injection e with e; subst e
          exact Works.startExchange_leads _ _ _ _ _ (by decide) (.line _ _ (by decide) (fun h => h) .refl)
        · contradiction

/-- One change of the records after another. -/
theorem Works.Leads.trans {w1 w2 : Works} (h1 : Works.Leads ps w0 w1) (h2 : Works.Leads ps w1 w2) : Works.Leads ps w0 w2 := by
  induction h2 with
  | refl => exact h1
  | send i w _ ih => exact .send i w ih
  | dewater x w hp _ ih => exact .dewater x w hp ih
  | portals x w hp _ ih => exact .portals x w hp ih
  | lights x w hp _ ih => exact .lights x w hp ih
  | claims x w hp _ ih => exact .claims x w hp ih
  | active x w hp _ ih => exact .active x w hp ih
  | reports x w hp _ ih => exact .reports x w hp ih
  | fresh x w hp _ ih => exact .fresh x w hp ih
  | water x w hp h _ ih => exact .water x w hp h ih
  | budget x w hp h _ ih => exact .budget x w hp h ih
  | line x w hp h _ ih => exact .line x w hp h ih
  | notices x w hp _ ih => exact .notices x w hp ih

theorem Works.endDisplaced_leads (w : Works) : Works.Leads Part.kept w w.endDisplaced := by
  unfold Works.endDisplaced
  exact each_leads _ _ _ (fun q v hv => Works.reportEntry_leads q _ _ v (by decide) hv)
    (Works.setLine_leads _ _ (fun h => h) (by decide) .refl)

theorem drainLoop_leads (k : Nat) (w : Works) : Works.Leads Part.kept w (drainLoop k w) := by
  induction k generalizing w with
  | zero => exact Works.runReports_leads _ (by decide) .refl
  | succ k ih =>
    have h0 : Works.Leads Part.kept w w.runReports := Works.runReports_leads _ (by decide) .refl
    unfold drainLoop
    dsimp only
    split
    · exact h0
    · exact h0.trans ((Works.endDisplaced_leads _).trans (ih _))

/-- Portal reports and the ends of displaced requests keep the station's record and station time. -/
theorem Works.drain_leads (w : Works) : Works.Leads Part.kept w w.drain := drainLoop_leads _ _

/-- Nothing to report and nothing displaced: nothing changes. -/
theorem Works.drain_of_nil {w : Works} (hr : w.reports = []) (hd : w.line.displaced = []) : w.drain = w := by
  have h : w.runReports = w := by simp [Works.runReports, reportLoop, hr]
  simp [Works.drain, drainLoop, h, hd]

theorem arbitrateLoop_leads (k : Nat) (w : Works) : Works.Leads Part.kept w (arbitrateLoop k w) := by
  induction k generalizing w with
  | zero => exact .refl
  | succ k ih =>
    have h0 : Works.Leads Part.kept w w.drain.judgeRound :=
      Works.judgeRound_leads _ (by decide) w.drain_leads
    unfold arbitrateLoop
    dsimp only
    split
    · exact h0
    · split
      · rename_i hc
        exact h0.trans ((Works.choose_leads hc).trans (ih _))
      · exact h0

/-- What ends every event but the roll call's last keeps the station's record and station time. -/
theorem Works.settle_leads (w : Works) : Works.Leads Part.kept w w.settle :=
  (Works.judgeRetire_leads _ (by decide) .refl).trans (arbitrateLoop_leads _ _)

/-! ## A site table coming into force -/

theorem inrushCount_buildGrants (site : Site) (l : Lights) : inrushCount (buildGrants site l) = 0 := by
  apply inrushCount_idle
  intro g hg
  simp only [buildGrants, List.mem_append, List.mem_map, List.mem_cons, List.not_mem_nil, or_false] at hg
  rcases hg with (⟨x, _, rfl⟩ | rfl | rfl) | ⟨x, _, rfl⟩ <;> simp [buildMotor, buildLamp]

/-- The new records keep station time and station control's record, grant nothing, and wait for nothing on the line. -/
theorem Works.buildAll_keeps (site : Site) (byLoad : Bool) (w : Works) :
    (w.buildAll site byLoad).now = w.now ∧ (w.buildAll site byLoad).station = w.station ∧
      (w.buildAll site byLoad).oneInrush ∧ (w.buildAll site byLoad).lineQueueFits := by
  have h : Works.Leads Part.all w (w.reportRemoved.buildWater site byLoad).healRefused :=
    Works.healRefused_leads _ (Works.buildWater_leads _ _ _ (by decide) (Works.reportRemoved_leads _ (by decide) .refl))
  refine ⟨h.now_eq, h.station_eq, ?_, by simp [Works.lineQueueFits, Works.buildAll, buildLine, Line.reset]⟩
  show inrushCount (buildGrants site (buildLights site)) ≤ 1
  rw [inrushCount_buildGrants]
  omega

end Sys2Proof.Machine
end

