-- ==== Sys2Proof/Laws/Memory.lean ====
section
/-! SUPPORT. Laws of memory: reads after writes, and the canonical form kept by every operation. -/

namespace Sys2Proof.Machine

open Sys2Proof

/-! ## The canonical form -/

theorem Memory.wfFrom_mono {lo lo' : Nat} (h : lo' ≤ lo) (m : List Host.Cell) (hm : Memory.wfFrom lo m = true) :
    Memory.wfFrom lo' m = true := by
  cases m with
  | nil => rfl
  | cons c t =>
    obtain ⟨a, v⟩ := c
    simp only [Memory.wfFrom, Bool.and_eq_true, decide_eq_true_eq] at hm ⊢
    exact ⟨⟨by omega, hm.1.2⟩, hm.2⟩

theorem Memory.wfFrom_write (m : List Host.Cell) (a : Nat) (v : Byte) (lo : Nat) (h : lo ≤ a)
    (hm : Memory.wfFrom lo m = true) : Memory.wfFrom lo (Memory.write m a v) = true := by
  induction m generalizing lo with
  | nil =>
    unfold Memory.write
    split
    · rfl
    · simp [Memory.wfFrom, *]
  | cons c t ih =>
    obtain ⟨b, w⟩ := c
    simp only [Memory.wfFrom, Bool.and_eq_true, decide_eq_true_eq] at hm
    unfold Memory.write
    split
    · split
      · simp [Memory.wfFrom, hm.1.1, hm.1.2, hm.2]
      · simp_all [Memory.wfFrom]
    · split
      · split
        · exact Memory.wfFrom_mono (by omega) t hm.2
        · simp_all [Memory.wfFrom]
      · have := ih (b + 1) (by omega) hm.2
        simp [Memory.wfFrom, hm.1.1, hm.1.2, this]

theorem Memory.wf_write (m : List Host.Cell) (a : Nat) (v : Byte) (hm : Memory.wf m = true) :
    Memory.wf (Memory.write m a v) = true := Memory.wfFrom_write m a v 0 (Nat.zero_le a) hm

theorem Memory.wf_writeBytes (vs : List Byte) (m : List Host.Cell) (a : Nat) (hm : Memory.wf m = true) :
    Memory.wf (Memory.writeBytes m a vs) = true := by
  induction vs generalizing m a with
  | nil => exact hm
  | cons v vs ih => exact ih _ _ (Memory.wf_write m a v hm)

theorem Memory.wf_writeWord (m : List Host.Cell) (a : Nat) (w : Word) (hm : Memory.wf m = true) :
    Memory.wf (Memory.writeWord m a w) = true := Memory.wf_writeBytes _ m a hm

theorem Memory.wf_writeWords (ws : List Word) (m : List Host.Cell) (a : Nat) (hm : Memory.wf m = true) :
    Memory.wf (Memory.writeWords m a ws) = true := by
  induction ws generalizing m a with
  | nil => exact hm
  | cons w ws ih => exact ih _ _ (Memory.wf_writeWord m a w hm)

theorem Memory.wf_writeWithin (lo hi : Nat) (vs : List Byte) (m : List Host.Cell) (a : Nat) (hm : Memory.wf m = true) :
    Memory.wf (Memory.writeWithin lo hi m a vs) = true := by
  induction vs generalizing m a with
  | nil => exact hm
  | cons v vs ih =>
    refine ih _ _ ?_
    split
    · exact Memory.wf_write m a v hm
    · exact hm

theorem Memory.wfFrom_filter (p : Nat → Bool) (m : List Host.Cell) (lo : Nat) (hm : Memory.wfFrom lo m = true) :
    Memory.wfFrom lo (m.filter (fun c => p c.1)) = true := by
  induction m generalizing lo with
  | nil => rfl
  | cons c t ih =>
    obtain ⟨a, v⟩ := c
    simp only [Memory.wfFrom, Bool.and_eq_true, decide_eq_true_eq] at hm
    have ht := ih (a + 1) hm.2
    rw [List.filter_cons]
    split
    · simp [Memory.wfFrom, hm.1.1, hm.1.2, ht]
    · exact Memory.wfFrom_mono (by omega) _ ht

theorem Memory.wf_filter (p : Nat → Bool) (m : List Host.Cell) (hm : Memory.wf m = true) :
    Memory.wf (m.filter (fun c => p c.1)) = true := Memory.wfFrom_filter p m 0 hm

/-! ## Reads of bytes -/

theorem Memory.read_below (m : List Host.Cell) (lo a : Nat) (hm : Memory.wfFrom lo m = true) (h : a < lo) :
    Memory.read m a = Memory.unlisted := by
  cases m with
  | nil => rfl
  | cons c t =>
    obtain ⟨b, v⟩ := c
    simp only [Memory.wfFrom, Bool.and_eq_true, decide_eq_true_eq] at hm
    simp [Memory.read, show a < b by omega]

theorem Memory.read_writeFrom (m : List Host.Cell) (a b : Nat) (v : Byte) (lo : Nat) (hm : Memory.wfFrom lo m = true) :
    Memory.read (Memory.write m a v) b = if b = a then v else Memory.read m b := by
  induction m generalizing lo with
  | nil =>
    by_cases hv : v = Memory.unlisted <;> by_cases hb : b = a <;> simp [Memory.write, Memory.read, hv, hb]
  | cons c t ih =>
    obtain ⟨d, w⟩ := c
    simp only [Memory.wfFrom, Bool.and_eq_true, decide_eq_true_eq] at hm
    have hbelow := Memory.read_below t (d + 1)
    have ht := ih (d + 1) hm.2
    unfold Memory.write
    split
    · split
      · split
        · subst_vars; simp [Memory.read, *]
        · rfl
      · split
        · subst_vars; simp [Memory.read]
        · rename_i hne
          by_cases h1 : b < a
          · simp [Memory.read, h1, show b < d by omega]
          · simp [Memory.read, h1, hne]
    · split
      · subst_vars
        split
        · subst_vars
          split
          · subst_vars; exact hbelow _ hm.2 (by omega)
          · rename_i hne
            by_cases h1 : b < d
            · simp [Memory.read, h1, hbelow b hm.2 (by omega)]
            · simp [Memory.read, h1, hne]
        · split
          · subst_vars; simp [Memory.read]
          · simp [Memory.read, *]
      · by_cases h1 : b < d
        · simp [Memory.read, h1, show b ≠ a by omega]
        · by_cases h2 : b = d
          · subst h2
            simp [Memory.read]
            intro h; omega
          · simp [Memory.read, h1, h2, ht]

/-- A byte read after a write of one byte. -/
theorem Memory.read_write (m : List Host.Cell) (a b : Nat) (v : Byte) (hm : Memory.wf m = true) :
    Memory.read (Memory.write m a v) b = if b = a then v else Memory.read m b :=
  Memory.read_writeFrom m a b v 0 hm

theorem Memory.read_writeBytes (vs : List Byte) (m : List Host.Cell) (a b : Nat) (hm : Memory.wf m = true) :
    Memory.read (Memory.writeBytes m a vs) b =
      if a ≤ b ∧ b < a + vs.length then vs.getD (b - a) 0 else Memory.read m b := by
  induction vs generalizing m a with
  | nil => rw [if_neg (by simp only [List.length_nil]; omega)]; rfl
  | cons v vs ih =>
    rw [Memory.writeBytes, ih _ _ (Memory.wf_write m a v hm), Memory.read_write m a b v hm]
    by_cases h : b = a
    · subst h; simp
    · by_cases h2 : a ≤ b ∧ b < a + (vs.length + 1)
      · have h3 : a + 1 ≤ b ∧ b < a + 1 + vs.length := by omega
        have h4 : b - a = (b - (a + 1)) + 1 := by omega
        simp only [List.length_cons, h2, h3, and_self, if_true]
        rw [h4]; simp
      · have h3 : ¬ (a + 1 ≤ b ∧ b < a + 1 + vs.length) := by omega
        simp only [List.length_cons, h2, h3, h, if_false]

theorem Memory.wordBytes_length (w : Word) : (wordBytes w).length = 4 := rfl

/-- A byte outside the four of a word write. -/
theorem Memory.read_writeWord_other (m : List Host.Cell) (a b : Nat) (w : Word) (hm : Memory.wf m = true)
    (h : b < a ∨ a + 4 ≤ b) : Memory.read (Memory.writeWord m a w) b = Memory.read m b := by
  unfold Memory.writeWord
  rw [Memory.read_writeBytes _ m a b hm, Memory.wordBytes_length, if_neg (by omega)]

/-- A byte outside the words written. -/
theorem Memory.read_writeWords_other (ws : List Word) (m : List Host.Cell) (a b : Nat) (hm : Memory.wf m = true)
    (h : b < a ∨ a + 4 * ws.length ≤ b) : Memory.read (Memory.writeWords m a ws) b = Memory.read m b := by
  induction ws generalizing m a with
  | nil => rfl
  | cons w ws ih =>
    simp only [List.length_cons] at h
    rw [Memory.writeWords, ih _ _ (Memory.wf_writeWord m a w hm) (by omega),
      Memory.read_writeWord_other m a b w hm (by omega)]

/-- A byte outside a range is left by a write within it. -/
theorem Memory.read_writeWithin_other (lo hi : Nat) (vs : List Byte) (m : List Host.Cell) (a b : Nat)
    (hm : Memory.wf m = true) (h : b < lo ∨ hi ≤ b ∨ b < a ∨ a + vs.length ≤ b) :
    Memory.read (Memory.writeWithin lo hi m a vs) b = Memory.read m b := by
  induction vs generalizing m a with
  | nil => rfl
  | cons v vs ih =>
    simp only [List.length_cons] at h
    rw [Memory.writeWithin]
    split
    · rw [ih _ _ (Memory.wf_write m a v hm) (by omega), Memory.read_write m a b v hm, if_neg (by omega)]
    · exact ih _ _ hm (by omega)

/-! ## Words -/

theorem Memory.readWord_writeWord (m : List Host.Cell) (a : Nat) (w : Word) (hm : Memory.wf m = true) :
    Memory.readWord (Memory.writeWord m a w) a = w := by
  unfold Memory.readWord Memory.writeWord
  simp only [Memory.read_writeBytes _ m a _ hm, Memory.wordBytes_length]
  simp only [show a ≤ a + 3 ∧ a + 3 < a + 4 by omega, show a ≤ a + 2 ∧ a + 2 < a + 4 by omega,
    show a ≤ a + 1 ∧ a + 1 < a + 4 by omega, show a ≤ a ∧ a < a + 4 by omega, and_self, if_true,
    show a + 3 - a = 3 by omega, show a + 2 - a = 2 by omega, show a + 1 - a = 1 by omega, Nat.sub_self]
  simp only [wordBytes, List.getD_cons_zero, List.getD_cons_succ]
  ext i hi
  simp only [BitVec.getElem_append, BitVec.getElem_extractLsb']
  repeat' split
  all_goals (rw [BitVec.getLsbD_eq_getElem (by omega)]; congr 1; omega)

theorem Memory.readWord_congr (m m' : List Host.Cell) (a : Nat)
    (h : ∀ b, a ≤ b → b < a + 4 → Memory.read m' b = Memory.read m b) :
    Memory.readWord m' a = Memory.readWord m a := by
  unfold Memory.readWord
  rw [h (a + 3) (by omega) (by omega), h (a + 2) (by omega) (by omega), h (a + 1) (by omega) (by omega),
    h a (by omega) (by omega)]

theorem Memory.readWord_writeWord_other (m : List Host.Cell) (a b : Nat) (w : Word) (hm : Memory.wf m = true)
    (h : b + 4 ≤ a ∨ a + 4 ≤ b) : Memory.readWord (Memory.writeWord m a w) b = Memory.readWord m b :=
  Memory.readWord_congr _ _ _ (fun c h1 h2 => Memory.read_writeWord_other m a c w hm (by omega))

theorem Memory.readWord_writeWords_other (ws : List Word) (m : List Host.Cell) (a b : Nat) (hm : Memory.wf m = true)
    (h : b + 4 ≤ a ∨ a + 4 * ws.length ≤ b) : Memory.readWord (Memory.writeWords m a ws) b = Memory.readWord m b :=
  Memory.readWord_congr _ _ _ (fun c h1 h2 => Memory.read_writeWords_other ws m a c hm (by omega))

/-- Each of the words written reads back. -/
theorem Memory.readWord_writeWords (ws : List Word) (m : List Host.Cell) (a n : Nat) (hm : Memory.wf m = true)
    (h : n < ws.length) : Memory.readWord (Memory.writeWords m a ws) (a + 4 * n) = ws.getD n 0 := by
  induction ws generalizing m a n with
  | nil => simp at h
  | cons w ws ih =>
    rw [Memory.writeWords]
    cases n with
    | zero =>
      rw [Memory.readWord_writeWords_other ws _ _ _ (Memory.wf_writeWord m a w hm) (by omega)]
      simpa using Memory.readWord_writeWord m a w hm
    | succ n =>
      have := ih _ (a + 4) n (Memory.wf_writeWord m a w hm) (by simpa using h)
      rw [show a + 4 * (n + 1) = a + 4 + 4 * n by omega, this]
      simp

/-! ## Equal memories are equal data -/

theorem Memory.extFrom (m m' : List Host.Cell) (lo : Nat) (hm : Memory.wfFrom lo m = true)
    (hm' : Memory.wfFrom lo m' = true) (h : ∀ a, Memory.read m a = Memory.read m' a) : m = m' := by
  induction m generalizing lo m' with
  | nil =>
    cases m' with
    | nil => rfl
    | cons c t =>
      obtain ⟨b, w⟩ := c
      simp only [Memory.wfFrom, Bool.and_eq_true, decide_eq_true_eq] at hm'
      have := h b
      simp [Memory.read] at this
      simp [← this] at hm'
  | cons c t ih =>
    obtain ⟨a, v⟩ := c
    simp only [Memory.wfFrom, Bool.and_eq_true, decide_eq_true_eq] at hm
    cases m' with
    | nil =>
      have := h a
      simp [Memory.read] at this
      simp [this] at hm
    | cons c' t' =>
      obtain ⟨b, w⟩ := c'
      simp only [Memory.wfFrom, Bool.and_eq_true, decide_eq_true_eq] at hm'
      have hab : a = b := by
        rcases Nat.lt_trichotomy a b with hlt | heq | hgt
        · have := h a
          simp [Memory.read, hlt] at this
          simp [this] at hm
        · exact heq
        · have := h b
          simp [Memory.read, hgt] at this
          simp [← this] at hm'
      subst hab
      have hv : v = w := by simpa [Memory.read] using h a
      subst hv
      have : t = t' := ih t' (a + 1) hm.2 hm'.2 (fun x => by
        by_cases hx : x ≤ a
        · rw [Memory.read_below t (a + 1) x hm.2 (by omega), Memory.read_below t' (a + 1) x hm'.2 (by omega)]
        · have := h x
          simpa [Memory.read, show ¬ x < a by omega, show x ≠ a by omega] using this)
      rw [this]

/-- Canonical memories that read alike are equal. -/
theorem Memory.ext (m m' : List Host.Cell) (hm : Memory.wf m = true) (hm' : Memory.wf m' = true)
    (h : ∀ a, Memory.read m a = Memory.read m' a) : m = m' := Memory.extFrom m m' 0 hm hm' h

end Sys2Proof.Machine
end

