-- ==== Sys2Proof/Laws/State.lean ====
section
/-! SUPPORT. Fields of the state after each update: one lemma per update and field it leaves. -/

namespace Sys2Proof.Machine

open Sys2Proof

/-! `Works.setWater` -/

@[simp] theorem Works.setWater_now (x : Water) (w : Works) :
    (w.setWater x).now = w.now := rfl

@[simp] theorem Works.setWater_station (x : Water) (w : Works) :
    (w.setWater x).station = w.station := rfl

@[simp] theorem Works.setWater_budget (x : Water) (w : Works) :
    (w.setWater x).budget = w.budget := rfl

@[simp] theorem Works.setWater_dewater (x : Water) (w : Works) :
    (w.setWater x).dewater = w.dewater := rfl

@[simp] theorem Works.setWater_portals (x : Water) (w : Works) :
    (w.setWater x).portals = w.portals := rfl

@[simp] theorem Works.setWater_lights (x : Water) (w : Works) :
    (w.setWater x).lights = w.lights := rfl

@[simp] theorem Works.setWater_claims (x : Water) (w : Works) :
    (w.setWater x).claims = w.claims := rfl

@[simp] theorem Works.setWater_line (x : Water) (w : Works) :
    (w.setWater x).line = w.line := rfl

@[simp] theorem Works.setWater_active (x : Water) (w : Works) :
    (w.setWater x).active = w.active := rfl

@[simp] theorem Works.setWater_reports (x : Water) (w : Works) :
    (w.setWater x).reports = w.reports := rfl

@[simp] theorem Works.setWater_notices (x : Water) (w : Works) :
    (w.setWater x).notices = w.notices := rfl

@[simp] theorem Works.setWater_fresh (x : Water) (w : Works) :
    (w.setWater x).fresh = w.fresh := rfl

/-! `Works.setStage` -/

@[simp] theorem Works.setStage_now (x : StageRec) (w : Works) :
    (w.setStage x).now = w.now := rfl

@[simp] theorem Works.setStage_station (x : StageRec) (w : Works) :
    (w.setStage x).station = w.station := rfl

@[simp] theorem Works.setStage_budget (x : StageRec) (w : Works) :
    (w.setStage x).budget = w.budget := rfl

@[simp] theorem Works.setStage_dewater (x : StageRec) (w : Works) :
    (w.setStage x).dewater = w.dewater := rfl

@[simp] theorem Works.setStage_portals (x : StageRec) (w : Works) :
    (w.setStage x).portals = w.portals := rfl

@[simp] theorem Works.setStage_lights (x : StageRec) (w : Works) :
    (w.setStage x).lights = w.lights := rfl

@[simp] theorem Works.setStage_claims (x : StageRec) (w : Works) :
    (w.setStage x).claims = w.claims := rfl

@[simp] theorem Works.setStage_line (x : StageRec) (w : Works) :
    (w.setStage x).line = w.line := rfl

@[simp] theorem Works.setStage_active (x : StageRec) (w : Works) :
    (w.setStage x).active = w.active := rfl

@[simp] theorem Works.setStage_reports (x : StageRec) (w : Works) :
    (w.setStage x).reports = w.reports := rfl

@[simp] theorem Works.setStage_notices (x : StageRec) (w : Works) :
    (w.setStage x).notices = w.notices := rfl

@[simp] theorem Works.setStage_fresh (x : StageRec) (w : Works) :
    (w.setStage x).fresh = w.fresh := rfl

/-! `Works.updChannel` -/

@[simp] theorem Works.updChannel_now (c : Nat) (f : Channel → Channel) (w : Works) :
    (w.updChannel c f).now = w.now := rfl

@[simp] theorem Works.updChannel_station (c : Nat) (f : Channel → Channel) (w : Works) :
    (w.updChannel c f).station = w.station := rfl

@[simp] theorem Works.updChannel_budget (c : Nat) (f : Channel → Channel) (w : Works) :
    (w.updChannel c f).budget = w.budget := rfl

@[simp] theorem Works.updChannel_dewater (c : Nat) (f : Channel → Channel) (w : Works) :
    (w.updChannel c f).dewater = w.dewater := rfl

@[simp] theorem Works.updChannel_portals (c : Nat) (f : Channel → Channel) (w : Works) :
    (w.updChannel c f).portals = w.portals := rfl

@[simp] theorem Works.updChannel_lights (c : Nat) (f : Channel → Channel) (w : Works) :
    (w.updChannel c f).lights = w.lights := rfl

@[simp] theorem Works.updChannel_claims (c : Nat) (f : Channel → Channel) (w : Works) :
    (w.updChannel c f).claims = w.claims := rfl

@[simp] theorem Works.updChannel_line (c : Nat) (f : Channel → Channel) (w : Works) :
    (w.updChannel c f).line = w.line := rfl

@[simp] theorem Works.updChannel_active (c : Nat) (f : Channel → Channel) (w : Works) :
    (w.updChannel c f).active = w.active := rfl

@[simp] theorem Works.updChannel_reports (c : Nat) (f : Channel → Channel) (w : Works) :
    (w.updChannel c f).reports = w.reports := rfl

@[simp] theorem Works.updChannel_notices (c : Nat) (f : Channel → Channel) (w : Works) :
    (w.updChannel c f).notices = w.notices := rfl

@[simp] theorem Works.updChannel_fresh (c : Nat) (f : Channel → Channel) (w : Works) :
    (w.updChannel c f).fresh = w.fresh := rfl

/-! `Works.setBudget` -/

@[simp] theorem Works.setBudget_now (x : Budget) (w : Works) :
    (w.setBudget x).now = w.now := rfl

@[simp] theorem Works.setBudget_station (x : Budget) (w : Works) :
    (w.setBudget x).station = w.station := rfl

@[simp] theorem Works.setBudget_water (x : Budget) (w : Works) :
    (w.setBudget x).water = w.water := rfl

@[simp] theorem Works.setBudget_dewater (x : Budget) (w : Works) :
    (w.setBudget x).dewater = w.dewater := rfl

@[simp] theorem Works.setBudget_portals (x : Budget) (w : Works) :
    (w.setBudget x).portals = w.portals := rfl

@[simp] theorem Works.setBudget_lights (x : Budget) (w : Works) :
    (w.setBudget x).lights = w.lights := rfl

@[simp] theorem Works.setBudget_claims (x : Budget) (w : Works) :
    (w.setBudget x).claims = w.claims := rfl

@[simp] theorem Works.setBudget_line (x : Budget) (w : Works) :
    (w.setBudget x).line = w.line := rfl

@[simp] theorem Works.setBudget_active (x : Budget) (w : Works) :
    (w.setBudget x).active = w.active := rfl

@[simp] theorem Works.setBudget_reports (x : Budget) (w : Works) :
    (w.setBudget x).reports = w.reports := rfl

@[simp] theorem Works.setBudget_notices (x : Budget) (w : Works) :
    (w.setBudget x).notices = w.notices := rfl

@[simp] theorem Works.setBudget_fresh (x : Budget) (w : Works) :
    (w.setBudget x).fresh = w.fresh := rfl

/-! `Works.updGrant` -/

@[simp] theorem Works.updGrant_now (i : Nat) (f : Grant → Grant) (w : Works) :
    (w.updGrant i f).now = w.now := rfl

@[simp] theorem Works.updGrant_station (i : Nat) (f : Grant → Grant) (w : Works) :
    (w.updGrant i f).station = w.station := rfl

@[simp] theorem Works.updGrant_water (i : Nat) (f : Grant → Grant) (w : Works) :
    (w.updGrant i f).water = w.water := rfl

@[simp] theorem Works.updGrant_dewater (i : Nat) (f : Grant → Grant) (w : Works) :
    (w.updGrant i f).dewater = w.dewater := rfl

@[simp] theorem Works.updGrant_portals (i : Nat) (f : Grant → Grant) (w : Works) :
    (w.updGrant i f).portals = w.portals := rfl

@[simp] theorem Works.updGrant_lights (i : Nat) (f : Grant → Grant) (w : Works) :
    (w.updGrant i f).lights = w.lights := rfl

@[simp] theorem Works.updGrant_claims (i : Nat) (f : Grant → Grant) (w : Works) :
    (w.updGrant i f).claims = w.claims := rfl

@[simp] theorem Works.updGrant_line (i : Nat) (f : Grant → Grant) (w : Works) :
    (w.updGrant i f).line = w.line := rfl

@[simp] theorem Works.updGrant_active (i : Nat) (f : Grant → Grant) (w : Works) :
    (w.updGrant i f).active = w.active := rfl

@[simp] theorem Works.updGrant_reports (i : Nat) (f : Grant → Grant) (w : Works) :
    (w.updGrant i f).reports = w.reports := rfl

@[simp] theorem Works.updGrant_notices (i : Nat) (f : Grant → Grant) (w : Works) :
    (w.updGrant i f).notices = w.notices := rfl

@[simp] theorem Works.updGrant_fresh (i : Nat) (f : Grant → Grant) (w : Works) :
    (w.updGrant i f).fresh = w.fresh := rfl

/-! `Works.setQueue` -/

@[simp] theorem Works.setQueue_now (q : List Nat) (w : Works) :
    (w.setQueue q).now = w.now := rfl

@[simp] theorem Works.setQueue_station (q : List Nat) (w : Works) :
    (w.setQueue q).station = w.station := rfl

@[simp] theorem Works.setQueue_water (q : List Nat) (w : Works) :
    (w.setQueue q).water = w.water := rfl

@[simp] theorem Works.setQueue_dewater (q : List Nat) (w : Works) :
    (w.setQueue q).dewater = w.dewater := rfl

@[simp] theorem Works.setQueue_portals (q : List Nat) (w : Works) :
    (w.setQueue q).portals = w.portals := rfl

@[simp] theorem Works.setQueue_lights (q : List Nat) (w : Works) :
    (w.setQueue q).lights = w.lights := rfl

@[simp] theorem Works.setQueue_claims (q : List Nat) (w : Works) :
    (w.setQueue q).claims = w.claims := rfl

@[simp] theorem Works.setQueue_line (q : List Nat) (w : Works) :
    (w.setQueue q).line = w.line := rfl

@[simp] theorem Works.setQueue_active (q : List Nat) (w : Works) :
    (w.setQueue q).active = w.active := rfl

@[simp] theorem Works.setQueue_reports (q : List Nat) (w : Works) :
    (w.setQueue q).reports = w.reports := rfl

@[simp] theorem Works.setQueue_notices (q : List Nat) (w : Works) :
    (w.setQueue q).notices = w.notices := rfl

@[simp] theorem Works.setQueue_fresh (q : List Nat) (w : Works) :
    (w.setQueue q).fresh = w.fresh := rfl

/-! `Works.setSupply` -/

@[simp] theorem Works.setSupply_now (x : Supply) (w : Works) :
    (w.setSupply x).now = w.now := rfl

@[simp] theorem Works.setSupply_station (x : Supply) (w : Works) :
    (w.setSupply x).station = w.station := rfl

@[simp] theorem Works.setSupply_water (x : Supply) (w : Works) :
    (w.setSupply x).water = w.water := rfl

@[simp] theorem Works.setSupply_dewater (x : Supply) (w : Works) :
    (w.setSupply x).dewater = w.dewater := rfl

@[simp] theorem Works.setSupply_portals (x : Supply) (w : Works) :
    (w.setSupply x).portals = w.portals := rfl

@[simp] theorem Works.setSupply_lights (x : Supply) (w : Works) :
    (w.setSupply x).lights = w.lights := rfl

@[simp] theorem Works.setSupply_claims (x : Supply) (w : Works) :
    (w.setSupply x).claims = w.claims := rfl

@[simp] theorem Works.setSupply_line (x : Supply) (w : Works) :
    (w.setSupply x).line = w.line := rfl

@[simp] theorem Works.setSupply_active (x : Supply) (w : Works) :
    (w.setSupply x).active = w.active := rfl

@[simp] theorem Works.setSupply_reports (x : Supply) (w : Works) :
    (w.setSupply x).reports = w.reports := rfl

@[simp] theorem Works.setSupply_notices (x : Supply) (w : Works) :
    (w.setSupply x).notices = w.notices := rfl

@[simp] theorem Works.setSupply_fresh (x : Supply) (w : Works) :
    (w.setSupply x).fresh = w.fresh := rfl

/-! `Works.setLine` -/

@[simp] theorem Works.setLine_now (l : Line) (w : Works) :
    (w.setLine l).now = w.now := rfl

@[simp] theorem Works.setLine_station (l : Line) (w : Works) :
    (w.setLine l).station = w.station := rfl

@[simp] theorem Works.setLine_water (l : Line) (w : Works) :
    (w.setLine l).water = w.water := rfl

@[simp] theorem Works.setLine_budget (l : Line) (w : Works) :
    (w.setLine l).budget = w.budget := rfl

@[simp] theorem Works.setLine_dewater (l : Line) (w : Works) :
    (w.setLine l).dewater = w.dewater := rfl

@[simp] theorem Works.setLine_portals (l : Line) (w : Works) :
    (w.setLine l).portals = w.portals := rfl

@[simp] theorem Works.setLine_lights (l : Line) (w : Works) :
    (w.setLine l).lights = w.lights := rfl

@[simp] theorem Works.setLine_claims (l : Line) (w : Works) :
    (w.setLine l).claims = w.claims := rfl

@[simp] theorem Works.setLine_active (l : Line) (w : Works) :
    (w.setLine l).active = w.active := rfl

@[simp] theorem Works.setLine_reports (l : Line) (w : Works) :
    (w.setLine l).reports = w.reports := rfl

@[simp] theorem Works.setLine_notices (l : Line) (w : Works) :
    (w.setLine l).notices = w.notices := rfl

@[simp] theorem Works.setLine_fresh (l : Line) (w : Works) :
    (w.setLine l).fresh = w.fresh := rfl

/-! `Works.setLineQueue` -/

@[simp] theorem Works.setLineQueue_now (q : List QEntry) (w : Works) :
    (w.setLineQueue q).now = w.now := rfl

@[simp] theorem Works.setLineQueue_station (q : List QEntry) (w : Works) :
    (w.setLineQueue q).station = w.station := rfl

@[simp] theorem Works.setLineQueue_water (q : List QEntry) (w : Works) :
    (w.setLineQueue q).water = w.water := rfl

@[simp] theorem Works.setLineQueue_budget (q : List QEntry) (w : Works) :
    (w.setLineQueue q).budget = w.budget := rfl

@[simp] theorem Works.setLineQueue_dewater (q : List QEntry) (w : Works) :
    (w.setLineQueue q).dewater = w.dewater := rfl

@[simp] theorem Works.setLineQueue_portals (q : List QEntry) (w : Works) :
    (w.setLineQueue q).portals = w.portals := rfl

@[simp] theorem Works.setLineQueue_lights (q : List QEntry) (w : Works) :
    (w.setLineQueue q).lights = w.lights := rfl

@[simp] theorem Works.setLineQueue_claims (q : List QEntry) (w : Works) :
    (w.setLineQueue q).claims = w.claims := rfl

@[simp] theorem Works.setLineQueue_active (q : List QEntry) (w : Works) :
    (w.setLineQueue q).active = w.active := rfl

@[simp] theorem Works.setLineQueue_reports (q : List QEntry) (w : Works) :
    (w.setLineQueue q).reports = w.reports := rfl

@[simp] theorem Works.setLineQueue_notices (q : List QEntry) (w : Works) :
    (w.setLineQueue q).notices = w.notices := rfl

@[simp] theorem Works.setLineQueue_fresh (q : List QEntry) (w : Works) :
    (w.setLineQueue q).fresh = w.fresh := rfl

/-! `Works.updRoster` -/

@[simp] theorem Works.updRoster_now (u : Nat) (f : RosterEntry → RosterEntry) (w : Works) :
    (w.updRoster u f).now = w.now := rfl

@[simp] theorem Works.updRoster_station (u : Nat) (f : RosterEntry → RosterEntry) (w : Works) :
    (w.updRoster u f).station = w.station := rfl

@[simp] theorem Works.updRoster_water (u : Nat) (f : RosterEntry → RosterEntry) (w : Works) :
    (w.updRoster u f).water = w.water := rfl

@[simp] theorem Works.updRoster_budget (u : Nat) (f : RosterEntry → RosterEntry) (w : Works) :
    (w.updRoster u f).budget = w.budget := rfl

@[simp] theorem Works.updRoster_dewater (u : Nat) (f : RosterEntry → RosterEntry) (w : Works) :
    (w.updRoster u f).dewater = w.dewater := rfl

@[simp] theorem Works.updRoster_portals (u : Nat) (f : RosterEntry → RosterEntry) (w : Works) :
    (w.updRoster u f).portals = w.portals := rfl

@[simp] theorem Works.updRoster_lights (u : Nat) (f : RosterEntry → RosterEntry) (w : Works) :
    (w.updRoster u f).lights = w.lights := rfl

@[simp] theorem Works.updRoster_claims (u : Nat) (f : RosterEntry → RosterEntry) (w : Works) :
    (w.updRoster u f).claims = w.claims := rfl

@[simp] theorem Works.updRoster_active (u : Nat) (f : RosterEntry → RosterEntry) (w : Works) :
    (w.updRoster u f).active = w.active := rfl

@[simp] theorem Works.updRoster_reports (u : Nat) (f : RosterEntry → RosterEntry) (w : Works) :
    (w.updRoster u f).reports = w.reports := rfl

@[simp] theorem Works.updRoster_notices (u : Nat) (f : RosterEntry → RosterEntry) (w : Works) :
    (w.updRoster u f).notices = w.notices := rfl

@[simp] theorem Works.updRoster_fresh (u : Nat) (f : RosterEntry → RosterEntry) (w : Works) :
    (w.updRoster u f).fresh = w.fresh := rfl

/-! `Works.setSelection` -/

@[simp] theorem Works.setSelection_now (u : Nat) (x : Selection) (w : Works) :
    (w.setSelection u x).now = w.now := rfl

@[simp] theorem Works.setSelection_station (u : Nat) (x : Selection) (w : Works) :
    (w.setSelection u x).station = w.station := rfl

@[simp] theorem Works.setSelection_water (u : Nat) (x : Selection) (w : Works) :
    (w.setSelection u x).water = w.water := rfl

@[simp] theorem Works.setSelection_budget (u : Nat) (x : Selection) (w : Works) :
    (w.setSelection u x).budget = w.budget := rfl

@[simp] theorem Works.setSelection_dewater (u : Nat) (x : Selection) (w : Works) :
    (w.setSelection u x).dewater = w.dewater := rfl

@[simp] theorem Works.setSelection_portals (u : Nat) (x : Selection) (w : Works) :
    (w.setSelection u x).portals = w.portals := rfl

@[simp] theorem Works.setSelection_lights (u : Nat) (x : Selection) (w : Works) :
    (w.setSelection u x).lights = w.lights := rfl

@[simp] theorem Works.setSelection_claims (u : Nat) (x : Selection) (w : Works) :
    (w.setSelection u x).claims = w.claims := rfl

@[simp] theorem Works.setSelection_active (u : Nat) (x : Selection) (w : Works) :
    (w.setSelection u x).active = w.active := rfl

@[simp] theorem Works.setSelection_reports (u : Nat) (x : Selection) (w : Works) :
    (w.setSelection u x).reports = w.reports := rfl

@[simp] theorem Works.setSelection_notices (u : Nat) (x : Selection) (w : Works) :
    (w.setSelection u x).notices = w.notices := rfl

@[simp] theorem Works.setSelection_fresh (u : Nat) (x : Selection) (w : Works) :
    (w.setSelection u x).fresh = w.fresh := rfl

/-! `Works.giveUp` -/

@[simp] theorem Works.giveUp_now (r : ReqFor) (f : Fate) (w : Works) :
    (w.giveUp r f).now = w.now := rfl

@[simp] theorem Works.giveUp_station (r : ReqFor) (f : Fate) (w : Works) :
    (w.giveUp r f).station = w.station := rfl

@[simp] theorem Works.giveUp_water (r : ReqFor) (f : Fate) (w : Works) :
    (w.giveUp r f).water = w.water := rfl

@[simp] theorem Works.giveUp_budget (r : ReqFor) (f : Fate) (w : Works) :
    (w.giveUp r f).budget = w.budget := rfl

@[simp] theorem Works.giveUp_dewater (r : ReqFor) (f : Fate) (w : Works) :
    (w.giveUp r f).dewater = w.dewater := rfl

@[simp] theorem Works.giveUp_portals (r : ReqFor) (f : Fate) (w : Works) :
    (w.giveUp r f).portals = w.portals := rfl

@[simp] theorem Works.giveUp_lights (r : ReqFor) (f : Fate) (w : Works) :
    (w.giveUp r f).lights = w.lights := rfl

@[simp] theorem Works.giveUp_claims (r : ReqFor) (f : Fate) (w : Works) :
    (w.giveUp r f).claims = w.claims := rfl

@[simp] theorem Works.giveUp_active (r : ReqFor) (f : Fate) (w : Works) :
    (w.giveUp r f).active = w.active := rfl

@[simp] theorem Works.giveUp_reports (r : ReqFor) (f : Fate) (w : Works) :
    (w.giveUp r f).reports = w.reports := rfl

@[simp] theorem Works.giveUp_notices (r : ReqFor) (f : Fate) (w : Works) :
    (w.giveUp r f).notices = w.notices := rfl

@[simp] theorem Works.giveUp_fresh (r : ReqFor) (f : Fate) (w : Works) :
    (w.giveUp r f).fresh = w.fresh := rfl

/-! `Works.setStation` -/

@[simp] theorem Works.setStation_now (x : Station) (w : Works) :
    (w.setStation x).now = w.now := rfl

@[simp] theorem Works.setStation_water (x : Station) (w : Works) :
    (w.setStation x).water = w.water := rfl

@[simp] theorem Works.setStation_budget (x : Station) (w : Works) :
    (w.setStation x).budget = w.budget := rfl

@[simp] theorem Works.setStation_dewater (x : Station) (w : Works) :
    (w.setStation x).dewater = w.dewater := rfl

@[simp] theorem Works.setStation_portals (x : Station) (w : Works) :
    (w.setStation x).portals = w.portals := rfl

@[simp] theorem Works.setStation_lights (x : Station) (w : Works) :
    (w.setStation x).lights = w.lights := rfl

@[simp] theorem Works.setStation_claims (x : Station) (w : Works) :
    (w.setStation x).claims = w.claims := rfl

@[simp] theorem Works.setStation_line (x : Station) (w : Works) :
    (w.setStation x).line = w.line := rfl

@[simp] theorem Works.setStation_active (x : Station) (w : Works) :
    (w.setStation x).active = w.active := rfl

@[simp] theorem Works.setStation_reports (x : Station) (w : Works) :
    (w.setStation x).reports = w.reports := rfl

@[simp] theorem Works.setStation_notices (x : Station) (w : Works) :
    (w.setStation x).notices = w.notices := rfl

@[simp] theorem Works.setStation_fresh (x : Station) (w : Works) :
    (w.setStation x).fresh = w.fresh := rfl

/-! `Works.setProgramming` -/

@[simp] theorem Works.setProgramming_now (p : Option Programming) (w : Works) :
    (w.setProgramming p).now = w.now := rfl

@[simp] theorem Works.setProgramming_water (p : Option Programming) (w : Works) :
    (w.setProgramming p).water = w.water := rfl

@[simp] theorem Works.setProgramming_budget (p : Option Programming) (w : Works) :
    (w.setProgramming p).budget = w.budget := rfl

@[simp] theorem Works.setProgramming_dewater (p : Option Programming) (w : Works) :
    (w.setProgramming p).dewater = w.dewater := rfl

@[simp] theorem Works.setProgramming_portals (p : Option Programming) (w : Works) :
    (w.setProgramming p).portals = w.portals := rfl

@[simp] theorem Works.setProgramming_lights (p : Option Programming) (w : Works) :
    (w.setProgramming p).lights = w.lights := rfl

@[simp] theorem Works.setProgramming_claims (p : Option Programming) (w : Works) :
    (w.setProgramming p).claims = w.claims := rfl

@[simp] theorem Works.setProgramming_line (p : Option Programming) (w : Works) :
    (w.setProgramming p).line = w.line := rfl

@[simp] theorem Works.setProgramming_active (p : Option Programming) (w : Works) :
    (w.setProgramming p).active = w.active := rfl

@[simp] theorem Works.setProgramming_reports (p : Option Programming) (w : Works) :
    (w.setProgramming p).reports = w.reports := rfl

@[simp] theorem Works.setProgramming_notices (p : Option Programming) (w : Works) :
    (w.setProgramming p).notices = w.notices := rfl

@[simp] theorem Works.setProgramming_fresh (p : Option Programming) (w : Works) :
    (w.setProgramming p).fresh = w.fresh := rfl

/-! `Works.setLoad` -/

@[simp] theorem Works.setLoad_now (k r : Nat) (w : Works) :
    (w.setLoad k r).now = w.now := rfl

@[simp] theorem Works.setLoad_water (k r : Nat) (w : Works) :
    (w.setLoad k r).water = w.water := rfl

@[simp] theorem Works.setLoad_budget (k r : Nat) (w : Works) :
    (w.setLoad k r).budget = w.budget := rfl

@[simp] theorem Works.setLoad_dewater (k r : Nat) (w : Works) :
    (w.setLoad k r).dewater = w.dewater := rfl

@[simp] theorem Works.setLoad_portals (k r : Nat) (w : Works) :
    (w.setLoad k r).portals = w.portals := rfl

@[simp] theorem Works.setLoad_lights (k r : Nat) (w : Works) :
    (w.setLoad k r).lights = w.lights := rfl

@[simp] theorem Works.setLoad_claims (k r : Nat) (w : Works) :
    (w.setLoad k r).claims = w.claims := rfl

@[simp] theorem Works.setLoad_line (k r : Nat) (w : Works) :
    (w.setLoad k r).line = w.line := rfl

@[simp] theorem Works.setLoad_active (k r : Nat) (w : Works) :
    (w.setLoad k r).active = w.active := rfl

@[simp] theorem Works.setLoad_reports (k r : Nat) (w : Works) :
    (w.setLoad k r).reports = w.reports := rfl

@[simp] theorem Works.setLoad_notices (k r : Nat) (w : Works) :
    (w.setLoad k r).notices = w.notices := rfl

@[simp] theorem Works.setLoad_fresh (k r : Nat) (w : Works) :
    (w.setLoad k r).fresh = w.fresh := rfl

/-! `Works.updPump` -/

@[simp] theorem Works.updPump_now (i : Nat) (f : Pump → Pump) (w : Works) :
    (w.updPump i f).now = w.now := rfl

@[simp] theorem Works.updPump_station (i : Nat) (f : Pump → Pump) (w : Works) :
    (w.updPump i f).station = w.station := rfl

@[simp] theorem Works.updPump_water (i : Nat) (f : Pump → Pump) (w : Works) :
    (w.updPump i f).water = w.water := rfl

@[simp] theorem Works.updPump_budget (i : Nat) (f : Pump → Pump) (w : Works) :
    (w.updPump i f).budget = w.budget := rfl

@[simp] theorem Works.updPump_portals (i : Nat) (f : Pump → Pump) (w : Works) :
    (w.updPump i f).portals = w.portals := rfl

@[simp] theorem Works.updPump_lights (i : Nat) (f : Pump → Pump) (w : Works) :
    (w.updPump i f).lights = w.lights := rfl

@[simp] theorem Works.updPump_claims (i : Nat) (f : Pump → Pump) (w : Works) :
    (w.updPump i f).claims = w.claims := rfl

@[simp] theorem Works.updPump_line (i : Nat) (f : Pump → Pump) (w : Works) :
    (w.updPump i f).line = w.line := rfl

@[simp] theorem Works.updPump_active (i : Nat) (f : Pump → Pump) (w : Works) :
    (w.updPump i f).active = w.active := rfl

@[simp] theorem Works.updPump_reports (i : Nat) (f : Pump → Pump) (w : Works) :
    (w.updPump i f).reports = w.reports := rfl

@[simp] theorem Works.updPump_notices (i : Nat) (f : Pump → Pump) (w : Works) :
    (w.updPump i f).notices = w.notices := rfl

@[simp] theorem Works.updPump_fresh (i : Nat) (f : Pump → Pump) (w : Works) :
    (w.updPump i f).fresh = w.fresh := rfl

/-! `Works.updSump` -/

@[simp] theorem Works.updSump_now (i : Nat) (f : Sump → Sump) (w : Works) :
    (w.updSump i f).now = w.now := rfl

@[simp] theorem Works.updSump_station (i : Nat) (f : Sump → Sump) (w : Works) :
    (w.updSump i f).station = w.station := rfl

@[simp] theorem Works.updSump_water (i : Nat) (f : Sump → Sump) (w : Works) :
    (w.updSump i f).water = w.water := rfl

@[simp] theorem Works.updSump_budget (i : Nat) (f : Sump → Sump) (w : Works) :
    (w.updSump i f).budget = w.budget := rfl

@[simp] theorem Works.updSump_portals (i : Nat) (f : Sump → Sump) (w : Works) :
    (w.updSump i f).portals = w.portals := rfl

@[simp] theorem Works.updSump_lights (i : Nat) (f : Sump → Sump) (w : Works) :
    (w.updSump i f).lights = w.lights := rfl

@[simp] theorem Works.updSump_claims (i : Nat) (f : Sump → Sump) (w : Works) :
    (w.updSump i f).claims = w.claims := rfl

@[simp] theorem Works.updSump_line (i : Nat) (f : Sump → Sump) (w : Works) :
    (w.updSump i f).line = w.line := rfl

@[simp] theorem Works.updSump_active (i : Nat) (f : Sump → Sump) (w : Works) :
    (w.updSump i f).active = w.active := rfl

@[simp] theorem Works.updSump_reports (i : Nat) (f : Sump → Sump) (w : Works) :
    (w.updSump i f).reports = w.reports := rfl

@[simp] theorem Works.updSump_notices (i : Nat) (f : Sump → Sump) (w : Works) :
    (w.updSump i f).notices = w.notices := rfl

@[simp] theorem Works.updSump_fresh (i : Nat) (f : Sump → Sump) (w : Works) :
    (w.updSump i f).fresh = w.fresh := rfl

/-! `Works.updCircuit` -/

@[simp] theorem Works.updCircuit_now (i : Nat) (f : Circuit → Circuit) (w : Works) :
    (w.updCircuit i f).now = w.now := rfl

@[simp] theorem Works.updCircuit_station (i : Nat) (f : Circuit → Circuit) (w : Works) :
    (w.updCircuit i f).station = w.station := rfl

@[simp] theorem Works.updCircuit_water (i : Nat) (f : Circuit → Circuit) (w : Works) :
    (w.updCircuit i f).water = w.water := rfl

@[simp] theorem Works.updCircuit_budget (i : Nat) (f : Circuit → Circuit) (w : Works) :
    (w.updCircuit i f).budget = w.budget := rfl

@[simp] theorem Works.updCircuit_dewater (i : Nat) (f : Circuit → Circuit) (w : Works) :
    (w.updCircuit i f).dewater = w.dewater := rfl

@[simp] theorem Works.updCircuit_portals (i : Nat) (f : Circuit → Circuit) (w : Works) :
    (w.updCircuit i f).portals = w.portals := rfl

@[simp] theorem Works.updCircuit_claims (i : Nat) (f : Circuit → Circuit) (w : Works) :
    (w.updCircuit i f).claims = w.claims := rfl

@[simp] theorem Works.updCircuit_line (i : Nat) (f : Circuit → Circuit) (w : Works) :
    (w.updCircuit i f).line = w.line := rfl

@[simp] theorem Works.updCircuit_active (i : Nat) (f : Circuit → Circuit) (w : Works) :
    (w.updCircuit i f).active = w.active := rfl

@[simp] theorem Works.updCircuit_reports (i : Nat) (f : Circuit → Circuit) (w : Works) :
    (w.updCircuit i f).reports = w.reports := rfl

@[simp] theorem Works.updCircuit_notices (i : Nat) (f : Circuit → Circuit) (w : Works) :
    (w.updCircuit i f).notices = w.notices := rfl

@[simp] theorem Works.updCircuit_fresh (i : Nat) (f : Circuit → Circuit) (w : Works) :
    (w.updCircuit i f).fresh = w.fresh := rfl

/-! `Works.updZone` -/

@[simp] theorem Works.updZone_now (i : Nat) (f : Zone → Zone) (w : Works) :
    (w.updZone i f).now = w.now := rfl

@[simp] theorem Works.updZone_station (i : Nat) (f : Zone → Zone) (w : Works) :
    (w.updZone i f).station = w.station := rfl

@[simp] theorem Works.updZone_water (i : Nat) (f : Zone → Zone) (w : Works) :
    (w.updZone i f).water = w.water := rfl

@[simp] theorem Works.updZone_budget (i : Nat) (f : Zone → Zone) (w : Works) :
    (w.updZone i f).budget = w.budget := rfl

@[simp] theorem Works.updZone_dewater (i : Nat) (f : Zone → Zone) (w : Works) :
    (w.updZone i f).dewater = w.dewater := rfl

@[simp] theorem Works.updZone_portals (i : Nat) (f : Zone → Zone) (w : Works) :
    (w.updZone i f).portals = w.portals := rfl

@[simp] theorem Works.updZone_claims (i : Nat) (f : Zone → Zone) (w : Works) :
    (w.updZone i f).claims = w.claims := rfl

@[simp] theorem Works.updZone_line (i : Nat) (f : Zone → Zone) (w : Works) :
    (w.updZone i f).line = w.line := rfl

@[simp] theorem Works.updZone_active (i : Nat) (f : Zone → Zone) (w : Works) :
    (w.updZone i f).active = w.active := rfl

@[simp] theorem Works.updZone_reports (i : Nat) (f : Zone → Zone) (w : Works) :
    (w.updZone i f).reports = w.reports := rfl

@[simp] theorem Works.updZone_notices (i : Nat) (f : Zone → Zone) (w : Works) :
    (w.updZone i f).notices = w.notices := rfl

@[simp] theorem Works.updZone_fresh (i : Nat) (f : Zone → Zone) (w : Works) :
    (w.updZone i f).fresh = w.fresh := rfl

/-! `Works.setTargets` -/

@[simp] theorem Works.setTargets_now (w : Works) : w.setTargets.now = w.now := rfl

@[simp] theorem Works.setTargets_station (w : Works) : w.setTargets.station = w.station := rfl

@[simp] theorem Works.setTargets_water (w : Works) : w.setTargets.water = w.water := rfl

@[simp] theorem Works.setTargets_budget (w : Works) : w.setTargets.budget = w.budget := rfl

@[simp] theorem Works.setTargets_dewater (w : Works) : w.setTargets.dewater = w.dewater := rfl

@[simp] theorem Works.setTargets_portals (w : Works) : w.setTargets.portals = w.portals := rfl

@[simp] theorem Works.setTargets_claims (w : Works) : w.setTargets.claims = w.claims := rfl

@[simp] theorem Works.setTargets_line (w : Works) : w.setTargets.line = w.line := rfl

@[simp] theorem Works.setTargets_active (w : Works) : w.setTargets.active = w.active := rfl

@[simp] theorem Works.setTargets_reports (w : Works) : w.setTargets.reports = w.reports := rfl

@[simp] theorem Works.setTargets_notices (w : Works) : w.setTargets.notices = w.notices := rfl

@[simp] theorem Works.setTargets_fresh (w : Works) : w.setTargets.fresh = w.fresh := rfl

@[simp] theorem Works.setTargets_circuits (w : Works) : w.setTargets.lights.circuits = w.lights.circuits := rfl

@[simp] theorem Works.setTargets_day (w : Works) : w.setTargets.lights.day = w.lights.day := rfl

/-! `Works.setDay` -/

@[simp] theorem Works.setDay_now (d : Day) (w : Works) :
    (w.setDay d).now = w.now := rfl

@[simp] theorem Works.setDay_station (d : Day) (w : Works) :
    (w.setDay d).station = w.station := rfl

@[simp] theorem Works.setDay_water (d : Day) (w : Works) :
    (w.setDay d).water = w.water := rfl

@[simp] theorem Works.setDay_budget (d : Day) (w : Works) :
    (w.setDay d).budget = w.budget := rfl

@[simp] theorem Works.setDay_dewater (d : Day) (w : Works) :
    (w.setDay d).dewater = w.dewater := rfl

@[simp] theorem Works.setDay_portals (d : Day) (w : Works) :
    (w.setDay d).portals = w.portals := rfl

@[simp] theorem Works.setDay_claims (d : Day) (w : Works) :
    (w.setDay d).claims = w.claims := rfl

@[simp] theorem Works.setDay_line (d : Day) (w : Works) :
    (w.setDay d).line = w.line := rfl

@[simp] theorem Works.setDay_active (d : Day) (w : Works) :
    (w.setDay d).active = w.active := rfl

@[simp] theorem Works.setDay_reports (d : Day) (w : Works) :
    (w.setDay d).reports = w.reports := rfl

@[simp] theorem Works.setDay_notices (d : Day) (w : Works) :
    (w.setDay d).notices = w.notices := rfl

@[simp] theorem Works.setDay_fresh (d : Day) (w : Works) :
    (w.setDay d).fresh = w.fresh := rfl

/-! `Works.updClaims` -/

@[simp] theorem Works.updClaims_now (f : Claim → Claim) (w : Works) :
    (w.updClaims f).now = w.now := rfl

@[simp] theorem Works.updClaims_station (f : Claim → Claim) (w : Works) :
    (w.updClaims f).station = w.station := rfl

@[simp] theorem Works.updClaims_water (f : Claim → Claim) (w : Works) :
    (w.updClaims f).water = w.water := rfl

@[simp] theorem Works.updClaims_budget (f : Claim → Claim) (w : Works) :
    (w.updClaims f).budget = w.budget := rfl

@[simp] theorem Works.updClaims_dewater (f : Claim → Claim) (w : Works) :
    (w.updClaims f).dewater = w.dewater := rfl

@[simp] theorem Works.updClaims_portals (f : Claim → Claim) (w : Works) :
    (w.updClaims f).portals = w.portals := rfl

@[simp] theorem Works.updClaims_lights (f : Claim → Claim) (w : Works) :
    (w.updClaims f).lights = w.lights := rfl

@[simp] theorem Works.updClaims_line (f : Claim → Claim) (w : Works) :
    (w.updClaims f).line = w.line := rfl

@[simp] theorem Works.updClaims_active (f : Claim → Claim) (w : Works) :
    (w.updClaims f).active = w.active := rfl

@[simp] theorem Works.updClaims_reports (f : Claim → Claim) (w : Works) :
    (w.updClaims f).reports = w.reports := rfl

@[simp] theorem Works.updClaims_notices (f : Claim → Claim) (w : Works) :
    (w.updClaims f).notices = w.notices := rfl

@[simp] theorem Works.updClaims_fresh (f : Claim → Claim) (w : Works) :
    (w.updClaims f).fresh = w.fresh := rfl

/-! `Works.hold` -/

@[simp] theorem Works.hold_now (a : Active) (w : Works) :
    (w.hold a).now = w.now := rfl

@[simp] theorem Works.hold_station (a : Active) (w : Works) :
    (w.hold a).station = w.station := rfl

@[simp] theorem Works.hold_water (a : Active) (w : Works) :
    (w.hold a).water = w.water := rfl

@[simp] theorem Works.hold_budget (a : Active) (w : Works) :
    (w.hold a).budget = w.budget := rfl

@[simp] theorem Works.hold_dewater (a : Active) (w : Works) :
    (w.hold a).dewater = w.dewater := rfl

@[simp] theorem Works.hold_portals (a : Active) (w : Works) :
    (w.hold a).portals = w.portals := rfl

@[simp] theorem Works.hold_lights (a : Active) (w : Works) :
    (w.hold a).lights = w.lights := rfl

@[simp] theorem Works.hold_claims (a : Active) (w : Works) :
    (w.hold a).claims = w.claims := rfl

@[simp] theorem Works.hold_line (a : Active) (w : Works) :
    (w.hold a).line = w.line := rfl

@[simp] theorem Works.hold_reports (a : Active) (w : Works) :
    (w.hold a).reports = w.reports := rfl

@[simp] theorem Works.hold_notices (a : Active) (w : Works) :
    (w.hold a).notices = w.notices := rfl

@[simp] theorem Works.hold_fresh (a : Active) (w : Works) :
    (w.hold a).fresh = w.fresh := rfl

/-! `Works.send` -/

@[simp] theorem Works.send_now (i : Instr) (w : Works) :
    (w.send i).now = w.now := rfl

@[simp] theorem Works.send_station (i : Instr) (w : Works) :
    (w.send i).station = w.station := rfl

@[simp] theorem Works.send_water (i : Instr) (w : Works) :
    (w.send i).water = w.water := rfl

@[simp] theorem Works.send_budget (i : Instr) (w : Works) :
    (w.send i).budget = w.budget := rfl

@[simp] theorem Works.send_dewater (i : Instr) (w : Works) :
    (w.send i).dewater = w.dewater := rfl

@[simp] theorem Works.send_portals (i : Instr) (w : Works) :
    (w.send i).portals = w.portals := rfl

@[simp] theorem Works.send_lights (i : Instr) (w : Works) :
    (w.send i).lights = w.lights := rfl

@[simp] theorem Works.send_claims (i : Instr) (w : Works) :
    (w.send i).claims = w.claims := rfl

@[simp] theorem Works.send_line (i : Instr) (w : Works) :
    (w.send i).line = w.line := rfl

@[simp] theorem Works.send_active (i : Instr) (w : Works) :
    (w.send i).active = w.active := rfl

@[simp] theorem Works.send_reports (i : Instr) (w : Works) :
    (w.send i).reports = w.reports := rfl

@[simp] theorem Works.send_fresh (i : Instr) (w : Works) :
    (w.send i).fresh = w.fresh := rfl

/-! `Works.record` -/

@[simp] theorem Works.record_now (k : JournalKind) (n : Nat) (a b : Option Nat) (d : List Nat) (f : Bool) (w : Works) :
    (w.record k n a b d f).now = w.now := rfl

@[simp] theorem Works.record_station (k : JournalKind) (n : Nat) (a b : Option Nat) (d : List Nat) (f : Bool) (w : Works) :
    (w.record k n a b d f).station = w.station := rfl

@[simp] theorem Works.record_water (k : JournalKind) (n : Nat) (a b : Option Nat) (d : List Nat) (f : Bool) (w : Works) :
    (w.record k n a b d f).water = w.water := rfl

@[simp] theorem Works.record_budget (k : JournalKind) (n : Nat) (a b : Option Nat) (d : List Nat) (f : Bool) (w : Works) :
    (w.record k n a b d f).budget = w.budget := rfl

@[simp] theorem Works.record_dewater (k : JournalKind) (n : Nat) (a b : Option Nat) (d : List Nat) (f : Bool) (w : Works) :
    (w.record k n a b d f).dewater = w.dewater := rfl

@[simp] theorem Works.record_portals (k : JournalKind) (n : Nat) (a b : Option Nat) (d : List Nat) (f : Bool) (w : Works) :
    (w.record k n a b d f).portals = w.portals := rfl

@[simp] theorem Works.record_lights (k : JournalKind) (n : Nat) (a b : Option Nat) (d : List Nat) (f : Bool) (w : Works) :
    (w.record k n a b d f).lights = w.lights := rfl

@[simp] theorem Works.record_claims (k : JournalKind) (n : Nat) (a b : Option Nat) (d : List Nat) (f : Bool) (w : Works) :
    (w.record k n a b d f).claims = w.claims := rfl

@[simp] theorem Works.record_line (k : JournalKind) (n : Nat) (a b : Option Nat) (d : List Nat) (f : Bool) (w : Works) :
    (w.record k n a b d f).line = w.line := rfl

@[simp] theorem Works.record_active (k : JournalKind) (n : Nat) (a b : Option Nat) (d : List Nat) (f : Bool) (w : Works) :
    (w.record k n a b d f).active = w.active := rfl

@[simp] theorem Works.record_reports (k : JournalKind) (n : Nat) (a b : Option Nat) (d : List Nat) (f : Bool) (w : Works) :
    (w.record k n a b d f).reports = w.reports := rfl

@[simp] theorem Works.record_fresh (k : JournalKind) (n : Nat) (a b : Option Nat) (d : List Nat) (f : Bool) (w : Works) :
    (w.record k n a b d f).fresh = w.fresh := rfl

/-! `Works.wantImage` -/

@[simp] theorem Works.wantImage_now (w : Works) :
    (w.wantImage).now = w.now := rfl

@[simp] theorem Works.wantImage_station (w : Works) :
    (w.wantImage).station = w.station := rfl

@[simp] theorem Works.wantImage_water (w : Works) :
    (w.wantImage).water = w.water := rfl

@[simp] theorem Works.wantImage_budget (w : Works) :
    (w.wantImage).budget = w.budget := rfl

@[simp] theorem Works.wantImage_dewater (w : Works) :
    (w.wantImage).dewater = w.dewater := rfl

@[simp] theorem Works.wantImage_portals (w : Works) :
    (w.wantImage).portals = w.portals := rfl

@[simp] theorem Works.wantImage_lights (w : Works) :
    (w.wantImage).lights = w.lights := rfl

@[simp] theorem Works.wantImage_claims (w : Works) :
    (w.wantImage).claims = w.claims := rfl

@[simp] theorem Works.wantImage_line (w : Works) :
    (w.wantImage).line = w.line := rfl

@[simp] theorem Works.wantImage_active (w : Works) :
    (w.wantImage).active = w.active := rfl

@[simp] theorem Works.wantImage_reports (w : Works) :
    (w.wantImage).reports = w.reports := rfl

@[simp] theorem Works.wantImage_fresh (w : Works) :
    (w.wantImage).fresh = w.fresh := rfl

/-! `Works.complete` -/

@[simp] theorem Works.complete_now (k st d sd : Nat) (r : List Nat) (w : Works) :
    (w.complete k st d sd r).now = w.now := rfl

@[simp] theorem Works.complete_station (k st d sd : Nat) (r : List Nat) (w : Works) :
    (w.complete k st d sd r).station = w.station := rfl

@[simp] theorem Works.complete_water (k st d sd : Nat) (r : List Nat) (w : Works) :
    (w.complete k st d sd r).water = w.water := rfl

@[simp] theorem Works.complete_budget (k st d sd : Nat) (r : List Nat) (w : Works) :
    (w.complete k st d sd r).budget = w.budget := rfl

@[simp] theorem Works.complete_dewater (k st d sd : Nat) (r : List Nat) (w : Works) :
    (w.complete k st d sd r).dewater = w.dewater := rfl

@[simp] theorem Works.complete_portals (k st d sd : Nat) (r : List Nat) (w : Works) :
    (w.complete k st d sd r).portals = w.portals := rfl

@[simp] theorem Works.complete_lights (k st d sd : Nat) (r : List Nat) (w : Works) :
    (w.complete k st d sd r).lights = w.lights := rfl

@[simp] theorem Works.complete_claims (k st d sd : Nat) (r : List Nat) (w : Works) :
    (w.complete k st d sd r).claims = w.claims := rfl

@[simp] theorem Works.complete_line (k st d sd : Nat) (r : List Nat) (w : Works) :
    (w.complete k st d sd r).line = w.line := rfl

@[simp] theorem Works.complete_reports (k st d sd : Nat) (r : List Nat) (w : Works) :
    (w.complete k st d sd r).reports = w.reports := rfl

@[simp] theorem Works.complete_fresh (k st d sd : Nat) (r : List Nat) (w : Works) :
    (w.complete k st d sd r).fresh = w.fresh := rfl

/-! `Works.dropNotices` -/

@[simp] theorem Works.dropNotices_now (w : Works) :
    (w.dropNotices).now = w.now := rfl

@[simp] theorem Works.dropNotices_station (w : Works) :
    (w.dropNotices).station = w.station := rfl

@[simp] theorem Works.dropNotices_water (w : Works) :
    (w.dropNotices).water = w.water := rfl

@[simp] theorem Works.dropNotices_budget (w : Works) :
    (w.dropNotices).budget = w.budget := rfl

@[simp] theorem Works.dropNotices_dewater (w : Works) :
    (w.dropNotices).dewater = w.dewater := rfl

@[simp] theorem Works.dropNotices_portals (w : Works) :
    (w.dropNotices).portals = w.portals := rfl

@[simp] theorem Works.dropNotices_lights (w : Works) :
    (w.dropNotices).lights = w.lights := rfl

@[simp] theorem Works.dropNotices_claims (w : Works) :
    (w.dropNotices).claims = w.claims := rfl

@[simp] theorem Works.dropNotices_line (w : Works) :
    (w.dropNotices).line = w.line := rfl

@[simp] theorem Works.dropNotices_active (w : Works) :
    (w.dropNotices).active = w.active := rfl

@[simp] theorem Works.dropNotices_reports (w : Works) :
    (w.dropNotices).reports = w.reports := rfl

@[simp] theorem Works.dropNotices_fresh (w : Works) :
    (w.dropNotices).fresh = w.fresh := rfl

/-! `Works.keepActive` -/

@[simp] theorem Works.keepActive_now (k : Nat) (w : Works) :
    (w.keepActive k).now = w.now := rfl

@[simp] theorem Works.keepActive_station (k : Nat) (w : Works) :
    (w.keepActive k).station = w.station := rfl

@[simp] theorem Works.keepActive_water (k : Nat) (w : Works) :
    (w.keepActive k).water = w.water := rfl

@[simp] theorem Works.keepActive_budget (k : Nat) (w : Works) :
    (w.keepActive k).budget = w.budget := rfl

@[simp] theorem Works.keepActive_dewater (k : Nat) (w : Works) :
    (w.keepActive k).dewater = w.dewater := rfl

@[simp] theorem Works.keepActive_portals (k : Nat) (w : Works) :
    (w.keepActive k).portals = w.portals := rfl

@[simp] theorem Works.keepActive_lights (k : Nat) (w : Works) :
    (w.keepActive k).lights = w.lights := rfl

@[simp] theorem Works.keepActive_claims (k : Nat) (w : Works) :
    (w.keepActive k).claims = w.claims := rfl

@[simp] theorem Works.keepActive_line (k : Nat) (w : Works) :
    (w.keepActive k).line = w.line := rfl

@[simp] theorem Works.keepActive_reports (k : Nat) (w : Works) :
    (w.keepActive k).reports = w.reports := rfl

@[simp] theorem Works.keepActive_notices (k : Nat) (w : Works) :
    (w.keepActive k).notices = w.notices := rfl

@[simp] theorem Works.keepActive_fresh (k : Nat) (w : Works) :
    (w.keepActive k).fresh = w.fresh := rfl

/-! `Works.setPortal` -/

@[simp] theorem Works.setPortal_now (n : Nat) (p : Portal) (w : Works) :
    (w.setPortal n p).now = w.now := by
  unfold Works.setPortal; split <;> rfl

@[simp] theorem Works.setPortal_station (n : Nat) (p : Portal) (w : Works) :
    (w.setPortal n p).station = w.station := by
  unfold Works.setPortal; split <;> rfl

@[simp] theorem Works.setPortal_water (n : Nat) (p : Portal) (w : Works) :
    (w.setPortal n p).water = w.water := by
  unfold Works.setPortal; split <;> rfl

@[simp] theorem Works.setPortal_budget (n : Nat) (p : Portal) (w : Works) :
    (w.setPortal n p).budget = w.budget := by
  unfold Works.setPortal; split <;> rfl

@[simp] theorem Works.setPortal_dewater (n : Nat) (p : Portal) (w : Works) :
    (w.setPortal n p).dewater = w.dewater := by
  unfold Works.setPortal; split <;> rfl

@[simp] theorem Works.setPortal_lights (n : Nat) (p : Portal) (w : Works) :
    (w.setPortal n p).lights = w.lights := by
  unfold Works.setPortal; split <;> rfl

@[simp] theorem Works.setPortal_claims (n : Nat) (p : Portal) (w : Works) :
    (w.setPortal n p).claims = w.claims := by
  unfold Works.setPortal; split <;> rfl

@[simp] theorem Works.setPortal_line (n : Nat) (p : Portal) (w : Works) :
    (w.setPortal n p).line = w.line := by
  unfold Works.setPortal; split <;> rfl

@[simp] theorem Works.setPortal_active (n : Nat) (p : Portal) (w : Works) :
    (w.setPortal n p).active = w.active := by
  unfold Works.setPortal; split <;> rfl

@[simp] theorem Works.setPortal_reports (n : Nat) (p : Portal) (w : Works) :
    (w.setPortal n p).reports = w.reports := by
  unfold Works.setPortal; split <;> rfl

@[simp] theorem Works.setPortal_notices (n : Nat) (p : Portal) (w : Works) :
    (w.setPortal n p).notices = w.notices := by
  unfold Works.setPortal; split <;> rfl

@[simp] theorem Works.setPortal_fresh (n : Nat) (p : Portal) (w : Works) :
    (w.setPortal n p).fresh = w.fresh := by
  unfold Works.setPortal; split <;> rfl

/-! `Port.setFlag`, `Port.raise` -/

@[simp] theorem Port.setFlag_pstat (w : Nat) (v : Word) (p : Port) :
    (p.setFlag w v).pstat = p.pstat := by
  unfold Port.setFlag; split <;> rfl

@[simp] theorem Port.raise_pstat (b : Word) (p : Port) :
    (p.raise b).pstat = p.pstat := by
  simp [Port.raise]

@[simp] theorem Port.setFlag_working (w : Nat) (v : Word) (p : Port) :
    (p.setFlag w v).working = p.working := by
  unfold Port.setFlag; split <;> rfl

@[simp] theorem Port.raise_working (b : Word) (p : Port) :
    (p.raise b).working = p.working := by
  simp [Port.raise]

@[simp] theorem Port.setFlag_held (w : Nat) (v : Word) (p : Port) :
    (p.setFlag w v).held = p.held := by
  unfold Port.setFlag; split <;> rfl

@[simp] theorem Port.raise_held (b : Word) (p : Port) :
    (p.raise b).held = p.held := by
  simp [Port.raise]

@[simp] theorem Port.setFlag_count (w : Nat) (v : Word) (p : Port) :
    (p.setFlag w v).count = p.count := by
  unfold Port.setFlag; split <;> rfl

@[simp] theorem Port.raise_count (b : Word) (p : Port) :
    (p.raise b).count = p.count := by
  simp [Port.raise]

@[simp] theorem Port.setFlag_rewrite (w : Nat) (v : Word) (p : Port) :
    (p.setFlag w v).rewrite = p.rewrite := by
  unfold Port.setFlag; split <;> rfl

@[simp] theorem Port.raise_rewrite (b : Word) (p : Port) :
    (p.raise b).rewrite = p.rewrite := by
  simp [Port.raise]

@[simp] theorem Port.setFlag_rewritePending (w : Nat) (v : Word) (p : Port) :
    (p.setFlag w v).rewritePending = p.rewritePending := by
  unfold Port.setFlag; split <;> rfl

@[simp] theorem Port.raise_rewritePending (b : Word) (p : Port) :
    (p.raise b).rewritePending = p.rewritePending := by
  simp [Port.raise]

@[simp] theorem Port.setFlag_readData (w : Nat) (v : Word) (p : Port) :
    (p.setFlag w v).readData = p.readData := by
  unfold Port.setFlag; split <;> rfl

@[simp] theorem Port.raise_readData (b : Word) (p : Port) :
    (p.raise b).readData = p.readData := by
  simp [Port.raise]

@[simp] theorem Port.viewForm_working (p : Port) : p.viewForm.working = p.working := by
  simp [Port.viewForm]

@[simp] theorem Port.viewForm_held (p : Port) : p.viewForm.held = p.held := by
  simp [Port.viewForm]

@[simp] theorem Port.viewForm_count (p : Port) : p.viewForm.count = p.count := by
  simp [Port.viewForm]

@[simp] theorem Port.viewForm_rewrite (p : Port) : p.viewForm.rewrite = p.rewrite := by
  simp [Port.viewForm]

@[simp] theorem Port.viewForm_rewritePending (p : Port) : p.viewForm.rewritePending = p.rewritePending := by
  simp [Port.viewForm]

@[simp] theorem Port.viewForm_readData (p : Port) : p.viewForm.readData = p.readData := by
  simp [Port.viewForm]

@[simp] theorem Port.ownedWord_working (p : Port) : p.ownedWord.working = p.working := by
  simp [Port.ownedWord]

@[simp] theorem Port.ownedWord_held (p : Port) : p.ownedWord.held = p.held := by
  simp [Port.ownedWord]

@[simp] theorem Port.ownedWord_count (p : Port) : p.ownedWord.count = p.count := by
  simp [Port.ownedWord]

@[simp] theorem Port.ownedWord_rewrite (p : Port) : p.ownedWord.rewrite = p.rewrite := by
  simp [Port.ownedWord]

@[simp] theorem Port.ownedWord_rewritePending (p : Port) : p.ownedWord.rewritePending = p.rewritePending := by
  simp [Port.ownedWord]

@[simp] theorem Port.ownedWord_readData (p : Port) : p.ownedWord.readData = p.readData := by
  simp [Port.ownedWord]

@[simp] theorem Port.repost_working (p : Port) : p.repost.working = p.working := by
  simp [Port.repost]

@[simp] theorem Port.repost_held (p : Port) : p.repost.held = p.held := by
  simp [Port.repost]

@[simp] theorem Port.repost_count (p : Port) : p.repost.count = p.count := by
  simp [Port.repost]

@[simp] theorem Port.repost_rewrite (p : Port) : p.repost.rewrite = p.rewrite := by
  simp [Port.repost]

@[simp] theorem Port.repost_rewritePending (p : Port) : p.repost.rewritePending = p.rewritePending := by
  simp [Port.repost]

@[simp] theorem Port.repost_readData (p : Port) : p.repost.readData = p.readData := by
  simp [Port.repost]

@[simp] theorem State.withPending_port (q : List Instr) (s : State) :
    (s.withPending q).port = s.port := rfl

@[simp] theorem State.withPending_works (q : List Instr) (s : State) :
    (s.withPending q).works = s.works := rfl

@[simp] theorem State.withPending_store (q : List Instr) (s : State) :
    (s.withPending q).store = s.store := rfl

@[simp] theorem State.withNotices_port (q : List Instr) (s : State) :
    (s.withNotices q).port = s.port := rfl

@[simp] theorem State.withNotices_store (q : List Instr) (s : State) :
    (s.withNotices q).store = s.store := rfl

@[simp] theorem State.withNotices_pending (q : List Instr) (s : State) :
    (s.withNotices q).pending = s.pending := rfl

@[simp] theorem State.withPending_pending' (q : List Instr) (s : State) : (s.withPending q).pending = q := rfl

@[simp] theorem State.withNotices_notices (q : List Instr) (s : State) : (s.withNotices q).works.notices = q := rfl

@[simp] theorem Works.setStation_station (x : Station) (w : Works) : (w.setStation x).station = x := rfl

@[simp] theorem Works.setWater_water (x : Water) (w : Works) : (w.setWater x).water = x := rfl

@[simp] theorem Works.setBudget_budget (x : Budget) (w : Works) : (w.setBudget x).budget = x := rfl

@[simp] theorem Works.setLine_line (x : Line) (w : Works) : (w.setLine x).line = x := rfl

@[simp] theorem Works.send_notices (i : Instr) (w : Works) : (w.send i).notices = w.notices ++ [i] := rfl

end Sys2Proof.Machine
end

