-- ==== Sys2Proof/Laws/Port.lean ====
section
/-! SUPPORT. The operations of the memory port: what each writes, what it leaves, and that common memory keeps its canonical
form. -/

namespace Sys2Proof.Machine

open Sys2Proof

/-! ## Flag words -/

theorem Port.wf_setFlag (w : Nat) (v : Word) (p : Port) (h : Memory.wf p.mem = true) :
    Memory.wf (p.setFlag w v).mem = true := by
  unfold Port.setFlag
  split
  · exact Memory.wf_writeWord _ _ _ h
  · exact h

/-- A flag word as it was set. -/
theorem Port.flag_setFlag (w : Nat) (v : Word) (p : Port) (h : Memory.wf p.mem = true) (hw : w < 64) :
    (p.setFlag w v).flag w = v := by
  unfold Port.setFlag Port.flag
  rw [if_pos hw]
  exact Memory.readWord_writeWord _ _ _ h

/-- Bytes outside a flag word that is set. -/
theorem Port.read_setFlag_other (w : Nat) (v : Word) (p : Port) (h : Memory.wf p.mem = true) (a : Nat)
    (ha : a < 4 * w ∨ 4 * w + 4 ≤ a) : Memory.read (p.setFlag w v).mem a = Memory.read p.mem a := by
  unfold Port.setFlag
  split
  · exact Memory.read_writeWord_other _ _ _ _ h (by omega)
  · rfl

/-- Another flag word than the one set. -/
theorem Port.flag_setFlag_other (w x : Nat) (v : Word) (p : Port) (h : Memory.wf p.mem = true) (hx : x ≠ w) :
    (p.setFlag w v).flag x = p.flag x := by
  have e : ∀ i, i < 4 → Memory.read (p.setFlag w v).mem (4 * x + i) = Memory.read p.mem (4 * x + i) :=
    fun i hi => Port.read_setFlag_other w v p h (4 * x + i) (by omega)
  unfold Port.flag Memory.readWord
  rw [e 3 (by omega), e 2 (by omega), e 1 (by omega)]
  exact congrArg _ (e 0 (by omega))

/-- Changes of fields other than memory leave the flag words. -/
theorem Port.flag_congr (p q : Port) (h : q.mem = p.mem) (x : Nat) : q.flag x = p.flag x := by
  unfold Port.flag
  rw [h]

/-! ## Marks of misuse (R151, R153, R157) -/

/-- What the three marks do to the port: PSTAT takes the given value, ATTN takes MISUSE. -/
structure Port.Marked (s : Pstat) (p q : Port) : Prop where
  wf : Memory.wf q.mem = true
  pstat : q.pstat = s
  attn : q.flag Machine.attn = p.flag Machine.attn ||| attnMisuse
  others : Port.sameButWords [Machine.attn] p q
  rest : Port.sameRest p q

theorem Port.marked_of (s : Pstat) (p : Port) (h : Memory.wf p.mem = true) :
    Port.Marked s p (({ p with pstat := s }).raise attnMisuse) := by
  have h' : Memory.wf ({ p with pstat := s } : Port).mem = true := h
  refine ⟨Port.wf_setFlag _ _ _ h', ?_, ?_, ?_, ?_⟩
  · simp [Port.raise]
  · rw [Port.raise, Port.flag_setFlag _ _ _ h' (by decide)]
    rfl
  · intro a ha
    exact Port.read_setFlag_other _ _ _ h' a (ha _ (List.mem_singleton.2 rfl))
  · simp [Port.raise, Port.sameRest, Port.sameReaders]

theorem Port.viewForm_marked (p : Port) (h : Memory.wf p.mem = true) :
    Port.Marked { p.pstat with viewForm := true } p p.viewForm := Port.marked_of _ p h

theorem Port.ownedWord_marked (p : Port) (h : Memory.wf p.mem = true) :
    Port.Marked { p.pstat with ownedWord := true } p p.ownedWord := Port.marked_of _ p h

theorem Port.repost_marked (p : Port) (h : Memory.wf p.mem = true) :
    Port.Marked { p.pstat with repost := true } p p.repost := Port.marked_of _ p h

/-! ## Plain stores (R150) -/

theorem Port.wf_store (a : Nat) (w : Width) (d : Word) (p : Port) (h : Memory.wf p.mem = true) :
    Memory.wf (p.store a w d).mem = true := Memory.wf_writeWithin _ _ _ _ _ h

theorem Port.store_rest (a : Nat) (w : Width) (d : Word) (p : Port) :
    (p.store a w d).pstat = p.pstat ∧ Port.sameRest p (p.store a w d) := by
  exact ⟨rfl, ⟨rfl, rfl, rfl, rfl, rfl⟩, rfl⟩

/-! ## Appends (R162) -/

theorem Port.wf_append (now : Nat) (r : JournalRec) (p : Port) (h : Memory.wf p.mem = true) :
    Memory.wf (p.append now r).mem = true := by
  unfold Port.append Port.raise
  refine Port.wf_setFlag _ _ _ ?_
  refine Port.wf_setFlag _ _ _ ?_
  have e := Memory.wf_writeWords (recordWords p.count (stamp now) r) p.mem (journalBase p.count) h
  simpa only [] using e

@[simp] theorem Port.append_working (now : Nat) (r : JournalRec) (p : Port) :
    (p.append now r).working = p.working := by simp [Port.append, Port.raise]

@[simp] theorem Port.append_held (now : Nat) (r : JournalRec) (p : Port) : (p.append now r).held = p.held := by
  simp [Port.append, Port.raise]

@[simp] theorem Port.append_count (now : Nat) (r : JournalRec) (p : Port) :
    (p.append now r).count = p.count + 1 := by simp [Port.append, Port.raise]

@[simp] theorem Port.append_pstat (now : Nat) (r : JournalRec) (p : Port) : (p.append now r).pstat = p.pstat := by
  simp [Port.append, Port.raise]

@[simp] theorem Port.append_rewrite (now : Nat) (r : JournalRec) (p : Port) :
    (p.append now r).rewrite = p.rewrite := by simp [Port.append, Port.raise]

@[simp] theorem Port.append_rewritePending (now : Nat) (r : JournalRec) (p : Port) :
    (p.append now r).rewritePending = p.rewritePending := by simp [Port.append, Port.raise]

@[simp] theorem Port.append_readData (now : Nat) (r : JournalRec) (p : Port) :
    (p.append now r).readData = p.readData := by simp [Port.append, Port.raise]

/-- A record lies in the journal area. -/
theorem journalBase_bounds (n : Word) : 0x2000 ≤ journalBase n ∧ journalBase n + 32 ≤ 0x4000 := by
  unfold journalBase
  have := Nat.mod_lt n.toNat (show 0 < 256 by decide)
  omega

/-! ## Completions (R160) -/

theorem Port.wf_release (k : Nat) (p : Port) (h : Memory.wf p.mem = true) : Memory.wf (p.release k).mem = true := by
  unfold Port.release
  refine Port.wf_setFlag _ _ _ ?_
  exact h

@[simp] theorem Port.release_working (k : Nat) (p : Port) :
    (p.release k).working = p.working.filter (fun e => !(e.slot == k)) := by simp [Port.release]

@[simp] theorem Port.release_held (k : Nat) (p : Port) : (p.release k).held = p.held &&& ~~~(slotBit k) := by
  simp [Port.release]

@[simp] theorem Port.release_pstat (k : Nat) (p : Port) : (p.release k).pstat = p.pstat := by simp [Port.release]

@[simp] theorem Port.release_count (k : Nat) (p : Port) : (p.release k).count = p.count := by simp [Port.release]

@[simp] theorem Port.release_rewrite (k : Nat) (p : Port) : (p.release k).rewrite = p.rewrite := by
  simp [Port.release]

@[simp] theorem Port.release_rewritePending (k : Nat) (p : Port) :
    (p.release k).rewritePending = p.rewritePending := by simp [Port.release]

/-- The DONE bit of a slot given back is set, the others stand. -/
theorem Port.release_done (k : Nat) (p : Port) (h : Memory.wf p.mem = true) :
    (p.release k).flag done = p.flag done ||| slotBit k := by
  unfold Port.release
  refine Port.flag_setFlag _ _ _ ?_ (by decide)
  exact h

theorem Port.release_flag_other (k x : Nat) (p : Port) (h : Memory.wf p.mem = true) (hx : x ≠ done) :
    (p.release k).flag x = p.flag x := by
  unfold Port.release
  refine (Port.flag_setFlag_other _ _ _ _ ?_ hx).trans ?_
  · exact h
  · rfl

theorem Port.complete_none (now : Nat) (c : Completion) (p : Port) (h : p.entry c.slot = none) :
    p.complete now c = p := by
  unfold Port.complete
  rw [h]

theorem Port.wf_complete (now : Nat) (c : Completion) (p : Port) (h : Memory.wf p.mem = true) :
    Memory.wf (p.complete now c).mem = true := by
  unfold Port.complete
  split
  · exact h
  · rename_i e he
    refine Port.wf_release _ _ ?_
    have w := Memory.wf_writeWords (resultWords now e c) p.mem (slotBase c.slot + 88) h
    simpa only [] using w

/-- Only the entry of a slot can be found under its number. -/
theorem Port.entry_slot (k : Nat) (p : Port) (e : Entry) (h : p.entry k = some e) : e.slot = k ∧ e ∈ p.working := by
  have h1 := List.find?_some h
  exact ⟨by simpa using h1, List.mem_of_find?_eq_some h⟩

/-- After a slot is given back it has no entry. -/
theorem Port.entry_release (k : Nat) (p : Port) : (p.release k).entry k = none := by
  unfold Port.entry
  rw [Port.release_working, List.find?_eq_none]
  intro e he
  have := (List.mem_filter.1 he).2
  simpa using this

/-! ## The order an owner takes up -/

theorem State.orderWaits_slot (s : State) (k : Nat) (o : Order) (h : s.orderWaits k o) : o.slot = k := by
  unfold State.orderWaits State.waitingOrder at h
  split at h
  · rename_i e he
    have hk := (Port.entry_slot k s.port e he).1
    split at h
    · rename_i o' ho
      split at h
      · cases h
        unfold Entry.waitingOrder at ho
        split at ho
        · cases hc : e.order with
          | none => rw [hc] at ho; cases ho
          | some c => rw [hc] at ho; cases ho; exact hk
        · cases ho
      · cases h
    · cases h
  · cases h

/-- How a job takes an order up in HELD and RUNNING (R158). -/
theorem takeUp_of_waits (c : OrderCode) (f : Order → Works → Works) (k : Nat) (o : Order) (s : State)
    (h : s.orderWaits k o) (hc : o.code = c) (hs : s.works.takesOrders) :
    takeUp c f k s = .next (s.takenUp k (f o s.works)) := by
  subst hc
  unfold takeUp
  rw [show s.waitingOrder k o.code = some o from h]
  rcases hs with hs | hs <;> rw [hs] <;> rfl

theorem stationOrder_of_waits (c : OrderCode) (f : Order → State → State) (k : Nat) (o : Order) (s : State)
    (h : s.orderWaits k o) (hc : o.code = c) : stationOrder c f k s = .next (markTaken k (f o s)) := by
  subst hc
  unfold stationOrder
  rw [show s.waitingOrder k o.code = some o from h]

theorem onJob_eq (f : Works → Works) (s : State) : onJob f s = .next (s.ended (f s.works)) := rfl

theorem onWorks_eq (f : Works → Works) (s : State) : onWorks f s = .next { s with works := f s.works } := rfl

theorem onPort_eq (f : Port → Port) (s : State) : onPort f s = .next { s with port := f s.port } := rfl

end Sys2Proof.Machine
end

