-- ==== Sys2Proof/Laws/EventEnd.lean ====
section
/-! SUPPORT. What ends an event (`settleState`, log 9), said once: what it can do to port, store, queue and works, and what
the end of the roll call adds (R175). -/

namespace Sys2Proof.Machine

open Sys2Proof

/-! ## Marks of orders taken up -/

theorem Port.sameButTaken.refl (p : Port) : Port.sameButTaken p p := ⟨rfl, rfl⟩

theorem Port.sameButTaken.trans {p q r : Port} (h1 : Port.sameButTaken p q) (h2 : Port.sameButTaken q r) :
    Port.sameButTaken p r := by
  refine ⟨?_, h2.2.trans h1.2⟩
  have e := h2.1
  rw [h1.1] at e
  exact e

theorem Port.sameButTaken.mem {p q : Port} (h : Port.sameButTaken p q) : q.mem = p.mem := by rw [h.1]

theorem Port.sameButTaken.slots {p q : Port} (h : Port.sameButTaken p q) :
    q.working.map Entry.slot = p.working.map Entry.slot := by
  have e := congrArg (List.map Entry.slot) h.2
  simpa only [List.map_map, Function.comp_def] using e

/-- The change that takes an order up. -/
theorem Port.updEntry_sameButTaken (k : Nat) (t : Bool) (x : Standing) (p : Port) :
    Port.sameButTaken p (p.updEntry k (fun e => { e with takenUp := t, standing := x })) := by
  refine ⟨rfl, ?_⟩
  simp only [Port.updEntry, List.map_map]
  refine List.map_congr_left fun e _ => ?_
  simp only [Function.comp]
  split <;> rfl

theorem markTaken_port (k : Nat) (s : State) : Port.sameButTaken s.port (markTaken k s).port :=
  Port.updEntry_sameButTaken k _ _ s.port

/-- The laws of the port need no more than that. -/
theorem State.portLaws_of_sameButTaken {s t : State} (h : Port.sameButTaken s.port t.port) (hs : s.portLaws) :
    t.portLaws := by
  obtain ⟨h1, ⟨h2, h3, h4, h5⟩, h6, h7⟩ := hs
  have hm := h.slots
  have hmem : ∀ k, (∃ e ∈ t.port.working, e.slot = k) ↔ ∃ e ∈ s.port.working, e.slot = k := fun k => by
    rw [← List.mem_map, ← List.mem_map, hm]
  have he := h.1
  refine ⟨?_, ⟨?_, ?_, ?_, ?_⟩, ?_, ?_⟩
  · rw [h.mem]; exact h1
  · intro e hx
    obtain ⟨e', hx', heq⟩ := (hmem e.slot).1 ⟨e, hx, rfl⟩
    rw [← heq]; exact h2 e' hx'
  · rw [hm]; exact h3
  · intro k
    rw [hmem k, ← h4 k, he]
    rfl
  · rw [he]; exact h5
  · rw [he]; exact h6
  · rw [he]; exact h7

/-! ## The end of the roll call (R175) -/

/-- What the orders that waited leave, taken up one after another. -/
structure State.Takes (s t : State) : Prop where
  port : Port.sameButTaken s.port t.port
  store : t.store = s.store
  pending : t.pending = s.pending
  works : Works.Leads Part.kept s.works t.works

theorem takeAllWaiting_takes (l : List Order) (s : State) : State.Takes s (each l takeWaiting s) := by
  unfold each
  induction l generalizing s with
  | nil => exact ⟨.refl _, rfl, rfl, .refl⟩
  | cons o l ih =>
    have h := ih (takeWaiting o s)
    exact ⟨(markTaken_port o.slot { s with works := ((s.works.carryOut o).runReports).judgeRetire }).trans h.port,
      h.store, h.pending, (takeWaiting_leads o s).trans h.works⟩

/-- The end of the roll call, by its three parts. -/
theorem endRollCall_eq (s : State) : ∃ t, State.Takes { s with works := s.works.rollCallDecide } t ∧
    endRollCall s = { t with works := t.works.rollCallFinish.settle } :=
  ⟨_, takeAllWaiting_takes _ _, rfl⟩

/-! ## The end of an event -/

/-- What ends an event leaves of port, store and queue; works keep station time, the site in force and the two bounds. -/
structure State.Ends (s t : State) : Prop where
  port : Port.sameButTaken s.port t.port
  store : t.store = s.store
  pending : t.pending = s.pending
  works : Works.Settles s.works t.works

theorem settleState_ends (s : State) : State.Ends s (settleState s) := by
  have h0 := s.works.settle_leads.settles
  unfold settleState
  dsimp only
  split
  · rename_i ho
    obtain ⟨t, ht, he⟩ := endRollCall_eq { s with works := s.works.settle }
    rw [he]
    refine ⟨ht.port, ht.store, ht.pending, ?_⟩
    have hs : s.works.settle.station.state = .rollCall := by
      simp only [Works.rollCallOver, Bool.and_eq_true, decide_eq_true_eq] at ho
      exact ho.1.1.1
    exact h0.trans ((Works.rollCallDecide_settles _ hs).trans (ht.works.settles.trans
      ((Works.rollCallFinish_settles _).trans (Works.settle_leads _).settles)))
  · exact ⟨.refl _, rfl, rfl, h0⟩

/-- Outside the roll call, what ends an event leaves the port and the station's record as they are. -/
theorem settleState_of_state (s : State) (h : s.works.station.state ≠ .rollCall) :
    settleState s = { s with works := s.works.settle } := by
  have hs : s.works.settle.station.state ≠ .rollCall := by rw [s.works.settle_leads.station_eq]; exact h
  unfold settleState
  dsimp only
  split
  · rename_i ho
    simp only [Works.rollCallOver, Bool.and_eq_true, decide_eq_true_eq] at ho
    exact absurd ho.1.1.1 hs
  · rfl

end Sys2Proof.Machine
end

