-- ==== Sys2Proof/Tests/Slice0.lean ====
section
/-! SUPPORT. Own tests: ill-formed commands refused, results on small states, and for each statement with hypotheses a state
that meets them. -/

namespace Sys2Proof.Tests

open Sys2Proof Sys2Proof.Machine

/-! ## Well-formedness: each check refuses an ill-formed command -/

theorem test_wellFormed_resets : Instr.wellFormed (.partReset 2) = false ∧ Instr.wellFormed (.partReset 1) = true := by
  decide

theorem test_wellFormed_registers :
    Instr.wellFormed (.registerWriteDiscarded 0x8308 .word 0) = false ∧
    Instr.wellFormed (.registerWriteDiscarded 0x8304 .word 1) = false ∧
    Instr.wellFormed (.registerWriteDiscarded 0x82FF .byte 0) = false ∧
    Instr.wellFormed (.registerWriteDiscarded 0x8308 .byte 0) = true := by decide

theorem test_wellFormed_flagPage :
    Instr.wellFormed (.flagPlainWrite 64 0) = false ∧ Instr.wellFormed (.flagSetViewWrite 64 0) = false ∧
    Instr.wellFormed (.flagClearViewWrite 64 0) = false ∧ Instr.wellFormed (.flagTakeViewRead 64) = false ∧
    Instr.wellFormed (.takeViewWrite 64 0) = false ∧ Instr.wellFormed (.narrowViewAccess 32 true true) = false ∧
    Instr.wellFormed (.plainMemoryWrite 0xFC .word 0) = false ∧
    Instr.wellFormed (.plainMemoryWrite 0x8000 .byte 0) = false ∧
    Instr.wellFormed (.plainMemoryWrite 0x1F .byte 0) = false := by decide

theorem test_wellFormed_orders :
    ((List.map Instr.wellFormed [.declareClosure 32, .standDown 32, .rebaseChannel 32, .pumpRun 32, .pumpStop 32,
      .pumpAuto 32, .pumpClear 32, .pumpService 32, .leadSet 32, .portalReopen 32, .confirmClear 32, .portalReset 32,
      .zoneSet 32, .zoneAuto 32, .unitRetire 32, .unitRestore 32, .loadSite 32, .run 32, .hold 32]).any id) = false := by
  decide

theorem test_wellFormed_notices :
    Instr.wellFormed (.orderCompletion { slot := 0, status := 13, detail := 0, second := 0, results := [] }) = false ∧
    Instr.wellFormed (.orderCompletion { slot := 0, status := 0, detail := 65536, second := 0, results := [] }) = false ∧
    Instr.wellFormed (.orderCompletion
      { slot := 0, status := 0, detail := 0, second := 0, results := [1, 2, 3, 4, 5, 6, 7] }) = false ∧
    Instr.wellFormed (.journalAppend { kind := .stage, subject := 65536, fromState := none, toState := none,
                                       details := [], fault := false }) = false ∧
    Instr.wellFormed (.journalAppend { kind := .stage, subject := 0, fromState := none, toState := none,
                                       details := [1, 2, 3, 4, 5], fault := false }) = false ∧
    Instr.wellFormed (.storeRowProgrammed (some [0])) = false := by decide

theorem test_wellFormed_indexes :
    ((List.map Instr.wellFormed [.riseWindowExpiry 24, .loadRequest 33 0 0, .loadRequest 0 4 0, .loadRequest 0 0 65536,
      .loadRelease 33, .loadShrink 33 0, .loadShrink 0 65536, .loadWithdrawal 33, .classNotice 33 1, .classNotice 0 4,
      .energisedNotice 33, .inrushWindowExpiry 33, .adoptionNotice 33 0, .adoptionNotice 0 65536, .shedFailure 33,
      .pumpGrantNotice 8, .startConfirmExpiry 8, .stopConfirmExpiry 8, .pumpRestExpiry 8, .pumpShedRequest 8,
      .warnTimeExpiry 2, .barrierTravelExpiry 2, .clearLimitExpiry 2, .gateGrantNotice 2, .gateTravelExpiry 2,
      .obstructionDwellExpiry 2, .lampGrantNotice 24 0, .lampGrantNotice 0 65536, .lampShedRequest 24]).any id)
      = false := by decide

/-! ## The CRCs on the spec's check strings, and the site table -/

/-- The characters 1 to 9. -/
def checkString : List Byte := [0x31, 0x32, 0x33, 0x34, 0x35, 0x36, 0x37, 0x38, 0x39]

theorem test_crc16 : crc16 checkString = 0x29B1 := by decide +kernel

theorem test_crc32 : crc32 checkString = 0xCBF43926 := by decide +kernel

/-- The header of a small site table, in halfwords. -/
def siteHead : List Nat := [1, 0, 876, 0, 34, 0, 18401, 14352]

/-- Its records. -/
def sitePieces : List (List Nat) :=
  [[1, 16, 200, 3, 60, 60, 5, 0, 2, 12, 1, 1, 0, 0, 2,
      12, 2, 2, 0, 0, 2, 12, 3, 2, 0, 0, 2, 12, 4, 3],
    [0, 0, 2, 12, 5, 4, 0, 0, 2, 12, 6, 5, 0, 0, 3,
      24, 5, 0, 2, 0, 3000, 65535, 0, 100, 60, 0, 3, 24, 5, 1],
    [5, 0, 200, 65535, 0, 0, 0, 0, 3, 24, 1, 0, 1, 0, 5000,
      65535, 0, 0, 0, 0, 3, 24, 5, 2, 4, 0, 10000, 65535, 0, 0],
    [0, 0, 4, 16, 0, 7, 100, 0, 1, 10, 4, 16, 0, 8, 300,
      0, 2, 20, 4, 16, 0, 9, 50, 1, 1, 10, 4, 16, 1, 10],
    [1, 0, 1, 0, 4, 16, 2, 1, 200, 0, 1, 0, 4, 16, 2,
      2, 800, 0, 1, 100, 5, 24, 2, 1, 0, 1, 1, 0, 65535, 65535]] ++
  [[65535, 1, 6, 32, 1, 0, 0, 0, 0, 0, 5, 10, 6, 50, 150,
      3000, 0, 0, 7, 36, 0, 2, 0, 1, 2, 20, 60, 10, 60, 10],
    [3, 20, 60, 2000, 0, 0, 7, 36, 1, 3, 0, 1, 2, 20, 60,
      10, 60, 10, 3, 20, 60, 2000, 0, 0, 8, 48, 0, 4, 2, 3],
    [1, 0, 0, 3, 100, 200, 300, 400, 500, 600, 700, 20, 2, 0, 0,
      0, 0, 0, 8, 48, 1, 4, 2, 3, 1, 0, 0, 0, 0, 0],
    [0, 0, 0, 0, 0, 0, 0, 2, 0, 0, 0, 1, 8, 48, 2,
      4, 2, 3, 1, 0, 0, 3, 100, 200, 300, 400, 500, 600, 700, 20],
    [2, 0, 0, 0, 0, 2, 8, 48, 3, 4, 2, 3, 1, 0, 0,
      0, 0, 0, 0, 0, 0, 0, 0, 0, 0, 2, 0, 0, 0, 3]] ++
  [[8, 48, 4, 4, 2, 3, 1, 4, 2, 0, 0, 0, 0, 0, 0,
      0, 0, 0, 0, 0, 500, 50, 2, 0, 8, 48, 5, 4, 0, 0],
    [0, 4, 2, 0, 0, 0, 0, 0, 0, 0, 0, 0, 0, 0, 0,
      0, 0, 1, 9, 24, 0, 0, 0, 10, 20, 30, 40, 50, 60, 70],
    [9, 24, 1, 1, 0, 10, 20, 30, 40, 50, 60, 70, 9, 24, 2,
      2, 0, 10, 20, 30, 40, 50, 60, 70, 9, 24, 3, 3, 0, 10],
    [20, 30, 40, 50, 60, 70, 9, 24, 4, 4, 0, 10, 20, 30, 40,
      50, 60, 70, 9, 24, 5, 5, 0, 10, 20, 30, 40, 50, 60, 70],
    [10, 20, 6, 0, 1, 2, 1000, 500, 50, 80]]

/-- The 876 bytes of the table. -/
def siteText : List Byte := (siteHead ++ sitePieces.flatten).flatMap (leBytes 2)

/-- The site table area with the table in it. -/
def siteBytes : List Byte := siteText ++ List.replicate 15508 0

/-- The CRC-32 register after each piece of the records. -/
def crcStates : List Word :=
  [0x8b476105, 0x10e1c28, 0x5d048c6b, 0x6e561b9f, 0xb1ef56f5,
    0x535beb4e, 0x3c32d393, 0xd2fb3561, 0x9dee6b2a, 0x83ab8704,
    0xed4b7241, 0xeead5375, 0xc4df56c2, 0xc8103284, 0xc7efb81e]

/-- Each piece takes the register from one value of the list to the next. -/
def crcChain (r : Word) : List (List Nat) → List Word → Bool
  | p :: ps, q :: qs => ((p.flatMap (leBytes 2)).foldl crc32Byte r == q) && crcChain q ps qs
  | [], [] => true
  | _, _ => false

theorem crcChain_last (ps : List (List Nat)) (r : Word) (qs : List Word) (h : crcChain r ps qs = true) :
    (ps.flatten.flatMap (leBytes 2)).foldl crc32Byte r = qs.getLastD r := by
  induction ps generalizing r qs with
  | nil => cases qs with
    | nil => rfl
    | cons q qs => simp [crcChain] at h
  | cons p ps ih => cases qs with
    | nil => simp [crcChain] at h
    | cons q qs =>
      simp only [crcChain, Bool.and_eq_true, beq_iff_eq] at h
      rw [List.flatten_cons, List.flatMap_append, List.foldl_append, h.1, ih q qs h.2, List.getLastD_cons]

theorem crcChain_site : crcChain 0xFFFFFFFF sitePieces crcStates = true := by decide +kernel

theorem siteBytes_records : (siteBytes.take 876).drop 16 = sitePieces.flatten.flatMap (leBytes 2) := by decide +kernel

/-- A verdict that gives a table. -/
def isValid : Verdict → Bool
  | .valid _ => true
  | .refused _ _ => false

/-- The check of a THRESHOLD_N record whose boundaries and hysteresis are given, over a table with a lamp unit 4 or none and a
luminance channel. -/
def zoneVerdict (boundaries : List Nat) (hysteresis : Nat) (units : List (List Nat)) : Option Nat :=
  let r : Raw := { kind := 8, length := 48, fields := [0, 4, 1, 2, 1, 0, 0, 0] ++ boundaries ++ [hysteresis, 1, 0, 0, 0, 0, 0] }
  firstFail (checkZone (units.map (fun f => { kind := kUnit, length := 8, fields := f }) ++
    [{ kind := kChannel, length := 20, fields := [5, 0, 4] }]) r)

/-- A boundary or a hysteresis out of range is judged ahead of a missing unit, a step table that does not ascend after it (R169). -/
theorem test_zoneCheckOrder :
    let falling := [10, 20, 30, 40, 50, 70, 60]
    let beyond := [10, 20, 30, 40, 50, 60, 10001]
    let rising := [10, 20, 30, 40, 50, 60, 70]
    [zoneVerdict beyond 5 [], zoneVerdict rising 20000 [], zoneVerdict falling 5 [], zoneVerdict rising 10000 [],
      zoneVerdict falling 5 [[4, 4, 0]], zoneVerdict falling 5 [[4, 3, 0]], zoneVerdict rising 5 [[4, 3, 0]]]
        = [some 6, some 6, some 7, some 7, some 8, some 6, none] := by decide +kernel

/-- All that a validation looks at but the CRC. -/
def soundRecords (bs : List Byte) : Bool :=
  halfAt bs 0 == 1 && totalLength bs == 876 && wordAt bs 12 == 0x381047E1 &&
    match splitRecords 4097 860 (bs.drop 16) with
    | some t => wordAt bs 8 == t.length && isValid (judgeRecords bs t)
    | none => false

theorem siteBytes_sound : soundRecords siteBytes = true := by decide +kernel

/-- The small site table is valid. -/
theorem test_siteTable_valid : isValid (validate siteBytes) = true := by
  have h := siteBytes_sound
  simp only [soundRecords, Bool.and_eq_true, beq_iff_eq] at h
  obtain ⟨⟨⟨h1, h2⟩, h3⟩, h4⟩ := h
  have hc : (crc32 ((siteBytes.take 876).drop 16)).toNat = 0x381047E1 := by
    rw [siteBytes_records, crc32, crcChain_last sitePieces _ crcStates crcChain_site]
    decide +kernel
  revert h4
  unfold validate
  simp only [h1, h2, ne_eq, not_true_eq_false, if_false]
  rw [if_neg (by omega), hc, h3]
  cases splitRecords 4097 (876 - 16) (siteBytes.drop 16) with
  | none => intro h4; cases h4
  | some t =>
    simp only [Bool.and_eq_true, beq_iff_eq, not_true_eq_false, if_false]
    rintro ⟨h5, h6⟩
    rw [if_neg (by omega)]
    exact h6

theorem readBytes_getElem (m : List Host.Cell) (n a i : Nat) (h : i < n) :
    (Memory.readBytes m a n)[i]? = some (Memory.read m (a + i)) := by
  induction n generalizing a i with
  | zero => omega
  | succ n ih => cases i with
    | zero => rfl
    | succ i => rw [Memory.readBytes, List.getElem?_cons_succ, ih (a + 1) i (by omega)]; congr 2; omega

theorem readBytes_length (m : List Host.Cell) (n a : Nat) : (Memory.readBytes m a n).length = n := by
  induction n generalizing a with
  | zero => rfl
  | succ n ih => rw [Memory.readBytes, List.length_cons, ih]

/-- Bytes written into an empty memory are read back, with zeros behind them. -/
theorem readBytes_writeBytes (bs : List Byte) (a k : Nat) :
    Memory.readBytes (Memory.writeBytes [] a bs) a (bs.length + k) = bs ++ List.replicate k 0 := by
  apply List.ext_getElem?
  intro i
  by_cases h : i < bs.length + k
  · rw [readBytes_getElem _ _ _ _ h, Memory.read_writeBytes bs [] a (a + i) rfl]
    by_cases h2 : i < bs.length
    · rw [if_pos ⟨by omega, by omega⟩, List.getElem?_append_left h2, Nat.add_sub_cancel_left, List.getD_eq_getElem?_getD,
        List.getElem?_eq_getElem h2]
      rfl
    · rw [if_neg (by omega), List.getElem?_append_right (by omega), List.getElem?_replicate, if_pos (by omega)]
      rfl
  · rw [List.getElem?_eq_none (by rw [readBytes_length]; omega),
      List.getElem?_eq_none (by simp only [List.length_append, List.length_replicate]; omega)]

/-- Common memory with the table in its site table area. -/
def siteMem : List Host.Cell := Memory.writeBytes [] 0x4000 siteText

theorem siteText_length : siteText.length = 876 := by decide +kernel

theorem siteArea_siteMem : siteArea siteMem = siteBytes := by
  rw [siteArea, siteMem, siteBytes, ← readBytes_writeBytes siteText 0x4000 15508, siteText_length]

/-- A site store that holds the table, with an empty checked part. -/
def siteStore : Store := { rows := Memory.writeBytes [] 0 siteText, checkLength := 0, checkCrc := 0 }

theorem siteStore_bytes : siteStore.bytes = siteBytes := by
  have h : Memory.readBytes siteStore.rows 0 16384 = siteText ++ List.replicate 15508 0 := by
    rw [← readBytes_writeBytes siteText 0 15508, siteText_length, siteStore]
  rw [Store.bytes, h, siteBytes]

theorem siteStore_judge : siteStore.judge = validate siteStore.bytes := by
  rw [Store.judge, show siteStore.isClear = false by decide, show siteStore.agrees = true by decide,
    if_neg Bool.false_ne_true, if_pos (Eq.refl true)]

/-- Some table is valid in the site table area. -/
theorem test_loadSite_table : ∃ site, validate (siteArea siteMem) = .valid site := by
  rw [siteArea_siteMem]
  have h := test_siteTable_valid
  cases hv : validate siteBytes with
  | refused r i => rw [hv] at h; cases h
  | valid site => exact ⟨site, rfl⟩

theorem test_store_table : ∃ site, siteStore.judge = .valid site := by
  have h := test_siteTable_valid
  rw [siteStore_judge, siteStore_bytes]
  cases hv : validate siteBytes with
  | refused r i => rw [hv] at h; cases h
  | valid site => exact ⟨site, rfl⟩

/-! ## A small part in operation -/

def tSump : Sump :=
  { level := 1, cutout := { unit := 1, input := 0, state := .inactive },
    high := { unit := 1, input := 1, state := .inactive }, rotation := [0], lead := 0, duty := 1, storm := false,
    demand := 0, able := 1, list := [] }

def tPump : Pump :=
  { unit := 1, motor := 0, feedback := 0, overloadInput := 0, sump := 0, state := .idle, cause := none, trip := none,
    out := false, intent := none, running := .stopped, overload := .inactive, grant := .none, pair := .none,
    mark := .none, lapse := false, startTime := none, lastStop := none, history := [], runSeconds := 5, confirm := 2,
    rest := 3, starts := 10, runPower := 50, confirmStart := none, tripCode := 0, runSince := none, runRest := 0,
    saturated := false, pairRefused := false, haltRefused := false }

def tPortal (u : Nat) : Portal :=
  { Portal.reset with
    unit := u, signalOut := 0, barrierOut := 1, gateOut := 2, closure := .opened, warn := 20, clearLimit := 60,
    signals := { Signals.reset with shown := .dark },
    barrier := { Barrier.reset with state := .up, limit := 10 },
    gate := { Gate.reset with state := .stowed, limit := 60, dwell := 10, attemptLimit := 3 } }

def tDepth : Channel :=
  { unit := 5, input := 0, kind := .depth, low := 0, high := 3000, value := 100, validity := .valid, lastSample := some 0,
    partner := none, disagree := false, rise := some { delta := 100, window := 60, baseline := some (0, 0) },
    thresholds := [{ role := .close, level := 300, direction := .up, qualify := 2, hysteresis := 20, state := .below },
      { role := .reopen, level := 50, direction := .down, qualify := 1, hysteresis := 10, state := .below }] }

def tLevel : Channel :=
  { tDepth with unit := 1, kind := .sumpLevel, rise := none,
                thresholds := [{ role := .stop, level := 200, direction := .up, qualify := 1, hysteresis := 0, state := .above }] }

def tVehicles : Channel :=
  { tDepth with input := 1, kind := .vehicles, high := 200, value := 4, rise := none,
                thresholds := [{ role := .occupied, level := 1, direction := .up, qualify := 1, hysteresis := 0, state := .above }] }

def tZone : Zone :=
  { circuits := [0], unit := 4, mode := .normal, target := 3, current := some 3, ordered := none, minNormal := 1,
    minStorm := 2, minSafe := some 1, closure := some 1, day := 3, night := 2, degraded := false, choice := none,
    table := none, offset := 0 }

def tCircuit : Circuit :=
  { zone := 0, output := 0, power := [0, 10, 20, 30, 40, 50, 60, 70], grant := some 3, wanted := 3, granted := 30,
    request := none, setList := [], reported := some 3, fault := .clear, shedHold := false }

def tGrant (l : Load) : Grant :=
  { load := l, cls := 2, state := .idle, granted := 0, requested := 50, inrush := 150, window := 3000, adopted := false,
    floor := 0, mark := .none, number := none, energised := none, outage := none }

def tClaim (s : ClaimSubject) (u : Nat) : Claim :=
  { subject := s, unit := u, key := 0, keyView := .normal, value := .auto, slot := none, changed := 0 }

def tUnit (a : Nat) (t : UnitType) : RosterEntry :=
  { address := a, type := t, state := .present, missCount := 0, missLimit := 3, lastGood := some 0, lastError := none,
    selection := .none, heard := false, held := none, retry := [] }

def tSitePortal : SitePortal :=
  { unit := 2, signal := 0, barrier := 1, gate := 2, warn := 20, clearLimit := 60, barrierTravel := 10, gateTravel := 60,
    obstruction := 10, attempts := 3, run := 20, inrush := 60, window := 2000, key := 0 }

def tSite : Site :=
  { format := 1, autorun := false, records := 34, roundPeriod := 200, watchDwell := 60, reopenDwell := 60, clearDwell := 5,
    units := [], channels := [], sumps := [], pumps := [], north := tSitePortal, south := tSitePortal, zones := [],
    circuits := [],
    supply := { unit := 6, mainsInput := 0, generatorInput := 1, overloadInput := 2, mains := 1000, generator := 500,
                reserve := 50, derate := 80 } }

/-- The works at station time 200 000 in RUNNING, the line taken by a poll. -/
def tWorks : Works :=
  { Works.reset true with
    now := 200000,
    station := { state := .running, site := some tSite, programming := none, load := none, powerOn := true },
    water := { channels := [tDepth, tLevel, tVehicles], governing := some { channel := 0, value := 100 },
               stage := { StageRec.reset with north := .opened, south := .opened } },
    budget := { supply := { Supply.reset with source := .mains, capacity := 950 },
                grants := [tGrant (.pump 0), tGrant (.gate 0), tGrant (.gate 1),
                  { tGrant (.lamp 0) with cls := 3, state := .held, granted := 30, requested := 30, floor := 10 }],
                queue := [] },
    dewater := { sumps := [tSump], pumps := [tPump] },
    portals := { north := tPortal 2, south := tPortal 3, interior := Interior.reset },
    lights := { zones := [tZone], circuits := [tCircuit], day := Day.reset },
    claims := [tClaim (.pump 0) 1, tClaim (.portal 0) 2, tClaim (.portal 1) 3, tClaim (.zone 0) 4],
    line := { Line.reset with
      roster := [tUnit 1 .pumpRoom, tUnit 2 .portal, tUnit 3 .portal, tUnit 4 .lamp, tUnit 5 .sensor],
      exchange := some { kind := .poll, unit := 5, cmd := .poll, frame := [], awaiting := true, windowStart := 199975,
                         discard := false } } }

def inWorks (w : Works) : State := { State.reset with works := w }

def tState : State := inWorks tWorks

def withPump (p : Pump) (w : Works) : Works := { w with dewater := { w.dewater with pumps := [p] } }

def withStage (s : StageRec) (w : Works) : Works := { w with water := { w.water with stage := s } }

def withNorth (p : Portal) (w : Works) : Works := { w with portals := { w.portals with north := p } }

def withClaim (v : ClaimValue) (w : Works) : Works := { w with claims := w.claims.map (fun c => { c with value := v }) }

def inStation (st : StationState) (w : Works) : Works := { w with station := { w.station with state := st } }

def withExchange (x : Exchange) (f : List Byte) (w : Works) : Works :=
  { w with line := { w.line with exchange := some x, rx := { w.line.rx with frame := f } } }

/-- The order in slot 31. -/
def tOrder (c : OrderCode) (subject param : Nat) : Order := { slot := 31, code := c, subject := subject, param := param }

/-- A state in which that order waits. -/
def waits (c : OrderCode) (subject param : Nat) (w : Works) : State :=
  { inWorks w with port := { Port.reset with
    working := [{ slot := 31, snapshot := [BitVec.ofNat 32 (c.code + 65536 * c.params), BitVec.ofNat 32 subject,
      BitVec.ofNat 32 param], standing := .waiting, taken := 0, checked := true, takenUp := false }],
    held := slotBit 31 } }

/-- Common memory with a word written. -/
def memWith (a : Nat) (v : Word) : List Host.Cell := Memory.writeWord [] a v

def withMem (m : List Host.Cell) (s : State) : State := { s with port := { s.port with mem := m } }

/-! ## States that meet the hypotheses of the statements -/

theorem test_hyp_steps :
    ({ tState with pending := [.orderArrival] } : State).pending = .orderArrival :: [] ∧
    (tState.pending = [] ∧ (inWorks (tWorks.send .orderArrival)).works.notices = .orderArrival :: []) ∧
    State.reset.pending = [] ∧ State.reset.works.notices = [] := by decide

/-- A timer end that is due a millisecond on. -/
theorem test_hyp_timerDue : ({ tWorks with now := tWorks.now + 1 } : Works).due .responseWindowExpiry ∧
    tState.port.rewrite = none ∧ tState.works.notices = [] :=
  ⟨⟨_, rfl, by decide⟩, by decide⟩

theorem test_hyp_PartReset :
    (0x101 : Word).toNat % 256 = 1 ∧ Memory.wf (memWith 0x100 5) = true := by decide

theorem test_hyp_RegisterWrites :
    (discardedWriteOk 0x830C .word 7 = true) ∧ (discardedWriteOk 0x8304 .word 2 = true) ∧
    (discardedWriteOk 0xFFFF .byte 0 = true ∧ unmappedBase ≤ 0xFFFF) ∧
    (Width.byte ≠ .word ∧ registerBase ≤ 0x8300 ∧ 0x830F < unmappedBase) := by decide

/-- The words of a clause are 63, DONE and the part's own two; DONE holds bit 5. -/
theorem test_hyp_FlagWrites :
    (63 < 64 ∧ 63 ≠ done ∧ 63 ≠ journalCount ∧ 63 ≠ imageGen) ∧
    ((withMem (memWith 4 0x20) tState).port.flag done = 0x20 ∧ (0x20 : Word) &&& ~~~0x20 = 0 ∧
      (0x21 : Word) &&& ~~~0x20 ≠ 0 ∧ Memory.wf (memWith 4 0x20) = true) ∧
    (journalCount < 64 ∧ imageGen < 64) := by decide

theorem test_hyp_NarrowAccess :
    narrowRefused 0x0000 = true ∧ narrowRefused 0x001F = true ∧ narrowRefused 0x82FF = true ∧
    (windowOf 0x8008).flagIndex = some withdraw := by decide

theorem test_hyp_PlainStore :
    plainStoreOk 0x20 .byte = true ∧ plainStoreOk 0x7FFF .half = true ∧ plainStoreOk 0x100 .word = true := by decide

theorem test_hyp_OrderCompletion :
    (tState.port.entry 31 = none) ∧
    ((waits .run 0 0 tWorks).port.entry 31).isSome = true ∧
    ((withMem (memWith 12 (slotBit 31)) (waits .run 0 0 tWorks)).port.flag notify).getLsbD 31 = true := by decide

/-- A post of slot 31 with the words of DECLARE CLOSURE. -/
def tPosted : State := withMem (Memory.writeWord (memWith 0 (slotBit 31)) 0x1080 0x0101) tState

theorem test_hyp_PostIsTaken :
    Memory.wf tPosted.port.mem = true ∧ tPosted.port.flag posted = slotBit 31 ∧ tPosted.port.flag withdraw = 0 ∧
    tPosted.port.isHeld 31 = false ∧ tPosted.works.takesOrders ∧
    (newEntry 31 200000 tPosted.port.mem).order = some .declareClosure ∧
    (newEntry 31 200000 tPosted.port.mem).countField = 0 ∧ (newEntry 31 200000 tPosted.port.mem).flagsField = 0 ∧
    tPosted.works.subjectExists .declareClosure (newEntry 31 200000 tPosted.port.mem).subject = true ∧
    tPosted.port.entry 31 = none := by decide +kernel

theorem test_hyp_EmptyArrivalAndRepost :
    (tState.port.flag posted = 0 ∧ tState.port.flag withdraw = 0) ∧
    ((withMem (memWith 0 (slotBit 31)) (waits .run 0 0 tWorks)).port.flag posted = slotBit 31 ∧
      (waits .run 0 0 tWorks).port.isHeld 31 = true) := by decide

/-- What the first check fails of an order in slot 31 with two first words. -/
def tFailure (w0 w1 : Word) (w : Works) : Option (Nat × Nat × Nat) :=
  w.firstFailure (newEntry 31 200000 (Memory.writeWord (Memory.writeWord (memWith 0 (slotBit 31)) 0x1080 w0) 0x1084 w1))

/-- Code, count, flags and subject in turn, then a job's order in UNSET, and one that passes. -/
theorem test_hyp_OrderChecks :
    tFailure 0xFF 0 tWorks = some (1, 1, 255) ∧ tFailure 0x10101 0 tWorks = some (1, 2, 1) ∧
    tFailure 0x1000101 0 tWorks = some (1, 3, 1) ∧ tFailure 0x101 1 tWorks = some (2, 1, 0) ∧
    tFailure 0x101 0 (inStation .unset tWorks) = some (12, 0, 0) ∧ tFailure 0x101 0 tWorks = none := by decide +kernel

/-- An ACTIVE ZONE SET in slot 31, and an ACTIVE STAND DOWN. -/
theorem test_hyp_ActiveWithdrawal :
    (let a : Active := { slot := 31, code := .zoneSet, subject := 0, since := 0 }
     { tWorks with active := [a] }.active.find? (fun a => a.slot == 31) = some a ∧ tWorks.withdrawable a) ∧
    ¬ tWorks.withdrawable { slot := 31, code := .standDown, subject := 0, since := 0 } := by
  refine ⟨⟨rfl, .inl rfl⟩, ?_⟩
  rintro (h | ⟨h | h, -⟩) <;> cases h

theorem test_hyp_BadOrderAndWithdrawal :
    (withMem (memWith 0 (slotBit 31)) tState).port.flag posted = slotBit 31 ∧
    ((withMem (memWith 8 (slotBit 31)) (waits .run 0 0 tWorks)).port.flag withdraw = slotBit 31 ∧
      (((waits .run 0 0 tWorks).port.entry 31).map Entry.standing = some .waiting) ∧
      (((waits .run 0 0 tWorks).port.entry 31).map Entry.takenUp = some false)) := by decide +kernel

/-- The laws of IMAGE_GEN hold before a rewrite and within one, the third section of which is to come. -/
theorem test_hyp_imageParity :
    tState.port.imageParity ∧
    ({ (withMem (memWith 28 1) tState).port with
      rewrite := some { done := 2, time := 1, count := 2 }, rewritePending := true } : Port).imageParity := by
  decide +kernel

theorem test_hyp_Image :
    tState.port.rewrite = none ∧
    (let r : Rewrite := { done := 0, time := 1, count := 2 }
     ({ tState.port with rewrite := some r, rewritePending := true } : Port).rewrite = some r) := by decide

/-! ### Water watch -/

theorem test_hyp_Thresholds :
    (1 ≤ 16 ∧ 1 ≤ 15 ∧ 15 + 1 ≤ 16 ∧ 20 ≤ 300) ∧
    (tWorks.water.channels[0]? = some tDepth ∧ tDepth.low ≤ 3000 ∧ 3000 ≤ tDepth.high) ∧
    tDepth.thresholds[1]?.map Threshold.direction = some .down := by decide

theorem test_hyp_RiseWindowExpiry :
    tDepth.rise = some { delta := 100, window := 60, baseline := some (0, 0) } ∧ 0 + 1000 * 60 ≤ tWorks.now ∧
    ({ tDepth with rise := some { delta := 100, window := 60, baseline := some (0, 150001) } } : Channel).rise.isSome ∧
    tWorks.now < 150001 + 1000 * 60 := by decide

/-- Samples at the edges of a rise, out of range and at CLOSE's second count; a lost channel with a run under way; partners
at the tolerance and beyond it, agreed and not (R6, R7, R9). -/
theorem test_hyp_Samples :
    (tDepth.high < 3001 ∧ tDepth.validity ≠ .outOfRange ∧ tDepth.validity ≠ .stale) ∧
    (let t : Threshold := { role := .close, level := 300, direction := .up, qualify := 2, hysteresis := 20, state := .rising 1 }
     upStep t.level t.hysteresis t.qualify t.state 300 = .above ∧
       ((tWorks.updChannel 0 (fun c => { c with thresholds := [t] })).channelLost 0).water.channels.map
         (fun c => c.thresholds.map Threshold.state) = [[.below], [.above], [.above]]) ∧
    (let rise := fun (b v : Nat) => ({ tDepth with rise := some { delta := 100, window := 60, baseline := some (b, 0) } } : Channel).rises v
     [rise 0 99, rise 0 100, rise 50 49] = [false, true, false]) ∧
    (let pair := fun (v : Nat) (d : Bool) =>
       let c : Channel := { tDepth with partner := some (1, 10), disagree := d, value := v }
       (({ tWorks with water := { tWorks.water with
          channels := [c, { tDepth with partner := some (0, 10), disagree := d }] } } : Works).comparePartner 0
        ).water.channels.map Channel.disagree
     [pair 110 false, pair 111 false, pair 111 true, pair 90 true] =
       [[false, false], [true, true], [true, true], [false, false]]) := by decide +kernel

def tStage (s : Stage) (dwell : Option Nat) : StageRec := { tWorks.water.stage with stage := s, dwellStart := dwell }

theorem test_hyp_DwellExpiries :
    ranOut (tStage .watch (some 140000)).dwellStart (tWorks.siteTime Site.watchDwell) tWorks.now = true ∧
    ranOut (tStage .closed (some 140000)).dwellStart (tWorks.siteTime Site.reopenDwell) tWorks.now = true := by decide

/-- A depth whose CLOSE threshold is ABOVE, in ALERT. -/
def tFlooded : Works :=
  let t : Threshold :=
    { role := .close, level := 300, direction := .up, qualify := 2, hysteresis := 20, state := .above }
  let c : Channel := { tDepth with value := 400, thresholds := [t] }
  { withStage (tStage .alert none) tWorks with
    water := { (withStage (tStage .alert none) tWorks).water with channels := [c, tLevel, tVehicles] } }

/-- Closure causes in DRY, WATCH and DRAINING, in RUNNING and HELD, the portals SHUT and not; no closure cause. -/
theorem test_hyp_Closure :
    (∀ st ∈ [Stage.dry, .watch, .draining], ∀ sup ∈ [true, false], ∀ v ∈ [View.shut, .moving],
      let s : StageRec := { tStage st none with north := .shut, south := v, suppressed := sup }
      let w := withStage s tFlooded
      w.closeAbove = true ∧ tWorks.facts.close = false ∧ w.stageRuns = true ∧ (inStation .held w).stageRuns = true ∧
        (w.judgeStage tWorks.facts false).water.stage.stage =
          (if st = .draining ∧ v = .shut then .closed else .alert) ∧
        ((inStation .held w).judgeStage tWorks.facts false).water.stage.stage =
          (if st = .draining then (if v = .shut then .closed else .alert) else .watch)) ∧
    tWorks.closeAbove = false ∧ tWorks.stageRuns = true ∧ (inStation .rollCall tWorks).stageRuns = false := by
  decide +kernel

/-- Watch causes brought, and none; a stage in which one stands, and in which none does; the reopen condition. -/
theorem test_hyp_WatchCauses :
    (tWorks.watchBrought tWorks.facts true = some .depthRise ∧ tWorks.watchBrought tWorks.facts false = none ∧
      ({ tWorks with water := { tWorks.water with governing := none } } : Works).watchBrought tWorks.facts false =
        some .depthInvalid) ∧
    tFlooded.watchStands ∧ ¬ tWorks.watchStands ∧ ¬ tWorks.closes tWorks.facts ∧ tFlooded.closes tWorks.facts ∧
    tWorks.reopenBelow = true ∧ tFlooded.reopenBelow = false := by
  simp only [Works.watchStands, Works.closes]
  decide +kernel

/-- Reports that lead on from ALERT, CLOSED and DRAINING, and one that leads nowhere. -/
theorem test_hyp_StageReports :
    let r := fun (o n : View) (re : Bool) => ({ portal := 0, old := o, new := n, reopening := re } : ViewReport)
    let at' := fun (st : Stage) (n s : View) (x : ViewReport) =>
      ((withStage { tStage st none with north := n, south := s } tWorks).stageReport x).water.stage.stage
    [at' .alert .shut .shut (r .moving .shut false), at' .alert .shut .moving (r .moving .shut false),
      at' .closed .moving .shut (r .shut .moving false), at' .draining .moving .shut (r .shut .moving false),
      at' .draining .moving .shut (r .shut .moving true), at' .draining .opened .opened (r .moving .opened false),
      at' .watch .moving .shut (r .shut .moving false)] =
    [.closed, .alert, .alert, .alert, .draining, .watch, .watch] := by decide +kernel

/-- A change of closure state that changes the view, and the sample of a depth that rises. -/
theorem test_hyp_ViewChange :
    (tWorks.portal 0).closure.view ≠ Closure.warning.view ∧
    (tWorks.water.channels[0]? = some tDepth ∧ tDepth.rises 100 = true ∧ tDepth.rises 99 = false) := by decide +kernel

/-- The works with the depth channel lost, and with no governing depth. -/
theorem test_hyp_GoverningDepth :
    (let w : Works := { tWorks with water := { tWorks.water with channels := [{ tDepth with validity := .stale }] } }
     w.water.governing.isSome = true ∧ w.recomputeDepth.water.governing = none ∧ w.station.state = .running) ∧
    (let w : Works := { tWorks with water := { tWorks.water with governing := none } }
     w.water.governing = none ∧ w.recomputeDepth.water.governing = some { channel := 0, value := 100 }) ∧
    (tWorks.water.channels[0]? = some tDepth ∧ tDepth.kind = .depth ∧ tDepth.validity ≠ .stale) := by decide +kernel

theorem test_hyp_DeclareClosure :
    (waits .declareClosure 0 0 tWorks).orderWaits 31 (tOrder .declareClosure 0 0) ∧
    (inStation .held tWorks).station.state = .held ∧
    (tWorks.station.state = .running ∧ tWorks.water.stage.stage = .dry ∧ tWorks.active = []) ∧
    (withStage (tStage .draining none) tWorks).water.stage.stage = .draining := by decide +kernel

theorem test_hyp_StandDown :
    (waits .standDown 0 0 (withStage (tStage .alert none) tWorks)).orderWaits 31 (tOrder .standDown 0 0) ∧
    tWorks.takesOrders ∧ tWorks.water.stage.stage ≠ .alert ∧
    (tFlooded.water.stage.stage = .alert ∧ tFlooded.closeAbove = true) ∧
    ((withStage (tStage .alert none) tWorks).closeAbove = false ∧
      (withStage (tStage .alert none) tWorks).water.stage.north = .opened ∧
      (withStage (tStage .alert none) tWorks).water.stage.south = .opened) ∧
    (withStage { tStage .alert none with north := .unknown } tWorks).closeAbove = false := by decide +kernel

/-- STAND DOWN with SOUTH alone stalled, and with both portals on the way. -/
theorem test_hyp_StandDownViews :
    (let w := withStage { tStage .alert none with south := .stalled } tWorks
     w.closeAbove = false ∧ w.water.stage.north ≠ .stalled ∧ w.water.stage.north ≠ .unknown ∧
       w.water.stage.south = .stalled) ∧
    (let w := withStage { tStage .alert none with north := .moving, south := .shut } tWorks
     w.closeAbove = false ∧ ¬ (w.water.stage.north = .opened ∧ w.water.stage.south = .opened) ∧
       w.water.stage.north ≠ .stalled ∧ w.water.stage.south ≠ .unknown ∧ w.active = []) := by decide +kernel

theorem test_hyp_RebaseChannel :
    (waits .rebaseChannel 0 0 tWorks).orderWaits 31 (tOrder .rebaseChannel 0 0) ∧
    (tWorks.water.channels[1]? = some tLevel ∧ tLevel.rise = none) ∧
    (tDepth.rise.isSome ∧ tDepth.validity = .valid) ∧
    ({ tDepth with validity := .stale } : Channel).validity ≠ .valid := by decide +kernel

/-! ### Supply budget -/

def withPumpClaims (l : List ClaimValue) (w : Works) : Works :=
  { w with claims := (indexed 0 l).map (fun x => { tClaim (.pump x.1) 1 with value := x.2 }) }

def withGrants (l : List Grant) (q : List Nat) (w : Works) : Works := { w with budget := { w.budget with grants := l, queue := q } }

theorem test_hyp_Requests :
    (tWorks.budget.grants[0]? = some (tGrant (.pump 0)) ∧ (tGrant (.pump 0)).load.isLamp = false ∧
      (tGrant (.pump 0)).state = .idle ∧ (tGrant (.pump 0)).outage = none ∧ tWorks.budget.queue = [] ∧
      tWorks.budget.supply.state = .normal ∧ (∀ e ∈ tWorks.budget.grants, e.state ≠ .inrush) ∧
      grantedSum tWorks.budget + 150 ≤ tWorks.budget.supply.capacity) ∧
    (∃ j e, j ≠ 0 ∧ [tGrant (.pump 0), { tGrant (.pump 1) with state := .inrush }][j]? = some e ∧ e.state = .inrush) ∧
    ({ tGrant (.pump 0) with state := .queued } : Grant).state ≠ .idle := by
  refine ⟨by decide, ⟨1, _, by decide, rfl, rfl⟩, by decide⟩

def tLamp : Grant := { tGrant (.lamp 0) with cls := 3, state := .held, granted := 30, requested := 30, floor := 10 }

def withCapacity (n : Nat) (st : BudgetState) (w : Works) : Works :=
  { w with budget := { w.budget with supply := { w.budget.supply with capacity := n, state := st } } }

/-- A motor ahead of a lamp that waits, and a lamp alone, each at exactly the capacity. -/
theorem test_hyp_RequestsGranted :
    (let w := withCapacity 180 .normal (withGrants [tGrant (.pump 0), { tLamp with state := .queued, requested := 60 }] [1] tWorks)
     w.budget.queue.head? = some 1 ∧ 2 < classOf w.budget 1 ∧ 0 ∉ w.budget.queue ∧
       (∀ e ∈ w.budget.grants, e.state ≠ .inrush) ∧ grantedSum w.budget + 150 ≤ w.budget.supply.capacity) ∧
    (let w := withCapacity 60 .normal (withGrants [tLamp] [] tWorks)
     tLamp.state = .held ∧ tLamp.granted < 60 ∧ tLamp.outage = none ∧
       grantedSum w.budget + (60 - tLamp.granted) ≤ w.budget.supply.capacity) := by decide

/-- The ways in which a request only joins the queue: a state that is not NORMAL, an INRUSH, a head that waits, no fit. -/
theorem test_hyp_RequestsQueue :
    BudgetState.shedding ≠ .normal ∧
    (let w := withGrants [tLamp, { tGrant (.pump 0) with state := .inrush }] [] tWorks
     w.budget.grants[1]?.map Grant.state = some .inrush ∧ tLamp.granted < 40) ∧
    (let w := withCapacity 179 .normal (withGrants [tLamp, { tGrant (.pump 0) with state := .queued }, tGrant (.pump 1)] [1] tWorks)
     w.budget.queue.head? = some 1 ∧ (tGrant (.pump 0)).cls ≤ 2 ∧
       w.budget.supply.capacity < grantedSum w.budget + (tGrant (.pump 0)).need) ∧
    (let w := withCapacity 179 .normal (withGrants [tLamp, tGrant (.pump 0)] [] tWorks)
     w.budget.queue.head? = none ∧ w.budget.supply.capacity < grantedSum w.budget + (tGrant (.pump 0)).need) ∧
    (let w := withCapacity 39 .normal (withGrants [tLamp] [] tWorks)
     w.budget.supply.capacity < grantedSum w.budget + { tLamp with requested := 40 }.need) := by decide

/-- LAMP requests at the edge of an increase, of an entry that waits and of one that does not. -/
theorem test_hyp_LampRequests :
    (tLamp.load.isLamp = true ∧ tLamp.granted < 31 ∧ 30 ≤ tLamp.granted ∧ tLamp.state ≠ .queued) ∧
    (let g := { tLamp with state := .queued, requested := 60 }
     (withGrants [g] [0] tWorks).budget.grants[0]? = some g ∧ g.state = .queued ∧ 30 ≤ g.granted) := by decide

/-- A head that may be granted, and one that waits. -/
theorem test_hyp_headExamined :
    (withGrants [{ tGrant (.pump 0) with state := .queued }] [0] tWorks).budget.mayGrant
      { tGrant (.pump 0) with state := .queued } ∧
    (withGrants [] [] tWorks).budget.headWaits ∧
    (withCapacity 149 .normal (withGrants [{ tGrant (.pump 0) with state := .queued }] [0] tWorks)).budget.headWaits := by
  refine ⟨⟨rfl, by decide, by decide⟩, ?_, ?_⟩
  · intro i g h
    cases h
  intro i g h hg hm
  cases h
  cases hg
  exact absurd hm.2.2 (by decide)

/-- Shrinks of a HELD and of a QUEUED lamp, ASKED above its floor and at it; a state that stays SHEDDING and one that turns
NORMAL. -/
theorem test_hyp_LoadShrink :
    (tLamp.load.isLamp = true ∧ 29 < tLamp.granted ∧ tLamp.state = .held) ∧
    ({ tLamp with state := .queued, mark := .asked } : Grant).mark = .asked ∧ 10 ≤ tLamp.floor ∧
    (let w := withCapacity 20 .shedding (withGrants [{ tLamp with granted := 25, mark := .asked }] [] tWorks)
     w.budgetStateDue ≠ .normal ∧ w.budget.supply.state ≠ .normal) ∧
    (let w := withCapacity 20 .shedding (withGrants [{ tLamp with granted := 20, mark := .asked }] [] tWorks)
     w.budgetStateDue = .normal ∧ w.budget.supply.state ≠ .normal) := by decide +kernel

/-- A QUEUED lamp that has power and one that has none, at the head and behind another; a release in NORMAL, and in SHEDDING. -/
theorem test_hyp_WithdrawLamp :
    (let g : Grant := { tLamp with state := .queued, requested := 60 }
     (withGrants [g, { tGrant (.pump 0) with state := .queued }] [0, 1] tWorks).budget.grants[0]? = some g ∧
       g.granted ≠ 0 ∧ g.load.isLamp = true ∧ [0, 1].filter (fun j => !(j == 0)) = [1]) ∧
    { tLamp with state := .queued, granted := 0 }.granted = 0 ∧
    (withGrants [tLamp] [] tWorks).budget.supply.state = .normal ∧ 0 ∉ (withGrants [tLamp] [] tWorks).budget.queue ∧
    (withCapacity 20 .shedding (withGrants [tLamp] [] tWorks)).budget.supply.state ≠ .normal := by decide

/-- What a withdrawal leaves of a QUEUED lamp: HELD at the power it has, IDLE where it has none. -/
theorem test_withdrawLamp :
    (((withGrants [{ tLamp with state := .queued, requested := 60 }] [0] tWorks).loadWithdrawal 0).budget.grants.map
      (fun g => (g.state, g.granted)) = [(.held, 30)]) ∧
    (((withGrants [{ tLamp with state := .queued, granted := 0 }] [0] tWorks).loadRelease 0).budget.grants.map
      (fun g => (g.state, g.granted)) = [(.idle, 0)]) := by decide +kernel

/-- Shed failures of an entry within the capacity, and of one not ASKED; the details of a BUDGET record of each kind. -/
theorem test_hyp_ShedFailure :
    (let w := withCapacity 30 .shedding (withGrants [{ tLamp with mark := .asked }] [] tWorks)
     grantedSum w.budget ≤ w.budget.supply.capacity ∧ w.budgetStateDue = .normal ∧ w.budgetDetails = [0, 0]) ∧
    (let w := withCapacity 29 .normal (withGrants [{ tLamp with mark := .asked }, { tLamp with mark := .failed }] [] tWorks)
     w.budgetStateDue = .shedding ∧ w.budgetDetails = [20, 1]) ∧ tLamp.mark ≠ .asked := by decide +kernel

/-- A class notice to a pump that waits behind another, which its new class puts ahead. -/
theorem test_hyp_ClassQueued :
    (let g : Grant := { tGrant (.pump 1) with state := .queued }
     let w := withGrants [{ tGrant (.pump 0) with state := .queued }, g] [0, 1] tWorks
     w.budget.grants[1]? = some g ∧ g.load = .pump 1 ∧ g.state = .queued ∧ g.cls ≠ 1 ∧
       (((w.leaveQueue 1).classInPlace 1 1).joinQueue 1 1).budget.queue = [1, 0] ∧ w.budget.queue.head? = some 0) := by
  decide +kernel

/-- An inrush window that ends in SHEDDING, the entry not in the queue. -/
theorem test_hyp_InrushTight :
    (let g : Grant := { tGrant (.pump 0) with state := .inrush, granted := 150, energised := some 197000 }
     let w := withCapacity 40 .shedding (withGrants [g] [] tWorks)
     w.budget.supply.state ≠ .normal ∧ 0 ∉ w.budget.queue ∧ 197000 + g.window ≤ w.now) := by decide

/-- Adoptions of a HELD entry, a QUEUED lamp, an entry that waits with no other, and a GATE. -/
theorem test_hyp_AdoptionStates :
    (tLamp.state = .held ∧ tLamp.granted < 31 ∧ 30 ≤ tLamp.granted) ∧
    (∀ j ∈ (withGrants [{ tGrant (.pump 0) with state := .queued }] [0] tWorks).budget.queue, j = 0) ∧
    (let g : Grant := { tGrant (.pump 0) with state := .inrush, granted := 150 }
     g.state ≠ .held ∧ ¬ (g.state = .queued ∧ g.load.isLamp = true) ∧ 50 ≤ g.granted) ∧
    (tGrant (.gate 0)).load = .gate 0 := by decide

theorem test_hyp_ReleaseAndShrink :
    ({ tGrant (.pump 0) with state := .inrush } : Grant).state = .inrush ∧ 0 ∉ tWorks.budget.queue ∧
    (({ tGrant (.pump 0) with state := .queued } : Grant).state = .queued ∧ (tGrant (.pump 0)).granted = 0) ∧
    (tWorks.budget.grants[3]? =
      some { tGrant (.lamp 0) with cls := 3, state := .held, granted := 30, requested := 30, floor := 10 }) := by decide

theorem test_hyp_ClassAndShed :
    (tWorks.budget.grants[0]?.map Grant.load = some (.pump 0) ∧ (tGrant (.pump 0)).state ≠ .queued) ∧
    (let g : Grant := { tGrant (.pump 0) with state := .held, granted := 960, mark := .asked }
     (withGrants [g] [] tWorks).budget.grants[0]? = some g ∧
        (withGrants [g] [] tWorks).budget.supply.capacity < grantedSum (withGrants [g] [] tWorks).budget) := by decide

/-- Two class 2 pumps, the second started later, and a lamp of a threshold zone, above the capacity. -/
def tShedding (n : Nat) : Works :=
  let g := fun (p num : Nat) => ({ tGrant (.pump p) with state := .held, granted := 50, number := some (BitVec.ofNat 32 num) } : Grant)
  let w := withCapacity n .shedding (withPumpClaims [.auto, .auto] (withGrants [g 0 7, g 1 8, tLamp] [] tWorks))
  { w with claims := w.claims ++ [tClaim (.zone 0) 4] }

/-- The lamp is asked first, then the newer pump, each until the relief is enough (R40). -/
theorem test_hyp_Shedding :
    (tShedding 100).budgetStateDue = .shedding ∧ (tShedding 100).nextShed = some 2 ∧
    (let w := withCapacity 100 .normal (tShedding 100)
     w.budget.supply.state ≠ .shedding ∧ w.budgetStateDue = .shedding) ∧
    (tShedding 110).judgeBudget.budget.grants.map Grant.mark = [.none, .none, .asked] ∧
    (tShedding 100).judgeBudget.budget.grants.map Grant.mark = [.none, .asked, .asked] ∧
    (tShedding 10).judgeBudget.budget.grants.map Grant.mark = [.asked, .asked, .asked] ∧
    (tShedding 10).judgeBudget.nextShed = none ∧ (tShedding 10).lights.circuits[0]? = some tCircuit := by decide +kernel

/-- Judgements that change the budget state: to SHEDDING, and to NORMAL. -/
theorem test_hyp_budgetJudged :
    (let g : Grant := { tGrant (.pump 0) with state := .held, granted := 960, cls := 1 }
     let u := ((inWorks (withGrants [g] [] tWorks)).withGrant 0 { g with cls := 2 }).works
     u.budgetStateDue = .shedding ∧ u.budget.supply.state = .normal) ∧ tWorks.budgetStateDue = .normal := by
  decide +kernel

theorem test_hyp_Inrush :
    (let g : Grant := { tGrant (.pump 0) with state := .inrush, granted := 150, energised := none }
     g.state = .inrush ∧ g.energised = none) ∧
    (let g : Grant := { tGrant (.pump 0) with state := .inrush, granted := 150, energised := some 197000 }
     g.energised.isSome = true ∧ 197000 + g.window ≤ tWorks.now ∧ tWorks.now < 197001 + g.window) := by decide

theorem test_hyp_Adoption :
    (∀ n, (tGrant (.pump 0)).load ≠ .gate n) ∧ (tGrant (.pump 0)).state = .idle ∧ (tGrant (.pump 0)).granted = 0 ∧
    0 < 50 ∧ tWorks.budget.queue = [] ∧ grantedSum tWorks.budget + 50 ≤ tWorks.budget.supply.capacity := by
  refine ⟨fun n => by simp [tGrant], ?_⟩
  decide

theorem test_hyp_Capacity :
    tWorks.budget.supply.source = .mains ∧ ({ Supply.reset with source := .generator } : Supply).overload = false ∧
    ({ Supply.reset with source := .generator, overload := true } : Supply).overload = true ∧
    ({ Supply.reset with source := .none } : Supply).source = .none ∧ Supply.reset.source = .unknown := by decide

/-- The input image of a switchboard. -/
def tBoard (mains generator overload : Bool) : List Byte :=
  [BitVec.ofNat 8 (flag mains + 2 * flag generator + 4 * flag overload)]

/-- A response that changes MAINS to GENERATOR, an outage that a held lamp waits through, and a head that has waited. -/
theorem test_hyp_SourceAndOutage :
    (tWorks.station.site = some tSite ∧
      UnitType.switchboard.digital (tBoard false true false) tSite.supply.generatorInput = true ∧
      UnitType.switchboard.digital (tBoard false true false) tSite.supply.mainsInput = false) ∧
    tWorks.budget.supply.source ≠ .unknown ∧
    (tWorks.budget.grants[3]?.map Grant.served = some true ∧ (tGrant (.pump 0)).served = false) ∧
    (let g : Grant := { tGrant (.pump 0) with state := .queued, outage := some 190000 }
     (withGrants [g] [0] tWorks).budget.queue = [0] ∧ grantable (withGrants [g] [0] tWorks).budget g = true) := by
  decide +kernel

/-! ### Dewatering -/

theorem test_hyp_PumpGrantNotice :
    (let p : Pump := { tPump with state := .waiting, cause := some .grant, grant := .requested }
     (withPump p tWorks).dewater.pumps[0]? = some p ∧ p.restAllows tWorks.now = true ∧ tWorks.lineRoom) ∧
    ({ tPump with state := .waiting, grant := .requested, lastStop := some 197001 } : Pump).restAllows tWorks.now
      = false ∧
    tPump.state ≠ .waiting := by decide +kernel

/-- A grant whose rest does not allow a start: the pump stays and waits with cause REST, or as a surplus is RESTING. -/
theorem test_hyp_GrantAtRest :
    let p : Pump := { tPump with state := .waiting, cause := some .grant, grant := .requested, lastStop := some 197001 }
    let w := withPump p tWorks
    (p.restAllows w.now = false ∧ p.pair ≠ .inFlight ∧ p.cause ≠ some .rest ∧ w.noneOrdered 0 ∧
      tSump.list.length ≤ min tSump.demand (w.ableOf 0) ∧ (withClaim .ordered w).claimOf (.pump 0) ≠ .auto) ∧
    (w.pumpGranted 0).dewater.pumps.map (fun p => (p.state, p.cause, p.grant)) = [(.waiting, some .rest, .none)] ∧
    (let v : Works := { w with dewater := { w.dewater with sumps := [{ tSump with list := [0] }] } }
     (v.pumpGranted 0).dewater.pumps.map (fun p => (p.state, p.mark, p.grant)) = [(.resting, .demand, .none)]) := by
  simp only [Works.noneOrdered]
  decide +kernel

/-- The works with another sump and the pumps of it. -/
def withPumps (x : Sump) (ps : List Pump) (w : Works) : Works := { w with dewater := { sumps := [x], pumps := ps } }

/-- A level channel with a STOP and a START_1 in given states. -/
def tLevelAt (stop start : ThState) (v : Validity) : Channel :=
  { tLevel with validity := v, thresholds :=
      [{ role := .stop, level := 200, direction := .up, qualify := 1, hysteresis := 0, state := stop },
       { role := .start1, level := 800, direction := .up, qualify := 1, hysteresis := 100, state := start }] }

/-- Each row of the demand table. -/
theorem test_hyp_Demand :
    ({ tSump with cutout := { tSump.cutout with state := .active } } : Sump).cutout.state = .active ∧
    ((tLevelAt .above .below .stale).validity ≠ .valid ∧ tSump.cutout.state ≠ .active ∧
      ({ tSump with high := { tSump.high with state := .active } } : Sump).high.state = .active ∧
      tSump.high.state ≠ .active) ∧
    (tLevelAt .below .below .valid).isBelow .stop = true ∧
    ((tLevelAt .above .above .valid).isBelow .stop = false ∧ (tLevelAt .above .above .valid).isAbove .start1 = true) ∧
    (tLevelAt .above .below .valid).isAbove .start1 = false ∧
    (tWorks.water.channels[tSump.level]? = some tLevel ∧ tSump.demand ≠ 1 ∧ min 1 0 ≠ min 1 (tWorks.ableOf 0)) := by
  decide +kernel

/-- A call for demand that passes over a pump in other hands, the lead at the last position; and an ordered one. -/
theorem test_hyp_Calls :
    (let x : Sump := { tSump with rotation := [1, 0], lead := 1, duty := 2, demand := 1, able := 2 }
     let w := withPumpClaims [.panel, .auto] (withPumps x [tPump, tPump] tWorks)
     (x.list = [] ∧ 0 < x.target ∧ x.lead < x.rotation.length ∧ x.cutout.state ≠ .active ∧ tPump.intent = none) ∧
       (x.rotation.drop x.lead ++ x.rotation.take x.lead)[1]? = some 1 ∧ w.claimOf (.pump 0) ≠ .auto ∧
       w.claimOf (.pump 1) = .auto ∧ w.station.state = .running ∧
       (∀ p ∈ w.dewater.pumps, p.sump = 0 → p.intent ≠ some .run)) ∧
    (let q : Pump := { tPump with intent := some .run }
     let x : Sump := { tSump with duty := 2, list := [0], demand := 2, able := 2 }
     let w := withPumpClaims [.auto, .ordered] (withPumps x [{ tPump with state := .running }, q] tWorks)
     w.takesOrders ∧ x.list.length ≤ x.target ∧ x.list.length < x.duty ∧ q.state = .idle ∧
       w.claimOf (.pump 1) = .ordered ∧ 1 ∉ x.list ∧ q.intent = some .run ∧ tPump.intent ≠ some .run) := by decide +kernel

/-- A surplus whose newest AUTO member stands ahead of an ordered one; a sump in HELD with nothing to change. -/
theorem test_hyp_Dismissal :
    (let p : Pump := { tPump with state := .running, grant := .granted }
     let x : Sump := { tSump with duty := 2, list := [0, 1], demand := 1, able := 2 }
     let w := withPumpClaims [.auto, .ordered] (withPumps x [p, { p with intent := some .run }] tWorks)
     x.list = [] ++ 0 :: [1] ∧ x.target < x.list.length ∧ w.claimOf (.pump 0) = .auto ∧
       (∀ j ∈ [1], w.claimOf (.pump j) ≠ .auto) ∧ p.state = .running ∧ w.lineRoom) ∧
    ((inStation .held tWorks).station.state = .held ∧ tSump.list.length ≤ tSump.target) := by decide +kernel

/-- A cutout that turns ACTIVE with a pump in the list; a lead that passes over a pump out of service. -/
theorem test_hyp_CutoutAndLead :
    (let x : Sump := { tSump with list := [0] }
     x.cutout.state ≠ .active ∧ (withPumps x [tPump] tWorks).dewater.pumps[0]? = some tPump ∧ tPump.sump = 0) ∧
    (let x : Sump := { tSump with rotation := [0, 1, 2], lead := 2 }
     let ps := [{ tPump with state := .outOfService }, tPump, tPump]
     x.demand = 0 ∧ x.list = [] ∧ (∀ p ∈ ps, p.sump = 0 → p.state ≠ .stopping) ∧ 1 + 1 < x.rotation.length ∧
       x.rotation.getD ((x.lead + 1 + 1) % x.rotation.length) 0 = 1 ∧ ps[1]? = some tPump ∧
       x.rotation.getD ((x.lead + 1 + 0) % x.rotation.length) 0 = 0 ∧
       ps[0]?.map Pump.state = some .outOfService) := by decide +kernel

theorem test_hyp_ConfirmExpiries :
    (let p : Pump := { tPump with state := .starting, grant := .granted, confirmStart := some 198000 }
     p.state = .starting ∧ p.confirmOver tWorks.now = true) ∧
    (let p : Pump := { tPump with state := .stopping, running := .running, confirmStart := some 198000 }
     p.confirmOver tWorks.now = true ∧ p.running ≠ .stopped) ∧
    ({ tPump with state := .starting, confirmStart := some 198001 } : Pump).confirmOver tWorks.now = false ∧
    ({ tGrant (.pump 0) with mark := .asked } : Grant).mark = .asked := by decide

/-- The members of a sump's list whose first trips: it leaves, and the second is the first. -/
theorem test_hyp_TripLeaves :
    let p : Pump := { tPump with state := .starting, grant := .granted, confirmStart := some 198000 }
    let w := withPumps { tSump with list := [0, 1], duty := 2, demand := 2, able := 2 } [p, { p with state := .running }] tWorks
    w.lineRoom ∧ (w.startConfirmExpiry 0).dewater.sumps.map Sump.list = [[1]] ∧
      .classNotice 1 1 ∈ (w.startConfirmExpiry 0).notices ∧
      (w.startConfirmExpiry 0).line.queue.map QEntry.req = [.halt] := by decide +kernel

theorem test_hyp_RestAndShed :
    (let p : Pump := { tPump with state := .resting, lastStop := some 197000 }
     p.restAllows tWorks.now = true ∧ p.state = .resting) ∧
    (let p : Pump := { tPump with state := .waiting, cause := some .rest, lastStop := some 197000 }
     p.restAllows tWorks.now = true ∧ p.cause = some .rest) ∧
    ({ tPump with lastStop := some 197001 } : Pump).restAllows tWorks.now = false ∧
    ({ tPump with state := .waiting, pair := .abandoned } : Pump).pair ≠ .inFlight := by decide +kernel

/-- A shed request that meets a pair in flight; the end of a HALT with and without an abandoned pair; a stop that has its
confirm time, of mark DEMAND and of mark SERVICE. -/
theorem test_hyp_StopEnds :
    (let p : Pump := { tPump with state := .waiting, grant := .granted, pair := .inFlight }
     p.state = .waiting ∧ p.pair = .inFlight ∧ p.pairRefused = false ∧
       (withClaim .ordered tWorks).claimOf (.pump 0) ≠ .auto) ∧
    (tWorks.line.abandonedRuns (.pumpStart 0) = false ∧
      ({ tWorks.line with queue := [QEntry.give (.pumpStart 0) .abandoned
          (tWorks.asking (.pair .start) 1 0 (.pumpStart 0))] } : Line).abandonedRuns (.pumpStart 0) = true) ∧
    (let p : Pump := { tPump with state := .stopping, mark := .demand, grant := .granted, confirmStart := some 199000 }
     p.confirmStart.isSome = true ∧ p.mark ≠ .shed ∧ p.mark ≠ .service ∧ p.grant = .granted ∧ p.pair ≠ .inFlight) ∧
    (({ tPump with state := .stopping, mark := .service } : Pump).mark = .service ∧ tPump.confirmStart = none) := by
  decide +kernel

theorem test_hyp_PumpRunAndStop :
    (waits .pumpRun 0 0 tWorks).orderWaits 31 (tOrder .pumpRun 0 0) ∧
    (waits .pumpStop 0 0 tWorks).orderWaits 31 (tOrder .pumpStop 0 0) ∧ tWorks.takesOrders ∧
    tWorks.dewater.pumps[0]? = some tPump ∧ (tWorks.claimOf (.pump 0)).commands = true ∧
    ((withClaim .panel tWorks).claimOf (.pump 0)).commands = false ∧
    (tPump.state ≠ .tripped ∧ tPump.state ≠ .outOfService ∧ tPump.state = .idle) := by decide +kernel

theorem test_hyp_PumpAutoAndClear :
    (waits .pumpAuto 0 0 tWorks).orderWaits 31 (tOrder .pumpAuto 0 0) ∧
    (waits .pumpClear 0 0 (withPump { tPump with state := .tripped, trip := some .stopFail, running := .running } tWorks)
      ).orderWaits 31 (tOrder .pumpClear 0 0) ∧
    (some TripReason.startFail ≠ some .stopFail) := by decide +kernel

/-- What a claim takes from a pump: running under PANEL it is adopted, stopped it gives its grant back, under LOCAL a request is
withdrawn and a grant kept. -/
theorem test_hyp_UncommandPump :
    let after := fun (p : Pump) (v : ClaimValue) => ((withPump p tWorks).uncommandPump 0 v).dewater.pumps.map
      (fun p => (p.state, p.grant, p.pair))
    [after { tPump with running := .running } .panel, after { tPump with grant := .granted } .panel,
      after { tPump with grant := .requested, state := .waiting } .away,
      after { tPump with grant := .granted, state := .waiting, pair := .inFlight } .away] =
    [[(.uncommanded, .granted, .none)], [(.uncommanded, .none, .none)], [(.uncommanded, .none, .none)],
      [(.uncommanded, .granted, .abandoned)]] := by decide +kernel

/-- The rows of the settlement table, for a pump found running and for one found stopped (R65). -/
theorem test_hyp_SettlePump :
    let settled := fun (p : Pump) (s : Sump) => ((withPumps s [{ p with state := .uncommanded }] tWorks).settlePump 0).dewater.pumps.map
      (fun p => (p.state, p.mark))
    let full : Sump := { tSump with list := [3] }
    let cut : Sump := { tSump with cutout := { tSump.cutout with state := .active } }
    let running : Pump := { tPump with running := .running }
    [settled { running with trip := some .overload } tSump, settled { running with out := true } tSump, settled running cut,
      settled running tSump, settled running full] =
      [[(.tripped, .none)], [(.stopping, .service)], [(.stopping, .demand)], [(.running, .none)], [(.stopping, .demand)]] ∧
    [settled { tPump with trip := some .overload } tSump, settled { tPump with out := true } tSump, settled tPump cut,
      settled { tPump with lastStop := some 100000 } tSump] =
      [[(.tripped, .none)], [(.outOfService, .none)], [(.resting, .none)], [(.idle, .none)]] := by decide +kernel

theorem test_hyp_PumpServiceAndLeadSet :
    (waits .pumpService 0 1 tWorks).orderWaits 31 (tOrder .pumpService 0 1) ∧
    (waits .pumpService 0 0 tWorks).orderWaits 31 (tOrder .pumpService 0 0) ∧
    (waits .pumpService 0 2 tWorks).orderWaits 31 (tOrder .pumpService 0 2) ∧
    (waits .leadSet 0 0 tWorks).orderWaits 31 (tOrder .leadSet 0 0) ∧
    tWorks.dewater.sumps[0]? = some tSump ∧ posOf (fun i => i == 0) tSump.rotation = some 0 := by decide +kernel

/-- The states in which PUMP SERVICE 1 finds its pump. -/
theorem test_hyp_ServiceStates :
    ((tWorks.claimOf (.pump 0)).commands = true ∧ (tOrder .pumpService 0 1).param = 1 ∧
      (tOrder .pumpService 0 0).param = 0 ∧ tWorks.active = []) ∧
    (let p : Pump := { tPump with state := .tripped, trip := some .stopFail }
     p.state = .tripped ∧ p.trip = some .stopFail ∧ { p with trip := some .overload }.trip ≠ some .stopFail) ∧
    (let p : Pump := { tPump with state := .waiting, grant := .requested }
     p.pair ≠ .inFlight ∧ { p with pair := .inFlight }.pair = .inFlight ∧ p.pairRefused = false) ∧
    (tPump.state ≠ .outOfService ∧ tWorks.lineRoom) := by decide +kernel

/-! ### Portals -/

/-- The north portal in a closing state, its grant asked for. -/
def tClosing (c : Closure) : Portal :=
  let p := tPortal 2
  { p with closure := c, timer := some 100000, signals := { p.signals with wanted := .red, shown := .amber },
           barrier := { p.barrier with state := .down },
           gate := { p.gate with state := .halted, grant := .requested, travel := some 140000 } }

theorem test_hyp_WarnAndBarrierTravel :
    (((withNorth (tClosing .warning) tWorks).portal 0).closure = .warning ∧ tWorks.station.state = .running ∧
      ranOut (tClosing .warning).timer (tClosing .warning).warn tWorks.now = true ∧
      (tClosing .warning).signals.shown ≠ .red ∧ (withNorth (tClosing .warning) tWorks).portalAuto 0 = true) ∧
    ranOut (some 190000) (tClosing .barring).barrier.limit tWorks.now = true ∧
    ranOut (some 190001) (tClosing .barring).barrier.limit tWorks.now = false := by decide +kernel

/-- A barrier travel that is over in CLEARING and one in OPEN (log 29), and what its end leaves. -/
theorem test_hyp_TravelElsewhere :
    ∀ c ∈ [Closure.clearing, .opened],
      let p : Portal := { tClosing c with barrier := { (tClosing c).barrier with travel := some 190000 } }
      let w := withNorth p tWorks
      ranOut (w.portal 0).barrier.travel (w.portal 0).barrier.limit w.now = true ∧
        (w.portal 0).closure ≠ .barring ∧ (w.portal 0).closure ≠ .unbarring ∧
        ((w.barrierTravelExpiry 0).portal 0).closure = c ∧ ((w.barrierTravelExpiry 0).portal 0).stall = none := by
  decide +kernel

/-- Bytes of a POLL response of a portal unit. -/
def tPortalImage (barrier gate position : Nat) : List Byte := [barrier, gate, position].map (BitVec.ofNat 8)

/-- The end switches of Table 4-2: conflict, each end, both motions, no motion; a conflict is reported once. -/
theorem test_endSwitches :
    ([3, 2, 1, 4, 8, 0, 12].map (fun b => ((tWorks.takeBarrier 0 (tPortalImage b 0 0)).portal 0).barrier.state) =
      [.unknown, .down, .up, .lowering, .raising, .unknown, .unknown]) ∧
    ([3, 2, 1, 4, 8, 0, 12].map (fun b => ((tWorks.takeGate 0 (tPortalImage 0 b 101)).portal 0).gate.state) =
      [.unknown, .deployed, .stowed, .deploying, .stowing, .halted, .halted]) ∧
    (let w := tWorks.takeBarrier 0 (tPortalImage 3 0 0)
     (w.portal 0).barrier.conflict = true ∧ (w.takeBarrier 0 (tPortalImage 3 0 0)).notices = w.notices) ∧
    ((tWorks.takeGate 0 (tPortalImage 0 16 101)).portal 0).gate.position = 100 := by decide +kernel

/-- An open episode with the north portal in GATING, and with the interior clear before the vehicle. -/
theorem test_hyp_Vehicle :
    let i : Interior := { Interior.reset with opened := true, clear := true, episode := 1 }
    let w := withNorth (tClosing .gating) tWorks
    let w : Works := { w with portals := { w.portals with interior := i } }
    w.portals.interior.opened = true ∧ w.portals.interior.clear = true ∧ (w.portal 0).closure = .gating ∧
      (w.portal 1).closure ≠ .gating ∧ ((w.vehiclesChanged true).portal 0).closure = .clearing := by decide +kernel

/-- Drifts: a barrier that has left DOWN in CLEARING, GATING and SHUT; a gate that has left STOWED in UNBARRING with the barrier
RAISING, and in OPEN. -/
theorem test_hyp_Drift :
    (∀ c ∈ [Closure.clearing, .gating, .shut],
      let p : Portal := { tClosing c with barrier := { (tClosing c).barrier with state := .unknown } }
      let w := withNorth p tWorks
      w.portalAuto 0 = true ∧ (w.portal 0).barrier.state ≠ .down ∧ (w.portal 0).closure = c ∧
        (w.portal 0).gate.grant = .requested ∧ (w.portal 0).gate.pair = .none ∧ (w.portal 0).gate.stopping = false) ∧
    (∀ c ∈ [Closure.unbarring, .opened],
      let p : Portal := { tClosing c with barrier := { (tClosing c).barrier with
        state := if c = .opened then .up else .raising, pair := .inFlight, action := some .raise } }
      let w := withNorth p tWorks
      w.portalAuto 0 = true ∧ (w.portal 0).gate.state ≠ .stowed ∧ (w.portal 0).closure = c ∧ w.lineRoom ∧
        (w.portal 0).barrier.pairRefused = false) := by decide +kernel

/-- An obstruction below the attempt limit and at it, in GATING and in UNGATING with the barrier not DOWN. -/
theorem test_hyp_Obstruction :
    (∀ c ∈ [Closure.gating, .ungating], ∀ a ∈ [2, 3],
      let p := tClosing c
      let g : Gate := { p.gate with grant := .granted, obstruction := true, attempts := a }
      let w := withNorth { p with gate := g } tWorks
      (w.portal 0).gate.obstruction = true ∧ (w.portal 0).gate.travel.isSome = true ∧
        ((w.judgeObstruction 0).portal 0).closure = (if a = 3 then .stalled else c)) ∧
    (let p := tClosing .ungating
     let q : Portal := { p with
       barrier := { p.barrier with state := .lowering }
       gate := { p.gate with grant := .none, travel := none, dwellStart := some 190000 } }
     let w := withNorth q tWorks
     w.mayCommand 0 = true ∧ (w.portal 0).barrier.state ≠ .down ∧
       ((w.obstructionDwellExpiry 0).portal 0).gate.grant = .requested) := by decide +kernel

/-- A portal under PANEL whose gate becomes DEPLOYED in GATING, and one whose gate leaves DEPLOYED in SHUT. -/
theorem test_hyp_PanelObserved :
    (withClaim .panel tWorks).claimOf (.portal 0) = .panel ∧
    (∀ x ∈ [(Closure.gating, GateState.deployed, Closure.shut), (.shut, .halted, .gating)],
      let p : Portal := { tClosing x.1 with gate := { (tClosing x.1).gate with state := x.2.1 } }
      let w := withClaim .panel (withNorth p tWorks)
      ((w.judgeGate 0 .deploying false).portal 0).closure = x.2.2) := by decide +kernel

/-- Settlements: UNKNOWN with the gate moving, SHUT with the gate away, GATING with the gate STOWED, OPEN with the gate out. -/
theorem test_hyp_SettlePortal :
    (let p : Portal := { tClosing .unknown with gate := { (tClosing .unknown).gate with state := .deploying, grant := .none } }
     let w := withNorth p tWorks
     w.portalAuto 0 = true ∧ w.lineRoom ∧ ((w.settlePortal 0 none).portal 0).closure = .gating) ∧
    ((withNorth (tClosing .shut) tWorks).portal 0).gate.state ≠ .deployed ∧
    (let p : Portal := { tClosing .gating with gate := { (tClosing .gating).gate with state := .stowed, grant := .none, travel := none } }
     let w := withNorth p tWorks
     w.mayCommand 0 = true ∧ (w.portal 0).barrier.state = .down ∧ (w.portal 0).gate.stopping = false ∧
       (w.portal 0).gate.dwellStart = none ∧ (w.portal 0).gate.pair ≠ .inFlight ∧
       w.budget.grants[w.gateEntry 0]? = some (tGrant (.gate 0))) ∧
    (tClosing .opened).gate.state ≠ .stowed := by decide +kernel

/-- What a claim takes from a portal: a pair in flight, a grant, a PORTAL REOPEN. -/
theorem test_uncommandPortal :
    let p : Portal := { tClosing .ungating with
      gate := { (tClosing .ungating).gate with grant := .granted, pair := .inFlight, stopping := true } }
    let w : Works := { withNorth p tWorks with active := [(tOrder .portalReopen 0 0).active 0] }
    let v := w.uncommandPortal 0 .away
    (v.portal 0).gate.pair = .abandoned ∧ (v.portal 0).gate.stopping = false ∧ (v.portal 0).closure = .ungating ∧
      v.active = [] ∧ .loadRelease (w.gateEntry 0) ∈ v.notices := by decide +kernel

theorem test_hyp_ClearDwellAndLimit :
    (tWorks.station.site = some tSite ∧ tWorks.portals.interior.clear = false ∧
      ranOut (some 195000) tSite.clearDwell tWorks.now = true) ∧
    ((withNorth (tClosing .clearing) tWorks).mayCommand 0 = true ∧
      ranOut (tClosing .clearing).timer (tClosing .clearing).clearLimit tWorks.now = true ∧
      tWorks.vehicles = some tVehicles ∧ tVehicles.roleState .occupied = some .above) := by decide +kernel

theorem test_hyp_GateGrantAndTravel :
    (gateAction (tClosing .gating).closure = some .deploy ∧ (tClosing .gating).gate.grant = .requested ∧
      (tClosing .gating).gate.stopping = false ∧ (tClosing .gating).gate.pair ≠ .abandoned ∧
      (withNorth (tClosing .gating) tWorks).mayCommand 0 = true ∧ tWorks.lineRoom) ∧
    (withNorth (tClosing .gating) (inStation .held tWorks)).mayCommand 0 = false ∧
    ranOut (tClosing .gating).gate.travel (tClosing .gating).gate.limit tWorks.now = true := by decide +kernel

/-- A gate found DEPLOYED in GATING, a work that waits for a stop, and an OPEN portal with the stage ALERT in RUNNING. -/
theorem test_hyp_GateArrivals :
    (let p := tClosing .gating
     let q : Portal := { p with gate := { p.gate with state := .deployed, grant := .granted, attempts := 2 } }
     let w := withNorth q tWorks
     (w.portal 0).closure = .gating ∧ (w.portal 0).gate.state = .deployed ∧ (w.portal 0).gate.pair ≠ .inFlight ∧
       (w.portal 0).gate.grant = .granted ∧
       ((withNorth { q with gate := { q.gate with stopping := true } } w).portal 0).gate.stopping = true) ∧
    (let w := withStage (tStage .alert none) tWorks
     (w.portal 0).closure = .opened ∧ (w.portal 1).closure = .opened ∧ w.water.stage.stage = .alert ∧
       w.station.state = .running) := by decide +kernel

theorem test_hyp_ObstructionDwell :
    (let p := tClosing .gating
     let q : Portal := { p with gate := { p.gate with grant := .none, travel := none, dwellStart := some 190000 } }
     ranOut q.gate.dwellStart q.gate.dwell tWorks.now = true ∧ (withNorth q tWorks).mayCommand 0 = true ∧
        q.closure = .gating ∧ q.gate.state = .halted ∧ q.barrier.state = .down ∧ q.gate.grant = .none ∧
        q.gate.stopping = false ∧ q.gate.pair ≠ .inFlight ∧
        (withNorth q tWorks).budget.grants[(withNorth q tWorks).gateEntry 0]? = some (tGrant (.gate 0))) ∧
    ranOut (some 190001) 10 tWorks.now = false := by decide +kernel

/-- DRAINING with the north portal SHUT, the episode open. -/
def tDraining : Works :=
  let w := withNorth (tClosing .shut) (withStage (tStage .draining none) tWorks)
  { w with portals := { w.portals with interior := { Interior.reset with opened := true, episode := 1 } } }

theorem test_hyp_ReopenAndConfirm :
    ((waits .portalReopen 0 0 tDraining).orderWaits 31 (tOrder .portalReopen 0 0) ∧ tDraining.takesOrders ∧
      tDraining.water.stage.stage = .draining ∧ (tDraining.claimOf (.portal 0)).commands = true ∧
      (tDraining.portal 0).closure = .shut ∧ (tDraining.portal 0).gate.state ≠ .stowed ∧ tDraining.active = []) ∧
    (tWorks.water.stage.stage ≠ .draining ∧ ((withClaim .panel tDraining).claimOf (.portal 0)).commands = false ∧
      (tDraining.portal 1).closure ≠ .shut) ∧
    ((waits .confirmClear 0 0 tDraining).orderWaits 31 (tOrder .confirmClear 0 0) ∧
      tDraining.portals.interior.opened = true ∧ tDraining.portals.interior.clear = false ∧
      tWorks.portals.interior.opened = false) := by decide +kernel

theorem test_hyp_PortalResetOrder :
    ((waits .portalReset 0 0 tDraining).orderWaits 31 (tOrder .portalReset 0 0) ∧
      (tDraining.portal 0).closure ≠ .stalled ∧ tWorks.water.stage.stage ≠ .alert) ∧
    (let p : Portal := { tClosing .stalled with interrupted := some .ungating, stall := some .gateTravel }
     p.closure = .stalled ∧ p.interrupted = some .ungating ∧ Closure.ungating ≠ .stalled ∧
        p.stall = some .gateTravel) := by decide +kernel

/-! ### Lighting -/

theorem test_hyp_Lamps :
    (tWorks.lights.circuits[0]? = some tCircuit ∧ tCircuit.grant = some 3 ∧ tWorks.zoneOf tCircuit = some tZone ∧
      tCircuit.healthy = true ∧ tWorks.commandsCircuit tCircuit = true ∧ tWorks.noSetWaits 4 0 ∧ tWorks.lineRoom) ∧
    (let y : Circuit := { tCircuit with wanted := 5, granted := 50, request := none }
     50 ≤ y.powerAt y.covered ∧ (y.setList.getLast?.orElse (fun _ => y.reported)) ≠ some y.drive) ∧
    (withClaim .panel tWorks).commandsCircuit tCircuit = false ∧
    (tZone.minSafe = some 1 ∧ tCircuit.reported = some 3 ∧ tCircuit.setList = [] ∧ tCircuit.request = none ∧ 1 < 3 ∧
      1 ≤ tZone.target ∧ tCircuit.granted = tCircuit.powerAt 3 ∧ tCircuit.powerAt 1 < tCircuit.granted) := by
  decide +kernel

theorem test_hyp_ZonesAndTheirOrders :
    (waits .zoneSet 0 7 tWorks).orderWaits 31 (tOrder .zoneSet 0 7) ∧
    (waits .zoneSet 0 8 tWorks).orderWaits 31 (tOrder .zoneSet 0 8) ∧
    (waits .zoneAuto 0 0 tWorks).orderWaits 31 (tOrder .zoneAuto 0 0) ∧
    (tWorks.claimOf (.zone 0)).commands = true ∧ ((withClaim .panel tWorks).claimOf (.zone 0)).commands = false ∧
    tWorks.lights.zones[0]? = some tZone := by decide +kernel

def tLuminance : Channel :=
  { tDepth with input := 2, kind := .luminance, high := 10000, rise := none, thresholds := [] }

def tSteps : StepTable := { channel := 3, boundaries := [10, 20, 30, 40, 50, 60, 70], hysteresis := 5, qualify := 2 }

def tChoice : StepChoice := { selected := 3, dir := .none, count := 0, bound := 3 }

def tThreshold : Zone := { tZone with choice := some tChoice, table := some tSteps }

/-- Both threshold zones on one luminance channel, their transition zones, INTERIOR and EGRESS; DAY a sample below 15. -/
def tLit : Works :=
  { tWorks with
    water := { tWorks.water with channels := tWorks.water.channels ++ [tLuminance] }
    lights := { tWorks.lights with
      zones := [tThreshold, { tZone with offset := 1 }, tThreshold, { tZone with offset := 4, ordered := some 7 },
        { tZone with mode := .closure }, { tZone with minSafe := none, closure := none }]
      day := { Day.reset with decider := some 3, boundary := 15, hysteresis := 5, qualify := 1 } } }

theorem test_hyp_Luminance :
    (tLit.water.channels[3]? = some tLuminance ∧ tLuminance.kind = .luminance ∧ tLuminance.validity = .valid ∧
      tLuminance.low ≤ 40 ∧ 40 ≤ tLuminance.high ∧ tLuminance.high < 10001) ∧
    (tLit.lights.zones[0]? = some tThreshold ∧ tThreshold.table = some tSteps ∧ tThreshold.choice = some tChoice ∧
      tLit.lights.zones[2]? = some tThreshold ∧ tSteps.channel = 3) ∧
    tLit.lights.day.decider = some 3 ∧ tLit.dayDecider = some 3 ∧
    (upStep 15 5 1 tLit.lights.day.state 9).settled ≠ tLit.lights.day.state.settled := by decide +kernel

/-- The indexes of samples at the edges: 39 and 25 leave step 3, 40 takes it up and 24 down, each in two samples. -/
theorem test_selection :
    [39, 40, 25, 24].map (fun v => (upIndex tSteps v, downIndex tSteps v)) = [(3, 4), (4, 4), (2, 3), (2, 2)] ∧
    [39, 25].map (tChoice.next tSteps) = [tChoice, tChoice] ∧
    ((tChoice.next tSteps 40).next tSteps 70).selected = 4 ∧ ((tChoice.next tSteps 24).next tSteps 0).selected = 2 ∧
    (tChoice.next tSteps 40).dir = .up ∧ ((tChoice.next tSteps 40).next tSteps 24).dir = .down := by decide

/-- The target steps of those six zones: selected, bound to the threshold zone, ordered and bound, closure, day. -/
theorem test_targets : tLit.lights.targets = [3, 2, 3, 3, 1, 3] := by decide

theorem test_hyp_Modes :
    (withStage (tStage .alert none) tLit).water.stage.north ≠ .shut ∧
    zoneMode 1 .alert (some .opened) ≠ ZoneMode.normal ∧ tLit.water.stage.stage ≠ .closed ∧
    ((withStage (tStage .alert none) tLit).judgeModes.lights.zones.map Zone.mode =
      [.normal, .clearingFull, .normal, .clearingFull, .clearingFull, .normal]) ∧
    ((tLit.changeStage .closed .portalsShut).lights.zones.map Zone.mode =
      [.closure, .closure, .closure, .closure, .closure, .normal]) := by decide +kernel

/-! ### Drop line -/

def tExchange (k : ExKind) (u : Nat) (c : LineCmd) (awaiting : Bool) : Exchange :=
  { kind := k, unit := u, cmd := c, frame := [], awaiting := awaiting, windowStart := 199975, discard := false }

/-- A pump last reported stopped whose key turns to PANEL in a response that reports it running: the settlement reads that
response and adopts it (R121, R64). -/
theorem test_panelKeyReadsResponse :
    let w := (withPump { tPump with running := .stopped } tWorks).handClaim (fun _ => some (1 :: List.replicate 12 0)) [] false
      { subject := .pump 0, value := .panel }
    w.dewater.pumps.map (fun p => (p.state, p.running, p.grant)) = [(.uncommanded, .running, .granted)] ∧
      .adoptionNotice 0 50 ∈ w.notices := by decide +kernel

/-- A response frame with its check. -/
def tFrame (flags u c : Nat) (data : List Nat) : List Byte :=
  let body := ([flags, u, c, data.length] ++ data).map (BitVec.ofNat 8)
  syncByte :: body ++ [(crc16 body).extractLsb' 8 8, (crc16 body).extractLsb' 0 8]

theorem test_hyp_LineEvents :
    (tExchange .poll 5 .poll false).awaiting = false ∧ (tExchange .broadcast 31 .deselect false).unit = 31 ∧
    (tWorks.line.awaits = true ∧ frameComplete tWorks.line.rx.frame = false ∧ tWorks.line.rx.frame = []) ∧
    (frameComplete [0xC3] = false ∧ frameComplete [0xC3, 0, 5, 0x11, 0, 0x12] = false ∧
      frameComplete [0xC3, 0, 5, 0x11, 0, 0x12, 0x34] = true) ∧
    Works.stageRuns tWorks = true ∧ tWorks.line.round.inProgress = false ∧
    elapsed 199800 (tWorks.siteTime Site.roundPeriod) tWorks.now = true ∧
    elapsed 199801 (tWorks.siteTime Site.roundPeriod) tWorks.now = false := by decide +kernel

/-- A frame in progress whose last byte is 2 ms ago, and one whose last byte is 3 ms ago. -/
theorem test_hyp_Gap :
    (let l : Line := { tWorks.line with rx := { frame := [0xC3, 0], lastByte := 199998, gapSeen := false } }
     l.awaits = true ∧ frameComplete l.rx.frame = false ∧ l.rx.frame ≠ [] ∧ tWorks.now ≤ l.rx.lastByte + 2) ∧
    199997 + 2 < tWorks.now := by decide +kernel

/-- Each kind of miss: the window with and without a gap, a wrong check, a wrong address, a wrong echo, a wrong length. -/
theorem test_hyp_missedBy :
    (let x := tExchange .poll 4 .poll true
     let w := fun f => withExchange x f tWorks
     let r := tUnit 4 .lamp
     (w []).missedBy x r .responseWindowExpiry .timeout ∧
     ({ w [] with line := { (w []).line with rx := { (w []).line.rx with gapSeen := true } } } : Works).missedBy x r
       .responseWindowExpiry .gap ∧
     (w [0xC3, 0, 4, 0x10, 0, 0, 0]).missedBy x r .responseFrameComplete .check ∧
     (w (tFrame 0 5 0x10 [])).missedBy x r .responseFrameComplete .wrongAddress ∧
     (w (tFrame 0 4 0x11 [])).missedBy x r .responseFrameComplete .wrongAddress ∧
     (w (tFrame 0 4 0x10 [1])).missedBy x r .responseFrameComplete .check) := by
  refine ⟨.inl (by decide +kernel), .inl (by decide +kernel), .inr ⟨rfl, by decide +kernel, .inl (by decide +kernel)⟩,
    .inr ⟨rfl, by decide +kernel, .inr (.inl (by decide +kernel))⟩,
    .inr ⟨rfl, by decide +kernel, .inr (.inl (by decide +kernel))⟩,
    .inr ⟨rfl, by decide +kernel, .inr (.inr (by decide +kernel))⟩⟩

/-- A response to a SET with ERROR set and a code, and the join of a unit with one claim. -/
theorem test_hyp_ErrorAndJoin :
    (let f := tFrame 1 4 0x11 [3]
     frameComplete f = true ∧ checkRight f = true ∧ imgByte f 2 = 4 ∧ imgByte f 3 = LineCmd.set.code ∧
       (statusOf (imgByte f 1)).error = true ∧ frameData f = 3 :: [] ∧ (tUnit 4 .lamp).lastError = none) ∧
    (let f := tFrame 0 4 0x10 (List.replicate 9 0 ++ [1])
     frameComplete f = true ∧ checkRight f = true ∧ imgByte f 4 = UnitType.lamp.imageLength ∧
       (statusOf (imgByte f 1)).error = false ∧ UnitType.lamp.keyPanel (frameData f) 0 = true ∧
       ({ tUnit 4 .lamp with state := .lost } : RosterEntry).state = .lost ∧
       tWorks.claims[3]? = some (tClaim (.zone 0) 4) ∧ tWorks.rosterEntry 4 = some (tUnit 4 .lamp)) := by
  decide +kernel

theorem test_hyp_ExchangeEnds :
    ({ tExchange .poll 5 .poll true with discard := true } : Exchange).discard = true ∧
    (let f := tFrame 0 6 0x10 [1]
     frameComplete f = true ∧ checkRight f = true ∧ imgByte f 2 = 6 ∧ imgByte f 3 = 0x10 ∧
        imgByte f 4 = UnitType.switchboard.imageLength ∧ (statusOf (imgByte f 1)).error = false) ∧
    (let f := tFrame 0 4 0x11 []
     frameComplete f = true ∧ checkRight f = true ∧ imgByte f 2 = 4 ∧ imgByte f 3 = 0x11) ∧
    (tWorks.line.exchange = some (tExchange .poll 5 .poll true) ∧ 199975 + 25 ≤ tWorks.now ∧
      tWorks.rosterEntry 5 = some (tUnit 5 .sensor) ∧ 1 < (tUnit 5 .sensor).missLimit) := by decide +kernel

/-- A right POLL response of the lamp unit that turns no key. -/
theorem test_hyp_PollResponse :
    (let f := tFrame 0 4 0x10 (List.replicate 10 0)
     let w := tWorks.updRoster 4 (fun r => { r with state := .present, missCount := 0, lastGood := some tWorks.now })
     frameComplete f = true ∧ checkRight f = true ∧ imgByte f 2 = 4 ∧ imgByte f 3 = 0x10 ∧
        imgByte f 4 = UnitType.lamp.imageLength ∧
        statusOf (imgByte f 1) = { error := false, isLocal := false, panel := false, restarted := false } ∧
        (tUnit 4 .lamp).state.inHand = true ∧ (w.pollKeys 4 .lamp (frameData f)).keyChanges 4 = []) := by
  decide +kernel

/-- A pair at the head of the queue, one that is selected, and room for a DESELECT. -/
theorem test_hyp_Pair :
    (let e := tWorks.asking (.pair .start) 1 0 (.pumpStart 0)
     e.req = .pair .start ∧ tWorks.interlockHolds e = true ∧ tWorks.stageRuns = true ∧ tWorks.line.selected = none ∧
        ({ tWorks.line with selected := some e, queue := [e] } : Line).queue = e :: []) ∧
    ((tWorks.unitState 1).inHand = true ∧ tWorks.lineRoom ∧ tWorks.line.queue = []) := by decide +kernel

/-- A DEPLOY at the head of the queue with the barrier UP and a RAISE with the gate not STOWED: neither condition holds, nothing
is sent, and the pair has ended; with the barrier DOWN the SELECT goes out (R82). -/
theorem test_hyp_Withheld :
    let line := fun (e : QEntry) (p : Portal) (w : Works) => withNorth p { w with line := { w.line with queue := [e], exchange := none } }
    let deploy := tWorks.asking (.pair .deploy) 2 2 (.gatePair 0)
    let raise := tWorks.asking (.pair .raise) 2 1 (.barrierPair 0)
    let g := fun (b : BarrierState) => ({ tClosing .gating with
      barrier := { (tClosing .gating).barrier with state := b }
      gate := { (tClosing .gating).gate with grant := .granted, pair := .inFlight } } : Portal)
    (tWorks.stageRuns = true ∧ tWorks.line.selected = none) ∧
    (let w := line deploy (g .up) tWorks
     w.interlockHolds deploy = false ∧ w.choose.map (fun v => (v.line.exchange.isNone, (v.portal 0).gate.pair)) =
       some (true, .none)) ∧
    (let w := line raise (tClosing .unbarring) tWorks
     w.interlockHolds raise = false ∧ w.choose.map (fun v => v.line.exchange.isNone) = some true) ∧
    (let w := line deploy (g .down) tWorks
     (w.choose.bind (fun v => v.line.exchange)).map Exchange.cmd = some .select) := by decide +kernel

/-- A unit with a claim that is lost, one whose key has turned each way, one whose key agrees. -/
theorem test_hyp_Claims :
    (tWorks.claims.map Claim.subject).Nodup ∧ tWorks.claims[0]? = some (tClaim (.pump 0) 1) ∧
    ((tClaim (.pump 0) 1).unit = 1 ∧ (tClaim (.pump 0) 1).value ≠ .away) ∧
    ({ tClaim (.pump 0) 1 with keyView := .panel } : Claim).value = .auto ∧
    (({ tClaim (.pump 0) 1 with value := .panel } : Claim).keyView = .normal) ∧
    ((tClaim (.pump 0) 1).keyView = .panel ↔ (tClaim (.pump 0) 1).value = .panel) := by decide +kernel

/-- The owners' entries for a claim that is told, and portal subjects that name a portal. -/
theorem test_hyp_Owners :
    tWorks.claimEntry (.pump 0) = some (tClaim (.pump 0) 1) ∧ tWorks.claimEntry (.portal 1) = some (tClaim (.portal 1) 3) ∧
    tWorks.claimEntry (.zone 0) = some (tClaim (.zone 0) 4) ∧ tWorks.dewater.pumps[0]? = some tPump ∧
    (∀ c ∈ tWorks.claims, ∀ m, c.subject = .portal m → m < 2) ∧
    ((tWorks.claimsLost 1).dewater.pumps.map Pump.state = [.uncommanded]) := by
  refine ⟨by decide, by decide, by decide, by decide, ?_, by decide +kernel⟩
  intro c hc m hm
  simp only [tWorks, List.mem_cons, List.not_mem_nil, or_false] at hc
  rcases hc with rfl | rfl | rfl | rfl <;> simp only [tClaim, reduceCtorEq, ClaimSubject.portal.injEq] at hm <;> omega

theorem test_hyp_UnitOrders :
    ((waits .unitRetire 4 0 tWorks).orderWaits 31 (tOrder .unitRetire 4 0) ∧
      tWorks.rosterEntry 4 = some (tUnit 4 .lamp) ∧ (tUnit 4 .lamp).type ≠ .portal ∧
      (tUnit 4 .lamp).state ≠ .retired ∧ tWorks.busy 4 = false ∧ tWorks.active = []) ∧
    ((waits .unitRetire 2 0 tDraining).orderWaits 31 (tOrder .unitRetire 2 0) ∧
      (tDraining.rosterEntry 2).map RosterEntry.type = some .portal) ∧
    ((waits .unitRestore 4 0 (tWorks.updRoster 4 (fun r => { r with state := .retired }))).orderWaits 31
        (tOrder .unitRestore 4 0) ∧
      ((tWorks.updRoster 4 (fun r => { r with state := .retired })).rosterEntry 4).map RosterEntry.state
        = some .retired) := by decide +kernel

/-! ### Station control -/

theorem test_hyp_SiteStoreJudgement :
    tWorks.station.state ≠ .loading ∧
    (State.reset.works.station.state = .loading ∧ State.reset.store.judge = .refused 20 65535) ∧
    (∃ site, ({ State.reset with store := siteStore } : State).store.judge = .valid site) :=
  ⟨by decide, by decide, test_store_table⟩

/-- Programming of the second of two rows, the first done. -/
def tProgramming (row : Nat) : Programming :=
  { slot := 31, bytes := [0, 0, 0, 0, 128, 0, 0, 0], site := tSite, row := row, rowStart := 199995 }

theorem test_hyp_StoreRowProgrammed :
    tWorks.station.programming = none ∧
    ((tProgramming 0).rowStart + 5 ≤ tWorks.now ∧ (tProgramming 0).row < (tProgramming 0).lastRow) ∧
    (tProgramming 1).lastRow ≤ (tProgramming 1).row ∧ 199999 < (tProgramming 0).rowStart + 5 ∧
    [(1 : Byte)] ≠ (tProgramming 0).rowBytes ∧
    ({ siteStore with checkLength := 0xFFFFFFFF, checkCrc := 0xFFFFFFFF } : Store).checkLength = 0xFFFFFFFF := by
  decide +kernel

theorem test_hyp_LoadSite :
    ((waits .loadSite 0 0 (inStation .unset tWorks)).orderWaits 31 (tOrder .loadSite 0 0) ∧
      (waits .loadSite 0 1 (inStation .held tWorks)).orderWaits 31 (tOrder .loadSite 0 1) ∧
      (waits .loadSite 0 2 (inStation .held tWorks)).orderWaits 31 (tOrder .loadSite 0 2)) ∧
    (∃ site, validate (siteArea siteMem) = .valid site) :=
  ⟨by decide +kernel, test_loadSite_table⟩

theorem siteMem_wf : Memory.wf siteMem = true := by
  unfold siteMem
  exact Memory.wf_writeBytes siteText [] 0x4000 (by decide)

theorem siteMem_done : Memory.readWord siteMem (4 * done) = 0 := by
  have h : ∀ b, b < 0x4000 → Memory.read siteMem b = 0 := by
    intro b hb
    unfold siteMem
    rw [Memory.read_writeBytes siteText [] 0x4000 b (by decide), if_neg (by omega)]
    rfl
  simp only [Memory.readWord]
  rw [h _ (by decide), h _ (by decide), h _ (by decide), h _ (by decide)]
  decide

/-- A LOAD SITE and another order, each in its slot, with a site table area. -/
def tLoading (m : List Host.Cell) : State :=
  let s := withMem m (waits .loadSite 0 0 (inStation .held tWorks))
  { s with port := { s.port with
    working := s.port.working ++ [{ slot := 4, snapshot := [0x010501], standing := .waiting, taken := 0, checked := true,
                                    takenUp := false }]
    held := s.port.held ||| slotBit 4 } }

theorem tLoading_held : (tLoading []).port.heldMatchesList := by
  refine ⟨by decide +kernel, by decide +kernel, fun k => ?_, by decide +kernel⟩
  by_cases h : k < 32
  · revert k
    decide +kernel
  · rw [Port.isHeld, BitVec.getLsbD_of_ge _ _ (by omega)]
    simp [tLoading, withMem, waits, inWorks]
    omega

theorem test_hyp_SiteChanged (m : List Host.Cell) (h : m = siteMem) :
    (tLoading m).orderWaits 31 (tOrder .loadSite 0 0) ∧ (tLoading m).works.active = [] ∧
    Memory.wf (tLoading m).port.mem = true ∧ (tLoading m).port.heldMatchesList ∧
    validate (siteArea (tLoading m).port.mem) = validate siteBytes := by
  refine ⟨rfl, rfl, ?_, ⟨tLoading_held.1, tLoading_held.2.1, tLoading_held.2.2.1, ?_⟩, ?_⟩
  · rw [show (tLoading m).port.mem = m from rfl, h, siteMem_wf]
  · rw [show (tLoading m).port.flag done = Memory.readWord m (4 * done) from rfl, h, siteMem_done]
    exact BitVec.and_zero
  · rw [show (tLoading m).port.mem = m from rfl, h, siteArea_siteMem]

theorem test_emptyArea : validate (siteArea []) = .refused 1 65535 := by decide +kernel

theorem test_hyp_RunAndHold :
    (waits .run 0 0 (inStation .held tWorks)).orderWaits 31 (tOrder .run 0 0) ∧
    (waits .hold 0 0 tWorks).orderWaits 31 (tOrder .hold 0 0) ∧
    ((inStation .held tWorks).station.programming = none ∧ tWorks.water.stage.stage = .dry) ∧
    (({ tStage .watch none with suppressed := true } : StageRec).stage ≠ .alert) := by decide +kernel

theorem test_hyp_EventEnd :
    tWorks.line.exchange.isSome = true ∧ tWorks.reports = [] ∧ tWorks.line.displaced = [] ∧ tWorks.active = [] ∧
    tWorks.line.round.inProgress = false := by decide

/-- The DEPLOY pair of the north gate, by its fate, behind 31 HALTs of another unit. -/
def tGatePair (f : Fate) : QEntry :=
  { req := .pair .deploy, unit := 2, output := 2, requesters := [{ who := .gatePair 0, fate := f }], joined := 0 }

def tFullLine (pair : PairState) (f : Fate) : Works :=
  withNorth { tPortal 2 with gate := { (tPortal 2).gate with pair := pair, action := some .deploy, grant := .granted } }
    { tWorks with line := { tWorks.line with
      queue := (List.range 31).map (fun k => { req := .halt, unit := 9, output := k, requesters := [], joined := 0 }) ++
        [tGatePair f] } }

/-- The HALT of the north barrier. -/
def tHalt : QEntry :=
  { req := .halt, unit := 2, output := 1, requesters := [{ who := .barrierHalt 0, fate := .live }], joined := 200000 }

theorem test_hyp_Displaced :
    (tFullLine .abandoned .abandoned).line.queue.length = 32 ∧
    (tFullLine .abandoned .abandoned).line.queue.getLast? = some (tGatePair .abandoned) ∧
    (∀ x ∈ (tFullLine .abandoned .abandoned).line.queue, x.req.isHalt = true → sameOutput tHalt x = false) ∧
    (tFullLine .abandoned .abandoned).line.fullEpisode = false ∧
    (let v := ((tFullLine .abandoned .abandoned).enqueue tHalt).2
     let u := (v.setLine { v.line with displaced := [] }).reportEntry (tGatePair .abandoned) .removed .removed
     v.reports = [] ∧ v.line.displaced = [tGatePair .abandoned] ∧ u.reports = [] ∧ u.line.displaced = [] ∧
       u.line.exchange.isSome = true ∧ u.line.round.inProgress = false) := by decide +kernel

/-- An ABANDONED pair that the HALT displaces ends without execution in the event: NONE, its grant given back, nothing asked
again. A pair still wanted waits for the retry notice with its grant. -/
theorem test_displaced :
    (let v := ((tFullLine .abandoned .abandoned).enqueue tHalt).2
     let g := ((tState.ended v).works.portal 0).gate
     g.pair = .none ∧ g.grant = .none ∧ g.pairRefused = false ∧ (tState.ended v).works.line.displaced = []) ∧
    (let v := ((tFullLine .inFlight .live).enqueue tHalt).2
     let g := ((tState.ended v).works.portal 0).gate
     g.pair = .inFlight ∧ g.grant = .granted ∧ g.pairRefused = true) := by decide +kernel

/-- The roll call with every unit heard, the line free, the broadcast out. -/
def tRollCall : Works :=
  { inStation .rollCall tWorks with
    station := { (inStation .rollCall tWorks).station with load := some { slot := 3, result := 0 } }
    line := { tWorks.line with
      exchange := none, broadcastDue := false, roster := tWorks.line.roster.map (fun r => { r with heard := true }) } }

theorem test_hyp_RollCallEnd :
    tRollCall.settle.rollCallOver = true ∧ tRollCall.station.site = some tSite ∧
    (waitingJobOrders (waits .zoneSet 0 5 tRollCall).port.working).map Order.slot = [31] := by decide +kernel

/-- The end of that roll call: HELD, the order that waited taken up. -/
theorem test_rollCallEnd :
    let t := (waits .zoneSet 0 5 tRollCall).ended tRollCall
    t.works.station.state = .held ∧ t.port.working.map Entry.takenUp = [true] ∧
      t.works.lights.zones.map Zone.ordered = [some 5] := by decide +kernel

/-! ### The barrier's own motions -/

/-- The north portal in a state, RED shown, with the barrier as `f` makes it. -/
def tBarrier (c : Closure) (f : Barrier → Barrier) : Works :=
  let p := tPortal 2
  withNorth { p with closure := c, signals := { p.signals with wanted := .red, shown := .red }, barrier := f p.barrier } tWorks

/-- BARRING with a RAISE in flight that UNBARRING left: the RAISE is given up and the LOWER queued; with a LOWER of its own in
flight nothing is queued (R77, R76). -/
theorem test_lowerBesideRaise :
    (let w := ((tBarrier .barring (fun b => { b with pair := .inFlight, action := some .raise })).barringGo 0).2
     (w.portal 0).barrier.pair = .inFlight ∧ (w.portal 0).barrier.action = some .lower ∧
       w.line.queue.map QEntry.req = [.pair .lower]) ∧
    (let w := ((tBarrier .barring (fun b => { b with pair := .inFlight, action := some .lower })).barringGo 0).2
     w.line.queue = []) := by decide +kernel

/-- A RAISE still moving in BARRING is sent a HALT ahead of the LOWER (R77). -/
theorem test_lowerHaltsRaise :
    let w := ((tBarrier .barring (fun b => { b with state := .raising, travel := some 199000, heading := .raise })).barringGo 0).2
    w.line.queue.map QEntry.req = [.halt, .pair .lower] ∧ (w.portal 0).barrier.travel = none := by decide +kernel

/-- A RAISE executed in OPEN ends its travel at UP, and no later expiry acts (R89). -/
theorem test_raiseArrivesInOpen :
    let w := (tBarrier .opened (fun b => { b with state := .down, pair := .inFlight, action := some .raise })).barrierPairEnd 0
      .raise .live (.executed 0)
    (w.portal 0).barrier.travel = some 200000 ∧ (w.portal 0).barrier.state = .raising ∧
      (let v := (w.setBarrier 0 .up).judgeBarrier 0 .raising true
       (v.portal 0).barrier.travel = none ∧ (v.portal 0).closure = .opened) := by decide +kernel

/-- A live LOWER missed in CLEARING is queued again (R87). -/
theorem test_lowerMissedInClearing :
    let w := (tBarrier .clearing (fun b => { b with state := .down, pair := .inFlight, action := some .lower })).barrierPairEnd 0
      .lower .live .missed
    w.line.queue.map QEntry.req = [.pair .lower] ∧ (w.portal 0).barrier.pair = .inFlight := by decide +kernel

/-! ### A pump's pair in hand control, and a dismissed pump -/

/-- The pair of a pump in hand control that was ABANDONED before has its energised notice where the grant is kept (R34). -/
theorem test_disregardedEnergised :
    let p := { tPump with state := .uncommanded, grant := .granted, pair := .abandoned }
    ((withPump p tWorks).startPairEnd 0 .disregarded (.executed 0)).notices = [.energisedNotice 0] ∧
      ((withPump { p with grant := .none } tWorks).startPairEnd 0 .disregarded (.executed 0)).notices = [] := by decide +kernel

/-- A dismissed pump that waits with no pair has the stop mark DEMAND (R52), and a call makes it NONE. -/
theorem test_dismissWaiting :
    let w := (withPump { tPump with state := .waiting, cause := some .grant, grant := .requested } tWorks).dismiss 0
    w.dewater.pumps.map (fun p => (p.state, p.mark, p.grant)) = [(.idle, .demand, .none)] ∧
      (w.callPump 0).dewater.pumps.map Pump.mark = [.none] := by decide +kernel

/-- A zone with an ordered step whose key turns to PANEL in a POLL response reads the steps of that response: the shrink that
the lost order brings leaves what the response reports (R121, R113). -/
theorem test_panelKeyReadsStep :
    let w : Works := { withClaim .panel tWorks with lights := { tWorks.lights with
      zones := [{ tZone with ordered := some 5, target := 5, current := some 5 }],
      circuits := [{ tCircuit with wanted := 5, granted := 50, reported := some 5 }] } }
    let shrunk := fun (r : Option Nat) =>
      (w.handClaims (fun _ => none) [r] false [{ subject := .zone 0, value := .panel }]).lights.circuits.map
        Circuit.granted
    shrunk (some 4) = [40] ∧ shrunk (some 5) = [50] := by decide +kernel

/-- A zone that is taken out of command, and its settlement with the lamp fault input active and not (R113). -/
theorem test_hyp_ZoneClaims :
    (tWorks.lights.zones[0]? = some tZone ∧ tWorks.lights.circuits[0]? = some tCircuit ∧ tCircuit.zone = 0 ∧
      ([some 5] : List (Option Nat))[0]? = some (some 5) ∧ tCircuit.granted < tCircuit.powerAt 5) ∧
    ((tWorks.uncommandZone 0 .away).lights.circuits.map Circuit.reported = [none]) ∧
    (let settled := fun (f : LampFlag) (img : Option (List Byte)) =>
       let w : Works := { tWorks with lights := { tWorks.lights with circuits := [{ tCircuit with fault := f }] } }
       (w.settleZone [some 5] img 0).lights.circuits.map (fun c => (c.fault, c.granted))
     let image := fun (n : Nat) => some (List.replicate 8 (0 : Byte) ++ [BitVec.ofNat 8 n])
     [settled .clear none, settled .refused none, settled .clear (image 1), settled .lamp (image 0)] =
       [[(.clear, 50)], [(.clear, 30)], [(.lamp, 0)], [(.clear, 30)]]) := by decide +kernel

/-- Two threshold zones with ordered steps, their transition zones with a circuit each, all AUTO but the first two. -/
def tOrderedZones (steps : Nat) : Works :=
  let circuit := fun (z : Nat) => ({ tCircuit with zone := z, output := z, wanted := steps, reported := some steps,
                                                   granted := 10 * steps, grant := some (3 + z) } : Circuit)
  { tLit with
    lights := { tLit.lights with
      zones := [{ tZone with ordered := some steps, target := steps }, { tZone with target := steps, circuits := [1] },
        { tZone with ordered := some steps, target := steps }, { tZone with target := steps, circuits := [3], offset := 0 },
        { tZone with mode := .closure, target := 1, circuits := [] }, { tZone with circuits := [], minSafe := none }]
      circuits := [circuit 0, circuit 1, circuit 2, circuit 3] }
    claims := [{ tClaim (.zone 0) 4 with value := .away }, tClaim (.zone 1) 9, { tClaim (.zone 2) 4 with value := .away },
      tClaim (.zone 3) 9] }

/-- One loss that ends two ordered steps: the dependent circuits request once, on the final targets and in circuit index order
(R107). -/
theorem test_targetsFollowOnce :
    let l : List NewClaim := [{ subject := .zone 0, value := .away }, { subject := .zone 2, value := .away }]
    ((tOrderedZones 1).handClaims (fun _ => none) [] false l).notices.filterMap (fun i => match i with
      | .loadRequest e c p => some (e, c, p)
      | _ => none) = [(4, 3, 30), (6, 3, 30)] := by decide +kernel

/-- The adoptions and requests at the budget among notices, with the entry and the power, in their order. -/
def toBudget (l : List Instr) : List (Bool × Nat × Nat) :=
  l.filterMap (fun i => match i with
    | .adoptionNotice e p => some (true, e, p)
    | .loadRequest e _ p => some (false, e, p)
    | _ => none)

/-- One POLL response that turns an ORDERED threshold zone PANEL and its transition zone AUTO: the transition circuit's reported step
is taken and adopted before it follows its new target, by a request from step 2 and by a SET alone from step 5 (R113, R121). -/
theorem test_settledBeforeItFollows :
    let l : List NewClaim := [{ subject := .zone 0, value := .panel }, { subject := .zone 1, value := .auto }]
    let w : Works := { tOrderedZones 1 with claims := (tOrderedZones 1).claims.map (fun c =>
      if c.subject = .zone 0 then { c with value := .panel } else c) }
    let after := fun (r : Nat) => w.handClaims (fun _ => none) [some 1, some r, some 1, some 1] false l
    toBudget (after 2).notices = [(true, 4, 20), (false, 4, 30)] ∧ toBudget (after 5).notices = [(true, 4, 50)] ∧
      ((after 5).lights.circuits.map Circuit.setList)[1]? = some [3] := by decide +kernel

/-- A forced reconciliation that ends two ordered steps: the circuits of the unit and those of another unit that depend on them
request in one pass, in circuit index order (R107, R127). -/
theorem test_forcedInIndexOrder :
    let w : Works := { tOrderedZones 1 with claims := (tOrderedZones 1).claims.map (fun c =>
      if c.unit = 4 then { c with value := .ordered } else c) }
    toBudget (w.forceReconcile 4 .localReport (fun _ => none)).notices =
      [(false, 3, 30), (false, 4, 30), (false, 5, 30), (false, 6, 30)] := by decide +kernel

/-- A unit lost that carries the channels of both threshold zones: their transition circuits request once, on the targets of both
selections at full (R103, R107). -/
theorem test_channelsLost :
    let w := tOrderedZones 1
    let zone := fun (ch : Nat) => ({ tThreshold with
      choice := some { tChoice with selected := 1 }, table := some { tSteps with channel := ch }, target := 1 } : Zone)
    let w : Works := { w with
      water := { w.water with channels := w.water.channels ++ [{ tLuminance with input := 3 }] }
      lights := { w.lights with
        zones := [zone 3] ++ (w.lights.zones.drop 1).take 1 ++ [zone 4] ++ w.lights.zones.drop 3 } }
    (w.channelsLost 5).notices.filterMap (fun i => match i with
      | .loadRequest e c p => some (e, c, p)
      | _ => none) = [(4, 3, 70), (6, 3, 70)] := by decide +kernel

/-- At the loss of its unit the gate of a portal is UNKNOWN before the claim is LOCAL, so the GATE record shows the grant view
held until then, and the grant is given back after it (R74, R93). -/
theorem test_unknownBeforeLocal :
    let w := tWorks.updGate 0 (fun g => { g with grant := .requested })
    let l := (w.unitGone 2 true).notices
    l.filterMap (fun i => match i with
      | .journalAppend r => some (r.kind, if r.kind = .gate then r.details else [])
      | _ => none) = [(.barrier, []), (.gate, [0, 0, GrantView.requested.code]), (.claim, [])] ∧
      Instr.loadWithdrawal 1 ∈ l := by decide +kernel

/-- A good response of the roll call with ERROR and PANEL set shows its unit's key in panel position (log 31). -/
theorem test_rollCallPanelFlag :
    let x : Exchange := { kind := .rollPoll, unit := 2, cmd := .poll, frame := [], awaiting := true, windowStart := 199975,
                          discard := false }
    let st : Status4 := { error := true, isLocal := false, panel := true, restarted := false }
    ((tWorks.rollGood x st [5]).claims.map (fun c => (c.unit, c.keyView))) =
      [(1, .normal), (2, .panel), (3, .normal), (4, .normal)] := by decide +kernel

/-! ### The standing laws -/

theorem test_hyp_StandingLaws :
    State.reset.memoryWf ∧ tWorks.siteInForce ∧ tWorks.oneInrush ∧ tWorks.lineQueueFits ∧
    (∃ t, step tState = .next t) := by
  refine ⟨by decide, by decide, by decide, by decide, ⟨_, rfl⟩⟩

end Sys2Proof.Tests
end

namespace Sys2Proof.Machine

open Sys2Proof

/-! # Water watch: what a sample, the loss of a channel and the rise window do

## Lists by index -/

theorem getElem?_updAt_self {α : Type} {f : α → α} {n : Nat} {l : List α} {x : α} (h : l[n]? = some x) :
    (updAt f n l)[n]? = some (f x) := by
  induction l generalizing n with
  | nil => simp at h
  | cons y l ih =>
    cases n with
    | zero => simpa [updAt] using congrArg (Option.map f) h
    | succ n => simpa [updAt] using ih (by simpa using h)

theorem getElem?_updAt_ne {α : Type} {f : α → α} {m n : Nat} {l : List α} (h : n ≠ m) :
    (updAt f m l)[n]? = l[n]? := by
  induction l generalizing m n with
  | nil => cases m <;> rfl
  | cons y l ih =>
    cases m with
    | zero => cases n with
      | zero => exact absurd rfl h
      | succ n => simp [updAt]
    | succ m => cases n with
      | zero => simp [updAt]
      | succ n => simpa [updAt] using ih (m := m) (n := n) (by omega)

/-- What every operation on an element of the list keeps. -/
theorem each_induction {α β : Type} {P : β → Prop} {l : List α} {f : α → β → β} {b : β} (h : P b)
    (hf : ∀ a ∈ l, ∀ b, P b → P (f a b)) : P (each l f b) := by
  unfold each
  induction l generalizing b with
  | nil => exact h
  | cons a l ih =>
    exact ih (hf a (List.mem_cons_self ..) b h) fun c hc => hf c (List.mem_cons_of_mem _ hc)

/-! ## One channel changed -/

theorem Works.updChannel_self {c : Nat} {f : Channel → Channel} {w : Works} {x : Channel}
    (h : w.water.channels[c]? = some x) : (w.updChannel c f).water.channels[c]? = some (f x) :=
  getElem?_updAt_self h

theorem Works.updChannel_other {c p : Nat} {f : Channel → Channel} {w : Works} (h : p ≠ c) :
    (w.updChannel c f).water.channels[p]? = w.water.channels[p]? :=
  getElem?_updAt_ne h

@[simp] theorem Works.updChannel_stage (c : Nat) (f : Channel → Channel) (w : Works) :
    (w.updChannel c f).water.stage = w.water.stage := rfl

/-- The baseline of the obligations is the model's `Channel.anchor`. -/
theorem Works.withBaseline_eq (w : Works) (c : Nat) (b : Option (Nat × Nat)) :
    w.withBaseline c b = w.updChannel c (Channel.anchor b) := rfl

/-! ## Records handed on -/

theorem Works.handed_send (w : Works) (i : Instr) : (w.send i).handed i := by
  simp [Works.handed]

theorem Works.recorded_record (w : Works) (k : JournalKind) (n : Nat) (a b : Option Nat) (d : List Nat) (f : Bool) :
    (w.record k n a b d f).recorded k n a b d f := Works.handed_send w _

theorem Works.Leads.recorded {ps : List Part} {w v : Works} (h : Works.Leads ps w v) (hp : Part.voids ∉ ps)
    {k : JournalKind} {n : Nat} {a b : Option Nat} {d : List Nat} {f : Bool} (hr : w.recorded k n a b d f) :
    v.recorded k n a b d f := h.handed hp hr

/-! ## Thresholds (R4, R5) -/

/-- A count that is short of the qualify count goes on, and settles at it. -/
theorem countUp_succ {n q : Nat} (h : n + 1 ≤ q) (counting : Nat → ThState) (settled : ThState) :
    countUp (n + 1) q counting settled = if n + 1 = q then settled else counting (n + 1) := by
  unfold countUp
  obtain hlt | heq := Nat.lt_or_eq_of_le h
  · rw [if_pos hlt, if_neg (Nat.ne_of_lt hlt)]
  · rw [if_neg (by omega), if_pos heq]

/-- The first sample beyond the level. -/
theorem countUp_one {q : Nat} (h : 1 ≤ q) (counting : Nat → ThState) (settled : ThState) :
    countUp 1 q counting settled = if q = 1 then settled else counting 1 := by
  simpa [eq_comm] using countUp_succ (n := 0) h counting settled

/-- A sample lies below the hysteresis band of an UP threshold. -/
theorem ite_belowBand {α : Type} {L H v : Nat} (h : H ≤ L) (a b : α) :
    (if v + H < L then a else b) = if L - H ≤ v then b else a := by
  by_cases hv : L - H ≤ v
  · rw [if_pos hv, if_neg (by omega)]
  · rw [if_neg hv, if_pos (by omega)]

/-- A sample lies above the hysteresis band of a DOWN threshold. -/
theorem ite_aboveBand {α : Type} {M v : Nat} (a b : α) : (if M < v then a else b) = if v ≤ M then b else a := by
  by_cases hv : v ≤ M
  · rw [if_pos hv, if_neg (by omega)]
  · rw [if_neg hv, if_pos (by omega)]

theorem upStep_below (L H v : Nat) {Q : Nat} (hQ : 1 ≤ Q) :
    upStep L H Q .below v = if L ≤ v then (if Q = 1 then .above else .rising 1) else .below := by
  rw [← countUp_one hQ]; rfl

theorem upStep_rising (L H v : Nat) {Q n : Nat} (hn : n + 1 ≤ Q) :
    upStep L H Q (.rising n) v = if L ≤ v then (if n + 1 = Q then .above else .rising (n + 1)) else .below := by
  rw [← countUp_succ hn]; rfl

theorem upStep_above {L H : Nat} (v : Nat) {Q : Nat} (hQ : 1 ≤ Q) (hH : H ≤ L) :
    upStep L H Q .above v = if L - H ≤ v then .above else if Q = 1 then .below else .falling 1 := by
  rw [← countUp_one hQ, ← ite_belowBand hH]; rfl

theorem upStep_falling {L H : Nat} (v : Nat) {Q n : Nat} (hn : n + 1 ≤ Q) (hH : H ≤ L) :
    upStep L H Q (.falling n) v = if L - H ≤ v then .above else if n + 1 = Q then .below else .falling (n + 1) := by
  rw [← countUp_succ hn, ← ite_belowBand hH]; rfl

theorem downStep_above (L H v : Nat) {Q : Nat} (hQ : 1 ≤ Q) :
    downStep L H Q .above v = if v ≤ L then (if Q = 1 then .below else .falling 1) else .above := by
  rw [← countUp_one hQ]; rfl

theorem downStep_falling (L H v : Nat) {Q n : Nat} (hn : n + 1 ≤ Q) :
    downStep L H Q (.falling n) v = if v ≤ L then (if n + 1 = Q then .below else .falling (n + 1)) else .above := by
  rw [← countUp_succ hn]; rfl

theorem downStep_below (L H v : Nat) {Q : Nat} (hQ : 1 ≤ Q) :
    downStep L H Q .below v = if v ≤ L + H then .below else if Q = 1 then .above else .rising 1 := by
  rw [← countUp_one hQ, ← ite_aboveBand]; rfl

theorem downStep_rising (L H v : Nat) {Q n : Nat} (hn : n + 1 ≤ Q) :
    downStep L H Q (.rising n) v = if v ≤ L + H then .below else if n + 1 = Q then .above else .rising (n + 1) := by
  rw [← countUp_succ hn, ← ite_aboveBand]; rfl

/-! ## A sample, stage by stage (R2, R6, R7, R9) -/

/-- The first stage of a sample: value, time and validity, with the CHANNEL record (R2). -/
def Works.taken (c v : Nat) (x : Channel) (w : Works) : Works :=
  (w.updChannel c (fun x' => { x' with value := v, lastSample := some w.now, validity := x.validityAt v })).recordValidity c
    x.validity (x.validityAt v) v

/-- The second stage of a VALID sample: the thresholds advance, with their records (R6). -/
def Works.advanced (c v : Nat) (x : Channel) (w : Works) : Works :=
  each x.thresholds (Works.recordThreshold c v) ((w.taken c v x).updChannel c (Channel.advance v))

/-- What a VALID sample makes of its channel, but for the disagreement flag. -/
def Channel.sampled (v now : Nat) (x : Channel) : Channel :=
  { x.advance v with value := v, lastSample := some now, validity := .valid, rise := x.rise.map (Rise.after v now) }

/-- A sample in range, by its stages. -/
theorem Works.sample_of_inRange {w : Works} {c v : Nat} {x : Channel} (hx : w.water.channels[c]? = some x) (hl : x.low ≤ v)
    (hh : v ≤ x.high) :
    w.sample c v = (((w.advanced c v x).riseSample c v).comparePartner c).handOn c x w.facts (x.rises v) := by
  simp [Works.sample, hx, Works.advanced, Works.taken, Channel.validityAt, hl, hh]

/-- A sample out of range is only handed on. -/
theorem Works.sample_of_outOfRange {w : Works} {c v : Nat} {x : Channel} (hx : w.water.channels[c]? = some x)
    (hv : v < x.low ∨ x.high < v) : w.sample c v = (w.taken c v x).handOn c x w.facts false := by
  have hr : ¬ (x.low ≤ v ∧ v ≤ x.high) := by omega
  simp [Works.sample, hx, Works.taken, Channel.validityAt, hr]


@[simp] theorem Works.recordValidity_water (c : Nat) (old new : Validity) (v : Nat) (w : Works) :
    (w.recordValidity c old new v).water = w.water := by
  unfold Works.recordValidity
  split <;> rfl

theorem Works.taken_self {w : Works} {c v : Nat} {x : Channel} (hx : w.water.channels[c]? = some x) :
    (w.taken c v x).water.channels[c]? =
      some { x with value := v, lastSample := some w.now, validity := x.validityAt v } := by
  rw [Works.taken, Works.recordValidity_water]
  exact Works.updChannel_self hx

theorem Works.taken_leads (c v : Nat) (x : Channel) (w : Works) : Works.Leads [.water, .channels] w (w.taken c v x) :=
  Works.recordValidity_leads _ _ _ _ _ (Works.updChannel_leads _ _ _ (by decide) .refl)

theorem Works.taken_records {w : Works} {c v : Nat} {x : Channel} (h : x.validity ≠ x.validityAt v) :
    (w.taken c v x).recorded .channel c (some x.validity.code) (some (x.validityAt v).code) [v] false := by
  rw [Works.taken, Works.recordValidity, if_neg h]
  exact Works.recorded_record _ _ _ _ _ _ _

/-- The records of the thresholds change no block. -/
theorem Works.recordThresholds_leads (c v : Nat) (l : List Threshold) (w : Works) :
    Works.Leads [] w (each l (Works.recordThreshold c v) w) :=
  each_leads _ _ _ (fun t w => Works.recordThreshold_leads c v t w) .refl

/-- Each threshold of the list has its record, if its settled state changed. -/
theorem Works.recordThresholds_records {c v : Nat} {l : List Threshold} {t : Threshold} (ht : t ∈ l)
    (hj : t.role.journalled = true) (hs : t.state.settled ≠ (t.next v).settled) (w : Works) :
    (each l (Works.recordThreshold c v) w).recorded .threshold c (some t.state.settled.code)
      (some (t.next v).settled.code) [t.role.code, v] false := by
  induction l generalizing w with
  | nil => simp at ht
  | cons u l ih =>
    have hcons : each (u :: l) (Works.recordThreshold c v) w =
        each l (Works.recordThreshold c v) (w.recordThreshold c v u) := rfl
    rw [hcons]
    rcases List.mem_cons.mp ht with rfl | ht
    · refine (Works.recordThresholds_leads c v l _).recorded (by decide) ?_
      simp only [Works.recordThreshold, hj, hs, decide_false, Bool.not_false, Bool.and_self, if_true]
      exact Works.recorded_record _ _ _ _ _ _ _
    · exact ih ht _

theorem Works.advanced_leads (c v : Nat) (x : Channel) (w : Works) :
    Works.Leads [.water, .channels] w (w.advanced c v x) :=
  each_leads _ _ _ (fun t w => Works.recordThreshold_leads c v t w)
    (Works.updChannel_leads _ _ _ (by decide) (Works.taken_leads c v x w))

theorem Works.advanced_water (c v : Nat) (x : Channel) (w : Works) :
    (w.advanced c v x).water = ((w.taken c v x).updChannel c (Channel.advance v)).water :=
  (Works.recordThresholds_leads c v x.thresholds _).water_eq (by decide)

theorem Works.advanced_self {w : Works} {c v : Nat} {x : Channel} (hx : w.water.channels[c]? = some x) :
    (w.advanced c v x).water.channels[c]? =
      some { x.advance v with value := v, lastSample := some w.now, validity := x.validityAt v } := by
  rw [Works.advanced_water]
  exact Works.updChannel_self (Works.taken_self hx)

/-! ### Rise detection (R7) -/

/-- The baseline of a channel's rise detector after a VALID sample. -/
def Channel.riseAfter (v now : Nat) (x : Channel) : Channel := { x with rise := x.rise.map (Rise.after v now) }

theorem Channel.rises_of_baseline {x : Channel} {r : Rise} {b t v : Nat} (hr : x.rise = some r)
    (hb : r.baseline = some (b, t)) : x.rises v = decide (b + r.delta ≤ v) := by
  simp [Channel.rises, hr, hb]

theorem Channel.rises_of_noBaseline {x : Channel} {r : Rise} {v : Nat} (hr : x.rise = some r) (hb : r.baseline = none) :
    x.rises v = false := by
  simp [Channel.rises, hr, hb]

theorem Works.riseSample_of_quiet {w : Works} {c v : Nat} {x : Channel} (hx : w.water.channels[c]? = some x)
    (h : x.rises v = false) : w.riseSample c v = w.updChannel c (Channel.riseAfter v w.now) := by
  simp [Works.riseSample, hx, h]
  rfl

theorem Works.riseSample_of_rise {w : Works} {c v b t : Nat} {x : Channel} {r : Rise} (hx : w.water.channels[c]? = some x)
    (hr : x.rise = some r) (hb : r.baseline = some (b, t)) (hv : b + r.delta ≤ v) :
    w.riseSample c v = (w.updChannel c (Channel.riseAfter v w.now)).record .rise c none none [b, v, w.now - t] false := by
  have h : x.rises v = true := by simp [Channel.rises_of_baseline hr hb, hv]
  simp [Works.riseSample, hx, h, hr, hb]
  rfl

theorem Works.riseSample_water {w : Works} {c v : Nat} {x : Channel} (hx : w.water.channels[c]? = some x) :
    (w.riseSample c v).water = (w.updChannel c (Channel.riseAfter v w.now)).water := by
  cases h : x.rises v with
  | false => rw [Works.riseSample_of_quiet hx h]
  | true =>
    obtain ⟨r, hr⟩ : ∃ r, x.rise = some r := by
      cases hr : x.rise with
      | none => simp [Channel.rises, hr] at h
      | some r => exact ⟨r, rfl⟩
    obtain ⟨⟨b, t⟩, hb⟩ : ∃ p, r.baseline = some p := by
      cases hb : r.baseline with
      | none => simp [Channel.rises_of_noBaseline hr hb] at h
      | some p => exact ⟨p, rfl⟩
    rw [Works.riseSample_of_rise hx hr hb (by simpa [Channel.rises_of_baseline hr hb] using h), Works.record_water]

/-! ### Partners (R9) -/

theorem lt_absDiff {tol a b : Nat} : tol < absDiff a b ↔ a + tol < b ∨ b + tol < a := by
  unfold absDiff
  split <;> omega

@[simp] theorem Works.setDisagree_stage (c p : Nat) (b : Bool) (w : Works) :
    (w.setDisagree c p b).water.stage = w.water.stage := rfl

theorem Works.setDisagree_self {w : Works} {c : Nat} {x : Channel} (p : Nat) (b : Bool)
    (hx : w.water.channels[c]? = some x) :
    (w.setDisagree c p b).water.channels[c]? = some { x with disagree := b } := by
  have h := Works.updChannel_self (f := fun x => { x with disagree := b }) hx
  unfold Works.setDisagree
  by_cases hp : c = p
  · subst hp
    exact (Works.updChannel_self h).trans rfl
  · rw [Works.updChannel_other hp]
    exact h

theorem Works.setDisagree_partner {w : Works} {c p : Nat} {y : Channel} (b : Bool) (hp : p ≠ c)
    (hy : w.water.channels[p]? = some y) :
    (w.setDisagree c p b).water.channels[p]? = some { y with disagree := b } :=
  Works.updChannel_self ((Works.updChannel_other hp).trans hy)

section Partners

variable {w : Works} {c p tol : Nat} {x y : Channel}

theorem Works.comparePartner_of_invalid (hx : w.water.channels[c]? = some x) (hp : x.partner = some (p, tol))
    (hy : w.water.channels[p]? = some y) (hv : y.validity ≠ .valid) : w.comparePartner c = w := by
  simp [Works.comparePartner, hx, hp, hy, hv]

/-- The flag stands as the comparison gives it already. -/
theorem Works.comparePartner_of_same (hx : w.water.channels[c]? = some x) (hp : x.partner = some (p, tol))
    (hy : w.water.channels[p]? = some y) (hd : x.disagree = decide (tol < absDiff x.value y.value)) :
    w.comparePartner c = w := by
  simp [Works.comparePartner, hx, hp, hy, hd]

theorem Works.comparePartner_of_differ (hx : w.water.channels[c]? = some x) (hp : x.partner = some (p, tol))
    (hy : w.water.channels[p]? = some y) (hv : y.validity = .valid) (hd : x.disagree = false)
    (h : tol < absDiff x.value y.value) :
    w.comparePartner c = (w.setDisagree c p true).record .sensorDisagree (min c p) none none
      [max c p, if c ≤ p then x.value else y.value, if c ≤ p then y.value else x.value] true := by
  simp [Works.comparePartner, hx, hp, hy, hv, hd, h]

theorem Works.comparePartner_of_agree (hx : w.water.channels[c]? = some x) (hp : x.partner = some (p, tol))
    (hy : w.water.channels[p]? = some y) (hv : y.validity = .valid) (hd : x.disagree = true)
    (h : ¬ tol < absDiff x.value y.value) :
    w.comparePartner c = (w.setDisagree c p false).record .sensorAgree (min c p) none none [max c p] false := by
  simp [Works.comparePartner, hx, hp, hy, hv, hd, h]

/-- After a comparison with a VALID partner the flag is what the comparison gives. -/
theorem Works.comparePartner_self (hx : w.water.channels[c]? = some x) (hp : x.partner = some (p, tol))
    (hy : w.water.channels[p]? = some y) (hv : y.validity = .valid) :
    (w.comparePartner c).water.channels[c]? = some { x with disagree := decide (tol < absDiff x.value y.value) } := by
  by_cases h : tol < absDiff x.value y.value <;> cases hd : x.disagree
  · rw [Works.comparePartner_of_differ hx hp hy hv hd h, Works.record_water, Works.setDisagree_self p true hx]
    simp [h]
  · rw [Works.comparePartner_of_same hx hp hy (by simp [hd, h]), hx]
    simp [h, ← hd]
  · rw [Works.comparePartner_of_same hx hp hy (by simp [hd, h]), hx]
    simp [h, ← hd]
  · rw [Works.comparePartner_of_agree hx hp hy hv hd h, Works.record_water, Works.setDisagree_self p false hx]
    simp [h]

/-- What a comparison can do: nothing, or the flag of both partners and one record. -/
theorem Works.comparePartner_cases (c : Nat) (w : Works) :
    w.comparePartner c = w ∨ ∃ p b i, w.comparePartner c = (w.setDisagree c p b).send i := by
  unfold Works.comparePartner
  split
  · exact .inl rfl
  · split
    · exact .inl rfl
    · split
      · exact .inl rfl
      · split
        · exact .inl rfl
        · dsimp only
          split
          · exact .inr ⟨_, true, _, rfl⟩
          · split
            · exact .inr ⟨_, false, _, rfl⟩
            · exact .inl rfl

/-- A comparison changes nothing of the channel but the flag. -/
theorem Works.comparePartner_flag (hx : w.water.channels[c]? = some x) :
    ∃ b, (w.comparePartner c).water.channels[c]? = some { x with disagree := b } := by
  obtain h | ⟨p, b, i, h⟩ := Works.comparePartner_cases c w
  · exact ⟨x.disagree, by rw [h]; exact hx⟩
  · exact ⟨b, by rw [h]; exact Works.setDisagree_self p b hx⟩

end Partners

/-! ### The whole sample -/

/-- The hand-on leaves the channel table as it is (Table 1-5). -/
theorem Works.handOn_channels (c : Nat) (old : Channel) (facts : Facts) (rise : Bool) (w : Works) :
    (w.handOn c old facts rise).water.channels = w.water.channels :=
  (Works.handOn_leads (ps := Part.kept.erase .channels) c old facts rise w (by decide) .refl).channels_eq (by decide)

theorem Works.handOn_kept (c : Nat) (old : Channel) (facts : Facts) (rise : Bool) (w : Works) :
    Works.Leads Part.kept w (w.handOn c old facts rise) :=
  Works.handOn_leads c old facts rise w (by decide) .refl

section Sample

variable {w : Works} {c v : Nat} {x : Channel}

/-- What follows the thresholds in a VALID sample takes no notice back. -/
theorem Works.sample_of_advanced (hx : w.water.channels[c]? = some x) (hl : x.low ≤ v) (hh : v ≤ x.high) :
    Works.Leads Part.kept (w.advanced c v x) (w.sample c v) := by
  rw [Works.sample_of_inRange hx hl hh]
  exact Works.handOn_leads _ _ _ _ _ (by decide)
    (Works.comparePartner_leads _ _ (by decide) (Works.riseSample_leads _ _ _ (by decide) .refl))

/-- The channel before the comparison with its partner. -/
theorem Works.riseSample_advanced_self (hx : w.water.channels[c]? = some x) (hl : x.low ≤ v) (hh : v ≤ x.high) :
    ((w.advanced c v x).riseSample c v).water.channels[c]? = some (x.sampled v w.now) := by
  have ha := Works.advanced_self (v := v) hx
  rw [Works.riseSample_water ha, Works.updChannel_self ha, (Works.advanced_leads c v x w).now_eq]
  simp [Channel.riseAfter, Channel.sampled, Channel.advance, Channel.validityAt, hl, hh]

/-- R4 to R7: a VALID sample makes of its channel what `Channel.sampled` says. -/
theorem Works.sample_self (hx : w.water.channels[c]? = some x) (hl : x.low ≤ v) (hh : v ≤ x.high) :
    ∃ b, (w.sample c v).water.channels[c]? = some { x.sampled v w.now with disagree := b } := by
  rw [Works.sample_of_inRange hx hl hh, Works.handOn_channels]
  exact Works.comparePartner_flag (Works.riseSample_advanced_self hx hl hh)

end Sample

theorem Threshold.map_next (l : List Threshold) (v : Nat) :
    l.map (fun t => { t with state := t.next v }) = l.map (fun t => match t.direction with
      | .up => { t with state := upStep t.level t.hysteresis t.qualify t.state v }
      | .down => { t with state := downStep t.level t.hysteresis t.qualify t.state v }) := by
  refine List.map_congr_left fun t _ => ?_
  unfold Threshold.next
  cases t.direction <;> rfl

/-- Settles O19: Table 1-3 row by row, and its use at a VALID sample by the stages of `Works.sample`. -/
theorem upThreshold : Obligations.UpThreshold := by
  refine ⟨fun L H Q v n hQ _ hn hH => ?_, fun L H v hH => ?_, fun w c v x hx hl hh => ?_⟩
  · exact ⟨upStep_below L H v hQ, upStep_rising L H v hn, upStep_above v hQ hH, upStep_falling v hn hH⟩
  · exact ⟨by simpa using upStep_below L H v (Nat.le_refl 1), by simpa using upStep_above v (Nat.le_refl 1) hH⟩
  · obtain ⟨b, hb⟩ := Works.sample_self hx hl hh
    exact ⟨_, hb, rfl, rfl, rfl, Threshold.map_next x.thresholds v⟩

/-- Settles O20: Table 1-4 row by row, and its use at a VALID sample by the stages of `Works.sample`. -/
theorem downThreshold : Obligations.DownThreshold := by
  refine ⟨fun L H Q v n hQ _ hn => ?_, fun L H v => ?_, fun w c v x hx hl hh => ?_⟩
  · exact ⟨downStep_above L H v hQ, downStep_falling L H v hn, downStep_below L H v hQ, downStep_rising L H v hn⟩
  · exact ⟨by simpa using downStep_above L H v (Nat.le_refl 1), by simpa using downStep_below L H v (Nat.le_refl 1)⟩
  · obtain ⟨b, hb⟩ := Works.sample_self hx hl hh
    refine ⟨_, hb, rfl, fun i t ht hd => ?_⟩
    simp [Channel.sampled, Channel.advance, ht, Threshold.next, hd]

end Sys2Proof.Machine

namespace Sys2Proof.Machine

open Sys2Proof

/-! ## Rise windows, lost channels and partners (R2, R6 to R9) -/

theorem ranOut_iff {t n now : Nat} : ranOut (some t) n now = true ↔ t + 1000 * n ≤ now := by
  simp [ranOut, elapsed]

theorem Works.riseExpiry_of_baseline {w : Works} {c b t : Nat} {x : Channel} {r : Rise}
    (hx : w.water.channels[c]? = some x) (hr : x.rise = some r) (hb : r.baseline = some (b, t)) :
    w.riseExpiry c = if t + 1000 * r.window ≤ w.now then
      w.withBaseline c (if x.validity = .valid then some (x.value, w.now) else none) else w := by
  simp [Works.riseExpiry, hx, hr, hb, ranOut_iff, Works.withBaseline_eq]

/-- The channel that the loss of its unit leaves: STALE, without running counts and baseline (R2, R6, R8). -/
def Channel.lost (x : Channel) : Channel := { (Channel.anchor none x).dropCounts with validity := .stale }

theorem ThState.settled_eq (u : ThState) : u.settled = match u with
    | .rising _ => .below
    | .falling _ => .above
    | u => u := by
  cases u <;> rfl

theorem Channel.lost_eq (x : Channel) : x.lost = { x with
    validity := .stale
    rise := x.rise.map (fun r => { r with baseline := none })
    thresholds := x.thresholds.map (fun t => { t with state := match t.state with
      | .rising _ => .below
      | .falling _ => .above
      | u => u }) } := by
  simp only [← ThState.settled_eq]
  rfl

section Loss

variable {w : Works} {c : Nat} {x : Channel}

theorem Works.channelLost_of_stale (hx : w.water.channels[c]? = some x) (hv : x.validity = .stale) :
    w.channelLost c = w := by
  simp [Works.channelLost, hx, hv]

/-- The loss of a channel that is not STALE is handed on. -/
theorem Works.channelLost_of_live (hx : w.water.channels[c]? = some x) (hv : x.validity ≠ .stale) :
    w.channelLost c = (((w.updChannel c (fun x => (Channel.anchor none x).dropCounts)).updChannel c
      (fun x => { x with validity := .stale })).record .channel c (some x.validity.code) (some 3) [x.value] false).handOn c x
        w.facts false := by
  simp [Works.channelLost, hx, hv, Works.recordValidity]
  rfl

/-- The two changes by which a channel is lost. -/
theorem Works.updChannel_lost (hx : w.water.channels[c]? = some x) :
    ((w.updChannel c (fun x => (Channel.anchor none x).dropCounts)).updChannel c
      (fun x => { x with validity := .stale })).water.channels[c]? = some x.lost :=
  (Works.updChannel_self (Works.updChannel_self hx)).trans rfl

theorem Works.channelLost_self (hx : w.water.channels[c]? = some x) (hv : x.validity ≠ .stale) :
    (w.channelLost c).water.channels[c]? = some x.lost := by
  rw [Works.channelLost_of_live hx hv, Works.handOn_channels, Works.record_water, Works.updChannel_lost hx]

theorem Works.channelLost_records (hx : w.water.channels[c]? = some x) (hv : x.validity ≠ .stale) :
    (w.channelLost c).recorded .channel c (some x.validity.code) (some 3) [x.value] false := by
  rw [Works.channelLost_of_live hx hv]
  exact (Works.handOn_kept _ _ _ _ _).recorded (by decide) (Works.recorded_record _ _ _ _ _ _ _)

end Loss

section Samples

variable {w : Works} {c v : Nat} {x : Channel}

theorem Works.sample_self_outOfRange (hx : w.water.channels[c]? = some x) (hv : v < x.low ∨ x.high < v) :
    (w.sample c v).water.channels[c]? =
      some { x with value := v, lastSample := some w.now, validity := .outOfRange } := by
  have hr : ¬ (x.low ≤ v ∧ v ≤ x.high) := by omega
  rw [Works.sample_of_outOfRange hx hv, Works.handOn_channels, Works.taken_self hx, Channel.validityAt, if_neg hr]

theorem Works.sample_records_outOfRange (hx : w.water.channels[c]? = some x) (hv : v < x.low ∨ x.high < v)
    (h : x.validity ≠ .outOfRange) : (w.sample c v).recorded .channel c (some x.validity.code) (some 2) [v] false := by
  have hr : x.validityAt v = .outOfRange := if_neg (by omega)
  have ht := Works.taken_records (w := w) (c := c) (x := x) (v := v) (by rw [hr]; exact h)
  rw [Works.sample_of_outOfRange hx hv]
  rw [hr] at ht
  exact (Works.handOn_kept _ _ _ _ _).recorded (by decide) ht

/-- R6: a change of settled state of a threshold of the journalled roles is recorded. -/
theorem Works.sample_records_threshold {t : Threshold} (hx : w.water.channels[c]? = some x) (hl : x.low ≤ v)
    (hh : v ≤ x.high) (ht : t ∈ x.thresholds) (hj : t.role.journalled = true)
    (hs : t.state.settled ≠ (t.next v).settled) :
    (w.sample c v).recorded .threshold c (some t.state.settled.code) (some (t.next v).settled.code) [t.role.code, v]
      false :=
  (Works.sample_of_advanced hx hl hh).recorded (by decide) (Works.recordThresholds_records ht hj hs _)

theorem Role.journalled_iff (r : Role) :
    r.journalled = true ↔ r = .watch ∨ r = .close ∨ r = .reopen ∨ r = .high := by
  cases r <;> simp [Role.journalled]

theorem ThState.settled_below {u : ThState} (h : u = .below ∨ ∃ k, u = .rising k) : u.settled = .below := by
  obtain rfl | ⟨k, rfl⟩ := h <;> rfl

theorem ThState.settled_above {u : ThState} (h : u = .above ∨ ∃ k, u = .falling k) : u.settled = .above := by
  obtain rfl | ⟨k, rfl⟩ := h <;> rfl

/-- The RISE record of a VALID sample at or above baseline and delta (R7). -/
theorem Works.sample_records_rise {b t : Nat} {r : Rise} (hx : w.water.channels[c]? = some x) (hl : x.low ≤ v)
    (hh : v ≤ x.high) (hr : x.rise = some r) (hb : r.baseline = some (b, t)) (hv : b + r.delta ≤ v) :
    (w.sample c v).recorded .rise c none none [b, v, w.now - t] false := by
  have ha := Works.advanced_self (v := v) hx
  have hrec : ((w.advanced c v x).riseSample c v).recorded .rise c none none [b, v, w.now - t] false := by
    rw [Works.riseSample_of_rise ha (by exact hr) hb hv, (Works.advanced_leads c v x w).now_eq]
    exact Works.recorded_record _ _ _ _ _ _ _
  rw [Works.sample_of_inRange hx hl hh]
  exact (Works.handOn_leads (ps := Part.kept) _ _ _ _ _ (by decide)
    (Works.comparePartner_leads _ _ (by decide) .refl)).recorded (by decide) hrec

theorem Works.advanced_other {p : Nat} (hp : p ≠ c) :
    (w.advanced c v x).water.channels[p]? = w.water.channels[p]? := by
  rw [Works.advanced_water, Works.updChannel_other hp, Works.taken, Works.recordValidity_water, Works.updChannel_other hp]

/-- R9: after a VALID sample of a channel with a VALID partner the flag is what the comparison gives. -/
theorem Works.sample_disagree {p tol : Nat} {y : Channel} (hx : w.water.channels[c]? = some x) (hl : x.low ≤ v)
    (hh : v ≤ x.high) (hq : x.partner = some (p, tol)) (hy : w.water.channels[p]? = some y) (hp : p ≠ c)
    (hv : y.validity = .valid) :
    (w.sample c v).water.channels[c]? =
      some { x.sampled v w.now with disagree := decide (tol < absDiff v y.value) } := by
  have hs := Works.riseSample_advanced_self hx hl hh
  have hy' : ((w.advanced c v x).riseSample c v).water.channels[p]? = some y := by
    rw [Works.riseSample_water (Works.advanced_self hx), Works.updChannel_other hp, Works.advanced_other hp, hy]
  rw [Works.sample_of_inRange hx hl hh, Works.handOn_channels]
  exact Works.comparePartner_self hs hq hy' hv

end Samples

section Baseline

variable {r : Rise} {b t v : Nat} (now : Nat)

theorem Rise.after_of_absent (hb : r.baseline = none) : r.after v now = { r with baseline := some (v, now) } := by
  simp [Rise.after, hb]

theorem Rise.after_of_moved (hb : r.baseline = some (b, t)) (h : b + r.delta ≤ v ∨ v < b) :
    r.after v now = { r with baseline := some (v, now) } := by
  simp [Rise.after, hb, h]

theorem Rise.after_of_kept (hb : r.baseline = some (b, t)) (h : ¬ (b + r.delta ≤ v ∨ v < b)) : r.after v now = r := by
  simp [Rise.after, hb, h]

end Baseline

/-- R7, clause by clause: the baseline after a VALID sample and the RISE record. -/
theorem Works.sample_rise {w : Works} {c v : Nat} {x : Channel} {r : Rise} (hx : w.water.channels[c]? = some x)
    (hl : x.low ≤ v) (hh : v ≤ x.high) (hr : x.rise = some r) :
    ∃ y, (w.sample c v).water.channels[c]? = some y ∧
      (r.baseline = none → y.rise = some { r with baseline := some (v, w.now) } ∧ (w.riseSample c v).notices = w.notices) ∧
      ∀ b t, r.baseline = some (b, t) →
        (b + r.delta ≤ v → y.rise = some { r with baseline := some (v, w.now) } ∧
          (w.sample c v).recorded .rise c none none [b, v, w.now - t] false) ∧
        (v < b → y.rise = some { r with baseline := some (v, w.now) } ∧ (w.riseSample c v).notices = w.notices) ∧
        (b ≤ v → v < b + r.delta → y.rise = some r ∧ (w.riseSample c v).notices = w.notices) := by
  obtain ⟨d, hy⟩ := Works.sample_self hx hl hh
  have hrise {s : Rise} (h : r.after v w.now = s) : (x.sampled v w.now).rise = some s := by
    simp [Channel.sampled, hr, h]
  have hquiet (h : x.rises v = false) : (w.riseSample c v).notices = w.notices := by
    rw [Works.riseSample_of_quiet hx h, Works.updChannel_notices]
  refine ⟨_, hy, fun hb => ?_, fun b t hb => ⟨fun hv => ?_, fun hv => ?_, fun hv hv' => ?_⟩⟩
  · exact ⟨hrise (Rise.after_of_absent _ hb), hquiet (Channel.rises_of_noBaseline hr hb)⟩
  · exact ⟨hrise (Rise.after_of_moved _ hb (.inl hv)), Works.sample_records_rise hx hl hh hr hb hv⟩
  · refine ⟨hrise (Rise.after_of_moved _ hb (.inr hv)), hquiet ?_⟩
    rw [Channel.rises_of_baseline hr hb, decide_eq_false_iff_not]
    omega
  · refine ⟨hrise (Rise.after_of_kept _ hb (by omega)), hquiet ?_⟩
    rw [Channel.rises_of_baseline hr hb, decide_eq_false_iff_not]
    omega

/-- R6, the THRESHOLD records by old and new state. -/
theorem Works.sample_thresholdEvents {w : Works} {c v : Nat} {x : Channel} {t : Threshold}
    (hx : w.water.channels[c]? = some x) (hl : x.low ≤ v) (hh : v ≤ x.high) (ht : t ∈ x.thresholds)
    (hj : t.role.journalled = true) :
    ((t.state = .below ∨ ∃ k, t.state = .rising k) → t.next v = .above →
      (w.sample c v).recorded .threshold c (some 0) (some 2) [t.role.code, v] false) ∧
    ((t.state = .above ∨ ∃ k, t.state = .falling k) → t.next v = .below →
      (w.sample c v).recorded .threshold c (some 2) (some 0) [t.role.code, v] false) := by
  have hrec := Works.sample_records_threshold hx hl hh ht hj
  refine ⟨fun ho hn => ?_, fun ho hn => ?_⟩
  · rw [ThState.settled_below ho, hn] at hrec
    exact hrec (by decide)
  · rw [ThState.settled_above ho, hn] at hrec
    exact hrec (by decide)

/-- R9, the comparison of partners with its flags and records; `lo` and `hi` are the two indexes in order. -/
theorem Works.comparePartner_spec {w : Works} {c p tol lo hi a b : Nat} {x y : Channel}
    (hx : w.water.channels[c]? = some x) (hq : x.partner = some (p, tol)) (hy : w.water.channels[p]? = some y) (hp : p ≠ c)
    (hcp : c < p → lo = c ∧ hi = p ∧ a = x.value ∧ b = y.value)
    (hpc : p < c → lo = p ∧ hi = c ∧ a = y.value ∧ b = x.value) :
    (y.validity ≠ .valid → w.comparePartner c = w) ∧
    (y.validity = .valid → (x.value + tol < y.value ∨ y.value + tol < x.value) → x.disagree = true →
      w.comparePartner c = w) ∧
    (y.validity = .valid → (x.value + tol < y.value ∨ y.value + tol < x.value) → x.disagree = false →
      (w.comparePartner c).water.channels[c]? = some { x with disagree := true } ∧
      (w.comparePartner c).water.channels[p]? = some { y with disagree := true } ∧
      (w.comparePartner c).recorded .sensorDisagree lo none none [hi, a, b] true) ∧
    (y.validity = .valid → x.value ≤ y.value + tol → y.value ≤ x.value + tol → x.disagree = false →
      w.comparePartner c = w) ∧
    (y.validity = .valid → x.value ≤ y.value + tol → y.value ≤ x.value + tol → x.disagree = true →
      (w.comparePartner c).water.channels[c]? = some { x with disagree := false } ∧
      (w.comparePartner c).water.channels[p]? = some { y with disagree := false } ∧
      (w.comparePartner c).recorded .sensorAgree lo none none [hi] false) := by
  have hord : lo = min c p ∧ hi = max c p ∧ a = (if c ≤ p then x.value else y.value) ∧
      b = if c ≤ p then y.value else x.value := by
    obtain h | h := Nat.lt_or_gt_of_ne hp
    · obtain ⟨rfl, rfl, rfl, rfl⟩ := hpc h
      exact ⟨by omega, by omega, (if_neg (by omega)).symm, (if_neg (by omega)).symm⟩
    · obtain ⟨rfl, rfl, rfl, rfl⟩ := hcp h
      exact ⟨by omega, by omega, (if_pos (by omega)).symm, (if_pos (by omega)).symm⟩
  obtain ⟨rfl, rfl, rfl, rfl⟩ := hord
  refine ⟨Works.comparePartner_of_invalid hx hq hy, fun _ h hd => ?_, fun hv h hd => ?_, fun _ h h' hd => ?_,
    fun hv h h' hd => ?_⟩
  · exact Works.comparePartner_of_same hx hq hy (by simp [hd, lt_absDiff, h])
  · rw [Works.comparePartner_of_differ hx hq hy hv hd (lt_absDiff.mpr h)]
    exact ⟨Works.setDisagree_self p true hx, Works.setDisagree_partner true hp hy, Works.recorded_record _ _ _ _ _ _ _⟩
  · refine Works.comparePartner_of_same hx hq hy ?_
    rw [hd, eq_comm, decide_eq_false_iff_not, lt_absDiff]
    omega
  · have hn : ¬ tol < absDiff x.value y.value := by rw [lt_absDiff]; omega
    rw [Works.comparePartner_of_agree hx hq hy hv hd hn]
    exact ⟨Works.setDisagree_self p false hx, Works.setDisagree_partner false hp hy, Works.recorded_record _ _ _ _ _ _ _⟩

/-- RISE_WINDOW_EXPIRY is an event of the works alone. -/
theorem exec_riseWindowExpiry (c : Nat) (s : State) :
    exec (.riseWindowExpiry c) s = .next { s with works := s.works.riseExpiry c } := rfl

/-- Settles O21: the window's end by `Works.riseExpiry`, the clauses on samples by the stages of `Works.sample`, the lost channel
by `Channel.lost`, and R9 by the two cases of the comparison. -/
theorem riseWindowExpiry : Obligations.RiseWindowExpiry := by
  refine ⟨fun c b t x r s hx hr hb hw => ?_, fun c b t x r s hx hr hb hw => ?_, fun w c v x hx hv => ⟨?_, ?_⟩,
    fun w c x hx => ⟨?_, fun hv => ⟨?_, ?_⟩⟩, fun w c v x t n hx hl hh ht hrole hn => ?_,
    fun w c v x r hx hl hh hr => ?_, fun w c p tol lo hi a b x y hx hq hy hp hcp hpc => ?_,
    fun w c v p tol x y hx hl hh hq hy hp hv => ?_⟩
  · rw [exec_riseWindowExpiry, Works.riseExpiry_of_baseline hx hr hb, if_pos hw]
    rfl
  · rw [exec_riseWindowExpiry, Works.riseExpiry_of_baseline hx hr hb, if_neg (by omega)]
  · exact ⟨_, Works.sample_self_outOfRange hx hv, rfl, rfl, rfl, rfl, rfl, rfl⟩
  · exact Works.sample_records_outOfRange hx hv
  · exact Works.channelLost_of_stale hx
  · exact (Works.channelLost_self hx hv).trans (congrArg some (Channel.lost_eq x))
  · exact Works.channelLost_records hx hv
  · subst hn
    exact Works.sample_thresholdEvents hx hl hh ht ((Role.journalled_iff _).mpr hrole)
  · exact Works.sample_rise hx hl hh hr
  · exact Works.comparePartner_spec hx hq hy hp hcp hpc
  · exact ⟨_, Works.sample_disagree hx hl hh hq hy hp hv, by simp [lt_absDiff]⟩

end Sys2Proof.Machine

namespace Sys2Proof.Machine

open Sys2Proof

/-! # What the jobs leave of water watch

A change of stage is handed to dewatering, the portals and lighting within its own step (R13). They may turn the portal views and
complete orders of their own; the rest of water watch's records, and its own ACTIVE orders, stand. -/

/-- The records that an operation of another job may change besides the portal views and the ACTIVE orders. -/
def Part.elsewhere : List Part := [.dewater, .portals, .lights, .claims, .reports, .fresh, .budget, .line]

/-- `w` comes from `w0` by operations that leave of water watch all but the portal views, and take an ACTIVE order away only as
they complete an order of another owner in the same slot. -/
structure Works.Spares (w0 w : Works) : Prop where
  channels : w.water.channels = w0.water.channels
  governing : w.water.governing = w0.water.governing
  stage : ∃ n s, w.water.stage = { w0.water.stage with north := n, south := s }
  active : w.active ⊆ w0.active
  kept : ∀ a ∈ w0.active, a ∈ w.active ∨ ∃ b ∈ w0.active, b.slot = a.slot ∧ b.code.owner ≠ .waterWatch

section Spares

variable {w0 w v : Works}

theorem Works.Spares.refl (w : Works) : Works.Spares w w :=
  ⟨rfl, rfl, ⟨w.water.stage.north, w.water.stage.south, rfl⟩, List.Subset.refl _, fun _ ha => .inl ha⟩

/-- An operation that touches neither water watch nor the ACTIVE orders. -/
theorem Works.Spares.leads (h : Works.Spares w0 w) (hl : Works.Leads Part.elsewhere w v) : Works.Spares w0 v := by
  have hw : v.water = w.water := hl.water_eq (by decide)
  have ha : v.active = w.active := hl.active_eq (by decide)
  refine ⟨?_, ?_, ?_, ?_, ?_⟩
  · rw [hw]; exact h.channels
  · rw [hw]; exact h.governing
  · rw [hw]; exact h.stage
  · rw [ha]; exact h.active
  · rw [ha]; exact h.kept

theorem Works.Spares.view (h : Works.Spares w0 w) (n : Nat) (x : View) : Works.Spares w0 (w.setView n x) := by
  obtain ⟨a, b, hs⟩ := h.stage
  refine ⟨h.channels, h.governing, ?_, h.active, h.kept⟩
  unfold Works.setView
  rw [hs]
  split
  · exact ⟨x, b, rfl⟩
  · exact ⟨a, x, rfl⟩

theorem Works.mem_complete {a : Active} {slot st d d2 : Nat} {r : List Nat} :
    a ∈ (w.complete slot st d d2 r).active ↔ a ∈ w.active ∧ a.slot ≠ slot := by
  simp [Works.complete, Works.send]

/-- The completion of an order of another owner. -/
theorem Works.Spares.complete (h : Works.Spares w0 w) {b : Active} (hb : b ∈ w0.active) (ho : b.code.owner ≠ .waterWatch)
    (st d d2 : Nat) (r : List Nat) : Works.Spares w0 (w.complete b.slot st d d2 r) := by
  refine ⟨h.channels, h.governing, h.stage, fun a ha => h.active (Works.mem_complete.mp ha).1, fun a ha => ?_⟩
  by_cases hs : b.slot = a.slot
  · exact .inr ⟨b, hb, hs, ho⟩
  · exact (h.kept a ha).imp_left fun hw => Works.mem_complete.mpr ⟨hw, fun e => hs e.symm⟩

theorem Works.Spares.completeAll {p : Active → Bool} {f : Active → Works → Works} (h : Works.Spares w0 w)
    (hf : ∀ a ∈ w0.active, p a = true → ∀ v, Works.Spares w0 v → Works.Spares w0 (f a v)) :
    Works.Spares w0 (w.completeAll p f) :=
  each_induction h fun a ha v hv => hf a (h.active (List.mem_of_mem_filter ha)) (List.mem_filter.mp ha).2 v hv

/-! ## Dewatering -/

theorem Works.judgePumpOrders_spares (i : Nat) (h : Works.Spares w0 w) : Works.Spares w0 (w.judgePumpOrders i) := by
  unfold Works.judgePumpOrders
  split
  · exact h
  · refine h.completeAll fun a ha _ v hv => ?_
    split
    case h_8 => exact hv
    all_goals exact hv.complete ha (by simp_all [OrderCode.owner]) _ _ _ _

theorem Works.movePump_spares (i : Nat) (f : Pump → Pump) (h : Works.Spares w0 w) : Works.Spares w0 (w.movePump i f) := by
  unfold Works.movePump
  split
  · exact h
  · refine Works.judgePumpOrders_spares i (h.leads (Works.recount_leads _ _ (by decide) ?_))
    have hu (g : Pump → Pump) : Works.Leads Part.elsewhere w (w.updPump i g) := Works.updPump_leads _ _ _ (by decide) .refl
    exact ite_leads (Works.record_leads _ _ _ _ _ _ _ (ite_leads (hu _) (Works.record_leads _ _ _ _ _ _ _ (hu _))))
      (ite_leads (hu _) (Works.record_leads _ _ _ _ _ _ _ (hu _)))

theorem Works.waitShed_spares (i : Nat) (h : Works.Spares w0 w) : Works.Spares w0 (w.waitShed i) :=
  (Works.movePump_spares i _ (h.leads (Works.dropPumpGrant_leads _ _ (by decide) .refl))).leads
    (Works.requestPump_leads _ _ .refl)

theorem Works.dropThenMove_spares (i : Nat) (f : Pump → Pump) (h : Works.Spares w0 w) :
    Works.Spares w0 ((w.dropPumpGrant i).movePump i f) :=
  Works.movePump_spares i f (h.leads (Works.dropPumpGrant_leads _ _ (by decide) .refl))

theorem Works.abandonedUnexecuted_spares (i : Nat) (h : Works.Spares w0 w) : Works.Spares w0 (w.abandonedUnexecuted i) := by
  unfold Works.abandonedUnexecuted
  split
  · exact h
  · split
    · exact h
    · have hu (g : Pump → Pump) : Works.Spares w0 (w.updPump i g) := h.leads (Works.updPump_leads _ _ _ (by decide) .refl)
      dsimp only
      split
      · split
        · exact Works.waitShed_spares i (hu _)
        · exact Works.dropThenMove_spares i _ (hu _)
        · exact (Works.dropThenMove_spares i _ (hu _)).leads (Works.advanceLead_leads _ _ (by decide) .refl)
      · split
        · exact (hu _).leads (Works.requestPump_leads _ _ (Works.send_leads _ _ .refl))
        · exact hu _
      · exact hu _

theorem Works.abandonStart_spares (i : Nat) (h : Works.Spares w0 w) : Works.Spares w0 (w.abandonStart i) := by
  unfold Works.abandonStart
  split
  · exact h
  · have hg (g : Pump → Pump) : Works.Spares w0 ((w.updPump i g).giveUp (.pumpStart i) .abandoned) :=
      h.leads (Works.giveUp_leads _ _ _ (by decide) (Works.updPump_leads _ _ _ (by decide) .refl))
    dsimp only
    split
    · exact Works.abandonedUnexecuted_spares i (hg _)
    · exact hg _

theorem Works.dismiss_spares (i : Nat) (h : Works.Spares w0 w) : Works.Spares w0 (w.dismiss i) := by
  unfold Works.dismiss
  split
  · exact h
  · have hl : Works.Spares w0 (w.leaveList i) := h.leads (Works.leaveList_leads _ _ (by decide) .refl)
    dsimp only
    split
    · split
      · exact Works.abandonStart_spares i (Works.movePump_spares i _ hl)
      · split
        · exact Works.movePump_spares i _ hl
        · exact Works.dropThenMove_spares i _ hl
    · exact (Works.movePump_spares i _ hl).leads (Works.haltPump_leads _ _ (by decide) .refl)
    · exact (Works.movePump_spares i _ hl).leads (Works.haltPump_leads _ _ (by decide) .refl)
    · exact hl.leads (Works.updPump_leads _ _ _ (by decide) .refl)
    · exact hl

theorem Works.callPump_spares (i : Nat) (h : Works.Spares w0 w) : Works.Spares w0 (w.callPump i) :=
  (Works.movePump_spares i _ (h.leads (Works.joinList_leads _ _ (by decide) .refl))).leads
    (Works.requestPump_leads _ _ .refl)

theorem Works.serveOnce_spares {si : Nat} (e : w.serveOnce si = some v) (h : Works.Spares w0 w) : Works.Spares w0 v := by
  unfold Works.serveOnce at e
  split at e
  · cases e
  · dsimp only at e
    split at e
    · cases e
      exact Works.dismiss_spares _ h
    · split at e
      · split at e
        · cases e
          exact Works.callPump_spares _ h
        · split at e
          · cases e
            exact Works.callPump_spares _ (Works.dismiss_spares _ h)
          · cases e
      · cases e

theorem Works.callForDemand_spares {si : Nat} (e : w.callForDemand si = some v) (h : Works.Spares w0 w) :
    Works.Spares w0 v := by
  unfold Works.callForDemand at e
  split at e
  · cases e
  · split at e
    · obtain ⟨i, -, rfl⟩ := Option.map_eq_some_iff.mp e
      exact Works.callPump_spares i h
    · cases e

theorem serveLoop_spares (si k : Nat) (h : Works.Spares w0 w) : Works.Spares w0 (serveLoop si k w) := by
  induction k generalizing w with
  | zero => exact h
  | succ k ih =>
    unfold serveLoop
    split
    · next e => exact ih (Works.serveOnce_spares e h)
    · split
      · next e => exact ih (Works.callForDemand_spares e h)
      · exact h

theorem Works.serve_spares (si : Nat) (h : Works.Spares w0 w) : Works.Spares w0 (w.serve si) := by
  unfold Works.serve
  split
  · exact serveLoop_spares si 64 h
  · exact h

theorem Works.dutyFromStage_spares (h : Works.Spares w0 w) : Works.Spares w0 w.dutyFromStage := by
  unfold Works.dutyFromStage
  extract_lets storm
  refine each_induction h fun si _ v hv => ?_
  split
  · exact hv
  · split
    · exact hv
    · exact Works.serve_spares si
        (hv.leads (Works.refigure_leads _ _ (by decide) (Works.updSump_leads _ _ _ (by decide) .refl)))

/-! ## Lighting -/

theorem Works.judgeZoneSet_spares (z : Nat) (h : Works.Spares w0 w) : Works.Spares w0 (w.judgeZoneSet z) := by
  unfold Works.judgeZoneSet
  split
  · exact h
  · refine h.completeAll fun a ha hz v hv => ?_
    have ho : a.code.owner ≠ .waterWatch := by
      rw [Bool.and_eq_true, decide_eq_true_eq] at hz
      rw [hz.1]
      decide
    split
    · exact hv.complete ha ho _ _ _ _
    · split
      · exact hv.complete ha ho _ _ _ _
      · exact hv

theorem Works.retarget_spares (h : Works.Spares w0 w) : Works.Spares w0 w.retarget :=
  each_induction (h.leads (Works.followCircuits_leads _ _ (by decide) (Works.setTargets_leads _ (by decide) .refl)))
    fun z _ _ hv => Works.judgeZoneSet_spares z hv

theorem Works.judgeModes_spares (h : Works.Spares w0 w) : Works.Spares w0 w.judgeModes :=
  Works.retarget_spares (each_induction h fun z _ _ hv => hv.leads (Works.judgeMode_leads z _ (by decide) .refl))

/-! ## Portals -/

theorem Works.endReopen_spares (n st d d2 : Nat) (r : List Nat) (h : Works.Spares w0 w) :
    Works.Spares w0 (w.endReopen n st d d2 r) := by
  refine h.completeAll fun a ha hr v hv => hv.complete ha ?_ _ _ _ _
  rw [Bool.and_eq_true, decide_eq_true_eq] at hr
  rw [hr.1]
  decide

theorem Works.reportView_spares (n : Nat) (old new : Closure) (b : Bool) (h : Works.Spares w0 w) :
    Works.Spares w0 (w.reportView n old new b) := by
  unfold Works.reportView
  split
  · exact h
  · exact (h.view n new.view).leads (.reports _ _ (by decide) .refl)

theorem Works.changeClosure_spares (n : Nat) (c : Closure) (h : Works.Spares w0 w) :
    Works.Spares w0 (w.changeClosure n c) := by
  unfold Works.changeClosure
  split
  · exact h
  · dsimp only
    refine Works.Spares.leads (w := ite (c = .opened) _ _) ?_
      (Works.closeEpisode_leads _ (by decide) (Works.openEpisode_leads _ _ _ (by decide) .refl))
    have hr (d : List Nat) (g : Portal → Portal) (o : Closure) (b : Bool) : Works.Spares w0
        ((((w.attemptsBefore n c).record .portal n (some o.code) (some c.code) d false).updPortal n g).reportView n o c b) :=
      Works.reportView_spares _ _ _ _ (h.leads (Works.updPortal_leads _ _ _ (by decide)
        (Works.record_leads _ _ _ _ _ _ _ (Works.attemptsBefore_leads _ _ _ (by decide) .refl))))
    split
    · exact Works.endReopen_spares _ _ _ _ _ (hr _ _ _ _)
    · exact hr _ _ _ _

theorem workLoop_spares (n k : Nat) (h : Works.Spares w0 w) : Works.Spares w0 (workLoop n k w) := by
  induction k generalizing w with
  | zero => exact h
  | succ k ih =>
    have hs : Works.Spares w0 (w.workStep n).2 := h.leads (Works.workStep_leads _ _ (by decide) .refl)
    unfold workLoop
    split
    · next e => rwa [e] at hs
    · next e =>
      rw [e] at hs
      exact ih (Works.changeClosure_spares _ _ hs)

theorem Works.enter_spares (n : Nat) (c : Closure) (h : Works.Spares w0 w) : Works.Spares w0 (w.enter n c) :=
  workLoop_spares n 8 (Works.changeClosure_spares n c h)

theorem Works.beginSequence_spares (n : Nat) (h : Works.Spares w0 w) : Works.Spares w0 (w.beginSequence n) := by
  unfold Works.beginSequence
  split
  · exact Works.enter_spares n _ h
  · exact h

theorem Works.portalAlert_spares (n : Nat) (h : Works.Spares w0 w) : Works.Spares w0 (w.portalAlert n) := by
  unfold Works.portalAlert
  dsimp only
  split
  · exact Works.beginSequence_spares n h
  · exact Works.enter_spares n _ (Works.endReopen_spares _ _ _ _ _ (h.leads
      (Works.updPortal_leads _ _ _ (by decide) (Works.stopGate_leads _ _ (by decide) .refl))))
  · exact Works.enter_spares n _ (Works.endReopen_spares _ _ _ _ _ (h.leads
      (Works.updPortal_leads _ _ _ (by decide) (Works.abandonBarrier_leads _ _ _ (by decide) .refl))))
  · exact h

theorem Works.portalReverse_spares (n : Nat) (h : Works.Spares w0 w) : Works.Spares w0 (w.portalReverse n) := by
  have hb : Works.Spares w0 ((w.abandonBarrier n .lower).updGate n (fun g => { g with attempts := 0 })) :=
    h.leads (Works.updGate_leads _ _ _ (by decide) (Works.abandonBarrier_leads _ _ _ (by decide) .refl))
  unfold Works.portalReverse
  dsimp only
  split
  · exact Works.enter_spares n _ h
  · exact Works.enter_spares n _ hb
  · exact Works.enter_spares n _ hb
  · exact Works.enter_spares n _
      (h.leads (Works.updGate_leads _ _ _ (by decide) (Works.stopGate_leads _ _ (by decide) .refl)))
  · exact Works.enter_spares n _ (h.leads (Works.updGate_leads _ _ _ (by decide) .refl))
  · exact h

end Spares

end Sys2Proof.Machine

namespace Sys2Proof.Machine

open Sys2Proof

/-! # Changes of stage (R13), and the orders of water watch (R20 to R23)

## A change of stage by its parts -/

/-- The records that a change of stage may touch. -/
def Part.ofStage : List Part := [.dewater, .portals, .lights, .active, .reports, .water, .budget, .line]

/-- The stage record and the STAGE record of a change, before the jobs are told. -/
def Works.turned (st : Stage) (cause : StageCause) (w : Works) : Works :=
  ((w.setStage { w.water.stage with stage := st, entered := w.now, cause := cause, dwellStart := none }).judgeDwell).record
    .stage 0 (some w.water.stage.stage.code) (some st.code)
    [cause.code, w.depthDetail, w.water.stage.north.code, w.water.stage.south.code] false

/-- The three jobs and the image at a change of stage (R13). -/
def Works.toldJobs (st : Stage) (w : Works) : Works :=
  (if st = .alert then (w.dutyFromStage.portalAlert 0).portalAlert 1 else w.dutyFromStage).judgeModes.wantImage

section Change

variable {w v : Works} {st : Stage} (cause : StageCause)

theorem Works.changeStage_same (h : w.water.stage.stage = st) : w.changeStage st cause = w := if_pos h

theorem Works.changeStage_eq (h : w.water.stage.stage ≠ st) :
    w.changeStage st cause = ((w.turned st cause).toldJobs st).judgeStageOrders := if_neg h

theorem Works.turned_stage : ∃ d, (w.turned st cause).water.stage =
    { w.water.stage with stage := st, entered := w.now, cause := cause, dwellStart := d } := ⟨_, rfl⟩

@[simp] theorem Works.turned_governing : (w.turned st cause).water.governing = w.water.governing := rfl

@[simp] theorem Works.turned_active : (w.turned st cause).active = w.active := rfl

theorem Works.toldJobs_spares (st : Stage) (w : Works) : Works.Spares w (w.toldJobs st) := by
  have hd : Works.Spares w w.dutyFromStage := Works.dutyFromStage_spares (.refl w)
  have hp : Works.Spares w (if st = .alert then (w.dutyFromStage.portalAlert 0).portalAlert 1 else w.dutyFromStage) := by
    split
    · exact Works.portalAlert_spares 1 (Works.portalAlert_spares 0 hd)
    · exact hd
  exact (Works.judgeModes_spares hp).leads (Works.wantImage_leads _ .refl)

theorem Works.toldJobs_leads (st : Stage) (w : Works) : Works.Leads Part.ofStage w (w.toldJobs st) := by
  have hd : Works.Leads Part.ofStage w w.dutyFromStage := Works.dutyFromStage_leads _ (by decide) .refl
  exact Works.wantImage_leads _ (Works.judgeModes_leads _ (by decide) (ite_leads
    (Works.portalAlert_leads _ _ (by decide) (Works.portalAlert_leads _ _ (by decide) hd)) hd))

theorem Works.judgeStageOrders_only (w : Works) : Works.Leads [.active] w w.judgeStageOrders :=
  Works.judgeStageOrders_leads w (by decide) .refl

theorem Works.changeStage_water (h : w.water.stage.stage ≠ st) :
    (w.changeStage st cause).water = ((w.turned st cause).toldJobs st).water := by
  rw [Works.changeStage_eq cause h]
  exact (Works.judgeStageOrders_only _).water_eq (by decide)

/-- The stage record after a change: the portals may have changed their views, the dwell is judged. -/
theorem Works.changeStage_stage (h : w.water.stage.stage ≠ st) : ∃ d n s, (w.changeStage st cause).water.stage =
    { w.water.stage with
      stage := st, entered := w.now, cause := cause, dwellStart := d, north := n, south := s } := by
  obtain ⟨d, hd⟩ := Works.turned_stage (w := w) (st := st) cause
  obtain ⟨n, s, hs⟩ := (Works.toldJobs_spares st (w.turned st cause)).stage
  exact ⟨d, n, s, by rw [Works.changeStage_water cause h, hs, hd]⟩

theorem Works.changeStage_governing : (w.changeStage st cause).water.governing = w.water.governing := by
  by_cases h : w.water.stage.stage = st
  · rw [Works.changeStage_same cause h]
  · rw [Works.changeStage_water cause h, (Works.toldJobs_spares st _).governing, Works.turned_governing]

theorem Works.changeStage_only : Works.Leads Part.ofStage w (w.changeStage st cause) :=
  Works.changeStage_leads st cause w (by decide) .refl

theorem Works.toldJobs_image (st : Stage) (w : Works) : (w.toldJobs st).handed .imageRewriteRequest :=
  Works.handed_send _ _

theorem Works.changeStage_recorded (h : w.water.stage.stage ≠ st) :
    (w.changeStage st cause).recorded .stage 0 (some w.water.stage.stage.code) (some st.code)
      [cause.code, w.depthDetail, w.water.stage.north.code, w.water.stage.south.code] false := by
  rw [Works.changeStage_eq cause h]
  refine (Works.judgeStageOrders_only _).recorded (by decide) ((Works.toldJobs_leads st _).recorded (by decide) ?_)
  exact Works.recorded_record _ _ _ _ _ _ _

/-- R13: a change to another stage. -/
theorem Works.changeStage_turns (h : w.water.stage.stage ≠ st) : w.stageTurns (w.changeStage st cause) st cause := by
  obtain ⟨d, n, s, hs⟩ := Works.changeStage_stage cause h
  refine ⟨by rw [hs], by rw [hs], by rw [hs], Works.changeStage_recorded cause h, ?_⟩
  rw [Works.changeStage_eq cause h]
  exact (Works.judgeStageOrders_only _).handed (by decide) (Works.toldJobs_image st _)

theorem Works.changeStage_suppressed (h : w.water.stage.stage ≠ st) :
    (w.changeStage st cause).water.stage.suppressed = w.water.stage.suppressed := by
  obtain ⟨d, n, s, hs⟩ := Works.changeStage_stage cause h
  rw [hs]

/-- A change of records within the parts of a stage change is one that an event of water watch may make. -/
theorem Works.Leads.keepsStage (h : Works.Leads Part.ofStage w v) : w.keepsStage v :=
  ⟨⟨h.now_eq, h.station_eq, h.channels_eq (by decide), h.handsOn (by decide)⟩, h.claims_eq (by decide),
    h.fresh_eq (by decide)⟩

end Change

/-! ## The ACTIVE orders at a change of stage (R21, R22) -/

section Orders

variable {w : Works}

theorem Works.complete_active_subset (slot st d d2 : Nat) (r : List Nat) :
    (w.complete slot st d d2 r).active ⊆ w.active := fun _ ha => (Works.mem_complete.mp ha).1

theorem Works.judgeStageOrders_subset : w.judgeStageOrders.active ⊆ w.active := by
  have hstep {v : Works} (hv : v.active ⊆ w.active) (k st d d2 : Nat) (r : List Nat) :
      (v.complete k st d d2 r).active ⊆ w.active := fun _ ha => hv (Works.complete_active_subset _ _ _ _ _ ha)
  refine each_induction (P := fun v : Works => v.active ⊆ w.active) (List.Subset.refl _) fun a _ v hv => ?_
  split
  · exact hstep hv ..
  · exact hv
  · exact hstep hv ..
  · exact hstep hv ..
  · exact hv

/-- At the change to ALERT a DECLARE CLOSURE stays ACTIVE. -/
theorem Works.judgeStageOrders_alert {a : Active} (hs : w.water.stage.stage = .alert) (ha : a ∈ w.active)
    (hu : ∀ b ∈ w.active, b.slot = a.slot → b.code = .declareClosure) : a ∈ w.judgeStageOrders.active := by
  unfold Works.judgeStageOrders
  rw [hs]
  refine each_induction (P := fun v : Works => a ∈ v.active) ha fun b hb v hv => ?_
  obtain ⟨hb, hw⟩ := List.mem_filter.mp hb
  by_cases hc : b.code = .declareClosure
  · rw [hc]
    exact hv
  · have hcode : b.code = .standDown := by simpa [hc] using hw
    rw [hcode]
    exact Works.mem_complete.mpr ⟨hv, fun e => hc (hu b hb e.symm)⟩

theorem Works.changeStage_subset (st : Stage) (cause : StageCause) (w : Works) :
    (w.changeStage st cause).active ⊆ w.active := by
  by_cases h : w.water.stage.stage = st
  · rw [Works.changeStage_same cause h]
    exact List.Subset.refl _
  · rw [Works.changeStage_eq cause h]
    have ht := (Works.toldJobs_spares st (w.turned st cause)).active
    rw [Works.turned_active] at ht
    exact fun _ ha => ht (Works.judgeStageOrders_subset ha)

/-- An order whose slot no other ACTIVE order names outlasts what completes only orders of other owners. -/
theorem Works.Spares.mem_of_alone {v : Works} (h : Works.Spares w v) {a : Active} (ha : a ∈ w.active)
    (ho : a.code.owner = .waterWatch) (hu : ∀ b ∈ w.active, b.slot = a.slot → b = a) : a ∈ v.active := by
  refine (h.kept a ha).resolve_right fun ⟨b, hb, hs, hn⟩ => hn ?_
  rw [hu b hb hs, ho]

end Orders

/-! ## DECLARE CLOSURE (R21) -/

section Declare

variable {w : Works} {o : Order}

theorem Works.declareOrder_of_held (h : w.station.state = .held) : w.declareOrder o = o.finish 3 3 0 [] w := by
  simp [Works.declareOrder, h]
  rfl

theorem Works.declareOrder_of_late (hr : w.station.state = .running)
    (hs : w.water.stage.stage = .alert ∨ w.water.stage.stage = .closed ∨ w.water.stage.stage = .draining) :
    w.declareOrder o = o.finish 4 w.water.stage.stage.code 0 [] w := by
  obtain hs | hs | hs := hs <;> simp [Works.declareOrder, hr, hs, Status.refusedStage]

/-- The works as the order becomes ACTIVE, ahead of the change of stage. -/
def Works.declared (o : Order) (w : Works) : Works :=
  (w.setStage { w.water.stage with suppressed := false }).hold (o.active w.now)

theorem Works.declareOrder_of_early (hr : w.station.state = .running)
    (hs : w.water.stage.stage = .dry ∨ w.water.stage.stage = .watch) :
    w.declareOrder o = (w.declared o).changeStage .alert .declareOrder := by
  obtain hs | hs := hs <;> simp [Works.declareOrder, Works.declared, hr, hs]

/-- The new ACTIVE order outlasts its own change to ALERT. -/
theorem Works.declared_active (hs : w.water.stage.stage ≠ .alert) (hc : o.code = .declareClosure)
    (ha : ∀ a ∈ w.active, a.slot ≠ o.slot) :
    o.active w.now ∈ ((w.declared o).changeStage .alert .declareOrder).active := by
  have halone : ∀ b ∈ ((w.declared o).turned .alert .declareOrder).active, b.slot = o.slot → b = o.active w.now := by
    intro b hb he
    rcases List.mem_append.mp hb with hb | hb
    · exact absurd he (ha b hb)
    · exact List.mem_singleton.mp hb
  have hsp := Works.toldJobs_spares .alert ((w.declared o).turned .alert .declareOrder)
  have hmem := hsp.mem_of_alone (a := o.active w.now) (List.mem_append_right _ (List.mem_singleton_self _))
    (by simp [Order.active, hc, OrderCode.owner]) halone
  rw [Works.changeStage_eq _ (show (w.declared o).water.stage.stage ≠ .alert from hs)]
  refine Works.judgeStageOrders_alert ?_ hmem fun b hb he => ?_
  · obtain ⟨n, s, hv⟩ := hsp.stage
    rw [hv]
    rfl
  · rw [halone b (hsp.active hb) he]
    exact hc

end Declare

theorem exec_declareClosure {k : Nat} {o : Order} {s : State} (h : s.orderWaits k o) (hc : o.code = .declareClosure)
    (hs : s.works.takesOrders) : exec (.declareClosure k) s = .next (s.takenUp k (s.works.declareOrder o)) :=
  takeUp_of_waits _ _ k o s h hc hs

/-- Settles O23, by the cases of `Works.declareOrder`. -/
theorem declareClosure : Obligations.DeclareClosure := by
  intro k o s h hc
  refine ⟨fun hst => ?_, fun hr hs => ?_, fun hr hs ha => ?_⟩
  · rw [exec_declareClosure h hc (.inl hst), Works.declareOrder_of_held hst]
  · rw [exec_declareClosure h hc (.inr hr), Works.declareOrder_of_late hr hs]
  · have hne : (s.works.declared o).water.stage.stage ≠ .alert := by
      obtain hs | hs := hs <;> simp [Works.declared, Works.setStage, hs]
    obtain ⟨hstage, hcause, hentered, hrec, -⟩ := Works.changeStage_turns .declareOrder hne
    refine ⟨_, exec_declareClosure h hc (.inr hr), ?_⟩
    rw [Works.declareOrder_of_early hr hs]
    refine ⟨?_, hstage, hcause, hentered, Works.changeStage_suppressed _ hne, Works.declared_active hne hc ha, hrec⟩
    exact (Works.changeStage_leads _ _ _ (by decide)
      (Works.hold_leads _ _ (by decide) (Works.setStage_leads _ _ (by decide) .refl))).keepsStage

/-! ## STAND DOWN (R22) -/

section StandDown

variable {w : Works} {o : Order}

/-- A portal at which a STAND DOWN fails. -/
def View.isLost (v : View) : Bool := decide (v = .stalled) || decide (v = .unknown)

/-- What the order comes to by the portal views that stood before the change of stage. -/
def Works.standDownEnd (o : Order) (north south : View) (w : Works) : Works :=
  if north = .opened ∧ south = .opened then o.finish 0 0 0 [] w
  else if north.isLost then o.finish 10 1 north.code [] w
  else if south.isLost then o.finish 10 2 south.code [] w
  else w.hold (o.active 0)

theorem Works.standDownOrder_of_stage (h : w.water.stage.stage ≠ .alert) :
    w.standDownOrder o = o.finish 4 w.water.stage.stage.code 0 [] w := if_pos h

theorem Works.standDownOrder_of_close (h : w.water.stage.stage = .alert) (hc : w.closeAbove = true) :
    w.standDownOrder o = o.finish 4 2 1 [] w := by
  simp [Works.standDownOrder, h, hc, Status.refusedStage]

theorem Works.standDownOrder_of_alert (h : w.water.stage.stage = .alert) (hc : w.closeAbove = false) :
    w.standDownOrder o = (((w.changeStage .watch .standDown).standDownEnd o w.water.stage.north
      w.water.stage.south).portalReverse 0).portalReverse 1 := by
  unfold Works.standDownOrder
  dsimp only
  rw [if_neg (not_not_intro h), if_neg (by simp [hc])]
  rfl

theorem Works.standDownEnd_leads {ps : List Part} {w0 : Works} (n s : View) (hp : [Part.active] ⊆ ps)
    (h : Works.Leads ps w0 w) : Works.Leads ps w0 (w.standDownEnd o n s) := by
  unfold Works.standDownEnd
  have hf (a b c : Nat) : Works.Leads ps w0 (o.finish a b c [] w) := Order.finish_leads _ _ _ _ _ _ hp h
  exact ite_leads (hf _ _ _) (ite_leads (hf _ _ _) (ite_leads (hf _ _ _) (Works.hold_leads _ _ hp h)))

/-- The portals reverse after a STAND DOWN (R91). -/
theorem Works.reverse_spares (w : Works) : Works.Spares w ((w.portalReverse 0).portalReverse 1) :=
  Works.portalReverse_spares 1 (Works.portalReverse_spares 0 (.refl w))

theorem Works.reverse_leads {w0 : Works} (h : Works.Leads Part.ofStage w0 w) :
    Works.Leads Part.ofStage w0 ((w.portalReverse 0).portalReverse 1) :=
  Works.portalReverse_leads _ _ (by decide) (Works.portalReverse_leads _ _ (by decide) h)

theorem Order.finish_completed (o : Order) (st d d2 : Nat) (w : Works) : (o.finish st d d2 [] w).completed o.slot st d d2 :=
  ⟨[], Works.handed_send _ _⟩

/-- A completion stays on its way while the portals reverse. -/
theorem Works.reverse_completed {k st d d2 : Nat} (h : w.completed k st d d2) :
    ((w.portalReverse 0).portalReverse 1).completed k st d d2 := by
  obtain ⟨r, hr⟩ := h
  exact ⟨r, (Works.reverse_leads .refl).handed (by decide) hr⟩

theorem View.isLost_iff (v : View) : v.isLost = true ↔ v = .stalled ∨ v = .unknown := by
  simp [View.isLost]

end StandDown

theorem exec_standDown {k : Nat} {o : Order} {s : State} (h : s.orderWaits k o) (hc : o.code = .standDown)
    (hs : s.works.takesOrders) : exec (.standDown k) s = .next (s.takenUp k (s.works.standDownOrder o)) :=
  takeUp_of_waits _ _ k o s h hc hs

/-- R22, how the order ends by the views that stood before the change of stage. -/
theorem Works.standDownEnd_cases (w : Works) (o : Order) (n s : View) :
    (n = .opened → s = .opened → (w.standDownEnd o n s).completed o.slot 0 0 0) ∧
    (n = .stalled ∨ n = .unknown → (w.standDownEnd o n s).completed o.slot 10 1 n.code) ∧
    (n ≠ .stalled → n ≠ .unknown → (s = .stalled ∨ s = .unknown) → (w.standDownEnd o n s).completed o.slot 10 2 s.code) ∧
    (¬ (n = .opened ∧ s = .opened) → n ≠ .stalled → n ≠ .unknown → s ≠ .stalled → s ≠ .unknown →
      w.standDownEnd o n s = w.hold (o.active 0)) := by
  refine ⟨fun hn hs => ?_, fun hn => ?_, fun h1 h2 hs => ?_, fun hb h1 h2 h3 h4 => ?_⟩
  · rw [Works.standDownEnd, if_pos ⟨hn, hs⟩]
    exact Order.finish_completed ..
  · have hb : ¬ (n = .opened ∧ s = .opened) := by rintro ⟨rfl, -⟩; simp at hn
    rw [Works.standDownEnd, if_neg hb, if_pos (n.isLost_iff.mpr hn)]
    exact Order.finish_completed ..
  · have hb : ¬ (n = .opened ∧ s = .opened) := by rintro ⟨-, rfl⟩; simp at hs
    rw [Works.standDownEnd, if_neg hb, if_neg (by simp [View.isLost_iff, h1, h2]), if_pos (s.isLost_iff.mpr hs)]
    exact Order.finish_completed ..
  · rw [Works.standDownEnd, if_neg hb, if_neg (by simp [View.isLost_iff, h1, h2]), if_neg (by simp [View.isLost_iff, h3, h4])]

/-- The new ACTIVE order outlasts the reversal of the portals, which completes orders of theirs alone. -/
theorem Works.standDown_active {w w0 : Works} {o : Order} (hc : o.code = .standDown) (hw : w.active ⊆ w0.active)
    (ha : ∀ a ∈ w0.active, a.slot ≠ o.slot) :
    o.active 0 ∈ (((w.hold (o.active 0)).portalReverse 0).portalReverse 1).active := by
  refine (Works.reverse_spares (w.hold (o.active 0))).mem_of_alone (List.mem_append_right _ (List.mem_singleton_self _))
    (by simp [Order.active, hc, OrderCode.owner]) fun b hb he => ?_
  rcases List.mem_append.mp hb with hb | hb
  · exact absurd he (ha b (hw hb))
  · exact List.mem_singleton.mp hb

/-- Settles O24, by the cases of `Works.standDownOrder` and of `Works.standDownEnd`. -/
theorem standDown : Obligations.StandDown := by
  intro k o s h hc ht
  obtain rfl := State.orderWaits_slot s k o h
  refine ⟨fun hs => ?_, fun hs hcl => ?_, fun hs hcl => ⟨_, exec_standDown h hc ht, ?_⟩⟩
  · rw [exec_standDown h hc ht, Works.standDownOrder_of_stage hs]
  · rw [exec_standDown h hc ht, Works.standDownOrder_of_close hs hcl]
  · have hne : s.works.water.stage.stage ≠ .watch := by rw [hs]; decide
    obtain ⟨hstage, hcause, hentered, hrec, -⟩ := Works.changeStage_turns .standDown hne
    rw [hs] at hrec
    rw [Works.standDownOrder_of_alert hs hcl]
    have hsub := Works.changeStage_subset .watch .standDown s.works
    have hlead := Works.changeStage_only (w := s.works) (st := .watch) .standDown
    generalize s.works.changeStage .watch .standDown = w at *
    obtain ⟨hdone, hnorth, hsouth, hactive⟩ :=
      Works.standDownEnd_cases w o s.works.water.stage.north s.works.water.stage.south
    have hwater : (w.standDownEnd o s.works.water.stage.north s.works.water.stage.south).water = w.water :=
      (Works.standDownEnd_leads (ps := [.active]) _ _ (by decide) .refl).water_eq (by decide)
    obtain ⟨n, m, hv⟩ := (Works.reverse_spares (w.standDownEnd o s.works.water.stage.north s.works.water.stage.south)).stage
    rw [hwater] at hv
    refine ⟨?_, ?_, ?_, ?_, ?_, fun h1 h2 => Works.reverse_completed (hdone h1 h2),
      fun h1 => Works.reverse_completed (hnorth h1), fun h1 h2 h3 => Works.reverse_completed (hsouth h1 h2 h3),
      fun h1 h2 h3 h4 h5 ha => ?_⟩
    · exact (Works.reverse_leads (Works.standDownEnd_leads _ _ (by decide) hlead)).keepsStage
    · rw [hv]; exact hstage
    · rw [hv]; exact hcause
    · rw [hv]; exact hentered
    · exact (Works.reverse_leads (Works.standDownEnd_leads _ _ (by decide) .refl)).recorded (by decide) hrec
    · rw [hactive h1 h2 h3 h4 h5]
      exact Works.standDown_active hc hsub ha

/-! ## REBASE CHANNEL (R23) -/

section Rebase

variable {w : Works} {o : Order} {x : Channel} {r : Rise}

theorem Works.rebaseOrder_of_noRise (hx : w.water.channels[o.subject]? = some x) (hr : x.rise = none) :
    w.rebaseOrder o = o.finish 10 2 0 [] w := by
  simp [Works.rebaseOrder, hx, hr, Status.failed]

theorem Works.rebaseOrder_of_invalid (hx : w.water.channels[o.subject]? = some x) (hr : x.rise = some r)
    (hv : x.validity ≠ .valid) : w.rebaseOrder o = o.finish 10 1 0 [] (w.withBaseline o.subject none) := by
  simp [Works.rebaseOrder, hx, hr, hv, Status.failed, Works.withBaseline_eq]

theorem Works.rebaseOrder_of_valid (hx : w.water.channels[o.subject]? = some x) (hr : x.rise = some r)
    (hv : x.validity = .valid) :
    w.rebaseOrder o = o.finish 0 0 0 [] (w.withBaseline o.subject (some (x.value, w.now))) := by
  simp [Works.rebaseOrder, hx, hr, hv, Status.doneOk, Works.withBaseline_eq]

end Rebase

/-- Settles O25, by the cases of `Works.rebaseOrder`. -/
theorem rebaseChannel : Obligations.RebaseChannel := by
  intro k o x s h hc ht hx
  have hexec : exec (.rebaseChannel k) s = .next (s.takenUp k (s.works.rebaseOrder o)) :=
    takeUp_of_waits _ _ k o s h hc ht
  refine ⟨fun hr => ?_, fun r hr hv => ?_, fun r hr hv => ?_⟩
  · rw [hexec, Works.rebaseOrder_of_noRise hx hr]
  · rw [hexec, Works.rebaseOrder_of_invalid hx hr hv]
  · rw [hexec, Works.rebaseOrder_of_valid hx hr hv]

end Sys2Proof.Machine

namespace Sys2Proof.Machine

open Sys2Proof

/-! # The governing depth and the stage machine (R11, R14 to R18)

## The governing depth (R11) -/

/-- A channel that may govern. -/
abbrev Channel.candidate (c : Channel) : Prop := c.kind = .depth ∧ c.validity = .valid

/-- What `Works.depthGoverns` asks, of a channel table and a governing depth. -/
def governs (cs : List Channel) (g : Option GovDepth) : Prop :=
  (g = none → ∀ c ∈ cs, c.kind = .depth → c.validity ≠ .valid) ∧
  ∀ d, g = some d → ∃ c, cs[d.channel]? = some c ∧ c.kind = .depth ∧ c.validity = .valid ∧ c.value = d.value ∧
    ∀ (i : Nat) (x : Channel), cs[i]? = some x → x.kind = .depth → x.validity = .valid →
      x.value ≤ d.value ∧ (x.value = d.value → d.channel ≤ i)

theorem Works.depthGoverns_iff (w : Works) : w.depthGoverns ↔ governs w.water.channels w.water.governing := Iff.rfl

theorem indexed_append_singleton {α : Type} (l : List α) (x : α) (n : Nat) :
    indexed n (l ++ [x]) = indexed n l ++ [(n + l.length, x)] := by
  induction l generalizing n with
  | nil => rfl
  | cons y l ih =>
    rw [List.cons_append, indexed, indexed, ih, List.length_cons, List.cons_append]
    congr 4
    omega

theorem governingOf_append_singleton (cs : List Channel) (x : Channel) :
    governingOf (cs ++ [x]) = betterDepth (governingOf cs) (cs.length, x) := by
  simp [governingOf, indexed_append_singleton]

/-- An element of a table that has got one channel more. -/
theorem getElem?_append_singleton_eq {α : Type} {l : List α} {x y : α} {i : Nat} (h : (l ++ [x])[i]? = some y) :
    l[i]? = some y ∨ i = l.length ∧ y = x := by
  rw [List.getElem?_append] at h
  split at h
  · exact .inl h
  · have hi : i - l.length = 0 := by
      by_contra hne
      obtain ⟨k, hk⟩ := Nat.exists_eq_succ_of_ne_zero hne
      simp [hk] at h
    rw [hi] at h
    exact .inr ⟨by omega, by simpa using h.symm⟩

/-- A channel that may not govern changes nothing. -/
theorem governs_skip {cs : List Channel} {g : Option GovDepth} {x : Channel} (h : governs cs g) (hx : ¬ x.candidate) :
    governs (cs ++ [x]) g := by
  obtain ⟨hnone, hsome⟩ := h
  refine ⟨fun hg c hc hk hv => ?_, fun d hd => ?_⟩
  · rcases List.mem_append.mp hc with hc | hc
    · exact hnone hg c hc hk hv
    · rw [List.mem_singleton.mp hc] at hk hv
      exact hx ⟨hk, hv⟩
  · obtain ⟨c, hc, hk, hv, hval, hmax⟩ := hsome d hd
    refine ⟨c, (List.getElem?_append_left (List.getElem?_eq_some_iff.mp hc).1).trans hc, hk, hv, hval, fun i y hy hyk hyv => ?_⟩
    obtain hy | ⟨-, rfl⟩ := getElem?_append_singleton_eq hy
    · exact hmax i y hy hyk hyv
    · exact absurd ⟨hyk, hyv⟩ hx

/-- A channel that may govern and is better than all before it. -/
theorem governs_take {cs : List Channel} {x : Channel} (hx : x.candidate)
    (hbest : ∀ c ∈ cs, c.kind = .depth → c.validity = .valid → c.value < x.value) :
    governs (cs ++ [x]) (some { channel := cs.length, value := x.value }) := by
  refine ⟨fun h => by simp at h, fun d hd => ?_⟩
  obtain rfl := Option.some.inj hd
  refine ⟨x, by simp, hx.1, hx.2, rfl, fun i y hy hyk hyv => ?_⟩
  obtain hy | ⟨rfl, rfl⟩ := getElem?_append_singleton_eq hy
  · have := hbest y (List.mem_of_getElem? hy) hyk hyv
    exact ⟨by dsimp only; omega, fun he => by dsimp only at he; omega⟩
  · exact ⟨Nat.le_refl _, fun _ => Nat.le_refl _⟩

/-- A channel that may govern and is no better than the best before it. -/
theorem governs_keep {cs : List Channel} {b : GovDepth} {x : Channel} (h : governs cs (some b)) (hx : x.value ≤ b.value) :
    governs (cs ++ [x]) (some b) := by
  refine ⟨fun h => by simp at h, fun d hd => ?_⟩
  obtain ⟨c, hc, hk, hv, hval, hmax⟩ := h.2 d hd
  obtain rfl := Option.some.inj hd
  have hlt := (List.getElem?_eq_some_iff.mp hc).1
  refine ⟨c, (List.getElem?_append_left hlt).trans hc, hk, hv, hval, fun i y hy hyk hyv => ?_⟩
  obtain hy | ⟨rfl, rfl⟩ := getElem?_append_singleton_eq hy
  · exact hmax i y hy hyk hyv
  · exact ⟨hx, fun _ => Nat.le_of_lt hlt⟩

/-- The better of the best so far and one channel more governs the longer table. -/
theorem governs_betterDepth {cs : List Channel} {g : Option GovDepth} (h : governs cs g) (x : Channel) :
    governs (cs ++ [x]) (betterDepth g (cs.length, x)) := by
  by_cases hx : x.candidate
  · unfold betterDepth
    rw [if_pos hx]
    cases g with
    | none => exact governs_take hx fun c hc hk hv => absurd hv (h.1 rfl c hc hk)
    | some b =>
      dsimp only
      split
      · next hlt =>
        refine governs_take hx fun c hc hk hv => ?_
        obtain ⟨-, -, -, -, -, hmax⟩ := h.2 b rfl
        obtain ⟨i, hi⟩ := List.mem_iff_getElem?.mp hc
        exact Nat.lt_of_le_of_lt (hmax i c hi hk hv).1 hlt
      · next hlt => exact governs_keep h (Nat.le_of_not_lt hlt)
  · unfold betterDepth
    rw [if_neg hx]
    exact governs_skip h hx

theorem governingOf_governs (cs : List Channel) : governs cs (governingOf cs) := by
  induction cs using List.reverseRecOn with
  | nil => exact ⟨fun _ c hc => by simp at hc, fun d hd => by simp [governingOf, indexed] at hd⟩
  | append_singleton cs x ih =>
    rw [governingOf_append_singleton]
    exact governs_betterDepth ih x

section Depth

variable {w v : Works}

theorem Works.recomputeDepth_water (w : Works) :
    w.recomputeDepth.water = { w.water with governing := governingOf w.water.channels } := by
  unfold Works.recomputeDepth
  dsimp only
  split
  · split <;> rfl
  · rfl
  · rfl

theorem Works.recomputeDepth_governs (w : Works) : w.recomputeDepth.depthGoverns := by
  rw [Works.depthGoverns_iff, Works.recomputeDepth_water]
  exact governingOf_governs _

theorem Works.recomputeDepth_only (w : Works) : Works.Leads [.water] w w.recomputeDepth :=
  Works.recomputeDepth_leads w (by decide) .refl

theorem Works.stageRuns_iff : w.stageRuns = true ↔ w.station.state = .held ∨ w.station.state = .running := by
  simp [Works.stageRuns]

/-- R11: the loss of the governing depth is recorded in HELD and RUNNING. -/
theorem Works.recomputeDepth_lost (ho : w.water.governing.isSome = true) (hn : w.recomputeDepth.water.governing = none)
    (hs : w.stageRuns = true) :
    w.recomputeDepth.recorded .depthLost 0 none none [w.water.stage.stage.code] true := by
  rw [Works.recomputeDepth_water] at hn
  obtain ⟨d, hd⟩ := Option.isSome_iff_exists.mp ho
  have hr : ∀ x : Water, (w.setWater x).stageRuns = true := fun _ => hs
  simp only [Works.recomputeDepth, hd, show governingOf w.water.channels = none from hn, hr, if_true]
  exact Works.recorded_record ..

/-- R11: its recovery is recorded in every station state. -/
theorem Works.recomputeDepth_restored {d : GovDepth} (ho : w.water.governing = none)
    (hn : w.recomputeDepth.water.governing = some d) :
    w.recomputeDepth.recorded .depthRestored 0 none none [d.channel, d.value] false := by
  rw [Works.recomputeDepth_water] at hn
  simp only [Works.recomputeDepth, ho, show governingOf w.water.channels = some d from hn]
  exact Works.recorded_record ..

/-- The governing depth is a matter of the channel table alone. -/
theorem Works.depthGoverns_congr (hc : v.water.channels = w.water.channels) (hg : v.water.governing = w.water.governing)
    (h : w.depthGoverns) : v.depthGoverns := by
  rw [Works.depthGoverns_iff] at h ⊢
  rwa [hc, hg]

end Depth

/-! ## Facts and causes (R15, R16) -/

section Facts

variable {w : Works} {old : Facts} {rise : Bool}

theorem Works.someAbove_iff (k : ChannelKind) (r : Role) :
    w.someAbove k r = true ↔ ∃ c ∈ w.water.channels, c.kind = k ∧ c.isAbove r = true := by
  simp [Works.someAbove]

theorem Works.govChannel_iff {c : Channel} :
    w.govChannel = some c ↔ ∃ d, w.water.governing = some d ∧ w.water.channels[d.channel]? = some c := by
  unfold Works.govChannel
  cases w.water.governing <;> simp

theorem Works.closeAbove_iff : w.closeAbove = true ↔
    ∃ d c, w.water.governing = some d ∧ w.water.channels[d.channel]? = some c ∧ c.isAbove .close = true := by
  have h : w.closeAbove = true ↔ ∃ c, w.govChannel = some c ∧ c.isAbove .close = true := by
    unfold Works.closeAbove
    cases w.govChannel <;> simp
  rw [h]
  simp only [Works.govChannel_iff]
  exact ⟨fun ⟨c, ⟨d, hd, hc⟩, ha⟩ => ⟨d, c, hd, hc, ha⟩, fun ⟨d, c, hd, hc, ha⟩ => ⟨c, ⟨d, hd, hc⟩, ha⟩⟩

theorem Works.reopenBelow_iff : w.reopenBelow = true ↔
    ∃ d c, w.water.governing = some d ∧ w.water.channels[d.channel]? = some c ∧ c.isBelow .reopen = true := by
  have h : w.reopenBelow = true ↔ ∃ c, w.govChannel = some c ∧ c.isBelow .reopen = true := by
    unfold Works.reopenBelow
    cases w.govChannel <;> simp
  rw [h]
  simp only [Works.govChannel_iff]
  exact ⟨fun ⟨c, ⟨d, hd, hc⟩, ha⟩ => ⟨d, c, hd, hc, ha⟩, fun ⟨d, c, hd, hc, ha⟩ => ⟨c, ⟨d, hd, hc⟩, ha⟩⟩

theorem Works.facts_watch_iff : w.facts.watch = true ↔ w.watchStands := by
  simp [Facts.watch, Works.facts, Works.watchStands, or_assoc]

theorem Works.closureCause_iff : closureCause old w.facts = true ↔ w.closes old := by
  simp only [closureCause, Bool.and_eq_true, Bool.or_eq_true, Bool.not_eq_true', decide_eq_false_iff_not]
  exact Iff.rfl

/-- Without a closure cause the watch cause is one of the first five of R15. -/
theorem Works.watchCause_eq (h : ¬ w.closes old) : watchCause old w.facts rise = w.watchBrought old rise := by
  have hc : ¬ (w.closeAbove = true ∧ old.close = false) := fun hc => h ⟨hc.1, .inl hc.2⟩
  simp [watchCause, Works.facts, Works.watchBrought, hc]

end Facts

end Sys2Proof.Machine

namespace Sys2Proof.Machine

open Sys2Proof

/-! ## The judgement of the stage by its parts (R15 to R18) -/

/-- The dwell start that a judgement leaves: in WATCH it starts again at a RISE, and runs while no watch cause stands; in CLOSED it
runs while REOPEN is BELOW. -/
def Works.dwellJudged (rise : Bool) (w : Works) : Option Nat :=
  match w.water.stage.stage with
  | .watch => if w.facts.watch then none else some (if rise then w.now else w.water.stage.dwellStart.getD w.now)
  | .closed => if w.reopenBelow then some (w.water.stage.dwellStart.getD w.now) else none
  | .dry => none
  | .alert => none
  | .draining => none

/-- The stage record with another dwell start. -/
def Works.withDwell (d : Option Nat) (w : Works) : Works := w.setStage { w.water.stage with dwellStart := d }

/-- The last part of a judgement: the dwell. -/
def Works.endJudgement (rise : Bool) (w : Works) : Works := w.withDwell (w.dwellJudged rise)

/-- The first part of a judgement: the suppressed flag clears where CLOSE is not ABOVE. -/
def Works.flagJudged (w : Works) : Works :=
  w.setStage { w.water.stage with suppressed := w.water.stage.suppressed && w.closeAbove }

/-- A closure cause in HELD sets the suppressed flag, with a record where it was clear (R16). -/
def Works.suppress (w : Works) : Works :=
  if w.water.stage.suppressed then w
  else (w.setStage { w.water.stage with suppressed := true }).record .closureSuppressed 0 none none
    [w.water.stage.stage.code, w.depthDetail] true

/-- The second part of a judgement: a closure cause acts. -/
def Works.closureJudged (old : Facts) (w : Works) : Works :=
  if closureCause old w.facts then w.flagJudged.closure else w.flagJudged

section Judge

variable {w v u : Works} {old : Facts} {rise : Bool} {st : Stage} {k : StageCause}

@[simp] theorem Works.endJudgement_notices (rise : Bool) (w : Works) : (w.endJudgement rise).notices = w.notices := rfl

@[simp] theorem Works.endJudgement_stage (rise : Bool) (w : Works) :
    (w.endJudgement rise).water.stage = { w.water.stage with dwellStart := w.dwellJudged rise } := rfl

@[simp] theorem Works.flagJudged_stage (w : Works) : w.flagJudged.water.stage =
    { w.water.stage with suppressed := w.water.stage.suppressed && w.closeAbove } := rfl

@[simp] theorem Works.flagJudged_notices (w : Works) : w.flagJudged.notices = w.notices := rfl

theorem Works.dwellFor_of_watch (hs : w.water.stage.stage = .watch) :
    w.dwellFor = if w.facts.watch then none else some (w.water.stage.dwellStart.getD w.now) := by
  cases h : w.facts.watch <;> simp [Works.dwellFor, hs, h]

theorem Works.dwellFor_of_closed (hs : w.water.stage.stage = .closed) :
    w.dwellFor = if w.reopenBelow then some (w.water.stage.dwellStart.getD w.now) else none := by
  simp [Works.dwellFor, hs]

theorem Works.dwellFor_of_other (hw : w.water.stage.stage ≠ .watch) (hc : w.water.stage.stage ≠ .closed) :
    w.dwellFor = none := by
  cases hs : w.water.stage.stage <;> simp_all [Works.dwellFor]

theorem Works.dwellJudged_of_watch (hs : w.water.stage.stage = .watch) : w.dwellJudged rise =
    if w.facts.watch then none else some (if rise then w.now else w.water.stage.dwellStart.getD w.now) := by
  rw [Works.dwellJudged, hs]

theorem Works.dwellJudged_of_closed (hs : w.water.stage.stage = .closed) :
    w.dwellJudged rise = if w.reopenBelow then some (w.water.stage.dwellStart.getD w.now) else none := by
  rw [Works.dwellJudged, hs]

theorem Works.dwellJudged_of_other (hw : w.water.stage.stage ≠ .watch) (hc : w.water.stage.stage ≠ .closed) :
    w.dwellJudged rise = none := by
  cases hs : w.water.stage.stage <;> simp_all [Works.dwellJudged]

/-- The dwell as the model judges it at the end of an event. -/
theorem Works.endJudgement_eq (rise : Bool) (w : Works) :
    (if rise = true ∧ w.water.stage.stage = .watch then w.withDwell none else w).judgeDwell = w.endJudgement rise := by
  have hplain (u : Works) : u.judgeDwell = u.withDwell u.dwellFor := rfl
  have hagain (d : Option Nat) : (w.withDwell d).judgeDwell = w.withDwell (w.withDwell d).dwellFor := rfl
  have hfacts (d : Option Nat) : (w.withDwell d).facts = w.facts := rfl
  unfold Works.endJudgement
  split
  · next h =>
    rw [hagain, Works.dwellFor_of_watch (w := w.withDwell none) h.2, Works.dwellJudged_of_watch h.2, h.1, hfacts]
    rfl
  · next h =>
    rw [hplain]
    by_cases hw : w.water.stage.stage = .watch
    · have hr : rise = false := by simpa [hw] using h
      rw [Works.dwellFor_of_watch hw, Works.dwellJudged_of_watch hw, hr]
      rfl
    · by_cases hc : w.water.stage.stage = .closed
      · rw [Works.dwellFor_of_closed hc, Works.dwellJudged_of_closed hc]
      · rw [Works.dwellFor_of_other hw hc, Works.dwellJudged_of_other hw hc]

theorem Works.closureJudged_of_closes (h : w.closes old) : w.closureJudged old = w.flagJudged.closure :=
  if_pos (Works.closureCause_iff.mpr h)

theorem Works.closureJudged_of_calm (h : ¬ w.closes old) : w.closureJudged old = w.flagJudged :=
  if_neg fun e => h (Works.closureCause_iff.mp e)

/-- A judgement in HELD and RUNNING, part by part: the flag, a closure cause, a watch cause in DRY, the dwell. -/
theorem Works.judgeStage_eq (h : w.stageRuns = true) : w.judgeStage old rise =
    (match (w.closureJudged old).water.stage.stage, watchCause old w.facts rise with
      | .dry, some c => (w.closureJudged old).changeStage .watch c
      | _, _ => w.closureJudged old).endJudgement rise := by
  rw [← Works.endJudgement_eq]
  simp only [Works.judgeStage, h, Bool.not_true, Bool.false_eq_true, if_false]
  rfl

theorem Works.judgeStage_of_idle (h : w.stageRuns = false) : w.judgeStage old rise = w := by
  simp [Works.judgeStage, h]

theorem Works.judgeStage_of_closes (h : w.stageRuns = true) (hc : w.closes old)
    (hd : w.flagJudged.closure.water.stage.stage ≠ .dry) :
    w.judgeStage old rise = w.flagJudged.closure.endJudgement rise := by
  rw [Works.judgeStage_eq h, Works.closureJudged_of_closes hc]
  split
  · next hs _ => exact absurd hs hd
  · rfl

/-- No closure cause, and no watch cause in DRY. -/
theorem Works.judgeStage_of_calm (h : w.stageRuns = true) (hc : ¬ w.closes old)
    (hd : w.water.stage.stage = .dry → w.watchBrought old rise = none) :
    w.judgeStage old rise = w.flagJudged.endJudgement rise := by
  rw [Works.judgeStage_eq h, Works.closureJudged_of_calm hc, Works.watchCause_eq hc]
  split
  · next hs hk =>
    rw [hd hs] at hk
    cases hk
  · rfl

theorem Works.judgeStage_of_watch (h : w.stageRuns = true) (hc : ¬ w.closes old) (hs : w.water.stage.stage = .dry)
    (hk : w.watchBrought old rise = some k) :
    w.judgeStage old rise = (w.flagJudged.changeStage .watch k).endJudgement rise := by
  rw [Works.judgeStage_eq h, Works.closureJudged_of_calm hc, Works.watchCause_eq hc, hk, Works.flagJudged_stage, hs]

/-! ## A closure cause (R16, R17) -/

theorem Works.closure_of_running (hs : w.water.stage.stage = .dry ∨ w.water.stage.stage = .watch)
    (hr : w.station.state = .running) : w.closure = w.changeStage .alert .closeLevel := by
  obtain hs | hs := hs <;> simp [Works.closure, hs, hr]

theorem Works.closure_of_held_dry (hs : w.water.stage.stage = .dry) (hr : w.station.state = .held) :
    w.closure = w.suppress.changeStage .watch .closeLevel := by
  simp [Works.closure, hs, hr, Works.suppress]

theorem Works.closure_of_held_watch (hs : w.water.stage.stage = .watch) (hr : w.station.state = .held) :
    w.closure = w.suppress := by
  simp [Works.closure, hs, hr, Works.suppress]

theorem Works.closure_of_draining_shut (hs : w.water.stage.stage = .draining) (hn : w.water.stage.north = .shut)
    (hm : w.water.stage.south = .shut) : w.closure = w.changeStage .closed .closeLevel := by
  simp [Works.closure, hs, hn, hm]

theorem Works.closure_of_draining_open (hs : w.water.stage.stage = .draining)
    (hv : w.water.stage.north ≠ .shut ∨ w.water.stage.south ≠ .shut) :
    w.closure = w.changeStage .alert .closeLevel := by
  have hn : ¬ (w.water.stage.north = .shut ∧ w.water.stage.south = .shut) := by tauto
  simp [Works.closure, hs, hn]

theorem Works.closure_of_closing (hs : w.water.stage.stage = .alert ∨ w.water.stage.stage = .closed) : w.closure = w := by
  obtain hs | hs := hs <;> simp [Works.closure, hs]

theorem Works.suppress_stage (w : Works) : w.suppress.water.stage = { w.water.stage with suppressed := true } := by
  unfold Works.suppress
  split
  · next h => rw [← h]
  · rfl

theorem Works.suppress_recorded (h : w.water.stage.suppressed = false) : w.suppress.recorded .closureSuppressed 0 none none
    [w.water.stage.stage.code, w.depthDetail] true := by
  rw [Works.suppress, h]
  exact Works.recorded_record ..

theorem Works.suppress_of_set (h : w.water.stage.suppressed = true) : w.suppress = w := if_pos h

/-! ## What a judgement leaves of a change of stage -/

/-- The dwell is no part of a change of stage. -/
theorem Works.stageTurns.endJudgement (h : w.stageTurns v st k) (rise : Bool) :
    w.stageTurns (v.endJudgement rise) st k := h

/-- A change of stage after the flag was judged. -/
theorem Works.turns_of_flagJudged (h : w.water.stage.stage ≠ st) : w.stageTurns (w.flagJudged.changeStage st k) st k :=
  Works.changeStage_turns k (w := w.flagJudged) h

theorem Works.stageTurns.leads {ps : List Part} (h : w.stageTurns v st k) (hl : Works.Leads ps v u)
    (hw : Part.water ∉ ps) (hv : Part.voids ∉ ps) : w.stageTurns u st k := by
  obtain ⟨hs, hc, he, hr, hi⟩ := h
  rw [Works.stageTurns, hl.water_eq hw]
  exact ⟨hs, hc, he, hl.recorded hv hr, hl.handed hv hi⟩

end Judge

end Sys2Proof.Machine

namespace Sys2Proof.Machine

open Sys2Proof

/-! ## A sample and a lost channel at the stage machine (Table 1-5) -/

section HandOn

variable {w : Works} {c v : Nat} {x y : Channel} {facts : Facts} {rise : Bool}

theorem Works.handOn_of_depth (hy : w.water.channels[c]? = some y) (hk : y.kind = .depth) (old : Channel) :
    w.handOn c old facts rise = w.recomputeDepth.judgeStage facts rise := by
  simp [Works.handOn, hy, hk]

theorem Works.handOn_of_rain (hy : w.water.channels[c]? = some y) (hk : y.kind = .rain) (old : Channel) :
    w.handOn c old facts rise = w.judgeStage facts false := by
  simp [Works.handOn, hy, hk]

/-- A SUMP_LEVEL channel: dewatering first, which touches nothing of water watch. -/
theorem Works.handOn_of_sumpLevel (hy : w.water.channels[c]? = some y) (hk : y.kind = .sumpLevel) (old : Channel) :
    ∃ u, w.handOn c old facts rise = u.judgeStage facts false ∧
      Works.Leads [.dewater, .portals, .lights, .active, .line] w u := by
  refine ⟨_, by simp only [Works.handOn, hy, hk]; rfl, ?_⟩
  exact ite_leads (Works.levelChanged_leads c w (by decide) .refl) .refl

/-- After a sample or a loss at a DEPTH, RAIN or SUMP_LEVEL channel the stage is judged; a RISE counts for DEPTH alone. -/
theorem Works.handOn_judges {kind : ChannelKind} (hy : w.water.channels[c]? = some y) (hkind : y.kind = kind)
    (hk : kind = .depth ∨ kind = .rain ∨ kind = .sumpLevel) (old : Channel) (facts : Facts) (rise : Bool) :
    ∃ u : Works, w.handOn c old facts rise = u.judgeStage facts (rise && decide (kind = .depth)) ∧
      u.water.stage = w.water.stage ∧ u.station = w.station ∧ u.now = w.now := by
  obtain rfl | rfl | rfl := hk
  · refine ⟨w.recomputeDepth, by simp [Works.handOn_of_depth hy hkind], ?_, w.recomputeDepth_only.station_eq,
      w.recomputeDepth_only.now_eq⟩
    rw [Works.recomputeDepth_water]
  · exact ⟨w, by simp [Works.handOn_of_rain hy hkind], rfl, rfl, rfl⟩
  · obtain ⟨u, hu, hl⟩ := Works.handOn_of_sumpLevel hy hkind old (facts := facts) (rise := rise)
    exact ⟨u, by simp [hu], by rw [hl.water_eq (by decide)], hl.station_eq, hl.now_eq⟩

theorem Works.judgeStage_only (old : Facts) (rise : Bool) (w : Works) : Works.Leads Part.ofStage w (w.judgeStage old rise) :=
  Works.judgeStage_leads old rise w (by decide) .refl

theorem Works.suppress_governing (w : Works) : w.suppress.water.governing = w.water.governing := by
  unfold Works.suppress
  split <;> rfl

theorem Works.closure_governing (w : Works) : w.closure.water.governing = w.water.governing := by
  unfold Works.closure
  dsimp only
  split
  · split <;> exact Works.changeStage_governing _
  · rfl
  · rfl
  · split
    · exact Works.changeStage_governing _
    · split
      · exact (Works.changeStage_governing _).trans w.suppress_governing
      · exact w.suppress_governing

theorem Works.judgeStage_governing (old : Facts) (rise : Bool) (w : Works) :
    (w.judgeStage old rise).water.governing = w.water.governing := by
  have hjudged (u : Works) : (u.endJudgement rise).water.governing = u.water.governing := rfl
  have hclosed : (w.closureJudged old).water.governing = w.water.governing := by
    unfold Works.closureJudged
    split
    · exact w.flagJudged.closure_governing
    · rfl
  cases hr : w.stageRuns with
  | false => rw [Works.judgeStage_of_idle hr]
  | true =>
    rw [Works.judgeStage_eq hr, hjudged]
    split
    · exact (Works.changeStage_governing _).trans hclosed
    · exact hclosed

end HandOn

/-! ## The stages of a sample leave the stage record -/

section Before

variable {w : Works} {c v : Nat} {x : Channel}

theorem Works.comparePartner_stage (c : Nat) (w : Works) : (w.comparePartner c).water.stage = w.water.stage := by
  obtain h | ⟨p, b, i, h⟩ := Works.comparePartner_cases c w
  · rw [h]
  · rw [h, Works.send_water, Works.setDisagree_stage]

/-- A sample of a channel of the stage machine is judged by it, against the facts before the sample. -/
theorem Works.sample_judges (hx : w.water.channels[c]? = some x)
    (hk : x.kind = .depth ∨ x.kind = .rain ∨ x.kind = .sumpLevel) :
    ∃ (u : Works) (rise : Bool), w.sample c v = u.judgeStage w.facts rise ∧
      u.water.channels = (w.sample c v).water.channels ∧ u.water.stage = w.water.stage ∧ u.station = w.station ∧
      u.now = w.now ∧ (rise = true ↔ x.kind = .depth ∧ x.low ≤ v ∧ v ≤ x.high ∧ x.rises v = true) := by
  by_cases hr : x.low ≤ v ∧ v ≤ x.high
  · obtain ⟨b, hb⟩ := Works.comparePartner_flag (Works.riseSample_advanced_self hx hr.1 hr.2)
    obtain ⟨u, hu, hs, hst, hn⟩ := Works.handOn_judges hb rfl hk x w.facts (x.rises v)
    have hl : Works.Leads [.water, .channels] w (((w.advanced c v x).riseSample c v).comparePartner c) :=
      Works.comparePartner_leads _ _ (by decide) (Works.riseSample_leads _ _ _ (by decide) (Works.advanced_leads c v x w))
    rw [← Works.sample_of_inRange hx hr.1 hr.2] at hu
    refine ⟨u, _, hu, ?_, ?_, hst.trans hl.station_eq, hn.trans hl.now_eq, ?_⟩
    · rw [hu, (Works.judgeStage_only _ _ u).channels_eq (by decide)]
    · rw [hs, Works.comparePartner_stage, Works.riseSample_water (Works.advanced_self hx), Works.updChannel_stage,
        Works.advanced_water, Works.updChannel_stage, Works.taken, Works.recordValidity_water, Works.updChannel_stage]
    · rw [Bool.and_eq_true, decide_eq_true_eq]
      exact ⟨fun h => ⟨h.2, hr.1, hr.2, h.1⟩, fun h => ⟨h.2.2.2, h.1⟩⟩
  · have hv : v < x.low ∨ x.high < v := by omega
    obtain ⟨u, hu, hs, hst, hn⟩ := Works.handOn_judges (Works.taken_self hx (v := v)) rfl hk x w.facts false
    rw [← Works.sample_of_outOfRange hx hv] at hu
    have hl := Works.taken_leads c v x w
    refine ⟨u, _, hu, ?_, ?_, hst.trans hl.station_eq, hn.trans hl.now_eq, ?_⟩
    · rw [hu, (Works.judgeStage_only _ _ u).channels_eq (by decide)]
    · rw [hs, Works.taken, Works.recordValidity_water, Works.updChannel_stage]
    · simp only [Bool.false_and, Bool.false_eq_true, false_iff]
      exact fun h => hr ⟨h.2.1, h.2.2.1⟩

/-- After the hand-on of a DEPTH channel the governing depth is that of the channels as they stand (R11). -/
theorem Works.handOn_depthGoverns {y : Channel} (hy : w.water.channels[c]? = some y) (hk : y.kind = .depth) (old : Channel)
    (facts : Facts) (rise : Bool) : (w.handOn c old facts rise).depthGoverns := by
  rw [Works.handOn_of_depth hy hk]
  exact Works.depthGoverns_congr ((Works.judgeStage_only _ _ _).channels_eq (by decide)) (Works.judgeStage_governing _ _ _)
    w.recomputeDepth_governs

theorem Works.sample_depthGoverns (hx : w.water.channels[c]? = some x) (hk : x.kind = .depth) :
    (w.sample c v).depthGoverns := by
  by_cases hr : x.low ≤ v ∧ v ≤ x.high
  · obtain ⟨b, hb⟩ := Works.comparePartner_flag (Works.riseSample_advanced_self hx hr.1 hr.2)
    rw [Works.sample_of_inRange hx hr.1 hr.2]
    exact Works.handOn_depthGoverns hb hk _ _ _
  · rw [Works.sample_of_outOfRange hx (by omega)]
    exact Works.handOn_depthGoverns (Works.taken_self hx) hk _ _ _

theorem Works.channelLost_depthGoverns (hx : w.water.channels[c]? = some x) (hk : x.kind = .depth)
    (hv : x.validity ≠ .stale) : (w.channelLost c).depthGoverns := by
  rw [Works.channelLost_of_live hx hv]
  refine Works.handOn_depthGoverns (y := x.lost) ?_ hk _ _ _
  rw [Works.record_water, Works.updChannel_lost hx]

end Before

/-! ## The cases of a judgement -/

section Cases

variable {w : Works} {old : Facts} {rise : Bool} {k : StageCause}

@[simp] theorem Works.flagJudged_facts (w : Works) : w.flagJudged.facts = w.facts := rfl

theorem Works.suppress_facts (w : Works) : w.suppress.facts = w.facts := by
  unfold Works.suppress
  split <;> rfl

/-- A closure cause that changes the stage. -/
theorem Works.judgeStage_of_closes_turn {st : Stage} {u : Works} (hr : w.stageRuns = true) (hc : w.closes old)
    (he : w.flagJudged.closure = u) (ht : w.stageTurns u st k) (hst : st ≠ .dry) :
    w.judgeStage old rise = u.endJudgement rise ∧ w.stageTurns (w.judgeStage old rise) st k := by
  have hj : w.judgeStage old rise = u.endJudgement rise := by
    rw [← he]
    refine Works.judgeStage_of_closes hr hc ?_
    rw [he, ht.1]
    exact hst
  exact ⟨hj, hj ▸ ht.endJudgement rise⟩

/-- R16 in RUNNING. -/
theorem Works.judgeStage_closes_running (hr : w.stageRuns = true) (hc : w.closes old)
    (hs : w.water.stage.stage = .dry ∨ w.water.stage.stage = .watch) (hst : w.station.state = .running) :
    w.stageTurns (w.judgeStage old rise) .alert .closeLevel ∧
      (w.judgeStage old rise).water.stage.dwellStart = none := by
  have hne : w.water.stage.stage ≠ .alert := by obtain hs | hs := hs <;> simp [hs]
  have ht : w.stageTurns (w.flagJudged.changeStage .alert .closeLevel) .alert .closeLevel := Works.turns_of_flagJudged hne
  obtain ⟨hj, hturn⟩ := Works.judgeStage_of_closes_turn (rise := rise) hr hc (Works.closure_of_running hs hst) ht (by decide)
  refine ⟨hturn, ?_⟩
  rw [hj, Works.endJudgement_stage]
  exact Works.dwellJudged_of_other (by rw [ht.1]; decide) (by rw [ht.1]; decide)

/-- A change of stage after the suppressed flag was set. -/
theorem Works.turns_of_suppress {st : Stage} (h : w.water.stage.stage ≠ st) :
    w.stageTurns (w.suppress.changeStage st k) st k := by
  unfold Works.suppress
  split
  · exact Works.changeStage_turns k h
  · exact Works.changeStage_turns (w := (w.setStage _).record ..) k h

/-- R16 in HELD and DRY: the suppressed flag first, then WATCH (log 29, 37). -/
theorem Works.judgeStage_closes_dry (hr : w.stageRuns = true) (hc : w.closes old) (hs : w.water.stage.stage = .dry)
    (hst : w.station.state = .held) :
    w.judgeStage old rise = (w.flagJudged.suppress.changeStage .watch .closeLevel).endJudgement rise ∧
      w.stageTurns (w.judgeStage old rise) .watch .closeLevel := by
  have hne : w.flagJudged.water.stage.stage ≠ .watch := by simp [hs]
  exact Works.judgeStage_of_closes_turn hr hc (Works.closure_of_held_dry hs hst) (Works.turns_of_suppress hne) (by decide)

/-- R16 in HELD and WATCH: the suppressed flag alone. -/
theorem Works.judgeStage_closes_watch (hr : w.stageRuns = true) (hc : w.closes old) (hs : w.water.stage.stage = .watch)
    (hst : w.station.state = .held) : w.judgeStage old rise = w.flagJudged.suppress.endJudgement rise := by
  have he : w.flagJudged.closure = w.flagJudged.suppress := Works.closure_of_held_watch hs hst
  rw [← he]
  refine Works.judgeStage_of_closes hr hc ?_
  rw [he, Works.suppress_stage, Works.flagJudged_stage]
  simp [hs]

end Cases

end Sys2Proof.Machine

namespace Sys2Proof.Machine

open Sys2Proof

/-! ## Portal views and their reports (R14, R92) -/

section Views

variable {w : Works} {n : Nat} {c : Closure}

theorem Works.portal_setPortal (n : Nat) (p : Portal) (w : Works) : (w.setPortal n p).portal n = p := by
  unfold Works.setPortal Works.portal
  by_cases h : n = 0 <;> simp [h]

/-- Setting the attempt count ahead of SHUT leaves the portal record but for its gate. -/
theorem Works.attemptsBefore_portal (n : Nat) (c : Closure) (w : Works) :
    ∃ g, (w.attemptsBefore n c).portal n = { w.portal n with gate := g } := by
  unfold Works.attemptsBefore
  split
  · exact ⟨_, by rw [Works.updGate, Works.updPortal, Works.portal_setPortal]⟩
  · exact ⟨_, rfl⟩

theorem Works.reportView_changed {old new : Closure} (h : old.view ≠ new.view) (b : Bool) :
    (w.reportView n old new b).water = (w.setView n new.view).water ∧
      (w.reportView n old new b).reports =
        w.reports ++ [{ portal := n, old := old.view, new := new.view, reopening := b }] := by
  rw [Works.reportView, if_neg h]
  exact ⟨rfl, rfl⟩

/-- A change of closure state that changes the view: the stage record takes the view, and it is reported. -/
theorem Works.changeClosure_view (h : (w.portal n).closure.view ≠ c.view) :
    (w.changeClosure n c).water = (w.setView n c.view).water ∧
    (w.changeClosure n c).reports = w.reports ++ [{
      portal := n, old := (w.portal n).closure.view, new := c.view,
      reopening := (w.portal n).reopening && decide ((w.portal n).closure = .shut) && decide (c = .ungating) }] := by
  have hc : ¬ (w.portal n).closure = c := fun e => h (by rw [e])
  obtain ⟨g, hg⟩ := Works.attemptsBefore_portal n c w
  unfold Works.changeClosure
  rw [if_neg hc]
  dsimp only
  rw [hg]
  dsimp only
  generalize hu : Works.updPortal n _ _ = u
  have hl : Works.Leads [.portals] w u := by
    rw [← hu]
    exact Works.updPortal_leads _ _ _ (by decide)
      (Works.record_leads _ _ _ _ _ _ _ (Works.attemptsBefore_leads _ _ _ (by decide) .refl))
  obtain ⟨hw, hr⟩ := Works.reportView_changed (w := u) (n := n) h
    ((w.portal n).reopening && decide ((w.portal n).closure = .shut) && decide (c = .ungating))
  generalize u.reportView n _ _ _ = t at *
  have hend : Works.Leads [.portals, .active] t ((if c = .opened then
      t.endReopen n Status.doneOk 0 0 [(stamp t.now).toNat] else t).openEpisode (w.portal n).closure c).closeEpisode :=
    Works.closeEpisode_leads _ (by decide) (Works.openEpisode_leads _ _ _ (by decide)
      (ite_leads (Works.endReopen_leads _ _ _ _ _ _ (by decide) .refl) .refl))
  refine ⟨?_, ?_⟩
  · rw [hend.water_eq (by decide), hw]
    unfold Works.setView
    rw [hl.water_eq (by decide)]
  · rw [hend.reports_eq (by decide), hr, hl.reports_eq (by decide)]

end Views

section Reports

variable {w : Works} {r : ViewReport}

theorem Works.standDownReport_only (r : ViewReport) (w : Works) : Works.Leads [.active] w (w.standDownReport r) :=
  Works.standDownReport_leads r w (by decide) .refl

/-- A report that changes the stage. -/
theorem Works.stageReport_turns {st : Stage} {k : StageCause} (hne : w.water.stage.stage ≠ st)
    (h : w.stageReport r = (w.changeStage st k).standDownReport r) : w.stageTurns (w.stageReport r) st k := by
  rw [h]
  exact (Works.changeStage_turns k hne).leads (Works.standDownReport_only r _) (by decide) (by decide)

/-- A report that leaves the stage. -/
theorem Works.stageReport_stands (h : w.stageReport r = w.standDownReport r) :
    (w.stageReport r).water.stage = w.water.stage := by
  rw [h, (Works.standDownReport_only r w).water_eq (by decide)]

theorem Works.stageReport_alert_shut (hs : w.water.stage.stage = .alert) (hn : w.water.stage.north = .shut)
    (hm : w.water.stage.south = .shut) :
    w.stageReport r = (w.changeStage .closed .portalsShut).standDownReport r := by
  simp [Works.stageReport, hs, hn, hm]

theorem Works.stageReport_alert_open (hs : w.water.stage.stage = .alert)
    (hv : w.water.stage.north ≠ .shut ∨ w.water.stage.south ≠ .shut) : w.stageReport r = w.standDownReport r := by
  have hn : ¬ (w.water.stage.north = .shut ∧ w.water.stage.south = .shut) := by tauto
  simp [Works.stageReport, hs, hn]

theorem Works.stageReport_closed_breach (hs : w.water.stage.stage = .closed) (ho : r.old = .shut) (hn : r.new ≠ .shut) :
    w.stageReport r = (w.changeStage .alert .portalBreach).standDownReport r := by
  simp [Works.stageReport, hs, ho, hn]

theorem Works.stageReport_closed_quiet (hs : w.water.stage.stage = .closed) (h : r.old ≠ .shut ∨ r.new = .shut) :
    w.stageReport r = w.standDownReport r := by
  have hn : ¬ (r.old = .shut ∧ ¬ r.new = .shut) := by tauto
  simp [Works.stageReport, hs, hn]

theorem Works.stageReport_draining_breach (hs : w.water.stage.stage = .draining) (ho : r.old = .shut) (hn : r.new ≠ .shut)
    (hr : r.reopening = false) : w.stageReport r = (w.changeStage .alert .portalBreach).standDownReport r := by
  simp [Works.stageReport, hs, ho, hn, hr]

/-- No breach in DRAINING. -/
theorem Works.stageReport_draining (hs : w.water.stage.stage = .draining)
    (h : r.old ≠ .shut ∨ r.new = .shut ∨ r.reopening = true) :
    w.stageReport r = (if w.water.stage.north = .opened ∧ w.water.stage.south = .opened then
      w.changeStage .watch .reopened else w).standDownReport r := by
  have hn : ¬ ((r.old = .shut ∧ ¬ r.new = .shut) ∧ r.reopening = false) := by
    rintro ⟨⟨ho, hn⟩, hr⟩
    rcases h with h | h | h
    · exact h ho
    · exact hn h
    · simp [hr] at h
  simp [Works.stageReport, hs, hn]

theorem Works.stageReport_early (hs : w.water.stage.stage = .dry ∨ w.water.stage.stage = .watch) :
    w.stageReport r = w.standDownReport r := by
  obtain hs | hs := hs <;> simp [Works.stageReport, hs]

end Reports

/-! ## The clauses of R11 and R14 to R18 -/

section Clauses

variable {w : Works} {old : Facts} {rise : Bool}

/-- A dwell that has run its time. -/
theorem Works.changeStage_event {a st : Stage} (k : StageCause) (hs : w.water.stage.stage = a) (hne : a ≠ st) :
    w.keepsStage (w.changeStage st k) ∧ (w.changeStage st k).water.stage.stage = st ∧
    (w.changeStage st k).water.stage.cause = k ∧ (w.changeStage st k).water.stage.entered = w.now ∧
    (w.changeStage st k).recorded .stage 0 (some a.code) (some st.code)
      [k.code, w.depthDetail, w.water.stage.north.code, w.water.stage.south.code] false ∧
    (w.changeStage st k).handed .imageRewriteRequest := by
  subst hs
  obtain ⟨hstage, hcause, hentered, hrec, himage⟩ := Works.changeStage_turns k hne
  exact ⟨(Works.changeStage_only k).keepsStage, hstage, hcause, hentered, hrec, himage⟩

theorem Works.watchDwellExpiry_of_over (hs : w.water.stage.stage = .watch)
    (hr : ranOut w.water.stage.dwellStart (w.siteTime Site.watchDwell) w.now = true) :
    w.watchDwellExpiry = w.changeStage .dry .watchDwell := if_pos ⟨hs, hr⟩

theorem Works.reopenDwellExpiry_of_over (hs : w.water.stage.stage = .closed)
    (hr : ranOut w.water.stage.dwellStart (w.siteTime Site.reopenDwell) w.now = true) :
    w.reopenDwellExpiry = w.changeStage .draining .reopenDwell := if_pos ⟨hs, hr⟩

/-- R16, R17: a closure cause, stage by stage. -/
theorem Works.judgeStage_closes (hr : w.stageRuns = true) (hc : w.closes old) :
    ((w.water.stage.stage = .dry ∨ w.water.stage.stage = .watch) → w.station.state = .running →
      w.stageTurns (w.judgeStage old rise) .alert .closeLevel ∧ (w.judgeStage old rise).water.stage.dwellStart = none) ∧
    ((w.water.stage.stage = .dry ∨ w.water.stage.stage = .watch) → w.station.state = .held →
      (w.judgeStage old rise).water.stage.suppressed = true ∧
      (w.water.stage.suppressed = false → (w.judgeStage old rise).recorded .closureSuppressed 0 none none
        [w.water.stage.stage.code, w.depthDetail] true)) ∧
    (w.water.stage.stage = .dry → w.station.state = .held → w.stageTurns (w.judgeStage old rise) .watch .closeLevel) ∧
    (w.water.stage.stage = .watch → w.station.state = .held →
      (w.judgeStage old rise).water.stage = { w.water.stage with suppressed := true, dwellStart := none } ∧
      (w.water.stage.suppressed = true → (w.judgeStage old rise).notices = w.notices)) ∧
    (w.water.stage.stage = .draining → w.water.stage.north = .shut → w.water.stage.south = .shut →
      w.stageTurns (w.judgeStage old rise) .closed .closeLevel) ∧
    (w.water.stage.stage = .draining → (w.water.stage.north ≠ .shut ∨ w.water.stage.south ≠ .shut) →
      w.stageTurns (w.judgeStage old rise) .alert .closeLevel) := by
  have hsupp (hf : w.water.stage.suppressed = false) : w.flagJudged.suppress.recorded .closureSuppressed 0 none none
      [w.water.stage.stage.code, w.depthDetail] true :=
    Works.suppress_recorded (w := w.flagJudged) (by simp [hf])
  refine ⟨fun hs hst => Works.judgeStage_closes_running hr hc hs hst, fun hs hst => ?_,
    fun hs hst => (Works.judgeStage_closes_dry hr hc hs hst).2, fun hs hst => ?_, fun hs hn hm => ?_, fun hs hv => ?_⟩
  · obtain hs | hs := hs
    · have hne : w.flagJudged.suppress.water.stage.stage ≠ .watch := by simp [Works.suppress_stage, hs]
      rw [(Works.judgeStage_closes_dry hr hc hs hst).1]
      refine ⟨?_, fun hf => (Works.changeStage_only .closeLevel).recorded (by decide) (hsupp hf)⟩
      rw [Works.endJudgement_stage]
      exact (Works.changeStage_suppressed _ hne).trans (by rw [Works.suppress_stage])
    · rw [Works.judgeStage_closes_watch hr hc hs hst]
      refine ⟨?_, hsupp⟩
      rw [Works.endJudgement_stage, Works.suppress_stage]
  · have hw : w.flagJudged.suppress.water.stage.stage = .watch := by simp [Works.suppress_stage, hs]
    have hfacts : w.flagJudged.suppress.facts.watch = true := by
      rw [Works.suppress_facts, Works.flagJudged_facts, Works.facts_watch_iff]
      exact .inr (.inr (.inr (.inl hc.1)))
    rw [Works.judgeStage_closes_watch hr hc hs hst]
    refine ⟨?_, fun hf => ?_⟩
    · rw [Works.endJudgement_stage, Works.dwellJudged_of_watch hw, hfacts, Works.suppress_stage, Works.flagJudged_stage]
      rfl
    · rw [Works.endJudgement_notices, Works.suppress_of_set (by simp [hf, hc.1]), Works.flagJudged_notices]
  · have ht := Works.turns_of_flagJudged (w := w) (st := .closed) (k := .closeLevel) (by rw [hs]; decide)
    exact (Works.judgeStage_of_closes_turn hr hc (Works.closure_of_draining_shut hs hn hm) ht (by decide)).2
  · have ht := Works.turns_of_flagJudged (w := w) (st := .alert) (k := .closeLevel) (by rw [hs]; decide)
    exact (Works.judgeStage_of_closes_turn hr hc (Works.closure_of_draining_open hs hv) ht (by decide)).2

/-- R15, R18: no closure cause, stage by stage. -/
theorem Works.judgeStage_calm {y : StageRec}
    (hy : y = { w.water.stage with suppressed := w.water.stage.suppressed && w.closeAbove }) (hr : w.stageRuns = true)
    (hc : ¬ w.closes old) :
    (∀ k, w.water.stage.stage = .dry → w.watchBrought old rise = some k → w.stageTurns (w.judgeStage old rise) .watch k) ∧
    (w.water.stage.stage = .dry → w.watchBrought old rise = none →
      (w.judgeStage old rise).water.stage = { y with dwellStart := none } ∧
        (w.judgeStage old rise).notices = w.notices) ∧
    (w.water.stage.stage = .watch → w.watchStands → (w.judgeStage old rise).water.stage = { y with dwellStart := none } ∧
      (w.judgeStage old rise).notices = w.notices) ∧
    (w.water.stage.stage = .watch → ¬ w.watchStands →
      (w.judgeStage old rise).water.stage =
        { y with dwellStart := some (if rise = true then w.now else w.water.stage.dwellStart.getD w.now) } ∧
      (w.judgeStage old rise).notices = w.notices) ∧
    (w.water.stage.stage = .draining → (w.judgeStage old rise).water.stage = { y with dwellStart := none } ∧
      (w.judgeStage old rise).notices = w.notices) := by
  subst hy
  have hcalm (hd : w.water.stage.stage = .dry → w.watchBrought old rise = none) {d : Option Nat}
      (hj : w.flagJudged.dwellJudged rise = d) :
      (w.judgeStage old rise).water.stage = { w.flagJudged.water.stage with dwellStart := d } ∧
        (w.judgeStage old rise).notices = w.notices := by
    rw [Works.judgeStage_of_calm hr hc hd, ← hj]
    exact ⟨rfl, rfl⟩
  refine ⟨fun k hs hk => ?_, fun hs hk => ?_, fun hs hw => ?_, fun hs hw => ?_, fun hs => ?_⟩
  · rw [Works.judgeStage_of_watch hr hc hs hk]
    exact (Works.turns_of_flagJudged (by rw [hs]; decide)).endJudgement rise
  · exact hcalm (fun _ => hk) (Works.dwellJudged_of_other (by simp [hs]) (by simp [hs]))
  · refine hcalm (by simp [hs]) ?_
    rw [Works.dwellJudged_of_watch (w := w.flagJudged) hs, Works.flagJudged_facts, Works.facts_watch_iff.mpr hw]
    rfl
  · refine hcalm (by simp [hs]) ?_
    have hf : w.facts.watch = false := by simpa using fun e => hw (Works.facts_watch_iff.mp e)
    rw [Works.dwellJudged_of_watch (w := w.flagJudged) hs, Works.flagJudged_facts, hf]
    rfl
  · exact hcalm (by simp [hs]) (Works.dwellJudged_of_other (by simp [hs]) (by simp [hs]))

/-- In ALERT and CLOSED a judgement touches the flag and the dwell alone, closure cause or not. -/
theorem Works.judgeStage_of_late (hr : w.stageRuns = true)
    (hs : w.water.stage.stage = .alert ∨ w.water.stage.stage = .closed) :
    w.judgeStage old rise = w.flagJudged.endJudgement rise := by
  have hd : w.water.stage.stage ≠ .dry := by obtain hs | hs := hs <;> simp [hs]
  by_cases hc : w.closes old
  · have he : w.flagJudged.closure = w.flagJudged := Works.closure_of_closing hs
    rw [Works.judgeStage_of_closes hr hc (by rw [he]; exact hd), he]
  · exact Works.judgeStage_of_calm hr hc fun e => absurd e hd

/-- Where CLOSE is not ABOVE, the suppressed flag is clear after every judgement (R16). -/
theorem Works.judgeStage_clears (hr : w.stageRuns = true) (hc : w.closeAbove = false) :
    (w.judgeStage old rise).water.stage.suppressed = false := by
  have hn : ¬ w.closes old := fun h => Bool.false_ne_true (hc.symm.trans h.1)
  have hflag : w.flagJudged.water.stage.suppressed = false := by simp [hc]
  by_cases hd : w.water.stage.stage = .dry
  · cases hk : w.watchBrought old rise with
    | none => rw [Works.judgeStage_of_calm hr hn fun _ => hk]; exact hflag
    | some k =>
      rw [Works.judgeStage_of_watch hr hn hd hk]
      exact (Works.changeStage_suppressed k (by rw [Works.flagJudged_stage, hd]; decide)).trans hflag
  · rw [Works.judgeStage_of_calm hr hn fun e => absurd e hd]
    exact hflag

/-- The flag in every stage, and the whole judgement in ALERT and CLOSED. -/
theorem Works.judgeStage_flag {y : StageRec}
    (hy : y = { w.water.stage with suppressed := w.water.stage.suppressed && w.closeAbove }) (hr : w.stageRuns = true) :
    (w.closeAbove = false → (w.judgeStage old rise).water.stage.suppressed = false) ∧
    (w.water.stage.stage = .alert → (w.judgeStage old rise).water.stage = { y with dwellStart := none } ∧
      (w.judgeStage old rise).notices = w.notices) ∧
    (w.water.stage.stage = .closed → (w.judgeStage old rise).notices = w.notices ∧
      (w.judgeStage old rise).water.stage = { y with
        dwellStart := if w.reopenBelow = true then some (w.water.stage.dwellStart.getD w.now) else none }) := by
  subst hy
  refine ⟨Works.judgeStage_clears hr, fun hs => ?_, fun hs => ?_⟩
  · rw [Works.judgeStage_of_late hr (.inl hs)]
    refine ⟨?_, rfl⟩
    rw [Works.endJudgement_stage, Works.dwellJudged_of_other (by simp [hs]) (by simp [hs])]
    rfl
  · rw [Works.judgeStage_of_late hr (.inr hs)]
    refine ⟨rfl, ?_⟩
    rw [Works.endJudgement_stage, Works.dwellJudged_of_closed (w := w.flagJudged) hs]
    rfl

/-- R14: what a report makes of the stage. -/
theorem Works.stageReport_spec (w : Works) (r : ViewReport) :
    (w.water.stage.stage = .alert → w.water.stage.north = .shut → w.water.stage.south = .shut →
      w.stageTurns (w.stageReport r) .closed .portalsShut) ∧
    (w.water.stage.stage = .alert → (w.water.stage.north ≠ .shut ∨ w.water.stage.south ≠ .shut) →
      (w.stageReport r).water.stage = w.water.stage) ∧
    (w.water.stage.stage = .closed → r.old = .shut → r.new ≠ .shut →
      w.stageTurns (w.stageReport r) .alert .portalBreach) ∧
    (w.water.stage.stage = .closed → (r.old ≠ .shut ∨ r.new = .shut) → (w.stageReport r).water.stage = w.water.stage) ∧
    (w.water.stage.stage = .draining → r.old = .shut → r.new ≠ .shut → r.reopening = false →
      w.stageTurns (w.stageReport r) .alert .portalBreach) ∧
    (w.water.stage.stage = .draining → (r.old ≠ .shut ∨ r.new = .shut ∨ r.reopening = true) →
      w.water.stage.north = .opened → w.water.stage.south = .opened → w.stageTurns (w.stageReport r) .watch .reopened) ∧
    (w.water.stage.stage = .draining → (r.old ≠ .shut ∨ r.new = .shut ∨ r.reopening = true) →
      (w.water.stage.north ≠ .opened ∨ w.water.stage.south ≠ .opened) → (w.stageReport r).water.stage = w.water.stage) ∧
    ((w.water.stage.stage = .dry ∨ w.water.stage.stage = .watch) → (w.stageReport r).water.stage = w.water.stage) := by
  refine ⟨fun hs hn hm => ?_, fun hs hv => ?_, fun hs ho hn => ?_, fun hs h => ?_, fun hs ho hn hr => ?_,
    fun hs h hn hm => ?_, fun hs h hv => ?_, fun hs => ?_⟩
  · exact Works.stageReport_turns (by simp [hs]) (Works.stageReport_alert_shut hs hn hm)
  · exact Works.stageReport_stands (Works.stageReport_alert_open hs hv)
  · exact Works.stageReport_turns (by simp [hs]) (Works.stageReport_closed_breach hs ho hn)
  · exact Works.stageReport_stands (Works.stageReport_closed_quiet hs h)
  · exact Works.stageReport_turns (by simp [hs]) (Works.stageReport_draining_breach hs ho hn hr)
  · refine Works.stageReport_turns (by simp [hs]) ?_
    rw [Works.stageReport_draining hs h, if_pos ⟨hn, hm⟩]
  · refine Works.stageReport_stands ?_
    rw [Works.stageReport_draining hs h, if_neg (by tauto)]
  · exact Works.stageReport_stands (Works.stageReport_early hs)

end Clauses

/-- WATCH_DWELL_EXPIRY and REOPEN_DWELL_EXPIRY are events of the works. -/
theorem exec_watchDwellExpiry (s : State) : exec .watchDwellExpiry s = .next (s.ended s.works.watchDwellExpiry) := rfl

theorem exec_reopenDwellExpiry (s : State) : exec .reopenDwellExpiry s = .next (s.ended s.works.reopenDwellExpiry) := rfl

/-- Settles O22: the dwells by `Works.changeStage_event`, the governing depth by `governingOf_governs`, the stage machine by the
parts of `Works.judgeStage`, the portal views by `Works.changeClosure_view` and `Works.stageReport_spec`. -/
theorem dwellExpiries : Obligations.DwellExpiries := by
  refine ⟨fun s hs hr => ⟨_, exec_watchDwellExpiry s, ?_⟩, fun s hs hr => ⟨_, exec_reopenDwellExpiry s, ?_⟩,
    fun w => ⟨w.recomputeDepth_governs, ?_, ?_, fun ho hn hs => ?_, fun d ho hn => Works.recomputeDepth_restored ho hn⟩,
    fun w c v x hx hk => ⟨Works.sample_depthGoverns hx hk, fun hv => ?_⟩, by decide, fun w k r => Works.someAbove_iff k r,
    fun w => Works.closeAbove_iff, fun w c v x hx hk => Works.sample_judges hx (by tauto), ?_, ?_, ?_,
    fun w => Works.reopenBelow_iff, fun w old rise h => Works.judgeStage_of_idle h, by decide, fun w n c _ h => ?_, ?_⟩
  · rw [Works.watchDwellExpiry_of_over hs hr]
    exact Works.changeStage_event .watchDwell hs (by decide)
  · rw [Works.reopenDwellExpiry_of_over hs hr]
    exact Works.changeStage_event .reopenDwell hs (by decide)
  · rw [Works.recomputeDepth_water]
  · rw [Works.recomputeDepth_water]
  · exact Works.recomputeDepth_lost ho hn (Works.stageRuns_iff.mpr hs)
  · exact ⟨Works.channelLost_depthGoverns hx hk hv, _, Works.channelLost_self hx hv, rfl⟩
  · rintro w _ old rise _ hr rfl rfl hc
    exact Works.judgeStage_closes hr hc
  · rintro w _ old rise _ y hr rfl rfl hy hc
    exact Works.judgeStage_calm hy hr hc
  · rintro w _ old rise _ y hr rfl rfl hy
    exact Works.judgeStage_flag hy hr
  · obtain ⟨hw, hr⟩ := Works.changeClosure_view h
    exact ⟨by rw [hw]; rfl, hr⟩
  · rintro w _ r _ rfl rfl
    exact w.stageReport_spec r

end Sys2Proof.Machine

namespace Sys2Proof.Machine

open Sys2Proof

/-! # What every step keeps of the works: the laws of R33, R139 and Table 9-3 -/

/-- The standing laws of the works hold of `v` where they hold of `w`: a site table in force (Table 9-3), one INRUSH (R33), the
bound of the line queue (R139). -/
structure Works.KeepsLaws (w v : Works) : Prop where
  siteInForce : w.siteInForce → v.siteInForce
  oneInrush : w.oneInrush → v.oneInrush
  lineQueueFits : w.lineQueueFits → v.lineQueueFits

/-- Whatever state an outcome goes on with, it keeps the laws of `s`. -/
structure State.KeepsLaws (s : State) (o : Host.Outcome State Fault Refusal) : Prop where
  of_next : ∀ t, o = .next t → s.works.KeepsLaws t.works

section Laws

variable {ps : List Part} {u v w : Works} {s t : State}

theorem Works.KeepsLaws.refl (w : Works) : w.KeepsLaws w := ⟨id, id, id⟩

theorem Works.KeepsLaws.trans (h1 : u.KeepsLaws v) (h2 : v.KeepsLaws w) : u.KeepsLaws w :=
  ⟨fun h => h2.siteInForce (h1.siteInForce h), fun h => h2.oneInrush (h1.oneInrush h),
    fun h => h2.lineQueueFits (h1.lineQueueFits h)⟩

theorem Works.Settles.keepsLaws (h : Works.Settles w v) : w.KeepsLaws v :=
  ⟨h.siteInForce, h.oneInrush, h.lineQueueFits⟩

theorem Works.Leads.keepsLaws (h : Works.Leads ps w v) : w.KeepsLaws v := h.settles.keepsLaws

theorem State.KeepsLaws.next (h : s.works.KeepsLaws t.works) : s.KeepsLaws (.next t) :=
  ⟨fun _ e => by injection e with e; exact e ▸ h⟩

/-! ## The shapes in which a command is executed -/

theorem settleState_keepsLaws (h : w.KeepsLaws s.works) : w.KeepsLaws (settleState s).works :=
  h.trans (settleState_ends s).works.keepsLaws

theorem onPort_keepsLaws (f : Port → Port) : s.KeepsLaws (onPort f s) := .next (.refl _)

theorem onWorks_keepsLaws {f : Works → Works} (h : Works.Leads Part.all s.works (f s.works)) :
    s.KeepsLaws (onWorks f s) := .next h.keepsLaws

theorem onJob_keepsLaws {f : Works → Works} (h : Works.Leads Part.all s.works (f s.works)) :
    s.KeepsLaws (onJob f s) := .next (settleState_keepsLaws h.keepsLaws)

theorem flagWrite_keepsLaws (n : Nat) (f : Port → Port) : s.KeepsLaws (flagWrite n f s) := by
  refine .next ?_
  unfold arrivalAt
  split
  · exact (Works.send_leads (ps := []) _ _ .refl).keepsLaws
  · exact .refl _

theorem finish_keepsLaws (o : Order) (st d d2 : Nat) (r : List Nat) (w : Works) :
    w.KeepsLaws (o.finish st d d2 r w) :=
  (Order.finish_leads (ps := Part.all) o st d d2 r w (by decide) .refl).keepsLaws

theorem takeUp_keepsLaws {f : Order → Works → Works} (c : OrderCode) (k : Nat)
    (h : ∀ o, Works.Leads Part.all s.works (f o s.works)) : s.KeepsLaws (takeUp c f k s) := by
  unfold takeUp
  split
  · exact .next (.refl _)
  · rename_i o _
    split
    · exact .next (.refl _)
    · exact .next (.refl _)
    · exact .next (finish_keepsLaws ..)
    · exact .next (settleState_keepsLaws (h o).keepsLaws)

theorem stationOrder_keepsLaws {f : Order → State → State} (c : OrderCode) (k : Nat)
    (h : ∀ o, s.works.KeepsLaws (f o s).works) : s.KeepsLaws (stationOrder c f k s) := by
  unfold stationOrder
  split
  · exact .next (.refl _)
  · exact .next (h _)

/-! ## The order reader (R157, R159) -/

theorem each_keepsLaws {α : Type} {f : α → State → State}
    (hf : ∀ a t, w.KeepsLaws t.works → w.KeepsLaws (f a t).works) (l : List α) (h : w.KeepsLaws s.works) :
    w.KeepsLaws (each l f s).works :=
  each_induction (P := fun t : State => w.KeepsLaws t.works) h fun a _ t => hf a t

theorem route_keepsLaws (k : Nat) (c : OrderCode) (h : w.KeepsLaws s.works) : w.KeepsLaws (route k c s).works := by
  unfold route
  split
  · exact h.trans (Works.send_leads (ps := []) _ _ .refl).keepsLaws
  · exact h

theorem checkSubject_keepsLaws (k : Nat) (c : OrderCode) (n : Nat) (h : w.KeepsLaws s.works) :
    w.KeepsLaws (checkSubject k c n s).works := by
  unfold checkSubject
  split
  · exact route_keepsLaws k c h
  · exact h

theorem checkEntry_keepsLaws (e : Entry) (h : w.KeepsLaws s.works) : w.KeepsLaws (checkEntry e s).works := by
  unfold checkEntry
  split
  · exact h
  · split
    · exact h
    · split
      · exact h
      · split
        · exact checkSubject_keepsLaws _ _ _ h
        · split
          · exact h
          · exact route_keepsLaws _ _ h
          · exact checkSubject_keepsLaws _ _ _ h

theorem takeSlot_keepsLaws (k : Nat) (h : w.KeepsLaws s.works) : w.KeepsLaws (takeSlot k s).works :=
  checkEntry_keepsLaws _ h

theorem treatPost_keepsLaws (k : Nat) (s : State) (h : w.KeepsLaws s.works) : w.KeepsLaws (treatPost k s).works := by
  unfold treatPost
  split
  · exact h
  · split
    · exact takeSlot_keepsLaws k h
    · exact takeSlot_keepsLaws k h

theorem treatWithdraw_keepsLaws (k : Nat) (s : State) (h : w.KeepsLaws s.works) :
    w.KeepsLaws (treatWithdraw k s).works := by
  unfold treatWithdraw
  split
  · exact h
  · split
    · split
      · exact h
      · exact h.trans (Works.forget_leads (ps := Part.all) _ _ (by decide) .refl).keepsLaws
    · split
      · exact h.trans (Works.withdrawActive_leads (ps := Part.all) _ _ (by decide) .refl).keepsLaws
      · exact h

theorem takeBits_keepsLaws {f : Nat → State → State} (hf : ∀ a t, w.KeepsLaws t.works → w.KeepsLaws (f a t).works)
    (n : Nat) (h : w.KeepsLaws s.works) : w.KeepsLaws (takeBits n f s).works := each_keepsLaws hf _ h

theorem orderArrival_keepsLaws (s : State) : s.KeepsLaws (execOrderArrival s) :=
  .next (takeBits_keepsLaws treatWithdraw_keepsLaws _ (takeBits_keepsLaws treatPost_keepsLaws _ (.refl _)))

/-! ## The image publisher and the passing of time (R164) -/

theorem writeSection_keepsLaws (h : w.KeepsLaws s.works) : w.KeepsLaws (writeSection s).works := by
  unfold writeSection
  split
  · exact h
  · split
    · exact h.trans (Works.afterSection_leads (ps := Part.all) _ _ (by decide)
        (Works.beforeSection_leads _ _ (by decide) .refl)).keepsLaws
    · exact h

theorem writeSections_keepsLaws (n : Nat) (h : w.KeepsLaws s.works) : w.KeepsLaws (times writeSection n s).works := by
  induction n generalizing s with
  | zero => exact h
  | succ n ih => exact ih (writeSection_keepsLaws h)

theorem someSections_keepsLaws (h : w.KeepsLaws s.works) : w.KeepsLaws (someSections s).works :=
  writeSections_keepsLaws _ (h.trans (Works.draw_leads (ps := Part.all) _ (by decide) .refl).keepsLaws)

theorem beginRewrite_keepsLaws (h : w.KeepsLaws s.works) : w.KeepsLaws (beginRewrite s).works :=
  someSections_keepsLaws h

theorem requestRewrite_keepsLaws (h : w.KeepsLaws s.works) : w.KeepsLaws (requestRewrite s).works := by
  unfold requestRewrite
  split
  · exact h
  · exact beginRewrite_keepsLaws h

theorem endRewrite_keepsLaws (h : w.KeepsLaws s.works) : w.KeepsLaws (endRewrite s).works := by
  have hall := writeSections_keepsLaws 11 h
  revert hall
  unfold endRewrite
  generalize times writeSection 11 s = t
  intro hall
  split
  · exact h
  · dsimp only
    split
    · exact beginRewrite_keepsLaws hall
    · exact hall

theorem passSections_keepsLaws (h : w.KeepsLaws s.works) : w.KeepsLaws (passSections s).works := by
  unfold passSections
  split
  · exact someSections_keepsLaws h
  · exact h

theorem tick_keepsLaws (s : State) : s.works.KeepsLaws (tick s).works :=
  (passSections_keepsLaws (⟨id, id, id⟩ : s.works.KeepsLaws { s.works with now := s.works.now + 1 })).trans ⟨id, id, id⟩

/-! ## Station control (R173, R174, R177, R178) -/

theorem lateChecks_works (s : State) : (lateChecks s).works = s.works := by
  refine each_induction (P := fun t : State => t.works = s.works) rfl fun e _ t h => ?_
  unfold lateCheck
  split
  · exact h
  · split <;> exact h

/-- A table that comes into force brings its own grants and line queue, with a site in force. -/
theorem bringIntoForce_keepsLaws (site : Site) (load : Option Nat) (s : State) :
    w.KeepsLaws (bringIntoForce site load s).works := by
  have hbuilt : ∀ x : Works, ∃ y, y = (x.setStation { x.station with site := some site }).buildAll site load.isSome ∧
      y.station.site = some site ∧ y.oneInrush ∧ y.lineQueueFits := fun x => by
    obtain ⟨_, hstation, hone, hfits⟩ :=
      Works.buildAll_keeps site load.isSome (x.setStation { x.station with site := some site })
    exact ⟨_, rfl, by rw [hstation]; rfl, hone, hfits⟩
  have hentered : ∀ (x : Works) (c : StationCause) (a b : Nat), x.station.site = some site → x.oneInrush →
      x.lineQueueFits → w.KeepsLaws (x.enterState .rollCall c a b) := fun x c a b hs h1 h2 =>
    ⟨fun _ _ => by show x.station.site.isSome = true; rw [hs]; rfl, fun _ => h1, fun _ => h2⟩
  unfold bringIntoForce
  cases load with
  | none =>
    obtain ⟨y, hy, hs, h1, h2⟩ := hbuilt s.works
    refine settleState_keepsLaws ?_
    dsimp only
    rw [lateChecks_works]
    exact hy ▸ hentered y _ _ _ hs h1 h2
  | some k =>
    obtain ⟨y, hy, hs, h1, h2⟩ := hbuilt (siteChanged k s).works
    refine settleState_keepsLaws ?_
    dsimp only
    rw [lateChecks_works]
    exact hy ▸ hentered y.dropNotices _ _ _ hs h1 h2

theorem ordersUnset_keepsLaws (h : w.KeepsLaws s.works) : w.KeepsLaws (ordersUnset s).works :=
  each_keepsLaws (fun _ _ h => h.trans (finish_keepsLaws ..)) _ h

theorem siteStoreJudgement_keepsLaws (s : State) : s.KeepsLaws (execSiteStoreJudgement s) := by
  unfold execSiteStoreJudgement
  split
  · refine .next ?_
    unfold endLoading
    split
    · exact bringIntoForce_keepsLaws ..
    · exact ordersUnset_keepsLaws ⟨fun _ h => absurd h (by simp [Works.enterState]), id, id⟩
  · exact .next (.refl _)

theorem rowDone_keepsLaws (p : Programming) (rb : Option (List Byte)) (s : State) :
    s.works.KeepsLaws (rowDone p rb s).works := by
  unfold rowDone
  dsimp only
  split
  · exact bringIntoForce_keepsLaws ..
  · split
    · exact ⟨id, id, id⟩
    · exact bringIntoForce_keepsLaws ..

theorem storeRowProgrammed_keepsLaws (rb : Option (List Byte)) (s : State) :
    s.KeepsLaws (execStoreRowProgrammed rb s) := by
  unfold execStoreRowProgrammed
  split
  · exact .next (.refl _)
  · split
    · exact .next (rowDone_keepsLaws ..)
    · exact .next (.refl _)

theorem loadAccepted_keepsLaws (o : Order) (bytes : List Byte) (site : Site) (s : State) :
    s.works.KeepsLaws (loadAccepted o bytes site s).works := by
  unfold loadAccepted
  dsimp only
  split
  · exact ⟨id, id, id⟩
  · exact bringIntoForce_keepsLaws ..

theorem judgeLoad_keepsLaws (o : Order) (s : State) : s.works.KeepsLaws (judgeLoad o s).works := by
  unfold judgeLoad
  split
  · exact finish_keepsLaws ..
  · split
    · exact finish_keepsLaws ..
    · exact loadAccepted_keepsLaws ..

theorem loadSiteOrder_keepsLaws (o : Order) (s : State) : s.works.KeepsLaws (loadSiteOrder o s).works := by
  unfold loadSiteOrder
  dsimp only
  split
  · exact finish_keepsLaws ..
  · exact finish_keepsLaws ..
  · exact finish_keepsLaws ..
  · split
    · exact finish_keepsLaws ..
    · exact judgeLoad_keepsLaws o s

theorem Works.enterRunning_keepsLaws (slot : Nat) (h : w.station.state = .held) : w.KeepsLaws (w.enterRunning slot) :=
  (Works.enterState_settles .running .run 0 slot w (.inr (.inl h))).keepsLaws.trans
    (Works.jobsRun_leads (ps := Part.all) _ (by decide) (Works.stageRun_leads _ (by decide) .refl)).keepsLaws

theorem Works.enterHeld_keepsLaws (slot : Nat) (h : w.station.state = .running) : w.KeepsLaws (w.enterHeld slot) :=
  (Works.enterState_settles .held .hold 0 slot w (.inr (.inr h))).keepsLaws.trans
    (Works.jobsHold_leads (ps := Part.all) _ (by decide) .refl).keepsLaws

theorem runOrder_keepsLaws (o : Order) (s : State) : s.works.KeepsLaws (runOrder o s).works := by
  unfold runOrder
  dsimp only
  split
  · exact finish_keepsLaws ..
  · exact finish_keepsLaws ..
  · exact finish_keepsLaws ..
  · exact finish_keepsLaws ..
  · rename_i hheld
    split
    · exact finish_keepsLaws ..
    · exact settleState_keepsLaws ((Works.enterRunning_keepsLaws o.slot hheld).trans (finish_keepsLaws ..))

theorem holdOrder_keepsLaws (o : Order) (s : State) : s.works.KeepsLaws (holdOrder o s).works := by
  unfold holdOrder
  dsimp only
  split
  · exact finish_keepsLaws ..
  · exact finish_keepsLaws ..
  · exact finish_keepsLaws ..
  · exact finish_keepsLaws ..
  · rename_i hrunning
    split
    · exact finish_keepsLaws ..
    · exact settleState_keepsLaws ((Works.enterHeld_keepsLaws o.slot hrunning).trans (finish_keepsLaws ..))

/-! ## Accesses and resets (R151, R154, R166, R167) -/

theorem narrowViewAccess_keepsLaws (a : Half) (b wr : Bool) (s : State) : s.KeepsLaws (execNarrowViewAccess a b wr s) := by
  unfold execNarrowViewAccess
  split
  · split
    · split
      · exact flagWrite_keepsLaws ..
      · exact onPort_keepsLaws _
    · exact onPort_keepsLaws _
  · exact .next (.refl _)

theorem registerWriteDiscarded_keepsLaws (a : Half) (x : Width) (d : Word) (s : State) :
    s.KeepsLaws (execRegisterWriteDiscarded a x d s) := by
  unfold execRegisterWriteDiscarded
  split
  · exact onPort_keepsLaws _
  · exact .next (.refl _)

/-- After a reset the grant table and the line queue are empty and the station is in LOADING. -/
theorem Works.afterReset_keepsLaws (b : Bool) (w v : Works) : v.KeepsLaws (w.afterReset b) :=
  ⟨fun _ h => absurd h (by simp [Works.afterReset, Works.reset]), fun _ => Nat.zero_le _, fun _ => Nat.zero_le _⟩

theorem partReset_keepsLaws (d : Word) (s : State) : s.KeepsLaws (execPartReset d s) := by
  unfold execPartReset
  split
  · exact .next (Works.afterReset_keepsLaws ..)
  · exact .next (.refl _)

/-! ## Every command, every step -/

theorem exec_keepsLaws (i : Instr) (s : State) : s.KeepsLaws (exec i s) := by
  cases i with
  | powerOnReset => exact .next (Works.afterReset_keepsLaws ..)
  | partReset data => exact partReset_keepsLaws ..
  | pstatWrite data => exact .next (.refl _)
  | registerWriteDiscarded addr width data => exact registerWriteDiscarded_keepsLaws addr width data s
  | flagPlainWrite index data => exact flagWrite_keepsLaws ..
  | flagSetViewWrite index data => exact flagWrite_keepsLaws ..
  | flagClearViewWrite index data => exact flagWrite_keepsLaws ..
  | flagTakeViewRead index => exact onPort_keepsLaws _
  | takeViewWrite index data => exact flagWrite_keepsLaws ..
  | narrowViewAccess addr half isWrite => exact narrowViewAccess_keepsLaws addr half isWrite s
  | orderArrival => exact orderArrival_keepsLaws s
  | orderCompletion c => exact onPort_keepsLaws _
  | journalAppend r => exact onPort_keepsLaws _
  | imageRewriteRequest => exact .next (requestRewrite_keepsLaws (.refl _))
  | imageRewriteEnd => exact .next (endRewrite_keepsLaws (.refl _))
  | declareClosure k => exact takeUp_keepsLaws _ k fun o => Works.declareOrder_leads o _ (by decide) .refl
  | standDown k => exact takeUp_keepsLaws _ k fun o => Works.standDownOrder_leads o _ (by decide) .refl
  | rebaseChannel k => exact takeUp_keepsLaws _ k fun o => Works.rebaseOrder_leads o _ (by decide) .refl
  | pumpRun k => exact takeUp_keepsLaws _ k fun o => Works.pumpRunOrder_leads o _ (by decide) .refl
  | pumpStop k => exact takeUp_keepsLaws _ k fun o => Works.pumpStopOrder_leads o _ (by decide) .refl
  | pumpAuto k => exact takeUp_keepsLaws _ k fun o => Works.pumpAutoOrder_leads o _ (by decide) .refl
  | pumpClear k => exact takeUp_keepsLaws _ k fun o => Works.pumpClearOrder_leads o _ (by decide) .refl
  | pumpService k => exact takeUp_keepsLaws _ k fun o => Works.pumpServiceOrder_leads o _ (by decide) .refl
  | leadSet k => exact takeUp_keepsLaws _ k fun o => Works.leadSetOrder_leads o _ (by decide) .refl
  | portalReopen k => exact takeUp_keepsLaws _ k fun o => Works.portalReopenOrder_leads o _ (by decide) .refl
  | confirmClear k => exact takeUp_keepsLaws _ k fun o => Works.confirmClearOrder_leads o _ (by decide) .refl
  | portalReset k => exact takeUp_keepsLaws _ k fun o => Works.portalResetOrder_leads o _ (by decide) .refl
  | zoneSet k => exact takeUp_keepsLaws _ k fun o => Works.zoneSetOrder_leads o _ (by decide) .refl
  | zoneAuto k => exact takeUp_keepsLaws _ k fun o => Works.zoneAutoOrder_leads o _ (by decide) .refl
  | unitRetire k => exact takeUp_keepsLaws _ k fun o => Works.unitRetireOrder_leads o _ (by decide) .refl
  | unitRestore k => exact takeUp_keepsLaws _ k fun o => Works.unitRestoreOrder_leads o _ (by decide) .refl
  | loadSite k => exact stationOrder_keepsLaws _ k fun o => loadSiteOrder_keepsLaws o s
  | run k => exact stationOrder_keepsLaws _ k fun o => runOrder_keepsLaws o s
  | hold k => exact stationOrder_keepsLaws _ k fun o => holdOrder_keepsLaws o s
  | siteStoreJudgement => exact siteStoreJudgement_keepsLaws s
  | storeRowProgrammed readBack => exact storeRowProgrammed_keepsLaws readBack s
  | requestTransmitted => exact onJob_keepsLaws (Works.requestTransmitted_leads _ (by decide) .refl)
  | responseFrameComplete => exact onJob_keepsLaws (Works.responseComplete_leads _ (by decide) .refl)
  | responseWindowExpiry => exact onJob_keepsLaws (Works.windowExpired_leads _ (by decide) .refl)
  | frameGapTimeout => exact onWorks_keepsLaws (Works.gapTimeout_leads _ (by decide) .refl)
  | riseWindowExpiry c => exact onWorks_keepsLaws (Works.riseExpiry_leads c _ (by decide) .refl)
  | watchDwellExpiry => exact onJob_keepsLaws (Works.watchDwellExpiry_leads _ (by decide) .refl)
  | reopenDwellExpiry => exact onJob_keepsLaws (Works.reopenDwellExpiry_leads _ (by decide) .refl)
  | loadRequest i cls power => exact onWorks_keepsLaws (Works.loadRequest_leads i cls power _ (by decide) .refl)
  | loadRelease i => exact onWorks_keepsLaws (Works.loadRelease_leads i _ (by decide) .refl)
  | loadShrink i power => exact onWorks_keepsLaws (Works.loadShrink_leads i power _ (by decide) .refl)
  | loadWithdrawal i => exact onWorks_keepsLaws (Works.loadWithdrawal_leads i _ (by decide) .refl)
  | classNotice i cls => exact onWorks_keepsLaws (Works.classNotice_leads i cls _ (by decide) .refl)
  | energisedNotice i => exact onWorks_keepsLaws (Works.energise_leads i _ (by decide) .refl)
  | inrushWindowExpiry i => exact onWorks_keepsLaws (Works.windowExpiry_leads i _ (by decide) .refl)
  | adoptionNotice i power => exact onWorks_keepsLaws (Works.adopt_leads i power _ (by decide) .refl)
  | shedFailure i => exact onWorks_keepsLaws (Works.shedFailure_leads i _ (by decide) .refl)
  | pumpGrantNotice p => exact onJob_keepsLaws (Works.pumpGranted_leads p _ (by decide) .refl)
  | startConfirmExpiry p => exact onJob_keepsLaws (Works.startConfirmExpiry_leads p _ (by decide) .refl)
  | stopConfirmExpiry p => exact onJob_keepsLaws (Works.stopConfirmExpiry_leads p _ (by decide) .refl)
  | pumpRestExpiry p => exact onJob_keepsLaws (Works.pumpRestExpiry_leads p _ (by decide) .refl)
  | pumpShedRequest p => exact onJob_keepsLaws (Works.pumpShed_leads p _ (by decide) .refl)
  | warnTimeExpiry n => exact onJob_keepsLaws (Works.warnExpiry_leads n _ (by decide) .refl)
  | barrierTravelExpiry n => exact onJob_keepsLaws (Works.barrierTravelExpiry_leads n _ (by decide) .refl)
  | clearDwellExpiry => exact onJob_keepsLaws (Works.clearDwellExpiry_leads _ (by decide) .refl)
  | clearLimitExpiry n => exact onJob_keepsLaws (Works.clearLimitExpiry_leads n _ (by decide) .refl)
  | gateGrantNotice n => exact onJob_keepsLaws (Works.gateGranted_leads n _ (by decide) .refl)
  | gateTravelExpiry n => exact onJob_keepsLaws (Works.gateTravelExpiry_leads n _ (by decide) .refl)
  | obstructionDwellExpiry n => exact onJob_keepsLaws (Works.obstructionDwellExpiry_leads n _ (by decide) .refl)
  | lampGrantNotice c power => exact onJob_keepsLaws (Works.lampGranted_leads c power _ (by decide) .refl)
  | lampShedRequest c => exact onJob_keepsLaws (Works.lampShed_leads c _ (by decide) .refl)
  | pollRoundStart => exact onJob_keepsLaws (Works.pollRoundStart_leads _ (by decide) .refl)
  | plainMemoryWrite addr width data => exact onPort_keepsLaws _
  | responseByteReceived b => exact onWorks_keepsLaws (Works.byteReceived_leads b _ (by decide) .refl)

/-- Every step keeps the standing laws of the works. -/
theorem step_keepsLaws (s : State) : s.KeepsLaws (step s) := by
  unfold step
  split
  · exact ⟨(exec_keepsLaws _ (s.withPending _)).of_next⟩
  · split
    · rename_i rest _
      have h : s.works.KeepsLaws (s.withNotices rest).works := ⟨id, id, id⟩
      exact ⟨fun t ht => h.trans ((exec_keepsLaws _ _).of_next t ht)⟩
    · exact .next (tick_keepsLaws s)

end Laws

/-- Settles O59: one of the laws that every command keeps, since no operation of the blocks adds a second INRUSH entry. -/
theorem stepKeepsOneInrush : Obligations.StepKeepsOneInrush :=
  fun s t h hstep => ((step_keepsLaws s).of_next t hstep).oneInrush h

end Sys2Proof.Machine

namespace Sys2Proof.Machine

open Sys2Proof

/-! # The supply budget: grant table, queue and examination (R31 to R33) -/

/-! ## Lists by index -/

section Lists

variable {α : Type} {l : List α} {x : α} {i : Nat}

/-- A change of one element is the replacement by its new value. -/
theorem updAt_eq_replace (f : α → α) (h : l[i]? = some x) : updAt f i l = updAt (fun _ => f x) i l := by
  induction l generalizing i with
  | nil => simp [updAt]
  | cons y l ih =>
    cases i with
    | zero => simp at h; simp [updAt, h]
    | succ i => simp only [updAt]; rw [ih (by simpa using h)]

theorem updAt_updAt (f g : α → α) (i : Nat) (l : List α) : updAt f i (updAt g i l) = updAt (fun x => f (g x)) i l := by
  induction l generalizing i with
  | nil => simp [updAt]
  | cons y l ih => cases i <;> simp [updAt, ih]

theorem map_updAt {β : Type} (p : α → β) (f : α → α) (i : Nat) (l : List α) (hf : ∀ x, p (f x) = p x) :
    (updAt f i l).map p = l.map p := by
  induction l generalizing i with
  | nil => simp [updAt]
  | cons y l ih => cases i <;> simp [updAt, ih, hf]

/-- The sum over a list with one element replaced. -/
theorem sumOf_updAt (p : α → Nat) (f : α → α) (h : l[i]? = some x) :
    sumOf p (updAt f i l) + p x = sumOf p l + p (f x) := by
  induction l generalizing i with
  | nil => simp at h
  | cons y l ih =>
    cases i with
    | zero =>
      simp only [List.getElem?_cons_zero, Option.some.injEq] at h
      simp only [updAt, sumOf, h]
      omega
    | succ i =>
      have := ih (by simpa using h)
      simp only [updAt, sumOf]
      omega

end Lists

/-! ## One grant entry replaced -/

section Entries

variable {w v : Works} {i j : Nat} {g h : Grant} {q : List Nat}

@[simp] theorem Works.withEntry_grants (i : Nat) (g : Grant) (q : List Nat) (w : Works) :
    (w.withEntry i g q).budget.grants = updAt (fun _ => g) i w.budget.grants := rfl

theorem Works.withEntry_self (hg : w.budget.grants[i]? = some g) (h : Grant) (q : List Nat) :
    (w.withEntry i h q).budget.grants[i]? = some h := getElem?_updAt_self hg

theorem Works.withEntry_other (hj : j ≠ i) (h : Grant) (q : List Nat) :
    (w.withEntry i h q).budget.grants[j]? = w.budget.grants[j]? := getElem?_updAt_ne hj

theorem Works.withEntry_sum (hg : w.budget.grants[i]? = some g) (h : Grant) (q : List Nat) :
    grantedSum (w.withEntry i h q).budget + g.granted = grantedSum w.budget + h.granted :=
  sumOf_updAt Grant.granted (fun _ => h) hg

/-- An entry that is granted what it was granted leaves the granted sum. -/
theorem Works.withEntry_sum_same (hg : w.budget.grants[i]? = some g) (hh : h.granted = g.granted) (q : List Nat) :
    grantedSum (w.withEntry i h q).budget = grantedSum w.budget := by
  have := Works.withEntry_sum hg h q
  omega

/-- The model's changes of one entry, by the entry they leave. -/
theorem Works.updGrant_eq (f : Grant → Grant) (hg : w.budget.grants[i]? = some g) :
    w.updGrant i f = w.withEntry i (f g) w.budget.queue := by
  simp only [Works.updGrant, Works.setBudget, Works.withEntry]
  rw [updAt_eq_replace f hg]

theorem Works.leaveQueue_updGrant (f : Grant → Grant) (hg : w.budget.grants[i]? = some g) :
    (w.leaveQueue i).updGrant i f = w.withEntry i (f g) (w.budget.queue.filter (fun j => !(j == i))) :=
  Works.updGrant_eq f (w := w.leaveQueue i) hg

theorem not_mem_leaveQueue (i : Nat) (q : List Nat) : i ∉ q.filter (fun j => !(j == i)) := by simp

/-- What changes the budget's records only. -/
theorem Works.Leads.sameOutsideBudget (hl : Works.Leads [.budget] w v) : w.sameOutsideBudget v :=
  ⟨hl.now_eq, hl.station_eq, hl.water_eq (by decide), hl.dewater_eq (by decide), hl.portals_eq (by decide),
    hl.lights_eq (by decide), hl.claims_eq (by decide), hl.line_eq (by decide), hl.active_eq (by decide),
    hl.reports_eq (by decide), hl.fresh_eq (by decide)⟩

end Entries

/-! ## The queue (R32) -/

section Queue

variable {b : Budget} {i cls : Nat}

theorem joinAt_spec (b : Budget) (i cls : Nat) (q : List Nat) : ∃ x y, q = x ++ y ∧ joinAt b i cls q = x ++ i :: y ∧
    (∀ j ∈ x, classOf b j ≤ cls) ∧ ∀ j, y.head? = some j → cls < classOf b j := by
  induction q with
  | nil => exact ⟨[], [], rfl, rfl, by simp, by simp⟩
  | cons k q ih =>
    unfold joinAt
    split
    · rename_i hk
      exact ⟨[], k :: q, rfl, rfl, by simp, by simpa using hk⟩
    · rename_i hk
      obtain ⟨x, y, hq, hj, hx, hy⟩ := ih
      refine ⟨k :: x, y, by rw [hq]; rfl, by rw [hj]; rfl, fun j hm => ?_, hy⟩
      obtain rfl | hm := List.mem_cons.mp hm
      · omega
      · exact hx j hm

/-- Nothing of its class or ahead of it waits: the entry joins at the head. -/
theorem joinAt_head {q : List Nat} (hq : ∀ j, q.head? = some j → cls < classOf b j) : joinAt b i cls q = i :: q := by
  cases q with
  | nil => rfl
  | cons k q => exact if_pos (hq k rfl)

/-- A head of its class or ahead of it stays the head. -/
theorem head?_joinAt {q : List Nat} {j : Nat} (hq : q.head? = some j) (hc : classOf b j ≤ cls) :
    (joinAt b i cls q).head? = some j := by
  cases q with
  | nil => simp at hq
  | cons k q =>
    obtain rfl : k = j := by simpa using hq
    rw [joinAt, if_neg (by omega)]
    rfl

theorem classOf_eq {j : Nat} {e : Grant} (he : b.grants[j]? = some e) : classOf b j = e.cls := by simp [classOf, he]

end Queue

/-! ## The examination of the head (R33) -/

section Examination

variable {w v u : Works} {i : Nat} {g : Grant} {rest : List Nat}

theorem grantable_iff {b : Budget} : grantable b g = true ↔ b.mayGrant g := by
  simp [grantable, Budget.mayGrant, and_assoc]

/-- The power an entry gets as it is granted (R33). -/
def Grant.grantPower (g : Grant) : Nat := if g.load.isLamp then g.requested else g.inrush

/-- An entry as it is granted with a grant number (R33). -/
def Grant.grantedAs (n : Word) (g : Grant) : Grant :=
  { g with state := if g.load.isLamp then .held else .inrush, granted := g.grantPower, number := some n,
           energised := none, outage := none }

/-- The RESTORE record of a grant to an entry that waits since an outage (R38). -/
def Works.restoreRecord (i : Nat) (g : Grant) (w : Works) : List Instr :=
  match g.outage with
  | some t => [.journalAppend { kind := .restore, subject := i, fromState := none, toState := none,
                                details := [g.cls, g.grantPower, w.now - t], fault := false }]
  | none => []

/-- A grant: the entry, the next grant number, the queue without its head, the notice and the RESTORE record. -/
theorem Works.grantHead_eq (hg : w.budget.grants[i]? = some g) (rest : List Nat) : w.grantHead i g rest =
    { w with budget := { supply := { w.budget.supply with sequence := w.budget.supply.sequence + 1 },
                         queue := rest,
                         grants := updAt (fun _ => g.grantedAs (w.budget.supply.sequence + 1)) i w.budget.grants },
             notices := w.notices ++ grantNotice g.load g.grantPower :: w.restoreRecord i g } := by
  unfold Works.grantHead Works.restoreRecord
  dsimp only
  rw [Works.updGrant_eq (w := (w.setQueue rest).setSupply _) _ hg]
  cases g.outage with
  | none => rfl
  | some t => simp only [Works.record, Works.send, List.append_assoc]; rfl

/-- What an examination of the head can do: of the supply record the grant number, of entries that wait all but load, class,
mark and adopted flag. -/
structure Works.Examined (w v : Works) : Prop where
  leads : Works.Leads [.budget] w v
  supply : v.budget.supply = { w.budget.supply with sequence := v.budget.supply.sequence }
  queue : v.budget.queue ⊆ w.budget.queue
  entry : ∀ j ∉ w.budget.queue, v.budget.grants[j]? = w.budget.grants[j]?
  marks : v.budget.grants.map Grant.mark = w.budget.grants.map Grant.mark

theorem Works.Examined.refl (w : Works) : w.Examined w := ⟨.refl, rfl, fun _ h => h, fun _ _ => rfl, rfl⟩

theorem Works.Examined.trans (h1 : w.Examined v) (h2 : v.Examined u) : w.Examined u where
  leads := h1.leads.trans h2.leads
  supply := by rw [h2.supply, h1.supply]
  queue := fun _ h => h1.queue (h2.queue h)
  entry := fun j hj => (h2.entry j fun h => hj (h1.queue h)).trans (h1.entry j hj)
  marks := h2.marks.trans h1.marks

theorem Works.Examined.state_eq (h : w.Examined v) : v.budget.supply.state = w.budget.supply.state := by
  rw [h.supply]

theorem Works.grantHead_examined (hq : w.budget.queue = i :: rest) (hg : w.budget.grants[i]? = some g)
    (hm : w.budget.mayGrant g) : w.Examined (w.grantHead i g rest) where
  leads := Works.grantHead_leads i g rest w (grantable_iff.2 hm) (by decide) .refl
  supply := by rw [Works.grantHead_eq hg]
  queue := by
    rw [Works.grantHead_eq hg, hq]
    exact List.subset_cons_self i rest
  entry := fun j hj => by
    rw [Works.grantHead_eq hg]
    exact getElem?_updAt_ne fun he => hj (by rw [he, hq]; exact List.mem_cons_self)
  marks := by
    rw [Works.grantHead_eq hg]
    dsimp only
    rw [← updAt_eq_replace (Grant.grantedAs (w.budget.supply.sequence + 1)) hg]
    exact map_updAt _ _ _ _ fun _ => rfl

theorem examine_examined (n : Nat) (w : Works) : w.Examined (examine n w) := by
  induction n generalizing w with
  | zero => exact .refl w
  | succ n ih =>
    unfold examine
    split
    · exact .refl w
    · rename_i i rest hq
      split
      · exact .refl w
      · rename_i g hg
        split
        · rename_i hm
          have h := Works.grantHead_examined hq hg (grantable_iff.1 hm)
          split
          · exact h.trans (ih _)
          · exact h
        · exact .refl w

theorem Works.examineHead_examined (w : Works) : w.Examined w.examineHead := examine_examined _ w

theorem Works.examineIfNewHead_examined (old : Option Nat) (w : Works) : w.Examined (w.examineIfNewHead old) := by
  unfold Works.examineIfNewHead
  split
  · exact .refl w
  · exact w.examineHead_examined

theorem Works.examineHead_of_waits (h : w.budget.headWaits) : w.examineHead = w := by
  unfold Works.examineHead
  cases hq : w.budget.queue with
  | nil => rfl
  | cons i rest =>
    cases hg : w.budget.grants[i]? with
    | none => simp [examine, hq, hg]
    | some g =>
      have hn : grantable w.budget g = false := by
        rw [← Bool.not_eq_true, grantable_iff]
        exact h i g (by rw [hq]; rfl) hg
      simp [examine, hq, hg, hn]

/-- The head is granted; after a LAMP the new head is examined. -/
theorem Works.examineHead_of_grant (hq : w.budget.queue = i :: rest) (hg : w.budget.grants[i]? = some g)
    (hm : w.budget.mayGrant g) :
    w.examineHead = if g.load.isLamp then (w.grantHead i g rest).examineHead else w.grantHead i g rest := by
  have hr : (w.grantHead i g rest).budget.queue = rest := by rw [Works.grantHead_eq hg]
  simp [Works.examineHead, examine, hq, hg, grantable_iff.2 hm, hr]

theorem Works.examineHead_after_grant (hq : w.budget.queue = i :: rest) (hg : w.budget.grants[i]? = some g)
    (hm : w.budget.mayGrant g) : (w.grantHead i g rest).Examined w.examineHead := by
  rw [Works.examineHead_of_grant hq hg hm]
  split
  · exact Works.examineHead_examined _
  · exact .refl _

theorem Budget.headWaits_of_state {b : Budget} (h : b.supply.state ≠ .normal) : b.headWaits := fun _ _ _ _ hm => h hm.1

theorem Budget.headWaits_of_nil {b : Budget} (h : b.queue = []) : b.headWaits := fun _ _ hq => by simp [h] at hq

/-- R33 as the obligations state it. -/
theorem Works.examineHead_headExamined (w : Works) : w.headExamined w.examineHead := by
  refine ⟨Works.examineHead_of_waits, fun i rest g hq hi hg hm => ?_⟩
  have hall := w.examineHead_examined
  have hafter := Works.examineHead_after_grant hq hg hm
  have hgrant := Works.grantHead_eq hg rest
  have hi' : i ∉ (w.grantHead i g rest).budget.queue := by rw [hgrant]; exact hi
  have hentry : (w.grantHead i g rest).budget.grants[i]? = some (g.grantedAs (w.budget.supply.sequence + 1)) := by
    rw [hgrant]; exact getElem?_updAt_self hg
  refine ⟨hall.leads.sameOutsideBudget, hall.leads.handsOn (by decide), fun h => hi' (hafter.queue h), ?_,
    _, (hafter.entry i hi').trans hentry, rfl, rfl, rfl, rfl, rfl⟩
  refine hafter.leads.handed (by decide) ?_
  rw [hgrant]
  simp [Works.handed, Grant.grantPower]

theorem Works.examineIfNewHead_same {old : Option Nat} (h : w.budget.queue.head? = old) : w.examineIfNewHead old = w :=
  if_pos h

theorem Works.examineIfNewHead_new {old : Option Nat} (h : w.budget.queue.head? ≠ old) :
    w.examineIfNewHead old = w.examineHead := if_neg h

/-- While no head may be granted, an examination changes nothing. -/
theorem Works.examineIfNewHead_of_waits (old : Option Nat) (h : w.budget.headWaits) : w.examineIfNewHead old = w := by
  unfold Works.examineIfNewHead
  rw [Works.examineHead_of_waits h, ite_self]

end Examination

end Sys2Proof.Machine

namespace Sys2Proof.Machine

open Sys2Proof

/-! # The supply budget: the shedding order and the judgement of the budget state (R39 to R41) -/

/-! ## Lists with their indexes, and sorted lists -/

section Lists

variable {α : Type} {key : α → Nat} {r : α → α → Prop}

theorem mem_indexed {n i : Nat} {x : α} {l : List α} : (i, x) ∈ indexed n l ↔ n ≤ i ∧ l[i - n]? = some x := by
  induction l generalizing n with
  | nil => simp [indexed]
  | cons y l ih =>
    simp only [indexed, List.mem_cons, Prod.mk.injEq, ih]
    obtain hlt | rfl | hlt := Nat.lt_trichotomy i n
    · exact ⟨fun h => by omega, fun h => by omega⟩
    · simp [eq_comm]
    · have hsub : i - n = (i - (n + 1)) + 1 := by omega
      rw [hsub, List.getElem?_cons_succ]
      exact ⟨fun h => ⟨by omega, (h.resolve_left (by omega)).2⟩, fun h => .inr ⟨by omega, h.2⟩⟩

theorem mem_indexed_zero {i : Nat} {x : α} {l : List α} : (i, x) ∈ indexed 0 l ↔ l[i]? = some x := by
  simp [mem_indexed]

theorem indexed_ascends (n : Nat) (l : List α) : (indexed n l).Pairwise (fun a b => a.1 < b.1) := by
  induction l generalizing n with
  | nil => exact .nil
  | cons y l ih => exact .cons (fun b hb => (mem_indexed.1 hb).1) (ih (n + 1))

theorem mem_insertBy {x y : α} {l : List α} : y ∈ insertBy key x l ↔ y = x ∨ y ∈ l := by
  induction l with
  | nil => simp [insertBy]
  | cons z l ih =>
    unfold insertBy
    split
    · simp
    · simp only [List.mem_cons, ih]
      exact or_left_comm

/-- The order of a stable sort: by the key, of equal keys as before. -/
def stableOrder (key : α → Nat) (r : α → α → Prop) (x y : α) : Prop := key x < key y ∨ key x = key y ∧ r x y

/-- An element that came after all of a sorted list is inserted where it belongs. -/
theorem insertBy_sorted {x : α} {l : List α} (hl : l.Pairwise (stableOrder key r)) (hx : ∀ y ∈ l, r y x) :
    (insertBy key x l).Pairwise (stableOrder key r) := by
  induction l with
  | nil => exact List.pairwise_singleton _ _
  | cons y l ih =>
    obtain ⟨hy, hl'⟩ := List.pairwise_cons.1 hl
    unfold insertBy
    split
    · rename_i hlt
      refine .cons (fun z hz => .inl ?_) hl
      obtain rfl | hz := List.mem_cons.1 hz
      · exact hlt
      · obtain h | ⟨h, -⟩ := hy z hz <;> omega
    · rename_i hge
      refine .cons (fun z hz => ?_) (ih hl' fun z hz => hx z (List.mem_cons_of_mem _ hz))
      obtain rfl | hz := mem_insertBy.1 hz
      · have hr := hx y List.mem_cons_self
        exact (Nat.lt_or_eq_of_le (Nat.le_of_not_lt hge)).imp id fun h => ⟨h, hr⟩
      · exact hy z hz

theorem foldl_insertBy_mem {y : α} (l acc : List α) :
    y ∈ l.foldl (fun acc x => insertBy key x acc) acc ↔ y ∈ acc ∨ y ∈ l := by
  induction l generalizing acc with
  | nil => simp
  | cons x l ih =>
    rw [List.foldl_cons, ih, mem_insertBy, List.mem_cons]
    constructor
    · rintro ((h | h) | h)
      exacts [.inr (.inl h), .inl h, .inr (.inr h)]
    · rintro (h | h | h)
      exacts [.inl (.inr h), .inl (.inl h), .inr h]

theorem foldl_insertBy_sorted (l acc : List α) (ha : acc.Pairwise (stableOrder key r)) (hl : l.Pairwise r)
    (hal : ∀ a ∈ acc, ∀ x ∈ l, r a x) :
    (l.foldl (fun acc x => insertBy key x acc) acc).Pairwise (stableOrder key r) := by
  induction l generalizing acc with
  | nil => exact ha
  | cons x l ih =>
    obtain ⟨hx, hl'⟩ := List.pairwise_cons.1 hl
    refine ih _ (insertBy_sorted ha fun y hy => hal y hy x List.mem_cons_self) hl' fun a hm z hz => ?_
    obtain rfl | hm := mem_insertBy.1 hm
    · exact hx z hz
    · exact hal a hm z (List.mem_cons_of_mem _ hz)

theorem mem_sortBy {y : α} {l : List α} : y ∈ sortBy key l ↔ y ∈ l := by
  unfold sortBy
  rw [foldl_insertBy_mem]
  simp

theorem sortBy_sorted {l : List α} (hl : l.Pairwise r) : (sortBy key l).Pairwise (stableOrder key r) :=
  foldl_insertBy_sorted l [] .nil hl (by simp)

end Lists

/-! ## Which entries are sheddable, and in what order (R40, Table 2-7) -/

section Order

variable {w v : Works} {i j : Nat} {g h : Grant}

theorem ClaimValue.commands_iff (c : ClaimValue) : c.commands = true ↔ c = .auto ∨ c = .ordered := by
  cases c <;> simp [ClaimValue.commands]

theorem Grant.givesBack_iff (g : Grant) : g.givesBack = true ↔ (∃ c, g.load = .lamp c ∧ g.floor < g.granted) ∨
    ∃ p, g.load = .pump p ∧ g.cls = 2 ∧ (g.state = .inrush ∨ g.state = .held) := by
  unfold Grant.givesBack
  cases g.load <;> simp

theorem Works.sheddable_iff : w.sheddable g = true ↔ g.givesBack = true ∧ g.mark = .none ∧
    (w.loadClaim g.load).commands = true := by
  simp [Works.sheddable, and_assoc]

/-- What is sheddable depends on claims and circuits, not on the budget's records. -/
theorem Works.sheddable_congr (hc : v.claims = w.claims) (hl : v.lights = w.lights) : v.sheddable = w.sheddable := by
  funext g
  simp only [Works.sheddable, Works.loadClaim, Works.claimOf, Works.claimEntry, hc, hl]

/-- The order of Table 2-7 as one list. -/
def Works.shedOrder (w : Works) : List Nat :=
  w.lampsToShed 0 2 ++ w.lampsToShed 1 3 ++ w.lampsToShed 4 4 ++ w.pumpsToShed

theorem Works.nextShed_eq (w : Works) : w.nextShed = w.shedOrder.head? := rfl

/-- An entry that is sheddable and in group `k` of Table 2-7. -/
def Works.shedsIn (w : Works) (k i : Nat) : Prop :=
  ∃ g, w.budget.grants[i]? = some g ∧ w.sheddable g = true ∧ w.shedGroup g = k

theorem Works.mem_lampsToShed {z1 z2 : Nat} : i ∈ w.lampsToShed z1 z2 ↔ ∃ g, w.budget.grants[i]? = some g ∧
    w.sheddable g = true ∧ (w.lampZone g.load = some z1 ∨ w.lampZone g.load = some z2) := by
  simp only [Works.lampsToShed, List.mem_filterMap, Prod.exists, mem_indexed_zero]
  constructor
  · rintro ⟨k, g, hg, hs⟩
    split at hs
    · rename_i hc
      obtain rfl : k = i := by simpa using hs
      exact ⟨g, hg, by simpa using hc⟩
    · simp at hs
  · rintro ⟨g, hg, hs, hz⟩
    exact ⟨i, g, hg, by simp [hs, hz]⟩

theorem Works.mem_pumpsToShed : i ∈ w.pumpsToShed ↔ ∃ g, w.budget.grants[i]? = some g ∧ w.sheddable g = true ∧
    g.load.isLamp = false := by
  simp only [Works.pumpsToShed, List.mem_map, mem_sortBy, List.mem_filter, Prod.exists, mem_indexed_zero]
  constructor
  · rintro ⟨k, g, ⟨hg, hc⟩, rfl⟩
    exact ⟨g, hg, by simpa using hc⟩
  · rintro ⟨g, hg, hs, hl⟩
    exact ⟨i, g, ⟨hg, by simp [hs, hl]⟩, rfl⟩

/-- The groups of Table 2-7 by zone and load. -/
theorem Works.shedGroup_spec (w : Works) (g : Grant) :
    (w.shedGroup g = 1 ↔ w.lampZone g.load = some 0 ∨ w.lampZone g.load = some 2) ∧
    (w.shedGroup g = 2 ↔ w.lampZone g.load = some 1 ∨ w.lampZone g.load = some 3) ∧
    (w.shedGroup g = 3 ↔ w.lampZone g.load = some 4 ∨ w.lampZone g.load = some 4) ∧
    (w.shedGroup g = 4 ↔ ∃ p, g.load = .pump p) ∧ 1 ≤ w.shedGroup g ∧ w.shedGroup g ≤ 5 := by
  unfold Works.shedGroup Works.lampZone
  cases g.load with
  | pump p => simp
  | gate n => simp
  | lamp c =>
    dsimp only
    generalize (w.lights.circuits[c]?).map Circuit.zone = zone
    rcases zone with _ | z
    · simp
    · rcases z with _ | _ | _ | _ | _ | z <;> simp

theorem Works.shedGroup_eq_four_iff (w : Works) (g : Grant) : w.shedGroup g = 4 ↔ ∃ p, g.load = .pump p := by
  obtain ⟨-, -, -, h, -⟩ := w.shedGroup_spec g
  exact h

theorem Works.pump_of_sheddable (hs : w.sheddable g = true) (hl : g.load.isLamp = false) : ∃ p, g.load = .pump p := by
  obtain ⟨hb, -, -⟩ := Works.sheddable_iff.1 hs
  obtain ⟨c, hc, -⟩ | ⟨p, hp, -⟩ := g.givesBack_iff.1 hb
  · simp [hc, Load.isLamp] at hl
  · exact ⟨p, hp⟩

theorem Works.mem_lamps_one : i ∈ w.lampsToShed 0 2 ↔ w.shedsIn 1 i := by
  rw [Works.mem_lampsToShed]
  refine exists_congr fun g => and_congr_right fun _ => and_congr_right fun _ => ?_
  obtain ⟨h, -⟩ := w.shedGroup_spec g
  exact h.symm

theorem Works.mem_lamps_two : i ∈ w.lampsToShed 1 3 ↔ w.shedsIn 2 i := by
  rw [Works.mem_lampsToShed]
  refine exists_congr fun g => and_congr_right fun _ => and_congr_right fun _ => ?_
  obtain ⟨-, h, -⟩ := w.shedGroup_spec g
  exact h.symm

theorem Works.mem_lamps_three : i ∈ w.lampsToShed 4 4 ↔ w.shedsIn 3 i := by
  rw [Works.mem_lampsToShed]
  refine exists_congr fun g => and_congr_right fun _ => and_congr_right fun _ => ?_
  obtain ⟨-, -, h, -⟩ := w.shedGroup_spec g
  exact h.symm

theorem Works.mem_pumps_four : i ∈ w.pumpsToShed ↔ w.shedsIn 4 i := by
  rw [Works.mem_pumpsToShed]
  refine exists_congr fun g => and_congr_right fun _ => and_congr_right fun hs => ?_
  rw [w.shedGroup_eq_four_iff]
  exact ⟨Works.pump_of_sheddable hs, fun ⟨_, hp⟩ => by rw [hp]; rfl⟩

theorem Works.mem_shedOrder : i ∈ w.shedOrder ↔ ∃ g, w.budget.grants[i]? = some g ∧ w.sheddable g = true ∧
    w.shedGroup g < 5 := by
  simp only [Works.shedOrder, List.mem_append, Works.mem_lamps_one, Works.mem_lamps_two, Works.mem_lamps_three,
    Works.mem_pumps_four]
  constructor
  · rintro (((⟨g, hg, hs, hk⟩ | ⟨g, hg, hs, hk⟩) | ⟨g, hg, hs, hk⟩) | ⟨g, hg, hs, hk⟩) <;>
      exact ⟨g, hg, hs, by omega⟩
  · rintro ⟨g, hg, hs, hk⟩
    obtain ⟨-, -, -, -, hlo, -⟩ := w.shedGroup_spec g
    have hcases : w.shedGroup g = 1 ∨ w.shedGroup g = 2 ∨ w.shedGroup g = 3 ∨ w.shedGroup g = 4 := by omega
    obtain h | h | h | h := hcases
    · exact .inl (.inl (.inl ⟨g, hg, hs, h⟩))
    · exact .inl (.inl (.inr ⟨g, hg, hs, h⟩))
    · exact .inl (.inr ⟨g, hg, hs, h⟩)
    · exact .inr ⟨g, hg, hs, h⟩

/-- Entry `i` is asked before entry `j` (Table 2-7). -/
def Works.asksBefore (w : Works) (i j : Nat) : Prop :=
  ∀ g h, w.budget.grants[i]? = some g → w.budget.grants[j]? = some h → w.shedBefore i g j h

theorem Works.asksBefore_of_group {k l : Nat} (hi : w.shedsIn k i) (hj : w.shedsIn l j) (hkl : k < l) :
    w.asksBefore i j := by
  obtain ⟨g, hg, -, rfl⟩ := hi
  obtain ⟨h, hh, -, rfl⟩ := hj
  intro g' h' hg' hh'
  obtain rfl : g = g' := by simpa [hg] using hg'
  obtain rfl : h = h' := by simpa [hh] using hh'
  exact .inl hkl

theorem Works.lampsToShed_ordered {z1 z2 k : Nat} (hk : k < 4) (hm : ∀ i ∈ w.lampsToShed z1 z2, w.shedsIn k i) :
    (w.lampsToShed z1 z2).Pairwise w.asksBefore := by
  have hlt : (w.lampsToShed z1 z2).Pairwise (· < ·) := by
    refine List.pairwise_filterMap.2 ((indexed_ascends 0 w.budget.grants).imp fun {a b} hab x hx y hy => ?_)
    have hx' : a.1 = x := by split at hx <;> simp_all
    have hy' : b.1 = y := by split at hy <;> simp_all
    omega
  refine hlt.imp_of_mem fun {a b} ha hb hab => ?_
  obtain ⟨g, hg, -, hgk⟩ := hm a ha
  obtain ⟨h, hh, -, hhk⟩ := hm b hb
  intro g' h' hg' hh'
  obtain rfl : g = g' := by simpa [hg] using hg'
  obtain rfl : h = h' := by simpa [hh] using hh'
  exact .inr ⟨by omega, .inr ⟨by omega, hab⟩⟩

theorem Grant.numberKey_lt (g : Grant) : g.numberKey < 0x100000000 := by
  unfold Grant.numberKey
  split
  · exact BitVec.isLt _
  · decide

theorem Works.pumpsToShed_ordered (w : Works) : w.pumpsToShed.Pairwise w.asksBefore := by
  refine List.pairwise_map.2 ?_
  refine (sortBy_sorted ((indexed_ascends 0 w.budget.grants).filter _)).imp_of_mem fun {a b} ha hb hab => ?_
  simp only [mem_sortBy, List.mem_filter] at ha hb
  have hgroup : ∀ {x : Nat × Grant}, x ∈ indexed 0 w.budget.grants →
      (w.sheddable x.2 && !x.2.load.isLamp) = true → w.budget.grants[x.1]? = some x.2 ∧ w.shedGroup x.2 = 4 := by
    intro x hx hs
    simp only [Bool.and_eq_true, Bool.not_eq_true'] at hs
    exact ⟨mem_indexed_zero.1 hx, (w.shedGroup_eq_four_iff _).2 (Works.pump_of_sheddable hs.1 hs.2)⟩
  obtain ⟨hga, hka⟩ := hgroup ha.1 ha.2
  obtain ⟨hgb, hkb⟩ := hgroup hb.1 hb.2
  have hna := a.2.numberKey_lt
  have hnb := b.2.numberKey_lt
  intro g h hg hh
  obtain rfl : a.2 = g := by simpa [hga] using hg
  obtain rfl : b.2 = h := by simpa [hgb] using hh
  refine .inr ⟨by omega, .inl ⟨hka, ?_⟩⟩
  simp only [stableOrder] at hab
  obtain hlt | ⟨heq, hidx⟩ := hab
  · exact .inl (by omega)
  · exact .inr ⟨by omega, hidx⟩

theorem Works.shedOrder_ordered (w : Works) : w.shedOrder.Pairwise w.asksBefore := by
  have h1 : ∀ i ∈ w.lampsToShed 0 2, w.shedsIn 1 i := fun _ => Works.mem_lamps_one.1
  have h2 : ∀ i ∈ w.lampsToShed 1 3, w.shedsIn 2 i := fun _ => Works.mem_lamps_two.1
  have h3 : ∀ i ∈ w.lampsToShed 4 4, w.shedsIn 3 i := fun _ => Works.mem_lamps_three.1
  have h4 : ∀ i ∈ w.pumpsToShed, w.shedsIn 4 i := fun _ => Works.mem_pumps_four.1
  have h12 := List.pairwise_append.2 ⟨Works.lampsToShed_ordered (by decide) h1, Works.lampsToShed_ordered (by decide) h2,
    fun a ha b hb => Works.asksBefore_of_group (h1 a ha) (h2 b hb) (by decide)⟩
  have h123 := List.pairwise_append.2 ⟨h12, Works.lampsToShed_ordered (by decide) h3, fun a ha b hb =>
    (List.mem_append.1 ha).elim (fun ha => Works.asksBefore_of_group (h1 a ha) (h3 b hb) (by decide))
      fun ha => Works.asksBefore_of_group (h2 a ha) (h3 b hb) (by decide)⟩
  refine List.pairwise_append.2 ⟨h123, w.pumpsToShed_ordered, fun a ha b hb => ?_⟩
  obtain ha | ha := List.mem_append.1 ha
  · obtain ha | ha := List.mem_append.1 ha
    · exact Works.asksBefore_of_group (h1 a ha) (h4 b hb) (by decide)
    · exact Works.asksBefore_of_group (h2 a ha) (h4 b hb) (by decide)
  · exact Works.asksBefore_of_group (h3 a ha) (h4 b hb) (by decide)

/-- R40: nothing is left to ask. -/
theorem Works.nextShed_eq_none_iff (w : Works) :
    w.nextShed = none ↔ ∀ g ∈ w.budget.grants, w.sheddable g = true → w.shedGroup g = 5 := by
  rw [Works.nextShed_eq, List.head?_eq_none_iff, List.eq_nil_iff_forall_not_mem]
  constructor
  · intro hn g hg hs
    obtain ⟨i, hi⟩ := List.mem_iff_getElem?.1 hg
    by_contra h5
    obtain ⟨-, -, -, -, -, hhi⟩ := w.shedGroup_spec g
    exact hn i (Works.mem_shedOrder.2 ⟨g, hi, hs, by omega⟩)
  · intro hall i hi
    obtain ⟨g, hg, hs, h5⟩ := Works.mem_shedOrder.1 hi
    have := hall g (List.mem_of_getElem? hg) hs
    omega

/-- R40: the next entry asked stands ahead of every other sheddable one. -/
theorem Works.nextShed_first (hn : w.nextShed = some i) : ∃ g, w.budget.grants[i]? = some g ∧ w.sheddable g = true ∧
    w.shedGroup g < 5 ∧ ∀ (j : Nat) (h : Grant), w.budget.grants[j]? = some h → w.sheddable h = true →
      w.shedGroup h < 5 → j ≠ i → w.shedBefore i g j h := by
  obtain ⟨rest, hrest⟩ := List.head?_eq_some_iff.1 (w.nextShed_eq ▸ hn)
  have hi : i ∈ w.shedOrder := by rw [hrest]; exact List.mem_cons_self
  obtain ⟨g, hg, hs, hk⟩ := Works.mem_shedOrder.1 hi
  refine ⟨g, hg, hs, hk, fun j h hh hsh hkh hji => ?_⟩
  have hj : j ∈ rest := by
    have := Works.mem_shedOrder.2 ⟨h, hh, hsh, hkh⟩
    rw [hrest] at this
    exact (List.mem_cons.1 this).resolve_left hji
  have hord := w.shedOrder_ordered
  rw [hrest] at hord
  exact (List.pairwise_cons.1 hord).1 j hj g h hg hh

theorem Works.nextShed_sheddable (hn : w.nextShed = some i) :
    ∃ g, w.budget.grants[i]? = some g ∧ w.sheddable g = true := by
  obtain ⟨g, hg, hs, -⟩ := Works.nextShed_first hn
  exact ⟨g, hg, hs⟩

end Order

end Sys2Proof.Machine

namespace Sys2Proof.Machine

open Sys2Proof

/-! # The supply budget: asking entries to shed, and the judgement of the budget state (R39, R40) -/

/-! ## Asking (R40) -/

section Asking

variable {w v u : Works} {i : Nat} {g : Grant}

/-- The shed request to the owner of a load; a GATE is never asked (R40). -/
def Load.shedRequest : Load → List Instr
  | .pump p => [.pumpShedRequest p]
  | .lamp c => [.lampShedRequest c]
  | .gate _ => []

/-- The SHED record of an entry that is asked (Table 2-8). -/
def Grant.shedRecord (i : Nat) (g : Grant) : JournalRec :=
  { kind := .shed, subject := i, fromState := some g.state.code, toState := some g.state.code,
    details := [g.load.code, g.cls, g.granted, g.relief], fault := false }

theorem Works.askShed_eq (hg : w.budget.grants[i]? = some g) : w.askShed i =
    { w.withEntry i { g with mark := .asked } w.budget.queue with
      notices := w.notices ++ g.load.shedRequest ++ [.journalAppend (g.shedRecord i)] } := by
  unfold Works.askShed Grant.shedRecord
  rw [hg]
  dsimp only
  rw [Works.updGrant_eq _ hg]
  cases g.load with
  | pump p => rfl
  | lamp c => rfl
  | gate n => simp only [Load.shedRequest, List.append_nil]; rfl

/-- What asking entries to shed can do: set the mark ASKED of entries without a mark that could give back. -/
structure Works.Asked (w v : Works) : Prop where
  leads : Works.Leads [.budget] w v
  supply : v.budget.supply = w.budget.supply
  queue : v.budget.queue = w.budget.queue
  entry : ∀ (j : Nat) (g : Grant), w.budget.grants[j]? = some g → ∃ m, v.budget.grants[j]? = some { g with mark := m } ∧
    (m = g.mark ∨ g.mark = .none ∧ g.givesBack = true)

theorem Works.Asked.refl (w : Works) : w.Asked w := ⟨.refl, rfl, rfl, fun _ g hg => ⟨g.mark, hg, .inl rfl⟩⟩

theorem Works.Asked.trans (h1 : w.Asked v) (h2 : v.Asked u) : w.Asked u where
  leads := h1.leads.trans h2.leads
  supply := h2.supply.trans h1.supply
  queue := h2.queue.trans h1.queue
  entry := fun j g hg => by
    obtain ⟨m, hv, hm⟩ := h1.entry j g hg
    obtain ⟨m', hu, hm'⟩ := h2.entry j _ hv
    refine ⟨m', hu, ?_⟩
    obtain rfl | ⟨hnone, hback⟩ := hm'
    · exact hm
    · exact .inr ⟨hm.elim (fun h => h.symm.trans hnone) And.left, hback⟩

theorem Works.askShed_asked (hg : w.budget.grants[i]? = some g) (hs : w.sheddable g = true) : w.Asked (w.askShed i) where
  leads := Works.askShed_leads i w (by decide) .refl
  supply := by rw [Works.askShed_eq hg]; rfl
  queue := by rw [Works.askShed_eq hg]; rfl
  entry := fun j e he => by
    rw [Works.askShed_eq hg]
    by_cases hj : j = i
    · subst hj
      obtain rfl : g = e := by simpa [hg] using he
      obtain ⟨hback, hnone, -⟩ := Works.sheddable_iff.1 hs
      exact ⟨_, Works.withEntry_self hg _ _, .inr ⟨hnone, hback⟩⟩
    · exact ⟨e.mark, (Works.withEntry_other hj _ _).trans he, .inl rfl⟩

/-- The entries without a mark, as a sum over the table. -/
def unmarked (b : Budget) : Nat := sumOf (fun g => if g.mark = .none then 1 else 0) b.grants

theorem unmarked_le (b : Budget) : unmarked b ≤ b.grants.length := by
  unfold unmarked
  induction b.grants with
  | nil => exact Nat.le_refl 0
  | cons g l ih =>
    simp only [sumOf, List.length_cons]
    split <;> omega

theorem unmarked_askShed (hg : w.budget.grants[i]? = some g) (hs : w.sheddable g = true) :
    unmarked (w.askShed i).budget + 1 = unmarked w.budget := by
  obtain ⟨-, hnone, -⟩ := Works.sheddable_iff.1 hs
  have h := sumOf_updAt (fun g : Grant => if g.mark = .none then 1 else 0) (fun _ => { g with mark := .asked }) hg
  rw [Works.askShed_eq hg]
  simpa [unmarked, hnone] using h

/-- The shedding is over: the pending relief is enough, or nothing is left to ask. -/
def Works.shedOver (w : Works) : Prop :=
  w.nextShed = none ∨ grantedSum w.budget ≤ w.budget.supply.capacity + pendingRelief w.budget

theorem shedLoop_of_over (n : Nat) (h : w.shedOver) : shedLoop n w = w := by
  cases n with
  | zero => rfl
  | succ n =>
    unfold shedLoop
    split
    · rfl
    · rename_i hlt
      rw [h.resolve_right hlt]

theorem shedLoop_of_next (n : Nat) (hi : w.nextShed = some i)
    (h : w.budget.supply.capacity + pendingRelief w.budget < grantedSum w.budget) :
    shedLoop (n + 1) w = shedLoop n (w.askShed i) := by
  rw [shedLoop, if_neg (by omega), hi]

theorem Works.over_or_next (w : Works) : w.shedOver ∨
    ∃ i, w.nextShed = some i ∧ w.budget.supply.capacity + pendingRelief w.budget < grantedSum w.budget := by
  cases hn : w.nextShed with
  | none => exact .inl (.inl hn)
  | some i =>
    obtain h | h := Nat.lt_or_ge (w.budget.supply.capacity + pendingRelief w.budget) (grantedSum w.budget)
    · exact .inr ⟨i, rfl, h⟩
    · exact .inl (.inr h)

theorem shedLoop_asked (n : Nat) (w : Works) : w.Asked (shedLoop n w) := by
  induction n generalizing w with
  | zero => exact .refl w
  | succ n ih =>
    obtain h | ⟨i, hi, h⟩ := w.over_or_next
    · rw [shedLoop_of_over _ h]
      exact .refl w
    · obtain ⟨g, hg, hs⟩ := Works.nextShed_sheddable hi
      rw [shedLoop_of_next n hi h]
      exact (Works.askShed_asked hg hs).trans (ih _)

/-- With every entry marked the shedding is over. -/
theorem Works.over_of_unmarked (h : unmarked w.budget = 0) : w.shedOver := by
  obtain h' | ⟨i, hi, -⟩ := w.over_or_next
  · exact h'
  · obtain ⟨g, hg, hs⟩ := Works.nextShed_sheddable hi
    have := unmarked_askShed hg hs
    omega

/-- Any fuel that covers the entries without a mark will do. -/
theorem shedLoop_fuel {n m : Nat} (hn : unmarked w.budget ≤ n) (hm : unmarked w.budget ≤ m) :
    shedLoop n w = shedLoop m w := by
  induction n generalizing w m with
  | zero =>
    have hover := Works.over_of_unmarked (Nat.le_zero.1 hn)
    rw [shedLoop_of_over _ hover, shedLoop_of_over _ hover]
  | succ n ih =>
    obtain h | ⟨i, hi, h⟩ := w.over_or_next
    · rw [shedLoop_of_over _ h, shedLoop_of_over _ h]
    · obtain ⟨g, hg, hs⟩ := Works.nextShed_sheddable hi
      have hless := unmarked_askShed hg hs
      obtain ⟨m, rfl⟩ : ∃ k, m = k + 1 := ⟨m - 1, by omega⟩
      rw [shedLoop_of_next n hi h, shedLoop_of_next m hi h]
      exact ih (by omega) (by omega)

end Asking

/-! ## The change of the budget state (R39) -/

section State

variable {w : Works} {st : BudgetState}

theorem Works.setBudgetState_same (h : w.budget.supply.state = st) : w.setBudgetState st = w := if_pos h

theorem Works.setBudgetState_budget (st : BudgetState) (w : Works) : (w.setBudgetState st).budget =
    { w.budget with supply := { w.budget.supply with state := st } } := by
  unfold Works.setBudgetState
  dsimp only
  split
  · rename_i h
    subst h
    rfl
  · rfl

theorem Works.setBudgetState_recorded (h : w.budget.supply.state ≠ st) :
    (w.setBudgetState st).recorded .budget 0 (some w.budget.supply.state.code) (some st.code)
      [w.budget.supply.capacity, grantedSum w.budget, pendingRelief w.budget,
        (w.budget.grants.filter (fun g => decide (g.mark = .failed))).length] (decide (st = .overload)) := by
  unfold Works.setBudgetState
  rw [if_neg h]
  exact Works.recorded_record ..

theorem Works.setBudgetState_only (st : BudgetState) (w : Works) : Works.Leads [.budget] w (w.setBudgetState st) :=
  Works.setBudgetState_leads st w (by decide) .refl

theorem Works.clearMarks_sum (w : Works) : grantedSum w.clearMarks.budget = grantedSum w.budget := by
  show sumOf Grant.granted (w.budget.grants.map _) = sumOf Grant.granted w.budget.grants
  induction w.budget.grants with
  | nil => rfl
  | cons g l ih => simp only [List.map_cons, sumOf, ih]

theorem Works.clearMarks_relief (w : Works) : pendingRelief w.clearMarks.budget = 0 := by
  have h : w.clearMarks.budget.grants.filter (fun g => decide (g.mark = .asked)) = [] := by
    simp [Works.clearMarks, Works.setBudget, List.filter_eq_nil_iff]
  rw [pendingRelief, h]
  rfl

theorem Works.clearMarks_failed (w : Works) :
    w.clearMarks.budget.grants.filter (fun g => decide (g.mark = .failed)) = [] := by
  simp [Works.clearMarks, Works.setBudget, List.filter_eq_nil_iff]

theorem Works.clearMarks_entry {i : Nat} {g : Grant} (hg : w.budget.grants[i]? = some g) :
    w.clearMarks.budget.grants[i]? = some { g with mark := .none } := by
  simp [Works.clearMarks, Works.setBudget, hg]

end State

/-! ## The judgement (R39) -/

section Judgement

variable {w v x : Works} {i : Nat} {g : Grant}

/-- The granted sum fits the capacity. -/
abbrev Works.fits (w : Works) : Prop := grantedSum w.budget ≤ w.budget.supply.capacity

theorem Works.due_of_fits (h : w.fits) : w.budgetStateDue = .normal := if_pos h

theorem Works.due_of_tight (h : ¬ w.fits) : w.budgetStateDue ≠ .normal := by
  unfold Works.budgetStateDue
  rw [if_neg h]
  split <;> simp

theorem Works.due_normal_iff : w.budgetStateDue = .normal ↔ w.fits :=
  ⟨fun h => by_contra fun hn => Works.due_of_tight hn h, Works.due_of_fits⟩

/-- An entry is ASKED or sheddable: the state due is SHEDDING, if the sum does not fit. -/
def Works.canShed (w : Works) : Prop :=
  (∃ g ∈ w.budget.grants, g.mark = .asked) ∨ ∃ g ∈ w.budget.grants, w.sheddable g = true

theorem Works.due_shedding_iff : w.budgetStateDue = .shedding ↔ ¬ w.fits ∧ w.canShed := by
  unfold Works.budgetStateDue Works.fits Works.canShed
  split
  · simp [*]
  · split <;> simp [*]

theorem Works.judgeBudget_of_fits (h : w.fits) : w.judgeBudget =
    if w.budget.supply.state = .normal then w.clearMarks else (w.clearMarks.setBudgetState .normal).examineHead :=
  if_pos h

theorem Works.judgeBudget_of_shedding (h : w.budgetStateDue = .shedding) :
    w.judgeBudget = shedLoop w.budget.grants.length (w.setBudgetState .shedding) := by
  obtain ⟨hfit, hcan⟩ := Works.due_shedding_iff.1 h
  unfold Works.judgeBudget
  rw [if_neg hfit, if_pos (by simpa [Works.canShed] using hcan)]

theorem Works.judgeBudget_of_overload (h : ¬ w.fits) (hn : w.budgetStateDue ≠ .shedding) :
    w.budgetStateDue = .overload ∧ w.judgeBudget = w.setBudgetState .overload := by
  have hcan : ¬ w.canShed := fun hc => hn (Works.due_shedding_iff.2 ⟨h, hc⟩)
  refine ⟨?_, ?_⟩
  · unfold Works.budgetStateDue
    rw [if_neg h]
    exact if_neg hcan
  · unfold Works.judgeBudget
    rw [if_neg h, if_neg (by simpa [Works.canShed] using hcan)]

/-- R39 while the sum fits: the marks are cleared, the state is NORMAL, and the head may be examined. -/
theorem Works.judgeBudget_fits (h : w.fits) : (w.clearMarks.setBudgetState .normal).Examined w.judgeBudget := by
  rw [Works.judgeBudget_of_fits h]
  split
  · rename_i hs
    rw [Works.setBudgetState_same (w := w.clearMarks) hs]
    exact .refl _
  · exact Works.examineHead_examined _

/-- R39 while the sum does not fit: the state is as due, and entries may be asked to shed. -/
theorem Works.judgeBudget_tight (h : ¬ w.fits) : (w.setBudgetState w.budgetStateDue).Asked w.judgeBudget := by
  by_cases hd : w.budgetStateDue = .shedding
  · rw [Works.judgeBudget_of_shedding hd, hd]
    exact shedLoop_asked _ _
  · obtain ⟨ho, hj⟩ := Works.judgeBudget_of_overload h hd
    rw [hj, ho]
    exact .refl _

theorem Works.judgeBudget_only (w : Works) : Works.Leads [.budget] w w.judgeBudget :=
  Works.judgeBudget_leads w (by decide) .refl

/-- R39 as the obligations state it. -/
theorem Works.judgeBudget_judged (w : Works) : w.budgetJudged w.judgeBudget := by
  unfold Works.budgetJudged Works.budgetDetails
  by_cases h : w.fits
  · have hd := Works.due_of_fits h
    have he := Works.judgeBudget_fits h
    rw [hd]
    refine ⟨by rw [he.state_eq, Works.setBudgetState_budget], fun hne => he.leads.recorded (by decide) ?_⟩
    have hr := Works.setBudgetState_recorded (w := w.clearMarks) (st := .normal) hne
    rw [Works.clearMarks_sum, Works.clearMarks_relief, Works.clearMarks_failed] at hr
    exact hr
  · have ha := Works.judgeBudget_tight h
    rw [if_neg (Works.due_of_tight h)]
    exact ⟨by rw [ha.supply, Works.setBudgetState_budget],
      fun hne => ha.leads.recorded (by decide) (Works.setBudgetState_recorded hne)⟩

/-- While the sum fits, an entry that is not in the queue loses its mark only. -/
theorem Works.judgeBudget_entry_fits (h : w.fits) (hi : i ∉ w.budget.queue) (hg : w.budget.grants[i]? = some g) :
    w.judgeBudget.budget.grants[i]? = some { g with mark := .none } := by
  have hq : i ∉ (w.clearMarks.setBudgetState .normal).budget.queue := by rw [Works.setBudgetState_budget]; exact hi
  rw [(Works.judgeBudget_fits h).entry i hq, Works.setBudgetState_budget]
  exact Works.clearMarks_entry hg

/-- While the sum fits, no mark is left. -/
theorem Works.judgeBudget_marks (h : w.fits) : ∀ e ∈ w.judgeBudget.budget.grants, e.mark = .none := by
  intro e he
  have hm := List.mem_map_of_mem (f := Grant.mark) he
  rw [(Works.judgeBudget_fits h).marks, Works.setBudgetState_budget] at hm
  simp only [Works.clearMarks, Works.setBudget, List.map_map, List.mem_map] at hm
  obtain ⟨e', -, he'⟩ := hm
  exact he'.symm

/-- While the sum does not fit, an entry can only be asked to shed. -/
theorem Works.judgeBudget_entry_tight (h : ¬ w.fits) (hg : w.budget.grants[i]? = some g) :
    ∃ m, w.judgeBudget.budget.grants[i]? = some { g with mark := m } ∧
      (m = g.mark ∨ g.mark = .none ∧ g.givesBack = true) := by
  refine (Works.judgeBudget_tight h).entry i g ?_
  rw [Works.setBudgetState_budget]
  exact hg

theorem Works.judgeBudget_queue_tight (h : ¬ w.fits) : w.judgeBudget.budget.queue = w.budget.queue := by
  rw [(Works.judgeBudget_tight h).queue, Works.setBudgetState_budget]

/-- A judgement leaves all but the mark of an entry that is not in the queue; one without a mark that could not give back has
none after it. -/
theorem Works.judgeBudget_entry (hi : i ∉ w.budget.queue) (hg : w.budget.grants[i]? = some g) :
    ∃ m, w.judgeBudget.budget.grants[i]? = some { g with mark := m } ∧
      (g.mark = .none → g.givesBack = false → m = .none) := by
  by_cases h : w.fits
  · exact ⟨.none, Works.judgeBudget_entry_fits h hi hg, fun _ _ => rfl⟩
  · obtain ⟨m, hm, hc⟩ := Works.judgeBudget_entry_tight h hg
    refine ⟨m, hm, fun hnone hback => ?_⟩
    obtain rfl | ⟨-, hb⟩ := hc
    · exact hnone
    · exact absurd hb (by simp [hback])

theorem Works.judgeBudget_queue_subset (w : Works) : w.judgeBudget.budget.queue ⊆ w.budget.queue := by
  by_cases h : w.fits
  · have hq := (Works.judgeBudget_fits h).queue
    rw [Works.setBudgetState_budget] at hq
    exact hq
  · rw [Works.judgeBudget_queue_tight h]
    exact List.Subset.refl _

/-- What the state due depends on: grants, capacity, claims and circuits. -/
theorem Works.due_congr (hg : v.budget.grants = w.budget.grants)
    (hc : v.budget.supply.capacity = w.budget.supply.capacity) (hcl : v.claims = w.claims) (hl : v.lights = w.lights) :
    v.budgetStateDue = w.budgetStateDue := by
  have hsum : grantedSum v.budget = grantedSum w.budget := by rw [grantedSum, grantedSum, hg]
  simp only [Works.budgetStateDue, hsum, hc, hg, Works.sheddable_congr hcl hl]

/-- A judgement depends on the budget state besides. -/
theorem Works.budgetJudged_congr (hg : v.budget.grants = w.budget.grants)
    (hc : v.budget.supply.capacity = w.budget.supply.capacity) (hs : v.budget.supply.state = w.budget.supply.state)
    (hcl : v.claims = w.claims) (hl : v.lights = w.lights) (h : v.budgetJudged x) : w.budgetJudged x := by
  have hsum : grantedSum v.budget = grantedSum w.budget := by rw [grantedSum, grantedSum, hg]
  have hrelief : pendingRelief v.budget = pendingRelief w.budget := by rw [pendingRelief, pendingRelief, hg]
  have hdue := Works.due_congr hg hc hcl hl
  simpa only [Works.budgetJudged, Works.budgetDetails, hdue, hsum, hrelief, hg, hc, hs] using h

theorem Works.judgeIfTight_normal (h : w.budget.supply.state = .normal) : w.judgeIfTight = w := if_pos h

theorem Works.judgeIfTight_tight (h : w.budget.supply.state ≠ .normal) : w.judgeIfTight = w.judgeBudget := if_neg h

/-- R33 and R35 after a change of the grant table: in NORMAL the head is examined. -/
theorem Works.examineHead_judgeIfTight_normal (h : w.budget.supply.state = .normal) :
    w.examineHead.judgeIfTight = w.examineHead :=
  Works.judgeIfTight_normal (w.examineHead_examined.state_eq.trans h)

/-- In SHEDDING and OVERLOAD the budget state is judged, and no head is granted before. -/
theorem Works.examineHead_judgeIfTight_tight (h : w.budget.supply.state ≠ .normal) :
    w.examineHead.judgeIfTight = w.judgeBudget := by
  rw [Works.examineHead_of_waits (Budget.headWaits_of_state h), Works.judgeIfTight_tight h]

/-- What the examination of the head and the judgement of a tight budget leave of an entry that is not in the queue: all but its
mark. -/
theorem Works.examineHead_judgeIfTight_entry (hi : i ∉ w.budget.queue) (hg : w.budget.grants[i]? = some g) :
    ∃ m, w.examineHead.judgeIfTight.budget.grants[i]? = some { g with mark := m } ∧
      (g.mark = .none → g.givesBack = false → m = .none) := by
  by_cases h : w.budget.supply.state = .normal
  · rw [Works.examineHead_judgeIfTight_normal h, w.examineHead_examined.entry i hi]
    exact ⟨g.mark, hg, fun hm _ => hm⟩
  · rw [Works.examineHead_judgeIfTight_tight h]
    exact Works.judgeBudget_entry hi hg

end Judgement

end Sys2Proof.Machine

namespace Sys2Proof.Machine

open Sys2Proof

/-! # The commands to the supply budget: requests (R31 to R33) -/

/-! ## A request that joins the queue -/

section Requests

variable {w : Works} {i cls power : Nat} {g : Grant} {rest : List Nat}

/-- The class a request gives its entry (R31). -/
def Grant.askedClass (cls : Nat) (g : Grant) : Nat :=
  match g.load with
  | .gate _ => 0
  | .pump _ => if cls = 1 then 1 else 2
  | .lamp _ => 3

theorem Grant.askedClass_lamp (hl : g.load.isLamp = true) : g.askedClass cls = 3 := by
  unfold Grant.askedClass
  cases hload : g.load <;> simp [hload, Load.isLamp] at hl ⊢

/-- An entry as its request joins the queue (R31). -/
def Grant.asking (cls power : Nat) (g : Grant) : Grant :=
  { g with cls := g.askedClass cls, state := .queued, requested := if g.load.isLamp then power else g.requested }

/-- A request joins the queue: an IDLE motor load, or a LAMP entry that asks for more power (R31). -/
structure Grant.mayJoin (power : Nat) (g : Grant) : Prop where
  motor : g.load.isLamp = false → g.state = .idle
  lamp : g.load.isLamp = true → g.granted < power ∧ (g.state = .idle ∨ g.state = .held)

/-- The works with a request in the queue, before the head is examined. -/
def Works.requesting (i cls power : Nat) (g : Grant) (w : Works) : Works :=
  w.withEntry i (g.asking cls power)
    (joinAt (w.withEntry i (g.asking cls power) w.budget.queue).budget i (g.askedClass cls) w.budget.queue)

theorem exec_loadRequest (i cls power : Nat) (s : State) :
    exec (.loadRequest i cls power) s = .next { s with works := s.works.loadRequest i cls power } := rfl

theorem Works.loadRequest_motor (hg : w.budget.grants[i]? = some g) (hl : g.load.isLamp = false) :
    w.loadRequest i cls power = w.motorRequest i cls g := by
  simp [Works.loadRequest, hg, hl]

theorem Works.loadRequest_lamp (hg : w.budget.grants[i]? = some g) (hl : g.load.isLamp = true) :
    w.loadRequest i cls power = w.lampRequest i power g := by
  simp [Works.loadRequest, hg, hl]

theorem Works.motorRequest_of_idle (hg : w.budget.grants[i]? = some g) (hl : g.load.isLamp = false) (hs : g.state = .idle) :
    w.motorRequest i cls g = (w.requesting i cls power g).examineHead := by
  unfold Works.motorRequest Works.requesting Grant.asking Grant.askedClass
  rw [if_pos hs]
  dsimp only
  rw [Works.updGrant_eq _ hg]
  cases hload : g.load with
  | pump p => rfl
  | gate n => rfl
  | lamp c => simp [hload, Load.isLamp] at hl

theorem Works.lampRequest_of_more (hg : w.budget.grants[i]? = some g) (hl : g.load.isLamp = true) (hp : g.granted < power)
    (hs : g.state ≠ .queued) : w.lampRequest i power g = (w.requesting i cls power g).examineHead := by
  have hc : g.askedClass cls = 3 := Grant.askedClass_lamp hl
  unfold Works.lampRequest Works.requesting
  rw [if_pos hp, if_neg hs, Works.updGrant_eq _ hg]
  simp only [Grant.asking, hl, hc, if_true]
  rfl

theorem Works.loadRequest_joins (hg : w.budget.grants[i]? = some g) (hj : g.mayJoin power) :
    w.loadRequest i cls power = (w.requesting i cls power g).examineHead := by
  cases hl : g.load.isLamp with
  | false => rw [Works.loadRequest_motor hg hl, Works.motorRequest_of_idle hg hl (hj.motor hl)]
  | true =>
    obtain ⟨hp, hs⟩ := hj.lamp hl
    rw [Works.loadRequest_lamp hg hl, Works.lampRequest_of_more hg hl hp (by obtain hs | hs := hs <;> simp [hs])]

theorem Works.requesting_sum (hg : w.budget.grants[i]? = some g) :
    grantedSum (w.requesting i cls power g).budget = grantedSum w.budget :=
  Works.withEntry_sum_same (h := g.asking cls power) hg rfl _

/-- The class of another entry than the one that asks. -/
theorem Works.classOf_asking {j : Nat} (hj : j ≠ i) (h : Grant) (q : List Nat) :
    classOf (w.withEntry i h q).budget j = classOf w.budget j := by
  unfold classOf
  rw [Works.withEntry_other hj]

/-- Nothing of its class or ahead of it waits: the request stands at the head. -/
theorem Works.requesting_head (hi : i ∉ w.budget.queue)
    (hq : ∀ j, w.budget.queue.head? = some j → g.askedClass cls < classOf w.budget j) :
    (w.requesting i cls power g).budget.queue = i :: w.budget.queue := by
  refine joinAt_head fun j hj => ?_
  have hji : j ≠ i := fun he => hi (he ▸ List.mem_of_mem_head? hj)
  rw [Works.classOf_asking hji]
  exact hq j hj

/-- R33: a request at the head is granted where the three conditions hold. -/
theorem Works.requesting_mayGrant (hg : w.budget.grants[i]? = some g) (hs : w.budget.supply.state = .normal)
    (hn : ∀ e ∈ w.budget.grants, e.state ≠ .inrush)
    (hfit : grantedSum w.budget + (g.asking cls power).need ≤ w.budget.supply.capacity) :
    (w.requesting i cls power g).budget.mayGrant (g.asking cls power) := by
  refine ⟨hs, fun e he => ?_, by rw [Works.requesting_sum hg]; exact hfit⟩
  obtain ⟨j, hj⟩ := List.mem_iff_getElem?.1 he
  by_cases hji : j = i
  · subst hji
    have hself := Works.withEntry_self hg (g.asking cls power) (w.requesting j cls power g).budget.queue
    obtain rfl : g.asking cls power = e := by simpa using hself.symm.trans hj
    simp [Grant.asking]
  · exact hn e (List.mem_of_getElem? ((Works.withEntry_other hji _ _).symm.trans hj))

/-- The works after a request that is granted at once. -/
def Works.requestGranted (i : Nat) (h : Grant) (rest : List Nat) (w : Works) : Works :=
  { w with budget := { supply := { w.budget.supply with sequence := w.budget.supply.sequence + 1 },
                       queue := rest,
                       grants := updAt (fun _ => h.grantedAs (w.budget.supply.sequence + 1)) i w.budget.grants },
           notices := w.notices ++ [grantNotice h.load h.grantPower] }

theorem Works.loadRequest_granted (hg : w.budget.grants[i]? = some g) (hj : g.mayJoin power) (hout : g.outage = none)
    (hq : (w.requesting i cls power g).budget.queue = i :: rest)
    (hm : (w.requesting i cls power g).budget.mayGrant (g.asking cls power)) (hr : g.load.isLamp = true → rest = []) :
    w.loadRequest i cls power = w.requestGranted i (g.asking cls power) rest := by
  have hself : (w.requesting i cls power g).budget.grants[i]? = some (g.asking cls power) := Works.withEntry_self hg _ _
  have hgrant : (w.requesting i cls power g).grantHead i (g.asking cls power) rest =
      w.requestGranted i (g.asking cls power) rest := by
    have hrestore : (w.requesting i cls power g).restoreRecord i (g.asking cls power) = [] := by
      simp [Works.restoreRecord, Grant.asking, hout]
    rw [Works.grantHead_eq hself, hrestore]
    simp only [Works.requesting, Works.withEntry, Works.requestGranted, updAt_updAt]
  rw [Works.loadRequest_joins hg hj, Works.examineHead_of_grant hq hself hm, hgrant]
  split
  · rename_i hl
    rw [Works.examineHead_of_waits (Budget.headWaits_of_nil (hr hl))]
  · rfl

theorem Works.requestGranted_outside (i : Nat) (h : Grant) (rest : List Nat) (w : Works) :
    w.sameOutsideBudget (w.requestGranted i h rest) := ⟨rfl, rfl, rfl, rfl, rfl, rfl, rfl, rfl, rfl, rfl, rfl⟩

end Requests

/-- Settles O26: the request joins the queue at its head, and the examination of the head grants it. -/
theorem motorRequestGranted : Obligations.MotorRequestGranted := by
  refine ⟨fun i cls power c g s hg hl hs hout hn hc hi hhead hinrush hfit => ?_,
    fun i cls power g s hg hl hs hp hout hq hn hinrush hfit => ?_⟩
  · obtain rfl : c = g.askedClass cls := by
      refine hc.trans ?_
      unfold Grant.askedClass
      cases hload : g.load with
      | lamp c => simp [hload, Load.isLamp] at hl
      | _ => rfl
    have hjoin : g.mayJoin power := ⟨fun _ => hs, fun h => by simp [hl] at h⟩
    have hpower : (g.asking cls power).grantPower = g.inrush := by simp [Grant.grantPower, Grant.asking, hl]
    have hmay := Works.requesting_mayGrant (cls := cls) (power := power) hg hn hinrush
      (by simpa [Grant.need, Grant.asking, hl] using hfit)
    have hv := Works.loadRequest_granted hg hjoin hout (Works.requesting_head hi hhead) hmay (by simp [hl])
    refine ⟨_, (exec_loadRequest i cls power s).trans (by rw [hv]), Works.requestGranted_outside .., rfl, rfl,
      ⟨_, getElem?_updAt_self hg, ?_⟩, fun j hj => getElem?_updAt_ne hj, ?_⟩
    · simp [Grant.grantedAs, Grant.grantPower, Grant.asking, hl]
    · rw [← hpower]
      rfl
  · have hjoin : g.mayJoin power := ⟨fun h => by simp [hl] at h, fun _ => ⟨hp, hs⟩⟩
    have hclass : g.askedClass cls = 3 := Grant.askedClass_lamp hl
    have hhead := Works.requesting_head (w := s.works) (i := i) (cls := cls) (power := power) (g := g) (by simp [hq])
      (by simp [hq])
    rw [hq] at hhead
    have hmay := Works.requesting_mayGrant (cls := cls) (power := power) hg hn hinrush
      (by simpa [Grant.need, Grant.asking, hl] using hfit)
    have hv := Works.loadRequest_granted hg hjoin hout hhead hmay fun _ => rfl
    refine ⟨_, (exec_loadRequest i cls power s).trans (by rw [hv]), Works.requestGranted_outside .., ?_, ?_⟩
    · simp [Works.requestGranted, Grant.grantedAs, Grant.grantPower, Grant.asking, hl, hout, hclass]
    · simp [Works.requestGranted, Grant.grantPower, Grant.asking, hl]

/-! ## A request that only joins -/

section Waiting

variable {w : Works} {i cls power : Nat} {g : Grant}

/-- A request whose class is ahead of every entry that waits stands at the head, also one that stood there already. -/
theorem Works.requesting_head? (hg : w.budget.grants[i]? = some g)
    (hq : ∀ j, w.budget.queue.head? = some j → g.askedClass cls < classOf w.budget j) :
    (w.requesting i cls power g).budget.queue.head? = some i := by
  have hself : classOf (w.withEntry i (g.asking cls power) w.budget.queue).budget i = g.askedClass cls :=
    classOf_eq (Works.withEntry_self hg _ _)
  by_cases hi : w.budget.queue.head? = some i
  · exact head?_joinAt hi (Nat.le_of_eq hself)
  · have hjoin := joinAt_head (b := (w.withEntry i (g.asking cls power) w.budget.queue).budget) (i := i)
      (cls := g.askedClass cls) (q := w.budget.queue) fun j hj => by
        have hji : j ≠ i := fun he => hi (by rw [← he]; exact hj)
        rw [Works.classOf_asking hji]
        exact hq j hj
    exact (congrArg List.head? hjoin).trans rfl

/-- The four ways in which a request may not be granted (R33). -/
theorem Works.requesting_waits (hg : w.budget.grants[i]? = some g)
    (h : w.budget.supply.state ≠ .normal ∨
      (∃ j e, j ≠ i ∧ w.budget.grants[j]? = some e ∧ e.state = .inrush) ∨
      (∃ j e, j ≠ i ∧ w.budget.queue.head? = some j ∧ w.budget.grants[j]? = some e ∧ e.cls ≤ g.askedClass cls ∧
        w.budget.supply.capacity < grantedSum w.budget + e.need) ∨
      ((∀ j, w.budget.queue.head? = some j → g.askedClass cls < classOf w.budget j) ∧
        w.budget.supply.capacity < grantedSum w.budget + (g.asking cls power).need)) :
    (w.requesting i cls power g).budget.headWaits := by
  have hother : ∀ {j : Nat} {e : Grant}, j ≠ i → w.budget.grants[j]? = some e →
      (w.requesting i cls power g).budget.grants[j]? = some e := fun hj he => (Works.withEntry_other hj _ _).trans he
  have hself : (w.requesting i cls power g).budget.grants[i]? = some (g.asking cls power) := Works.withEntry_self hg _ _
  obtain hs | ⟨j, e, hj, he, hin⟩ | ⟨j, e, hj, hhead, he, hcls, hfull⟩ | ⟨hahead, hfull⟩ := h
  · exact Budget.headWaits_of_state hs
  · rintro k x - - ⟨-, hnone, -⟩
    exact hnone e (List.mem_of_getElem? (hother hj he)) hin
  · rintro k x hk hx ⟨-, -, hfits⟩
    have hclass : classOf (w.withEntry i (g.asking cls power) w.budget.queue).budget j ≤ g.askedClass cls := by
      rw [Works.classOf_asking hj, classOf_eq he]
      exact hcls
    obtain rfl : j = k := by simpa using (head?_joinAt hhead hclass).symm.trans hk
    obtain rfl : e = x := by simpa using (hother hj he).symm.trans hx
    rw [Works.requesting_sum hg] at hfits
    exact absurd hfits (Nat.not_le.2 hfull)
  · rintro k x hk hx ⟨-, -, hfits⟩
    obtain rfl : i = k := by simpa using (Works.requesting_head? hg hahead).symm.trans hk
    obtain rfl : g.asking cls power = x := by simpa using hself.symm.trans hx
    rw [Works.requesting_sum hg] at hfits
    exact absurd hfits (Nat.not_le.2 hfull)

theorem Works.requesting_joined (i cls power : Nat) (g : Grant) (w : Works) :
    (w.requesting i cls power g).budget.joined i (g.askedClass cls) w.budget.queue := joinAt_spec ..

/-- A LAMP request without an increase is answered at once and takes a QUEUED entry out of the queue (R31). -/
theorem Works.lampRequest_of_queued (hg : w.budget.grants[i]? = some g) (hp : power ≤ g.granted) (hs : g.state = .queued) :
    w.lampRequest i power g = ((w.withEntry i { g with state := lampRest g.granted, outage := none }
      (w.budget.queue.filter (fun j => !(j == i)))).send (grantNotice g.load g.granted)).examineIfNewHead
        w.budget.queue.head? := by
  unfold Works.lampRequest
  rw [if_neg (Nat.not_lt.2 hp)]
  dsimp only
  rw [if_pos hs, Works.leaveQueue_updGrant _ hg]

theorem Works.lampRequest_of_granted (hp : power ≤ g.granted) (hs : g.state ≠ .queued) :
    w.lampRequest i power g = w.send (grantNotice g.load g.granted) := by
  unfold Works.lampRequest
  rw [if_neg (Nat.not_lt.2 hp)]
  dsimp only
  rw [if_neg hs]
  exact Works.examineIfNewHead_same rfl

/-- A LAMP request of a QUEUED entry for more power replaces the power asked for (R31). -/
theorem Works.lampRequest_of_more_queued (hg : w.budget.grants[i]? = some g) (hp : g.granted < power)
    (hs : g.state = .queued) :
    w.lampRequest i power g = w.withEntry i { g with requested := power } w.budget.queue := by
  unfold Works.lampRequest
  rw [if_pos hp, if_pos hs, Works.updGrant_eq _ hg]

end Waiting

/-- Settles O27: a request that may not be granted leaves the queue's head waiting, by the four ways; the others by the state of
the entry. -/
theorem requestQueues : Obligations.RequestQueues := by
  refine ⟨fun i cls power c g h s hg hc hh hmotor hlamp hwait => ?_, fun i cls power g s hg hl hs => ?_,
    fun i cls power g s hg hl => ⟨fun hp hs => ?_, fun hp hs => ?_, fun hp hs => ?_⟩⟩
  · obtain rfl : c = g.askedClass cls := by
      refine hc.trans ?_
      unfold Grant.askedClass
      cases g.load <;> rfl
    obtain rfl : h = g.asking cls power := hh
    have hv : s.works.loadRequest i cls power = s.works.requesting i cls power g := by
      rw [Works.loadRequest_joins hg ⟨hmotor, hlamp⟩, Works.examineHead_of_waits (Works.requesting_waits hg hwait)]
    exact ⟨s.works.requesting i cls power g, (exec_loadRequest i cls power s).trans (by rw [hv]),
      ⟨rfl, rfl, rfl, rfl, rfl, rfl, rfl, rfl, rfl, rfl, rfl⟩, rfl, rfl, rfl, Works.requesting_joined i cls power g s.works⟩
  · rw [exec_loadRequest, Works.loadRequest_motor hg hl, Works.motorRequest, if_neg hs]
  · rw [exec_loadRequest, Works.loadRequest_lamp hg hl, Works.lampRequest_of_more_queued hg hp hs]
    rfl
  · rw [exec_loadRequest, Works.loadRequest_lamp hg hl, Works.lampRequest_of_granted hp hs]
  · refine ⟨_, _, rfl, by rw [exec_loadRequest, Works.loadRequest_lamp hg hl, Works.lampRequest_of_queued hg hp hs]; rfl,
      fun hhead => Works.examineIfNewHead_same hhead, fun hhead => ?_⟩
    rw [show Works.examineIfNewHead _ _ = _ from Works.examineIfNewHead_new hhead]
    exact Works.examineHead_headExamined _

end Sys2Proof.Machine

namespace Sys2Proof.Machine

open Sys2Proof

/-! # The commands to the supply budget: release, withdrawal, shrink and the inrush window (R34, R35) -/

section Changes

variable {w u : Works} {i power t : Nat} {g : Grant}

/-! ## Release and withdrawal (R35) -/

/-- The release and the withdrawal of an entry are one operation. -/
theorem exec_release {c : Instr} (s : State) (hc : c = .loadRelease i ∨ c = .loadWithdrawal i) :
    exec c s = .next { s with works := s.works.loadRelease i } := by
  obtain rfl | rfl := hc <;> rfl

/-- A QUEUED entry that is withdrawn (R35). -/
def Grant.withdrawn (g : Grant) : Grant :=
  { g with state := if g.load.isLamp then lampRest g.granted else .idle, outage := none }

theorem Grant.withdrawn_eq (g : Grant) : g.withdrawn =
    { g with state := (if g.load.isLamp = true ∧ g.granted ≠ 0 then EntryState.held else .idle), outage := none } := by
  unfold Grant.withdrawn lampRest
  cases g.load.isLamp <;> by_cases hg : g.granted = 0 <;> simp [hg]

theorem Works.loadRelease_of_idle (hg : w.budget.grants[i]? = some g) (hs : g.state = .idle) : w.loadRelease i = w := by
  simp [Works.loadRelease, hg, hs]

theorem Works.loadRelease_of_granted (hg : w.budget.grants[i]? = some g) (hs : g.state = .inrush ∨ g.state = .held) :
    w.loadRelease i = (w.withEntry i g.released w.budget.queue).examineHead.judgeIfTight := by
  rw [← Works.updGrant_eq Grant.released hg]
  obtain hs | hs := hs <;> simp [Works.loadRelease, hg, hs, Works.releaseGranted]

theorem Works.loadRelease_of_queued (hg : w.budget.grants[i]? = some g) (hs : g.state = .queued) :
    w.loadRelease i = ((w.withEntry i g.withdrawn (w.budget.queue.filter (fun j => !(j == i)))).examineIfNewHead
      w.budget.queue.head?).judgeIfTight := by
  have hu := Works.leaveQueue_updGrant Grant.withdrawn hg
  unfold Grant.withdrawn at hu
  simp only [Works.loadRelease, hg, hs, Works.withdrawQueued, hu]
  rfl

theorem Grant.released_gives_nothing (g : Grant) : g.released.givesBack = false := by
  unfold Grant.givesBack Grant.released
  cases g.load <;> simp

/-- After the examination of a new head and the judgement of a tight budget: in NORMAL the examination only. -/
theorem Works.examineIfNewHead_judgeIfTight_normal (old : Option Nat) (h : w.budget.supply.state = .normal) :
    (w.examineIfNewHead old).judgeIfTight = w.examineIfNewHead old :=
  Works.judgeIfTight_normal ((w.examineIfNewHead_examined old).state_eq.trans h)

theorem Works.examineIfNewHead_judgeIfTight_tight (old : Option Nat) (h : w.budget.supply.state ≠ .normal) :
    (w.examineIfNewHead old).judgeIfTight = w.judgeBudget := by
  rw [Works.examineIfNewHead_of_waits old (Budget.headWaits_of_state h), Works.judgeIfTight_tight h]

/-- An entry out of the queue loses at most its mark in what follows a withdrawal, and stays out of the queue. -/
theorem Works.examineIfNewHead_judgeIfTight_entry (old : Option Nat) (hi : i ∉ w.budget.queue)
    (hg : w.budget.grants[i]? = some g) :
    i ∉ ((w.examineIfNewHead old).judgeIfTight).budget.queue ∧
      ∃ m, ((w.examineIfNewHead old).judgeIfTight).budget.grants[i]? = some { g with mark := m } := by
  by_cases h : w.budget.supply.state = .normal
  · have he := w.examineIfNewHead_examined old
    rw [Works.examineIfNewHead_judgeIfTight_normal old h]
    exact ⟨fun hm => hi (he.queue hm), g.mark, (he.entry i hi).trans hg⟩
  · rw [Works.examineIfNewHead_judgeIfTight_tight old h]
    obtain ⟨m, hm, -⟩ := Works.judgeBudget_entry hi hg
    exact ⟨fun hm => hi (w.judgeBudget_queue_subset hm), m, hm⟩

/-- What follows a change of the grant table: in NORMAL the examination of the head, in SHEDDING and OVERLOAD the judgement. -/
theorem Works.examineHead_judgeIfTight_spec (hu : u = w.examineHead.judgeIfTight) :
    (w.budget.supply.state = .normal → w.headExamined u) ∧ (w.budget.supply.state ≠ .normal → w.budgetJudged u) := by
  subst hu
  refine ⟨fun h => ?_, fun h => ?_⟩
  · rw [Works.examineHead_judgeIfTight_normal h]
    exact w.examineHead_headExamined
  · rw [Works.examineHead_judgeIfTight_tight h]
    exact w.judgeBudget_judged

/-- The same with the examination of a new head only. -/
theorem Works.examineIfNewHead_judgeIfTight_spec {old : Option Nat} (hu : u = (w.examineIfNewHead old).judgeIfTight) :
    (w.budget.supply.state = .normal →
      (w.budget.queue.head? = old → u = w) ∧ (w.budget.queue.head? ≠ old → w.headExamined u)) ∧
    (w.budget.supply.state ≠ .normal → w.budgetJudged u) := by
  subst hu
  refine ⟨fun h => ?_, fun h => ?_⟩
  · rw [Works.examineIfNewHead_judgeIfTight_normal old h]
    refine ⟨Works.examineIfNewHead_same, fun hn => ?_⟩
    rw [Works.examineIfNewHead_new hn]
    exact w.examineHead_headExamined
  · rw [Works.examineIfNewHead_judgeIfTight_tight old h]
    exact w.judgeBudget_judged

theorem Works.loadRelease_only (i : Nat) (w : Works) : Works.Leads [.budget] w (w.loadRelease i) :=
  Works.loadRelease_leads i w (by decide) .refl

end Changes

/-- Settles O28: by the state of the entry; what follows is the examination in NORMAL and the judgement in SHEDDING and
OVERLOAD, and neither touches the entry but for its mark. -/
theorem releaseAndWithdrawal : Obligations.ReleaseAndWithdrawal := by
  intro i g c s hc hg
  rw [exec_release s hc]
  have hout := (s.works.loadRelease_only i).sameOutsideBudget
  have hon := (s.works.loadRelease_only i).handsOn (by decide)
  refine ⟨fun hs => ?_, fun hs => ?_, fun hs => ?_⟩
  · rw [Works.loadRelease_of_idle hg hs]
  · have hv := Works.loadRelease_of_granted hg hs
    obtain ⟨hnormal, htight⟩ := Works.examineHead_judgeIfTight_spec hv
    refine ⟨g.released, _, _, rfl, rfl, rfl, hout, hon, fun hi => ?_, hnormal, htight⟩
    obtain ⟨m, hm, hnone⟩ := Works.examineHead_judgeIfTight_entry (g := g.released)
      (w := s.works.withEntry i g.released s.works.budget.queue) hi (Works.withEntry_self hg _ _)
    obtain rfl := hnone rfl g.released_gives_nothing
    rw [hv]
    exact hm
  · have hv := Works.loadRelease_of_queued hg hs
    obtain ⟨hnormal, htight⟩ := Works.examineIfNewHead_judgeIfTight_spec hv
    obtain ⟨hi, m, hm⟩ := Works.examineIfNewHead_judgeIfTight_entry (i := i) (g := g.withdrawn)
      (w := s.works.withEntry i g.withdrawn (s.works.budget.queue.filter (fun j => !(j == i)))) s.works.budget.queue.head?
      (not_mem_leaveQueue i _) (Works.withEntry_self hg _ _)
    rw [← hv] at hi hm
    exact ⟨g.withdrawn, _, _, g.withdrawn_eq, rfl, rfl, hout, hon, hi, ⟨_, hm, rfl, rfl, rfl, rfl⟩, hnormal, htight⟩

section Changes

variable {w u : Works} {i power t : Nat} {g : Grant}

/-! ## Shrink (R35, R41) -/

theorem exec_loadShrink (i power : Nat) (s : State) :
    exec (.loadShrink i power) s = .next { s with works := s.works.loadShrink i power } := rfl

theorem Grant.shrunk_eq (power : Nat) (g : Grant) : g.shrunk power =
    { g with granted := power, state := (if g.state = .held ∧ power = 0 then .idle else g.state),
             mark := (if g.mark = .asked ∧ power ≤ g.floor then .none else g.mark) } := by
  unfold Grant.shrunk lampRest
  by_cases hs : g.state = .held <;> by_cases hp : power = 0 <;> simp [hs, hp]

theorem Works.loadShrink_of_less (hg : w.budget.grants[i]? = some g) (hl : g.load.isLamp = true) (hp : power < g.granted)
    (hs : g.state = .held ∨ g.state = .queued) :
    w.loadShrink i power = (w.withEntry i (g.shrunk power) w.budget.queue).examineHead.judgeIfTight := by
  rw [← Works.updGrant_eq (Grant.shrunk power) hg]
  obtain hs | hs := hs <;> simp [Works.loadShrink, hg, hl, hp, hs]

/-- A shrink that would not lower the power, or meets an entry that is neither HELD nor QUEUED, is discarded (R35). -/
theorem Works.loadShrink_discarded (hg : w.budget.grants[i]? = some g)
    (h : g.granted ≤ power ∨ g.state = .idle ∨ g.state = .inrush) : w.loadShrink i power = w := by
  obtain hp | hs | hs := h
  · simp [Works.loadShrink, hg, Nat.not_lt.2 hp]
  · simp [Works.loadShrink, hg, hs]
  · simp [Works.loadShrink, hg, hs]

/-- A shrunk LAMP entry that was ASKED and has come down to its floor is not asked again (R41). -/
theorem Grant.shrunk_at_floor (hl : g.load.isLamp = true) (hp : power ≤ g.floor) : (g.shrunk power).givesBack = false := by
  unfold Grant.givesBack Grant.shrunk
  cases hload : g.load with
  | lamp c => simpa [hload] using hp
  | _ => simp [hload, Load.isLamp] at hl

/-- The mark of a shrunk entry that was ASKED stands through a judgement that does not clear the marks. -/
theorem Works.judgeBudget_entry_shrunk (h : ¬ w.fits) (hg : w.budget.grants[i]? = some (g.shrunk power))
    (hl : g.load.isLamp = true) : ∃ m, w.judgeBudget.budget.grants[i]? = some { g.shrunk power with mark := m } ∧
      (g.mark = .asked → m = (g.shrunk power).mark) := by
  obtain ⟨m, hm, hc⟩ := Works.judgeBudget_entry_tight h hg
  refine ⟨m, hm, fun hasked => hc.resolve_right fun ⟨hnone, hback⟩ => ?_⟩
  have hfloor : power ≤ g.floor := by
    by_contra hlt
    simp [Grant.shrunk, hasked, hlt] at hnone
  exact absurd hback (by simp [Grant.shrunk_at_floor hl hfloor])

end Changes

/-- Settles O29: the shrunk entry is examined for in NORMAL and judged in SHEDDING and OVERLOAD. -/
theorem loadShrink : Obligations.LoadShrink := by
  intro i power g h s u hg hl hh hu
  rw [← Grant.shrunk_eq] at hh
  subst hh hu
  rw [exec_loadShrink]
  refine ⟨fun hp hs hn => ?_, fun hp hs hn => ?_, fun hd => by rw [Works.loadShrink_discarded hg hd]⟩
  · have hv := (Works.loadShrink_of_less hg hl hp hs).trans (Works.examineHead_judgeIfTight_normal hn)
    refine ⟨fun hwait => ?_, _, by rw [hv]; rfl, Works.examineHead_headExamined _⟩
    rw [hv.trans (Works.examineHead_of_waits hwait)]
    rfl
  · have hv := (Works.loadShrink_of_less hg hl hp hs).trans (Works.examineHead_judgeIfTight_tight hn)
    have honly : Works.Leads [.budget] s.works (s.works.loadShrink i power) :=
      Works.loadShrink_leads i power s.works (by decide) .refl
    refine ⟨_, rfl, honly.sameOutsideBudget, honly.handsOn (by decide), ?_, fun hd => ?_, fun hd => ?_⟩
    · rw [hv]
      exact Works.judgeBudget_judged _
    · have htight := fun hf => hd (Works.due_of_fits hf)
      obtain ⟨m, hm, hmark⟩ := Works.judgeBudget_entry_shrunk htight (Works.withEntry_self hg _ _) hl
      rw [hv]
      exact ⟨Works.judgeBudget_queue_tight htight, _, hm, rfl, rfl, rfl, hmark⟩
    · rw [hv]
      exact Works.judgeBudget_marks (Works.due_normal_iff.1 hd)

section Changes

variable {w u : Works} {i power t : Nat} {g : Grant}

/-! ## Energised notice and inrush window (R34) -/

theorem exec_energisedNotice (i : Nat) (s : State) :
    exec (.energisedNotice i) s = .next { s with works := s.works.energise i } := rfl

theorem exec_inrushWindowExpiry (i : Nat) (s : State) :
    exec (.inrushWindowExpiry i) s = .next { s with works := s.works.windowExpiry i } := rfl

theorem Works.energise_first (hg : w.budget.grants[i]? = some g) (hs : g.state = .inrush) (he : g.energised = none) :
    w.energise i = w.withEntry i { g with energised := some w.now } w.budget.queue := by
  rw [← Works.updGrant_eq (fun g => { g with energised := some w.now }) hg]
  simp [Works.energise, hg, hs, he]

theorem Works.energise_discarded (hg : w.budget.grants[i]? = some g) (h : g.state ≠ .inrush ∨ g.energised.isSome = true) :
    w.energise i = w := by
  have hn : ¬ (g.state = .inrush ∧ g.energised = none) := fun ⟨hs, he⟩ => by simp [hs, he] at h
  simp only [Works.energise, hg, if_neg hn]

/-- An entry whose inrush window has run out (R34). -/
def Grant.settled (g : Grant) : Grant := { g with state := .held, granted := g.requested, energised := none }

theorem Works.windowExpiry_over (hg : w.budget.grants[i]? = some g) (hs : g.state = .inrush) (he : g.energised = some t)
    (ht : t + g.window ≤ w.now) :
    w.windowExpiry i = (w.withEntry i g.settled w.budget.queue).examineHead.judgeIfTight := by
  rw [← Works.updGrant_eq Grant.settled hg]
  simp only [Works.windowExpiry, hg, Grant.windowOver, hs, he, elapsed, ht, decide_true, Bool.and_self, if_true]
  rfl

theorem Works.windowExpiry_early (hg : w.budget.grants[i]? = some g) (he : g.energised = some t)
    (ht : w.now < t + g.window) : w.windowExpiry i = w := by
  simp [Works.windowExpiry, hg, Grant.windowOver, he, elapsed, Nat.not_le.2 ht]

end Changes

/-- Settles O31: by the state of the window; what follows its end is the examination in NORMAL and the judgement in SHEDDING and
OVERLOAD. -/
theorem energisedAndInrushWindow : Obligations.EnergisedAndInrushWindow := by
  refine ⟨fun i g s hg hs he => ?_, fun i g s hg hd => ?_, fun i t g s hg hs he ht hq hn => ?_,
    fun i t g h s u hg hs he ht hh hu => ?_, fun i t g s hg he ht => ?_⟩
  · rw [exec_energisedNotice, Works.energise_first hg hs he]
    rfl
  · rw [exec_energisedNotice, Works.energise_discarded hg hd]
  · have hv := ((Works.windowExpiry_over hg hs he ht).trans (Works.examineHead_judgeIfTight_normal hn)).trans
      (Works.examineHead_of_waits (Budget.headWaits_of_nil hq))
    rw [exec_inrushWindowExpiry, hv]
    rfl
  · obtain rfl : h = g.settled := hh
    subst hu
    have hv := Works.windowExpiry_over hg hs he ht
    have honly : Works.Leads [.budget] s.works (s.works.windowExpiry i) :=
      Works.windowExpiry_leads i s.works (by decide) .refl
    obtain ⟨hnormal, htight⟩ := Works.examineHead_judgeIfTight_spec hv
    rw [exec_inrushWindowExpiry]
    refine ⟨fun hn => ⟨_, rfl, hnormal hn⟩,
      fun hn => ⟨_, rfl, honly.sameOutsideBudget, honly.handsOn (by decide), htight hn, fun hi => ?_⟩⟩
    obtain ⟨m, hm, -⟩ := Works.examineHead_judgeIfTight_entry (g := g.settled)
      (w := s.works.withEntry i g.settled s.works.budget.queue) hi (Works.withEntry_self hg _ _)
    rw [hv]
    exact ⟨_, hm, rfl, rfl, rfl⟩
  · rw [exec_inrushWindowExpiry, Works.windowExpiry_early hg he ht]

end Sys2Proof.Machine

namespace Sys2Proof.Machine

open Sys2Proof

/-! # The commands to the supply budget: class notices and shed failures (R36, R40, R41) -/

section Classes

variable {w v : Works} {i cls p : Nat} {g : Grant}

/-! ## Class notices (R36) -/

theorem exec_classNotice (i cls : Nat) (s : State) :
    exec (.classNotice i cls) s = .next { s with works := s.works.classNotice i cls } := rfl

theorem exec_shedFailure (i : Nat) (s : State) :
    exec (.shedFailure i) s = .next { s with works := s.works.shedFailure i } := rfl

theorem Grant.takesClass_iff (cls : Nat) (g : Grant) :
    g.takesClass cls = true ↔ (∃ p, g.load = .pump p) ∧ (cls = 1 ∨ cls = 2) := by
  unfold Grant.takesClass
  cases g.load <;> simp [Load.isGate, Load.isLamp]

theorem Works.classNotice_in_place (hg : w.budget.grants[i]? = some g) (hp : g.load = .pump p) (hc : cls = 1 ∨ cls = 2)
    (hs : g.state ≠ .queued) :
    w.classNotice i cls = (w.withEntry i { g with cls := cls } w.budget.queue).judgeBudget := by
  rw [← Works.updGrant_eq (fun g => { g with cls := cls }) hg]
  simp only [Works.classNotice, hg, (g.takesClass_iff cls).2 ⟨⟨p, hp⟩, hc⟩, hs, if_true, if_false]
  rfl

theorem Works.classNotice_queued (hg : w.budget.grants[i]? = some g) (hp : g.load = .pump p) (hc : cls = 1 ∨ cls = 2)
    (hs : g.state = .queued) : w.classNotice i cls = w.classQueued i cls g := by
  simp only [Works.classNotice, hg, (g.takesClass_iff cls).2 ⟨⟨p, hp⟩, hc⟩, hs, if_true]

theorem Works.classNotice_discarded (hg : w.budget.grants[i]? = some g) (h : g.takesClass cls = false) :
    w.classNotice i cls = w := by
  simp [Works.classNotice, hg, h]

/-- The queue after an entry that waits has rejoined it at the end of its new class (R36). -/
def Works.rejoined (i cls : Nat) (g : Grant) (w : Works) : List Nat :=
  let q := w.budget.queue.filter (fun j => !(j == i))
  joinAt (w.withEntry i { g with cls := cls } q).budget i cls q

theorem Works.classQueued_of_new (hg : w.budget.grants[i]? = some g) (hc : g.cls ≠ cls) : w.classQueued i cls g =
    (w.withEntry i { g with cls := cls } (w.rejoined i cls g)).examineIfNewHead w.budget.queue.head? := by
  have hu := Works.leaveQueue_updGrant (fun g => { g with cls := cls }) hg
  unfold Works.classQueued Works.classInPlace
  rw [if_neg hc]
  dsimp only
  rw [hu]
  rfl

theorem Works.rejoined_joined (i cls : Nat) (g : Grant) (w : Works) :
    (w.withEntry i { g with cls := cls } (w.rejoined i cls g)).budget.joined i cls
      (w.budget.queue.filter (fun j => !(j == i))) := joinAt_spec ..

/-! ## Shed failures (R41) -/

theorem Works.shedFailure_asked (hg : w.budget.grants[i]? = some g) (hm : g.mark = .asked) :
    w.shedFailure i = (w.withEntry i { g with mark := .failed } w.budget.queue).judgeBudget := by
  rw [← Works.updGrant_eq (fun g => { g with mark := .failed }) hg]
  simp [Works.shedFailure, hg, hm]

theorem Works.shedFailure_discarded (hg : w.budget.grants[i]? = some g) (hm : g.mark ≠ .asked) : w.shedFailure i = w := by
  simp [Works.shedFailure, hg, hm]

/-- A mark in place leaves the granted sum. -/
theorem Works.fits_failed (hg : w.budget.grants[i]? = some g) :
    (w.withEntry i { g with mark := .failed } w.budget.queue).fits ↔ w.fits := by
  unfold Works.fits
  rw [Works.withEntry_sum_same (h := { g with mark := .failed }) hg rfl]
  rfl

/-! ## Who is asked, and until when (R40) -/

theorem Works.sheddable_spec (w : Works) (g : Grant) : w.sheddable g = true ↔
    ((∃ c, g.load = .lamp c ∧ g.floor < g.granted) ∨
      ∃ p, g.load = .pump p ∧ g.cls = 2 ∧ (g.state = .inrush ∨ g.state = .held)) ∧
    g.mark = .none ∧ (w.loadClaim g.load = .auto ∨ w.loadClaim g.load = .ordered) := by
  rw [Works.sheddable_iff, Grant.givesBack_iff, ClaimValue.commands_iff]

theorem Works.loadClaim_lamp {c : Nat} {x : Circuit} (hx : w.lights.circuits[c]? = some x) :
    w.loadClaim (.lamp c) = w.claimOf (.zone x.zone) := by
  simp [Works.loadClaim, hx]

/-- The change of the budget state alone leaves the state that is due. -/
theorem Works.due_setBudgetState (st : BudgetState) (w : Works) : (w.setBudgetState st).budgetStateDue = w.budgetStateDue := by
  have hl := w.setBudgetState_only st
  have hb := w.setBudgetState_budget st
  exact Works.due_congr (by rw [hb]) (by rw [hb]) (hl.claims_eq (by decide)) (hl.lights_eq (by decide))

/-- The judgement of a budget that comes to SHEDDING is that of the same budget in SHEDDING. -/
theorem Works.judgeBudget_from_shedding (h : w.budgetStateDue = .shedding) :
    w.judgeBudget = (w.setBudgetState .shedding).judgeBudget := by
  have hb := w.setBudgetState_budget .shedding
  rw [Works.judgeBudget_of_shedding h, Works.judgeBudget_of_shedding ((w.due_setBudgetState _).trans h), hb,
    Works.setBudgetState_same (w := w.setBudgetState .shedding) (by rw [hb])]

/-- Once an entry is ASKED and the sum does not fit, SHEDDING stays due. -/
theorem Works.due_askShed (hg : w.budget.grants[i]? = some g) (h : w.budgetStateDue = .shedding) :
    (w.askShed i).budgetStateDue = .shedding := by
  obtain ⟨hfit, -⟩ := Works.due_shedding_iff.1 h
  refine Works.due_shedding_iff.2 ⟨fun hf => hfit ?_, .inl ⟨{ g with mark := .asked }, ?_, rfl⟩⟩
  · rw [Works.askShed_eq hg] at hf
    exact Nat.le_trans (Nat.le_of_eq (Works.withEntry_sum_same (h := { g with mark := .asked }) hg rfl _).symm) hf
  · rw [Works.askShed_eq hg]
    exact List.mem_of_getElem? (Works.withEntry_self hg _ w.budget.queue)

theorem Works.judgeBudget_asks_next (h : w.budgetStateDue = .shedding) (hs : w.budget.supply.state = .shedding)
    (hi : w.nextShed = some i) (hlt : w.budget.supply.capacity + pendingRelief w.budget < grantedSum w.budget) :
    w.judgeBudget = (w.askShed i).judgeBudget := by
  obtain ⟨g, hg, hsh⟩ := Works.nextShed_sheddable hi
  have hask := Works.askShed_asked hg hsh
  have hless := unmarked_askShed hg hsh
  have hbound := unmarked_le w.budget
  obtain ⟨n, hn⟩ : ∃ n, w.budget.grants.length = n + 1 := ⟨w.budget.grants.length - 1, by omega⟩
  rw [Works.judgeBudget_of_shedding h, Works.judgeBudget_of_shedding (Works.due_askShed hg h),
    Works.setBudgetState_same hs, Works.setBudgetState_same (by rw [hask.supply]; exact hs), hn,
    shedLoop_of_next n hi hlt]
  exact shedLoop_fuel (by omega) (unmarked_le _)

theorem Works.judgeBudget_of_over (h : w.budgetStateDue = .shedding) (hs : w.budget.supply.state = .shedding)
    (ho : w.shedOver) : w.judgeBudget = w := by
  rw [Works.judgeBudget_of_shedding h, Works.setBudgetState_same hs, shedLoop_of_over _ ho]

theorem Works.askShed_spec (hg : w.budget.grants[i]? = some g) (hv : v = w.askShed i) :
    w.sameOutsideBudget v ∧ v.budget.queue = w.budget.queue ∧ v.budget.supply = w.budget.supply ∧
    v.budget.grants = updAt (fun _ => { g with mark := .asked }) i w.budget.grants ∧
    v.recorded .shed i (some g.state.code) (some g.state.code)
      [g.load.code, g.cls, g.granted, if g.load.isLamp = true then g.granted - g.floor else g.granted] false ∧
    (∀ p, g.load = .pump p → v.handed (.pumpShedRequest p)) ∧ ∀ c, g.load = .lamp c → v.handed (.lampShedRequest c) := by
  have honly : Works.Leads [.budget] w (w.askShed i) := Works.askShed_leads i w (by decide) .refl
  subst hv
  refine ⟨honly.sameOutsideBudget, ?_⟩
  rw [Works.askShed_eq hg]
  refine ⟨rfl, rfl, rfl, ?_, fun p hp => ?_, fun c hc => ?_⟩
  · exact List.mem_append_right _ (List.mem_singleton.2 rfl)
  · simp [Works.handed, hp, Load.shedRequest]
  · simp [Works.handed, hc, Load.shedRequest]

end Classes

section Clauses

variable {i cls p : Nat} {g : Grant} {s : State}

/-! ## The clauses of O30 on commands -/

theorem classNotice_keeps_entry (hg : s.works.budget.grants[i]? = some g) (hp : g.load = .pump p) (hc : cls = 1 ∨ cls = 2)
    (hs : g.state ≠ .queued) (hi : i ∉ s.works.budget.queue) :
    ∃ v, exec (.classNotice i cls) s = .next { s with works := v } ∧ s.works.sameOutsideBudget v ∧
      s.works.handsOn v ∧ ∃ h, v.budget.grants[i]? = some h ∧ h.cls = cls ∧ h.state = g.state ∧
        h.granted = g.granted ∧ h.requested = g.requested ∧ h.number = g.number := by
  have honly : Works.Leads [.budget] s.works (s.works.classNotice i cls) :=
    Works.classNotice_leads i cls s.works (by decide) .refl
  obtain ⟨m, hm, -⟩ := Works.judgeBudget_entry (g := { g with cls := cls })
    (w := s.works.withEntry i { g with cls := cls } s.works.budget.queue) hi (Works.withEntry_self hg _ _)
  rw [← Works.classNotice_in_place hg hp hc hs] at hm
  exact ⟨_, rfl, honly.sameOutsideBudget, honly.handsOn (by decide), _, hm, rfl, rfl, rfl, rfl, rfl⟩

theorem classNotice_rejoins (hg : s.works.budget.grants[i]? = some g) (hp : g.load = .pump p) (hc : cls = 1 ∨ cls = 2)
    (hs : g.state = .queued) (hne : g.cls ≠ cls) :
    ∃ q u v, u = s.works.withEntry i { g with cls := cls } q ∧
      u.budget.joined i cls (s.works.budget.queue.filter (fun j => !(j == i))) ∧
      exec (.classNotice i cls) s = .next { s with works := v } ∧
      (q.head? = s.works.budget.queue.head? → v = u) ∧ (q.head? ≠ s.works.budget.queue.head? → u.headExamined v) := by
  have hv := (Works.classNotice_queued hg hp hc hs).trans (Works.classQueued_of_new hg hne)
  refine ⟨_, _, _, rfl, Works.rejoined_joined i cls g s.works, rfl, fun hh => ?_, fun hh => ?_⟩
  · exact hv.trans (Works.examineIfNewHead_same hh)
  · rw [hv.trans (Works.examineIfNewHead_new hh)]
    exact Works.examineHead_headExamined _

theorem shedFailure_of_asked (hg : s.works.budget.grants[i]? = some g) (hm : g.mark = .asked) :
    ∃ v, exec (.shedFailure i) s = .next { s with works := v } ∧ s.works.sameOutsideBudget v ∧ s.works.handsOn v ∧
      (s.works.budget.supply.capacity < grantedSum s.works.budget →
        ∃ h, v.budget.grants[i]? = some h ∧ h.mark = .failed ∧ h.state = g.state ∧ h.granted = g.granted) ∧
      (grantedSum s.works.budget ≤ s.works.budget.supply.capacity → ∀ x ∈ v.budget.grants, x.mark = .none) ∧
      (s.withGrant i { g with mark := .failed }).works.budgetJudged v := by
  have honly : Works.Leads [.budget] s.works (s.works.shedFailure i) :=
    Works.shedFailure_leads i s.works (by decide) .refl
  have hv := Works.shedFailure_asked hg hm
  refine ⟨_, rfl, honly.sameOutsideBudget, honly.handsOn (by decide), fun htight => ?_, fun hfit => ?_, ?_⟩
  · obtain ⟨m, hm, hc⟩ := Works.judgeBudget_entry_tight (g := { g with mark := .failed })
      (fun hf => Nat.not_le.2 htight ((Works.fits_failed hg).1 hf)) (Works.withEntry_self hg _ _)
    obtain rfl : m = .failed := hc.resolve_right fun ⟨hn, _⟩ => by simp at hn
    rw [hv]
    exact ⟨_, hm, rfl, rfl, rfl⟩
  · rw [hv]
    exact Works.judgeBudget_marks ((Works.fits_failed hg).2 hfit)
  · rw [hv]
    exact Works.judgeBudget_judged _

end Clauses

/-- Settles O30, clause by clause: class notices, shed failures, who is sheddable, the order of Table 2-7, asking, and the
shedding that goes on until it is over. -/
theorem classNoticeAndShedFailure : Obligations.ClassNoticeAndShedFailure := by
  refine ⟨fun i cls g p s hg hp hc hs hi => classNotice_keeps_entry hg hp hc hs hi,
    fun i cls g p s u hg hp hc hs hu => ?_, fun i cls g p s hg hp hc hs => ⟨fun he => ?_, classNotice_rejoins hg hp hc hs⟩,
    fun i cls g s hg hd => ?_, fun i g s hg hm => shedFailure_of_asked hg hm, fun i g s hg hm => ?_,
    fun w g => w.sheddable_spec g, fun w p c x => ⟨rfl, Works.loadClaim_lamp⟩, fun b => rfl,
    fun w => w.nextShed_eq_none_iff, fun w i hi => Works.nextShed_first hi, fun w v i g hg hv => Works.askShed_spec hg hv,
    fun w hw => ⟨fun _ => Works.judgeBudget_from_shedding hw, fun i hs hi hlt => Works.judgeBudget_asks_next hw hs hi hlt,
      fun hs ho => Works.judgeBudget_of_over hw hs ho⟩⟩
  · subst hu
    refine ⟨_, rfl, ?_⟩
    rw [Works.classNotice_in_place hg hp hc hs]
    exact Works.judgeBudget_judged _
  · rw [exec_classNotice, Works.classNotice_queued hg hp hc hs, Works.classQueued, if_pos he]
  · have hn : g.takesClass cls = false := by
      rw [← Bool.not_eq_true, Grant.takesClass_iff]
      rintro ⟨⟨p, hp⟩, hc⟩
      obtain hd | ⟨h1, h2⟩ := hd
      · exact hd p hp
      · exact hc.elim h1 h2
    rw [exec_classNotice, Works.classNotice_discarded hg hn]
  · rw [exec_shedFailure, Works.shedFailure_discarded hg hm]

end Sys2Proof.Machine

namespace Sys2Proof.Machine

open Sys2Proof

/-! # The commands to the supply budget: adoption (R43) -/

section Adopting

variable {w u : Works} {i power new : Nat} {g : Grant}

theorem exec_adoptionNotice (i power : Nat) (s : State) :
    exec (.adoptionNotice i power) s = .next { s with works := s.works.adopt i power } := rfl

theorem Grant.adoptedPower_eq (power : Nat) (g : Grant) : g.adoptedPower power =
    if g.state = .held ∨ (g.state = .queued ∧ g.load.isLamp = true) then max g.granted power else power := by
  unfold Grant.adoptedPower
  cases g.state <;> simp

/-- An entry as an adoption leaves it: the flag and the grant number come with a raised power only (R43). -/
def Grant.adoptedAs (new : Nat) (n : Word) (g : Grant) : Grant :=
  { g with state := .held, granted := new, energised := none, outage := none,
           adopted := if g.granted < new then true else g.adopted,
           number := if g.granted < new then some n else g.number }

/-- The works after the entry of an adoption, but for the record. -/
def Works.withAdopted (i new : Nat) (g : Grant) (w : Works) : Works :=
  (w.withEntry i (g.adoptedAs new (w.budget.supply.sequence + 1)) (w.budget.queue.filter (fun j => !(j == i)))).setSupply
    { w.budget.supply with sequence := if g.granted < new then w.budget.supply.sequence + 1 else w.budget.supply.sequence }

theorem Works.adoptEntry_kept (hg : w.budget.grants[i]? = some g) (h : ¬ g.granted < g.adoptedPower power) :
    w.adoptEntry i power g = w.withAdopted i (g.adoptedPower power) g := by
  have hu := Works.leaveQueue_updGrant (fun e => { e with
    state := .held, granted := g.adoptedPower power, energised := none, outage := none }) hg
  unfold Works.adoptEntry Works.withAdopted Grant.adoptedAs
  dsimp only
  rw [hu, if_neg h]
  simp only [if_neg h]
  rfl

theorem Works.adoptEntry_raised (hg : w.budget.grants[i]? = some g) (h : g.granted < g.adoptedPower power) :
    w.adoptEntry i power g = (w.withAdopted i (g.adoptedPower power) g).record .adopt i (some g.state.code)
      (some EntryState.held.code) [g.load.code, g.granted, g.adoptedPower power,
        grantedSum (w.withAdopted i (g.adoptedPower power) g).budget] false := by
  have hu := Works.leaveQueue_updGrant (fun e => { e with
    state := .held, granted := g.adoptedPower power, energised := none, outage := none }) hg
  have hadopted : ((w.withEntry i { g with
        state := .held, granted := g.adoptedPower power, energised := none, outage := none }
        (w.budget.queue.filter (fun j => !(j == i)))).setSupply
          { w.budget.supply with sequence := w.budget.supply.sequence + 1 }).updGrant i
            (fun e => { e with adopted := true, number := some (w.budget.supply.sequence + 1) }) =
        w.withAdopted i (g.adoptedPower power) g := by
    simp only [Works.updGrant, Works.setSupply, Works.setBudget, Works.withEntry, updAt_updAt, Works.withAdopted,
      Grant.adoptedAs, if_pos h]
  unfold Works.adoptEntry
  dsimp only
  rw [hu, if_pos h]
  exact congrArg (fun x : Works => x.record .adopt i (some g.state.code) (some EntryState.held.code)
    [g.load.code, g.granted, g.adoptedPower power, grantedSum x.budget] false) hadopted

/-- The granted sum after an adoption, as the ADOPT record shows it. -/
theorem Works.withAdopted_sum (hg : w.budget.grants[i]? = some g) :
    grantedSum (w.withAdopted i new g).budget = grantedSum w.budget - g.granted + new := by
  have hnew := Works.withEntry_sum hg (g.adoptedAs new (w.budget.supply.sequence + 1)) []
  have hzero := Works.withEntry_sum hg { g with granted := 0 } []
  have hsame : grantedSum (w.withAdopted i new g).budget =
      grantedSum (w.withEntry i (g.adoptedAs new (w.budget.supply.sequence + 1)) []).budget := rfl
  simp only [Grant.adoptedAs] at hnew hzero hsame
  omega

theorem Works.adoptEntry_budget (hg : w.budget.grants[i]? = some g) :
    (w.adoptEntry i power g).budget = (w.withAdopted i (g.adoptedPower power) g).budget := by
  by_cases h : g.granted < g.adoptedPower power
  · rw [Works.adoptEntry_raised hg h]
    rfl
  · rw [Works.adoptEntry_kept hg h]

theorem Works.adoptEntry_recorded (hg : w.budget.grants[i]? = some g) (h : g.granted < g.adoptedPower power) :
    (w.adoptEntry i power g).recorded .adopt i (some g.state.code) (some 3)
      [g.load.code, g.granted, g.adoptedPower power, grantedSum w.budget - g.granted + g.adoptedPower power] false := by
  rw [Works.adoptEntry_raised hg h, Works.withAdopted_sum hg]
  exact Works.recorded_record ..

theorem Works.adoptEntry_only (i power : Nat) (g : Grant) (w : Works) :
    Works.Leads [.budget] w (w.adoptEntry i power g) := Works.adoptEntry_leads i power g w (by decide) .refl

theorem Load.isGate_eq_false {l : Load} (h : ∀ n, l ≠ .gate n) : l.isGate = false := by
  cases l with
  | gate n => exact absurd rfl (h n)
  | _ => rfl

/-- What follows the entry of an adoption ahead of the judgement is an examination (R32, R33). -/
theorem Works.adoptUnjudged_examined (hg : w.budget.grants[i]? = some g) (hl : ∀ n, g.load ≠ .gate n) :
    (w.adoptEntry i power g).Examined (w.adoptUnjudged i power) := by
  simp only [Works.adoptUnjudged, hg, Load.isGate_eq_false hl, Bool.false_eq_true, if_false]
  split
  · exact Works.examineHead_examined _
  · exact Works.examineIfNewHead_examined _ _

/-- Where no head may be granted, nothing stands between the entry and the judgement. -/
theorem Works.adoptUnjudged_of_waits (hg : w.budget.grants[i]? = some g) (hl : ∀ n, g.load ≠ .gate n)
    (hw : (w.adoptEntry i power g).budget.headWaits) : w.adoptUnjudged i power = w.adoptEntry i power g := by
  simp only [Works.adoptUnjudged, hg, Load.isGate_eq_false hl, Bool.false_eq_true, if_false]
  split
  · exact Works.examineHead_of_waits hw
  · exact Works.examineIfNewHead_of_waits _ hw

theorem Works.adopt_eq (hg : w.budget.grants[i]? = some g) (hl : ∀ n, g.load ≠ .gate n) :
    w.adopt i power = (w.adoptUnjudged i power).judgeBudget := by
  simp [Works.adopt, hg, Load.isGate_eq_false hl]

theorem Works.adopt_gate {n : Nat} (hg : w.budget.grants[i]? = some g) (hl : g.load = .gate n) : w.adopt i power = w := by
  simp [Works.adopt, hg, hl, Load.isGate]

theorem Works.adopt_only (i power : Nat) (w : Works) : Works.Leads [.budget] w (w.adopt i power) :=
  Works.adopt_leads i power w (by decide) .refl

/-- The entry stays out of the queue and loses at most its mark in what follows. -/
theorem Works.adopt_entry (hg : w.budget.grants[i]? = some g) (hl : ∀ n, g.load ≠ .gate n) :
    i ∉ (w.adopt i power).budget.queue ∧ ∃ m, (w.adopt i power).budget.grants[i]? =
      some { g.adoptedAs (g.adoptedPower power) (w.budget.supply.sequence + 1) with mark := m } := by
  have he := Works.adoptUnjudged_examined (power := power) hg hl
  have hq : i ∉ (w.adoptEntry i power g).budget.queue := by
    rw [Works.adoptEntry_budget hg]
    exact not_mem_leaveQueue i _
  have hx : i ∉ (w.adoptUnjudged i power).budget.queue := fun h => hq (he.queue h)
  have hentry : (w.adoptUnjudged i power).budget.grants[i]? =
      some (g.adoptedAs (g.adoptedPower power) (w.budget.supply.sequence + 1)) := by
    rw [he.entry i hq, Works.adoptEntry_budget hg]
    exact Works.withEntry_self hg _ []
  obtain ⟨m, hm, -⟩ := Works.judgeBudget_entry hx hentry
  rw [Works.adopt_eq hg hl]
  exact ⟨fun h => hx (Works.judgeBudget_queue_subset _ h), m, hm⟩

theorem Works.adopt_recorded (hg : w.budget.grants[i]? = some g) (hl : ∀ n, g.load ≠ .gate n)
    (h : g.granted < g.adoptedPower power) : (w.adopt i power).recorded .adopt i (some g.state.code) (some 3)
      [g.load.code, g.granted, g.adoptedPower power, grantedSum w.budget - g.granted + g.adoptedPower power] false := by
  have he := Works.adoptUnjudged_examined (power := power) hg hl
  rw [Works.adopt_eq hg hl]
  exact (he.leads.trans (Works.judgeBudget_only _)).recorded (by decide) (Works.adoptEntry_recorded hg h)

/-- No head is examined in SHEDDING and OVERLOAD, nor where no other entry waits. -/
theorem Works.adoptEntry_waits (hg : w.budget.grants[i]? = some g)
    (h : w.budget.supply.state ≠ .normal ∨ ∀ j ∈ w.budget.queue, j = i) :
    (w.adoptEntry i power g).budget.headWaits := by
  rw [Works.adoptEntry_budget hg]
  obtain h | h := h
  · exact Budget.headWaits_of_state h
  · refine Budget.headWaits_of_nil (List.filter_eq_nil_iff.2 fun j hj => ?_)
    simpa using h j hj

end Adopting

section Clauses

variable {i power new : Nat} {g : Grant} {s : State}

/-- R43 in general, and the judgement of R39 where no head is examined before it. -/
theorem adoption_general (hg : s.works.budget.grants[i]? = some g) (hl : ∀ n, g.load ≠ .gate n)
    (hnew : new = if g.state = .held ∨ (g.state = .queued ∧ g.load.isLamp = true) then max g.granted power else power) :
    ∃ v, exec (.adoptionNotice i power) s = .next { s with works := v } ∧ s.works.sameOutsideBudget v ∧
      s.works.handsOn v ∧ i ∉ v.budget.queue ∧
      (∃ h, v.budget.grants[i]? = some h ∧ h.state = .held ∧ h.granted = new ∧ h.energised = none ∧ h.outage = none ∧
        h.load = g.load ∧ h.cls = g.cls ∧ h.requested = g.requested ∧
        (g.granted < new → h.adopted = true ∧ h.number = some (s.works.budget.supply.sequence + 1)) ∧
        (new ≤ g.granted → h.adopted = g.adopted ∧ h.number = g.number)) ∧
      (g.granted < new → v.recorded .adopt i (some g.state.code) (some 3)
        [g.load.code, g.granted, new, grantedSum s.works.budget - g.granted + new] false) ∧
      (s.works.budget.supply.state ≠ .normal ∨ (∀ j ∈ s.works.budget.queue, j = i) →
        ∃ h, h.state = .held ∧ h.granted = new ∧ h.load = g.load ∧ h.cls = g.cls ∧ h.mark = g.mark ∧
          h.floor = g.floor ∧ (s.withGrant i h).works.budgetJudged v) := by
  obtain rfl : new = g.adoptedPower power := by rw [hnew, Grant.adoptedPower_eq]
  have honly := s.works.adopt_only i power
  obtain ⟨hi, m, hm⟩ := Works.adopt_entry (power := power) hg hl
  refine ⟨_, exec_adoptionNotice i power s, honly.sameOutsideBudget, honly.handsOn (by decide), hi,
    ⟨_, hm, rfl, rfl, rfl, rfl, rfl, rfl, rfl, fun h => ?_, fun h => ?_⟩, Works.adopt_recorded hg hl, fun hw => ?_⟩
  · simp [Grant.adoptedAs, h]
  · simp [Grant.adoptedAs, Nat.not_lt.2 h]
  · have hb := Works.adoptEntry_budget (power := power) hg
    have he := s.works.adoptEntry_only i power g
    refine ⟨g.adoptedAs (g.adoptedPower power) (s.works.budget.supply.sequence + 1), rfl, rfl, rfl, rfl, rfl, rfl, ?_⟩
    rw [Works.adopt_eq hg hl, Works.adoptUnjudged_of_waits hg hl (Works.adoptEntry_waits hg hw)]
    refine Works.budgetJudged_congr (v := s.works.adoptEntry i power g) ?_ ?_ ?_ (he.claims_eq (by decide))
      (he.lights_eq (by decide)) (Works.judgeBudget_judged _)
    · rw [hb]; rfl
    · rw [hb]; rfl
    · rw [hb]; rfl

/-- The grant sequence moves on with an adoption that raises a power, where nothing waits and the sum fits. -/
theorem adoption_sequence (hg : s.works.budget.grants[i]? = some g) (hl : ∀ n, g.load ≠ .gate n)
    (hs : g.state = .idle) (h0 : g.granted = 0) (hp : 0 < power) (hq : s.works.budget.queue = [])
    (hn : s.works.budget.supply.state = .normal)
    (hfit : grantedSum s.works.budget + power ≤ s.works.budget.supply.capacity) :
    (s.works.adopt i power).budget.supply.sequence = s.works.budget.supply.sequence + 1 := by
  have hpower : g.adoptedPower power = power := by simp [Grant.adoptedPower, hs]
  have hb := Works.adoptEntry_budget (power := power) hg
  have hw := Works.adoptEntry_waits (power := power) hg (.inr (by simp [hq]))
  have hfits : (s.works.adoptEntry i power g).fits := by
    unfold Works.fits
    rw [hb, Works.withAdopted_sum hg, hpower, h0]
    exact hfit
  have hnormal : (s.works.adoptEntry i power g).budget.supply.state = .normal := by rw [hb]; exact hn
  rw [Works.adopt_eq hg hl, Works.adoptUnjudged_of_waits hg hl hw, Works.judgeBudget_of_fits hfits, if_pos hnormal]
  show (s.works.adoptEntry i power g).budget.supply.sequence = _
  rw [hb, hpower]
  simp [Works.withAdopted, Works.setSupply, Works.setBudget, h0, hp]

end Clauses

/-- Settles O32: an adoption from IDLE is the general one with nothing granted before; of a GATE it is discarded. -/
theorem adoption : Obligations.Adoption := by
  refine ⟨fun i power g s hg hl hs h0 hp hq hn hfit => ?_, fun i power new g s hg hl hnew => adoption_general hg hl hnew,
    fun i power g n s hg hl => by rw [exec_adoptionNotice, Works.adopt_gate hg hl]⟩
  have hnew : power = if g.state = .held ∨ (g.state = .queued ∧ g.load.isLamp = true) then max g.granted power else power := by
    simp [hs]
  have hraised : g.granted < power := by omega
  obtain ⟨v, hv, hout, -, -, ⟨h, hentry, hheld, hgranted, -, -, hload, hcls, -, hflag, -⟩, hrec, -⟩ :=
    adoption_general hg hl hnew
  obtain ⟨hadopted, hnumber⟩ := hflag hraised
  have hworks : s.works.adopt i power = v := congrArg State.works (Host.Outcome.next.inj hv)
  refine ⟨v, hv, hout, ⟨h, hentry, hheld, hgranted, hadopted, hnumber, hload, hcls⟩, ?_, ?_⟩
  · rw [← hworks]
    exact adoption_sequence hg hl hs h0 hp hq hn hfit
  · have hr := hrec hraised
    rwa [hs, h0] at hr

end Sys2Proof.Machine

namespace Sys2Proof.Machine

open Sys2Proof

/-! # The supply budget: source, capacity, outage and restoration (R26, R27, R37, R38) -/

/-! ## The supply record through examinations and judgements -/

section Supply

variable {w v u : Works} {new : Source} {site : Site}

/-- Of the supply record only budget state and grant sequence may have changed. -/
def Works.keepsSource (w v : Works) : Prop :=
  v.budget.supply = { w.budget.supply with state := v.budget.supply.state, sequence := v.budget.supply.sequence }

theorem Works.keepsSource.trans (h1 : w.keepsSource v) (h2 : v.keepsSource u) : w.keepsSource u := by
  unfold Works.keepsSource at *
  rw [h2, h1]

theorem Works.Examined.keepsSource (h : w.Examined v) : w.keepsSource v := by
  unfold Works.keepsSource
  rw [h.supply]

theorem Works.setBudgetState_keepsSource (st : BudgetState) (w : Works) : w.keepsSource (w.setBudgetState st) := by
  unfold Works.keepsSource
  rw [Works.setBudgetState_budget]

theorem Works.judgeBudget_keepsSource (w : Works) : w.keepsSource w.judgeBudget := by
  by_cases h : w.fits
  · have hclear : w.keepsSource w.clearMarks := rfl
    exact (hclear.trans (Works.setBudgetState_keepsSource _ _)).trans (Works.judgeBudget_fits h).keepsSource
  · refine (Works.setBudgetState_keepsSource w.budgetStateDue w).trans ?_
    unfold Works.keepsSource
    rw [(Works.judgeBudget_tight h).supply]

theorem Works.capacityChanged_keepsSource (old new : Nat) (w : Works) : w.keepsSource (w.capacityChanged old new) := by
  unfold Works.capacityChanged
  split
  · refine Works.keepsSource.trans (v := w.judgeIfTight) ?_ (Works.examineHead_examined _).keepsSource
    unfold Works.judgeIfTight
    split
    · rfl
    · exact w.judgeBudget_keepsSource
  · split
    · exact w.judgeBudget_keepsSource
    · rfl

/-! ## A change of source (R26, R27) -/

/-- The supply record has come to a source, with the capacity of that source; the inputs and the last known source stand. -/
structure Works.Turns (site : Site) (new : Source) (w v : Works) : Prop where
  source : v.budget.supply.source = new
  capacity : v.budget.supply.capacity = capacityOf v.budget.supply site.supply
  lastKnown : v.budget.supply.lastKnown = w.budget.supply.lastKnown
  mains : v.budget.supply.mains = w.budget.supply.mains
  generator : v.budget.supply.generator = w.budget.supply.generator
  overload : v.budget.supply.overload = w.budget.supply.overload
  site : v.station.site = w.station.site

theorem Works.newCapacity_eq (hsite : w.station.site = some site) : w.newCapacity = capacityOf w.budget.supply site.supply := by
  simp [Works.newCapacity, hsite]

theorem Works.setSource_turns (hsite : w.station.site = some site) (new : Source) :
    Works.Turns site new w (w.setSource new) := by
  have hstation : (w.setSource new).station = w.station :=
    (Works.setSource_leads (ps := [.budget]) new w (by decide) .refl).station_eq
  have hcap := Works.newCapacity_eq (w := w.setSupply { w.budget.supply with source := new }) (site := site) hsite
  have hkeep : (w.setSource new).budget.supply = _ := Works.capacityChanged_keepsSource _ _ _
  rw [hcap] at hkeep
  exact ⟨by rw [hkeep]; rfl, by rw [hkeep]; rfl, by rw [hkeep]; rfl, by rw [hkeep]; rfl, by rw [hkeep]; rfl,
    by rw [hkeep]; rfl, by rw [hstation]⟩

theorem Works.recapacity_turns (hsite : w.station.site = some site) (hs : w.budget.supply.source = new) :
    Works.Turns site new w w.recapacity := by
  subst hs
  have hstation : w.recapacity.station = w.station :=
    (Works.recapacity_leads (ps := [.budget]) w (by decide) .refl).station_eq
  have hkeep : w.recapacity.budget.supply = _ := Works.capacityChanged_keepsSource _ _ _
  rw [Works.newCapacity_eq hsite] at hkeep
  exact ⟨by rw [hkeep]; rfl, by rw [hkeep]; rfl, by rw [hkeep]; rfl, by rw [hkeep]; rfl, by rw [hkeep]; rfl,
    by rw [hkeep]; rfl, by rw [hstation]⟩

end Supply

/-! ## The outage (R37) -/

section Outage

variable {w v : Works} {i : Nat} {g : Grant} {l : List Nat}

/-- The entries in INRUSH or HELD, in grant table order. -/
def servedIn (b : Budget) : List Nat := ((indexed 0 b.grants).filter (fun ig => ig.2.served)).map Prod.fst

theorem mem_servedIn {b : Budget} : i ∈ servedIn b ↔ ∃ g, b.grants[i]? = some g ∧ g.served = true := by
  simp only [servedIn, List.mem_map, List.mem_filter, Prod.exists, mem_indexed_zero]
  constructor
  · rintro ⟨k, g, ⟨hg, hs⟩, rfl⟩
    exact ⟨g, hg, hs⟩
  · rintro ⟨g, hg, hs⟩
    exact ⟨i, g, ⟨hg, hs⟩, rfl⟩

theorem servedIn_nodup (b : Budget) : (servedIn b).Nodup :=
  List.pairwise_map.2 (((indexed_ascends 0 b.grants).filter _).imp fun h => Nat.ne_of_lt h)

/-- What an outage leaves of the works outside the budget's records: no notice is taken back. -/
def Part.ofOutage : List Part := [.dewater, .portals, .lights, .active, .line]

theorem Works.answerEntry_budget (hg : w.budget.grants[i]? = some g) : ∃ a, (w.answerEntry i).budget =
    { w.budget with grants := updAt (fun _ => g.answered a w.now) i w.budget.grants } := by
  have h : Works.Leads Part.ofOutage w (w.ownerAnswer g.load).2 :=
    Works.ownerAnswer_leads g.load w (by decide) .refl
  have hb := h.budget_eq (by decide)
  have hnow := h.now_eq
  refine ⟨(w.ownerAnswer g.load).1, ?_⟩
  unfold Works.answerEntry
  rw [hg]
  dsimp only
  rw [Works.updGrant_eq (g := g) _ (by rw [hb]; exact hg), hnow]
  unfold Works.withEntry
  rw [hb]

/-- What the answers of the owners leave of the grant table: each entry asked is answered once, the others stand. -/
structure Works.Answered (l : List Nat) (w v : Works) : Prop where
  supply : v.budget.supply = w.budget.supply
  other : ∀ j ∉ l, v.budget.grants[j]? = w.budget.grants[j]?
  asked : ∀ j ∈ l, ∀ g, w.budget.grants[j]? = some g → ∃ a, v.budget.grants[j]? = some (g.answered a w.now)

theorem answerAll_answered (hl : l.Nodup) (w : Works) : Works.Answered l w (each l Works.answerEntry w) := by
  induction l generalizing w with
  | nil => exact ⟨rfl, fun _ _ => rfl, fun _ hj => absurd hj List.not_mem_nil⟩
  | cons i l ih =>
    obtain ⟨hi, hl⟩ := List.nodup_cons.1 hl
    have hrest := ih hl (w.answerEntry i)
    have hnow : (w.answerEntry i).now = w.now :=
      (Works.answerEntry_leads (ps := Part.all) i w (by decide) .refl).now_eq
    have hone : (w.answerEntry i).budget.supply = w.budget.supply ∧
        (∀ j, j ≠ i → (w.answerEntry i).budget.grants[j]? = w.budget.grants[j]?) ∧
        ∀ g, w.budget.grants[i]? = some g → ∃ a, (w.answerEntry i).budget.grants[i]? = some (g.answered a w.now) := by
      cases hg : w.budget.grants[i]? with
      | none =>
        have hsame : w.answerEntry i = w := by simp [Works.answerEntry, hg]
        rw [hsame]
        exact ⟨rfl, fun _ _ => rfl, fun g h => by simp at h⟩
      | some g =>
        obtain ⟨a, ha⟩ := Works.answerEntry_budget hg
        rw [ha]
        refine ⟨rfl, fun j hj => getElem?_updAt_ne hj, fun g' h => ?_⟩
        obtain rfl : g = g' := by simpa using h
        exact ⟨a, getElem?_updAt_self hg⟩
    obtain ⟨hsupply, hother, hself⟩ := hone
    refine ⟨hrest.supply.trans hsupply, fun j hj => ?_, fun j hj g hg => ?_⟩
    · obtain ⟨hji, hjl⟩ := not_or.1 (fun h => hj (List.mem_cons.2 h))
      exact (hrest.other j hjl).trans (hother j hji)
    · obtain rfl | hjl := List.mem_cons.1 hj
      · obtain ⟨a, ha⟩ := hself g hg
        exact ⟨a, (hrest.other j hi).trans ha⟩
      · have hji : j ≠ i := fun h => hi (h ▸ hjl)
        obtain ⟨a, ha⟩ := hrest.asked j hjl g ((hother j hji).trans hg)
        exact ⟨a, hnow ▸ ha⟩

/-- The outage up to the grant notices it takes back: source and capacity, step 1, the two records. -/
def Works.darkened (w : Works) : Works :=
  let u := w.setSupply { w.budget.supply with source := .none, capacity := 0 }
  ((u.setBudget { u.budget with grants := u.budget.grants.map Grant.dark }).recordSource
    w.budget.supply.source).setBudgetState .normal

/-- Steps 2 and 3 of the outage: the owners' answers. -/
def Works.outageAnswered (w : Works) : Works :=
  each (servedIn w.budget) Works.answerEntry (w.darkened.voidGrants (servedIn w.budget))

theorem Works.outage_eq (w : Works) : ∃ q, w.outage = each w.budget.queue Works.tellQueued (w.outageAnswered.setQueue q) :=
  ⟨_, rfl⟩

theorem Works.darkened_budget (w : Works) : w.darkened.budget = {
    supply := { w.budget.supply with source := .none, capacity := 0, state := .normal }
    queue := w.budget.queue
    grants := w.budget.grants.map Grant.dark } := by
  unfold Works.darkened
  dsimp only
  rw [Works.setBudgetState_budget]
  rfl

theorem Works.darkened_recorded (w : Works) : ∃ d, w.darkened.recorded .supply 0 (some w.budget.supply.source.code)
    (some Source.none.code) d false :=
  ⟨_, (Works.setBudgetState_only _ _).recorded (by decide) (Works.recorded_record ..)⟩

/-- The answers and what the owners are told after them change the notices by further ones only. -/
theorem Works.outageAnswered_leads (w : Works) :
    Works.Leads (.budget :: Part.ofOutage) (w.darkened.voidGrants (servedIn w.budget)) w.outageAnswered :=
  each_leads _ _ _ (fun i _ h => Works.answerEntry_leads i _ (by decide) h) .refl

theorem tellAll_leads (l : List Nat) (w : Works) : Works.Leads Part.ofOutage w (each l Works.tellQueued w) :=
  each_leads _ _ _ (fun i _ h => Works.tellQueued_leads i _ (by decide) h) .refl

/-- No record is taken back with the grant notices (log 12). -/
theorem Works.voidGrants_recorded {k : JournalKind} {n : Nat} {a b : Option Nat} {d : List Nat} {f : Bool}
    (served : List Nat) (h : w.recorded k n a b d f) : (w.voidGrants served).recorded k n a b d f :=
  List.mem_filter.2 ⟨h, rfl⟩

/-- The budget's records after an outage, but for the queue. -/
theorem Works.outage_budget (w : Works) : w.outage.budget.supply = w.outageAnswered.budget.supply ∧
    w.outage.budget.grants = w.outageAnswered.budget.grants := by
  obtain ⟨q, hq⟩ := w.outage_eq
  rw [hq, (tellAll_leads _ _).budget_eq (by decide)]
  exact ⟨rfl, rfl⟩

theorem Works.outage_answered (w : Works) :
    Works.Answered (servedIn w.budget) (w.darkened.voidGrants (servedIn w.budget)) w.outageAnswered :=
  answerAll_answered (servedIn_nodup _) _

theorem Works.outage_supply (w : Works) : w.outage.budget.supply =
    { w.budget.supply with source := .none, capacity := 0, state := .normal } := by
  rw [w.outage_budget.1, w.outage_answered.supply]
  exact congrArg Budget.supply w.darkened_budget

theorem Works.outage_leads_all (w : Works) : Works.Leads Part.all w w.outage := Works.outage_leads w (by decide) .refl

theorem Works.outage_recorded (w : Works) : ∃ d, w.outage.recorded .supply 0 (some w.budget.supply.source.code)
    (some Source.none.code) d false := by
  obtain ⟨d, hd⟩ := w.darkened_recorded
  obtain ⟨q, hq⟩ := w.outage_eq
  have hans := w.outageAnswered_leads.recorded (by decide) (Works.voidGrants_recorded (servedIn w.budget) hd)
  rw [hq]
  exact ⟨d, (tellAll_leads _ (w.outageAnswered.setQueue q)).recorded (by decide) hans⟩

/-- An entry through the outage: step 1, and for one that was served the answer of its owner. -/
theorem Works.outage_entry (hg : w.budget.grants[i]? = some g) :
    (g.served = true → ∃ a, w.outage.budget.grants[i]? = some (g.dark.answered a w.now)) ∧
    (g.served = false → w.outage.budget.grants[i]? = some g.dark) := by
  have hdark : (w.darkened.voidGrants (servedIn w.budget)).budget.grants[i]? = some g.dark := by
    show w.darkened.budget.grants[i]? = _
    rw [Works.darkened_budget]
    simp [hg]
  have hnow : (w.darkened.voidGrants (servedIn w.budget)).now = w.now :=
    (Works.setBudgetState_only .normal _).now_eq
  have hmem : i ∈ servedIn w.budget ↔ g.served = true := by
    rw [mem_servedIn]
    exact ⟨fun ⟨g', hg', hs⟩ => by rw [hg] at hg'; injection hg' with h; exact h ▸ hs, fun hs => ⟨g, hg, hs⟩⟩
  rw [w.outage_budget.2]
  refine ⟨fun hs => ?_, fun hs => ?_⟩
  · rw [← hnow]
    exact w.outage_answered.asked i (hmem.2 hs) _ hdark
  · exact (w.outage_answered.other i fun h => by simp [hmem.1 h] at hs).trans hdark

/-- What a dark entry has lost. -/
theorem Grant.dark_granted (h : g.served = true ∨ g.load.isLamp = true) : g.dark.granted = 0 :=
  if_pos (by simpa using h)

/-- R37 for one entry, as the obligations state it. -/
theorem Works.outage_entry_spec (hg : w.budget.grants[i]? = some g) : ∃ h, w.outage.budget.grants[i]? = some h ∧
    h.load = g.load ∧ h.cls = g.cls ∧ h.mark = .none ∧ h.adopted = false ∧ h.energised = none ∧
    ((g.served = true ∨ g.load.isLamp = true) → h.granted = 0) ∧
    (g.served = true → h.state = .idle ∨ h.state = .queued ∧ h.outage = some w.now ∧ h.number = g.number) ∧
    (g.served = false → h.state = g.state) := by
  obtain ⟨hserved, hother⟩ := Works.outage_entry hg
  cases hs : g.served with
  | false =>
    exact ⟨_, hother hs, rfl, rfl, rfl, rfl, rfl, fun h => Grant.dark_granted (by simpa [hs] using h),
      fun h => by simp at h, fun _ => rfl⟩
  | true =>
    obtain ⟨a, ha⟩ := hserved hs
    refine ⟨_, ha, ?_⟩
    cases a with
    | restore p =>
      exact ⟨rfl, rfl, rfl, rfl, rfl, fun _ => Grant.dark_granted (.inl hs), fun _ => .inr ⟨rfl, rfl, rfl⟩,
        fun h => by simp at h⟩
    | release => exact ⟨rfl, rfl, rfl, rfl, rfl, fun _ => rfl, fun _ => .inl rfl, fun h => by simp at h⟩

end Outage

/-! ## The switchboard unit (R26) -/

section Switchboard

variable {w : Works} {new : Source} {site : Site}

theorem Works.outage_turns (site : Site) (w : Works) : Works.Turns site .none w w.outage := by
  have hs := w.outage_supply
  exact ⟨by rw [hs], by rw [hs]; rfl, by rw [hs], by rw [hs], by rw [hs], by rw [hs], by rw [w.outage_leads_all.station_eq]⟩

theorem Works.Turns.trans {v u : Works} {old : Source} (h1 : Works.Turns site old w v) (h2 : Works.Turns site new v u) :
    Works.Turns site new w u :=
  ⟨h2.source, h2.capacity, h2.lastKnown.trans h1.lastKnown, h2.mains.trans h1.mains, h2.generator.trans h1.generator,
    h2.overload.trans h1.overload, h2.site.trans h1.site⟩

theorem Works.transfer_turns (hsite : w.station.site = some site) (new : Source) :
    Works.Turns site new w (w.transfer new) := by
  have ho := w.outage_turns site
  unfold Works.transfer
  split
  · rename_i h
    exact h ▸ ho
  · exact ho.trans (Works.setSource_turns (ho.site.trans hsite) new)

/-- Every row of Table 2-3 ends in the new source. -/
theorem Works.changeSource_turns (hsite : w.station.site = some site) (last : Option Source) (new : Source) :
    Works.Turns site new w (w.changeSource last new) := by
  unfold Works.changeSource
  split
  · exact Works.transfer_turns hsite new
  · exact Works.transfer_turns hsite new
  · exact Works.setSource_turns hsite new
  · split
    · split
      · rename_i h
        exact h ▸ w.outage_turns site
      · exact Works.setSource_turns hsite new
    · split
      · exact Works.setSource_turns hsite new
      · exact Works.transfer_turns hsite new

/-- The works with the inputs of a switchboard response, before the source changes (R26). -/
def Works.withInputs (mains generator overload : Bool) (w : Works) : Works :=
  w.setSupply { w.budget.supply with mains := mains, generator := generator, overload := overload,
                                     lastKnown := some (reportedSource mains generator) }

theorem Works.switchboardArrival_turns (hsite : w.station.site = some site) (img : List Byte) {mains generator : Bool}
    (hm : mains = UnitType.switchboard.digital img site.supply.mainsInput)
    (hgen : generator = UnitType.switchboard.digital img site.supply.generatorInput) :
    Works.Turns site (reportedSource mains generator)
      (w.withInputs mains generator (UnitType.switchboard.digital img site.supply.overloadInput))
      (w.switchboardArrival img) := by
  subst hm hgen
  unfold Works.switchboardArrival
  rw [hsite]
  dsimp only
  split
  · rename_i h
    exact Works.recapacity_turns (w := w.withInputs _ _ _) hsite h
  · exact Works.changeSource_turns (w := w.withInputs _ _ _) hsite _ _

theorem Works.switchboardLost_turns (hsite : w.station.site = some site) (h : w.budget.supply.source ≠ .unknown) :
    Works.Turns site .unknown w w.switchboardLost := by
  unfold Works.switchboardLost
  rw [if_neg h]
  exact Works.setSource_turns hsite .unknown

/-- Table 2-2 for an unknown source (R27). -/
theorem capacityOf_unknown {s : Supply} {c : SiteSupply} (h : s.source = .unknown) :
    capacityOf s c = if s.lastKnown = some .none then 0 else c.generator - c.reserve := by
  simp [capacityOf, h]

end Switchboard

/-- A grant to an entry that waits since an outage writes a RESTORE record (R38). -/
theorem Works.examineHead_restores {w : Works} {i t : Nat} {g : Grant} {rest : List Nat} (hq : w.budget.queue = i :: rest)
    (hg : w.budget.grants[i]? = some g) (ho : g.outage = some t) (hm : w.budget.mayGrant g) :
    w.examineHead.recorded .restore i none none [g.cls, g.grantPower, w.now - t] false := by
  refine (Works.examineHead_after_grant hq hg hm).leads.recorded (by decide) ?_
  rw [Works.grantHead_eq hg]
  simp [Works.recorded, Works.handed, Works.restoreRecord, ho]

/-- Settles O33: Table 2-2, the source by response and loss, the outage entry by entry, and the RESTORE record. -/
theorem capacityBySource : Obligations.CapacityBySource := by
  refine ⟨fun s c => ⟨fun h => ?_, fun h ho => ?_, fun h ho => ?_, fun h => ?_, capacityOf_unknown⟩,
    fun w v site img mains generator hsite hm hgen hv => ?_, fun w site hsite hu => ?_, fun w v hv => ?_,
    fun w i t g rest hq hg ho hm => Works.examineHead_restores hq hg ho (grantable_iff.1 hm)⟩
  · simp [capacityOf, h]
  · simp [capacityOf, h, ho]
  · simp [capacityOf, h, ho]
  · simp [capacityOf, h]
  · have ht := Works.switchboardArrival_turns hsite img hm hgen
    subst hv
    exact ⟨ht.mains, ht.generator, ht.overload, ht.source, by rw [ht.lastKnown, ht.source]; rfl, ht.capacity⟩
  · have ht := Works.switchboardLost_turns hsite hu
    exact ⟨ht.source, ht.lastKnown, by rw [ht.capacity, capacityOf_unknown ht.source, ht.lastKnown]⟩
  · subst hv
    have hs := w.outage_supply
    exact ⟨w.outage_leads_all.now_eq, by rw [hs], by rw [hs], by rw [hs], by rw [hs], w.outage_recorded,
      fun i g hg => Works.outage_entry_spec hg⟩

end Sys2Proof.Machine

namespace Sys2Proof.Machine

open Sys2Proof

/-! # Dewatering: what the operations on a pump do (chapter 3)

Each operation changes the record of one pump and hands notices on; besides that it may count the able pumps again, move the
lead, and mark pumps whose line request was refused full. The lemmas here say so once, operation by operation. -/

section Lists

variable {α : Type} {l : List α} {i : Nat}

theorem updAt_eq_self {f : α → α} (h : ∀ x, l[i]? = some x → f x = x) : updAt f i l = l := by
  induction l generalizing i with
  | nil => cases i <;> rfl
  | cons y l ih =>
    cases i with
    | zero => simp [updAt, h y rfl]
    | succ i => simp [updAt, ih fun x hx => h x (by simpa using hx)]

theorem mem_updAt {f : α → α} {y : α} (h : y ∈ updAt f i l) : y ∈ l ∨ ∃ x ∈ l, y = f x := by
  induction l generalizing i with
  | nil => cases i <;> cases h
  | cons z l ih =>
    cases i with
    | zero =>
      rcases List.mem_cons.mp h with h | h
      · exact .inr ⟨z, List.mem_cons_self .., h⟩
      · exact .inl (List.mem_cons_of_mem _ h)
    | succ i =>
      rcases List.mem_cons.mp h with h | h
      · exact .inl (h ▸ List.mem_cons_self ..)
      · exact (ih h).imp (List.mem_cons_of_mem _) fun ⟨x, hx, e⟩ => ⟨x, List.mem_cons_of_mem _ hx, e⟩

theorem filter_updAt_length {f : α → α} {p : α → Bool} (h : ∀ y, l[i]? = some y → p (f y) = p y) :
    ((updAt f i l).filter p).length = (l.filter p).length := by
  induction l generalizing i with
  | nil => cases i <;> rfl
  | cons z l ih =>
    cases i with
    | zero => simp [updAt, List.filter_cons, h z rfl, apply_ite List.length]
    | succ i => simp [updAt, List.filter_cons, apply_ite List.length, ih fun y hy => h y (by simpa using hy)]

theorem each_handed {f : α → Works → Works} {a : α} {w : Works} {n : Instr} (ha : a ∈ l)
    (hl : ∀ b v, Works.Leads [.active] v (f b v)) (h : ∀ v : Works, (f a v).handed n) : (each l f w).handed n := by
  induction l generalizing w with
  | nil => cases ha
  | cons b l ih =>
    have hrest : Works.Leads [.active] (f b w) (each l f (f b w)) := each_leads _ _ _ (fun a v hv => hv.trans (hl a v)) .refl
    rcases List.mem_cons.mp ha with rfl | ha
    · exact hrest.handed (by decide) (h w)
    · exact ih ha

end Lists

/-! ## Pump and sump records -/

section Records

variable {w v u : Works} {i : Nat} {x : Pump}

@[simp] theorem Works.updPump_pumps (i : Nat) (f : Pump → Pump) (w : Works) :
    (w.updPump i f).dewater.pumps = updAt f i w.dewater.pumps := rfl

@[simp] theorem Works.updPump_sumps (i : Nat) (f : Pump → Pump) (w : Works) :
    (w.updPump i f).dewater.sumps = w.dewater.sumps := rfl

theorem Works.claimOf_congr (h : v.claims = w.claims) (s : ClaimSubject) : v.claimOf s = w.claimOf s := by
  simp [Works.claimOf, Works.claimEntry, h]

/-- The pump with other marks of refused line requests (R54, R57). -/
def Pump.flagged (a b : Bool) (x : Pump) : Pump := { x with pairRefused := a, haltRefused := b }

/-- Every pump stands as before but for the marks of its refused line requests. -/
def Works.pumpsAlike (w v : Works) : Prop :=
  ∀ (p : Nat) (x : Pump), w.dewater.pumps[p]? = some x → ∃ a b, v.dewater.pumps[p]? = some (x.flagged a b)

theorem Works.pumpsAlike.of_eq (h : v.dewater.pumps = w.dewater.pumps) : w.pumpsAlike v :=
  fun _ x hx => ⟨x.pairRefused, x.haltRefused, by rw [h]; exact hx⟩

theorem Works.pumpsAlike.trans (h1 : w.pumpsAlike v) (h2 : v.pumpsAlike u) : w.pumpsAlike u := fun p x hx => by
  obtain ⟨a, b, hv⟩ := h1 p x hx
  obtain ⟨c, d, hu⟩ := h2 p _ hv
  exact ⟨c, d, hu⟩

theorem Works.updPump_alike {f : Pump → Pump} (h : ∀ x, ∃ a b, f x = x.flagged a b) : w.pumpsAlike (w.updPump i f) := by
  intro p x hx
  by_cases hp : p = i
  · subst hp
    obtain ⟨a, b, hf⟩ := h x
    exact ⟨a, b, by rw [Works.updPump_pumps, getElem?_updAt_self hx, hf]⟩
  · exact ⟨x.pairRefused, x.haltRefused, by rw [Works.updPump_pumps, getElem?_updAt_ne hp]; exact hx⟩

/-- What an operation on pumps leaves of the sumps and of the line queue: it may count the able pumps again and move a lead, and
every HALT that waits goes on waiting. -/
structure Works.Tends (w v : Works) : Prop where
  sumps : ∀ (k : Nat) (s : Sump), w.dewater.sumps[k]? = some s → ∃ n l, v.dewater.sumps[k]? = some { s with able := n, lead := l }
  halts : ∀ u m, w.haltWaits u m → v.haltWaits u m

theorem Works.Tends.of_eq (hs : v.dewater.sumps = w.dewater.sumps) (hl : v.line = w.line) : w.Tends v :=
  ⟨fun _ s hk => ⟨s.able, s.lead, by rw [hs]; exact hk⟩, fun u m h => by rw [Works.haltWaits, hl]; exact h⟩

theorem Works.Tends.refl (w : Works) : w.Tends w := .of_eq rfl rfl

theorem Works.Tends.trans (h1 : w.Tends v) (h2 : v.Tends u) : w.Tends u := by
  refine ⟨fun k s hs => ?_, fun n m h => h2.halts n m (h1.halts n m h)⟩
  obtain ⟨n, l, hv⟩ := h1.sumps k s hs
  obtain ⟨n', l', hu⟩ := h2.sumps k _ hv
  exact ⟨n', l', hu⟩

theorem Works.Tends.of_updSump {k : Nat} {f : Sump → Sump} (hf : ∀ s, ∃ n l, f s = { s with able := n, lead := l })
    (hs : v.dewater.sumps = updAt f k w.dewater.sumps) (hl : v.line = w.line) : w.Tends v := by
  refine ⟨fun j s hj => ?_, fun u m h => by rw [Works.haltWaits, hl]; exact h⟩
  by_cases hk : j = k
  · subst hk
    obtain ⟨n, l, hfs⟩ := hf s
    exact ⟨n, l, by rw [hs, getElem?_updAt_self hj, hfs]⟩
  · exact ⟨s.able, s.lead, by rw [hs, getElem?_updAt_ne hk]; exact hj⟩

theorem Works.updPump_tends (i : Nat) (f : Pump → Pump) (w : Works) : w.Tends (w.updPump i f) := .of_eq rfl rfl

theorem Works.send_tends (n : Instr) (w : Works) : w.Tends (w.send n) := .of_eq rfl rfl

end Records

/-! ## Requests at the line queue (R139, R140) -/

section Requests

variable {w v u : Works} {e x : QEntry} {q : List QEntry}

/-- What a request at the line queue leaves of dewatering and of the HALTs that wait. -/
structure Works.Asks (w v : Works) : Prop where
  alike : w.pumpsAlike v
  sumps : v.dewater.sumps = w.dewater.sumps
  halts : ∀ u m, w.haltWaits u m → v.haltWaits u m

theorem Works.Asks.tends (h : w.Asks v) : w.Tends v :=
  ⟨fun _ s hk => ⟨s.able, s.lead, by rw [h.sumps]; exact hk⟩, h.halts⟩

theorem Works.Asks.trans (h1 : w.Asks v) (h2 : v.Asks u) : w.Asks u :=
  ⟨h1.alike.trans h2.alike, h2.sumps.trans h1.sumps, fun n m h => h2.halts n m (h1.halts n m h)⟩

/-- An operation that leaves the pumps and the sumps, and loses no HALT. -/
theorem Works.Asks.of_queue (hd : v.dewater = w.dewater) (hq : ∀ e ∈ w.line.queue, e.req = .halt → ∃ x ∈ v.line.queue,
    x.req = .halt ∧ x.unit = e.unit ∧ x.output = e.output) : w.Asks v := by
  refine ⟨.of_eq (by rw [hd]), by rw [hd], fun u m ⟨e, he, hr, hu, hm⟩ => ?_⟩
  obtain ⟨x, hx, hxr, hxu, hxm⟩ := hq e he hr
  exact ⟨x, hx, hxr, hxu.trans hu, hxm.trans hm⟩

theorem Works.Asks.of_subset (hd : v.dewater = w.dewater) (hq : ∀ e ∈ w.line.queue, e.req = .halt → e ∈ v.line.queue) :
    w.Asks v :=
  .of_queue hd fun e he hr => ⟨e, hq e he hr, hr, rfl, rfl⟩

theorem Works.Asks.refl (w : Works) : w.Asks w := .of_subset rfl fun _ h _ => h

theorem each_asks {α : Type} {l : List α} {f : α → Works → Works} (h : ∀ (a : α) (v : Works), v.Asks (f a v)) (w : Works) :
    w.Asks (each l f w) :=
  each_induction (P := fun v => w.Asks v) (.refl w) fun a _ v hv => hv.trans (h a v)

theorem mem_joinLine : x ∈ joinLine e q ↔ x = e ∨ x ∈ q := by
  induction q with
  | nil => simp [joinLine]
  | cons y q ih =>
    unfold joinLine
    split
    · exact List.mem_cons
    · rw [List.mem_cons, ih, List.mem_cons]
      tauto

theorem Works.setLeaves_asks (r : Requester) (n : Nat) (w : Works) : w.Asks (w.setLeaves r n) := by
  have h : Works.Leads [.lights] w (w.setLeaves r n) := Works.setLeaves_leads _ _ _ (by decide) .refl
  exact .of_subset (h.dewater_eq (by decide)) fun e he _ => by rw [h.line_eq (by decide)]; exact he

theorem Works.refusedFull_asks (r : Requester) (w : Works) : w.Asks (w.refusedFull r) := by
  have hp (f : Pump → Pump) (i : Nat) (h : ∀ x, ∃ a b, f x = x.flagged a b) : w.Asks (w.updPump i f) :=
    ⟨Works.updPump_alike h, rfl, fun _ _ h => h⟩
  have hn (n : Nat) (p : Portal) : w.Asks (w.setPortal n p) := .of_subset (by simp) fun e he _ => by simpa using he
  unfold Works.refusedFull
  split
  · exact hp _ _ fun x => ⟨true, x.haltRefused, rfl⟩
  · exact hp _ _ fun x => ⟨x.pairRefused, true, rfl⟩
  · exact hn _ _
  · exact hn _ _
  · exact hn _ _
  · exact hn _ _
  · exact hn _ _
  · exact .refl w
  · exact .refl w

theorem Works.addRetry_asks (n : Nat) (b : Block) (w : Works) : w.Asks (w.addRetry n b) := by
  unfold Works.addRetry
  split
  · exact .refl w
  · exact .of_subset rfl fun _ h _ => h

theorem Works.displace_asks (e : QEntry) (w : Works) : w.Asks (w.displace e) := by
  unfold Works.displace
  split
  · exact .refl w
  · exact .of_subset rfl fun _ h _ => h

theorem Works.refuse_asks (e : QEntry) (w : Works) : w.Asks (w.refuse e) := by
  have hr : w.Asks (each e.requesters (fun r w => (if r.fate = .live then w.refusedFull r else w).addRetry e.unit r.who.block) w) := by
    refine each_asks (fun r v => Works.Asks.trans ?_ (Works.addRetry_asks _ _ _)) w
    split
    · exact Works.refusedFull_asks _ _
    · exact .refl v
  have hd := hr.trans (Works.displace_asks e _)
  unfold Works.refuse
  dsimp only
  split
  · exact hd
  · exact hd.trans (.of_subset rfl fun _ h _ => h)

theorem Works.joinNew_asks (e : QEntry) (w : Works) : w.Asks (w.joinNew e).2 := by
  unfold Works.joinNew
  split
  · exact .of_subset rfl fun y hy _ => mem_joinLine.mpr (.inr hy)
  · exact Works.refuse_asks e w

/-- A HALT displaces no HALT from the full queue. -/
theorem Works.joinHalt_asks (e : QEntry) (w : Works) : w.Asks (w.joinHalt e).2 := by
  unfold Works.joinHalt
  split
  · exact .of_subset rfl fun y hy _ => mem_joinLine.mpr (.inr hy)
  · split
    · exact Works.refuse_asks e w
    · next last hlast =>
      split
      · exact Works.refuse_asks e w
      · next hreq =>
        have hs : w.Asks (each last.requesters (fun r w => w.setLeaves r last.req.value) w) :=
          each_asks (fun r v => Works.setLeaves_asks r _ v) w
        have hl : (each last.requesters (fun r w => w.setLeaves r last.req.value) w).line = w.line :=
          (each_leads (ps := [.lights]) _ _ _ (fun r v hv => Works.setLeaves_leads r _ v (by decide) hv) .refl).line_eq
            (by decide)
        dsimp only
        refine .trans (hs.trans ?_) (Works.refuse_asks last _)
        refine .of_subset rfl fun y hy hy' => mem_joinLine.mpr (.inr ?_)
        rw [hl] at hy ⊢
        refine List.mem_dropLast_of_mem_of_ne_getLast? hy fun hy => hreq ?_
        rw [hlast, Option.some.injEq] at hy
        rw [← hy, hy']
        rfl

/-- A SET takes the place of a SET only, and a HALT joins one that waits. -/
theorem Works.setLineQueue_asks {f : QEntry → QEntry} (hf : ∀ e, e.req = .halt → (f e).req = .halt ∧ (f e).unit = e.unit ∧
    (f e).output = e.output) (w : Works) : w.Asks (w.setLineQueue (w.line.queue.map f)) :=
  .of_queue rfl fun e he hr => ⟨f e, List.mem_map_of_mem he, hf e hr⟩

theorem Works.enqueue_asks (e : QEntry) (w : Works) : w.Asks (w.enqueue e).2 := by
  unfold Works.enqueue
  split
  · split
    · next old _ =>
      have hs : w.Asks (each old.requesters (fun r w => w.setLeaves r old.req.value) w) :=
        each_asks (fun r v => Works.setLeaves_asks r _ v) w
      have hl : (each old.requesters (fun r w => w.setLeaves r old.req.value) w).line = w.line :=
        (each_leads (ps := [.lights]) _ _ _ (fun r v hv => Works.setLeaves_leads r _ v (by decide) hv) .refl).line_eq
          (by decide)
      refine hs.trans ?_
      dsimp only
      exact Works.setLineQueue_asks (fun x hx => by simp [hx, Request.isSet]) _
    · exact Works.joinNew_asks e w
  · split
    · refine Works.setLineQueue_asks (fun x hx => ?_) w
      split <;> exact ⟨hx, rfl, rfl⟩
    · exact Works.joinHalt_asks e w
  · exact Works.joinNew_asks e w
  · split
    · exact .refl w
    · exact Works.joinNew_asks e w

theorem Works.request_asks (r : Request) (n m : Nat) (who : ReqFor) (w : Works) : w.Asks (w.request r n m who).2 :=
  Works.enqueue_asks _ w

end Requests
end Sys2Proof.Machine

namespace Sys2Proof.Machine

open Sys2Proof

/-! ## HALTs and START pairs (R55, R57) -/

section Motor

variable {w : Works} {i : Nat} {x : Pump}

theorem Works.haltPump_eq (hx : w.dewater.pumps[i]? = some x) : w.haltPump i =
    ((w.updPump i (fun p => { p with haltRefused := false })).request .halt x.unit x.motor (.pumpHalt i)).2 := by
  simp only [Works.haltPump, hx]

theorem Works.haltPump_asks (i : Nat) (w : Works) : w.Asks (w.haltPump i) := by
  cases hx : w.dewater.pumps[i]? with
  | none =>
    rw [Works.haltPump, hx]
    exact .refl w
  | some x =>
    rw [Works.haltPump_eq hx]
    exact .trans ⟨Works.updPump_alike fun x => ⟨x.pairRefused, false, rfl⟩, rfl, fun _ _ h => h⟩
      (Works.request_asks _ _ _ _ _)

/-- A HALT that finds room waits in the queue, alone or with one of the same output (R139). -/
theorem Works.enqueue_halt_waits (e : QEntry) (he : e.req = .halt) (hr : w.lineRoom) :
    (w.enqueue e).2.haltWaits e.unit e.output := by
  unfold Works.enqueue
  rw [he]
  dsimp only
  split
  · next h =>
    obtain ⟨y, hy, hs⟩ := List.any_eq_true.mp h
    have hs' := hs
    rw [sameOutput, Bool.and_eq_true, Bool.and_eq_true, beq_iff_eq, beq_iff_eq] at hs'
    obtain ⟨hh, hu, ho⟩ := hs'
    have hreq : y.req = .halt := by
      cases hq : y.req <;> simp [Request.isHalt, hq] at hh ⊢
    refine ⟨{ y with requesters := y.requesters ++ e.requesters }, List.mem_map.mpr ⟨y, hy, if_pos hs⟩, hreq, hu, ho⟩
  · rw [Works.joinHalt, if_pos hr]
    exact ⟨e, mem_joinLine.mpr (.inl rfl), he, rfl, rfl⟩

theorem Works.haltPump_waits (hx : w.dewater.pumps[i]? = some x) (hr : w.lineRoom) :
    (w.haltPump i).haltWaits x.unit x.motor := by
  rw [Works.haltPump_eq hx]
  exact Works.enqueue_halt_waits _ rfl hr

theorem Works.giveUp_halts (who : ReqFor) (f : Fate) (n m : Nat) (h : w.haltWaits n m) : (w.giveUp who f).haltWaits n m := by
  obtain ⟨e, he, hr, hu, hm⟩ := h
  exact ⟨e.give who f, List.mem_map_of_mem he, hr, hu, hm⟩

theorem Works.giveUp_tends (who : ReqFor) (f : Fate) (w : Works) : w.Tends (w.giveUp who f) :=
  ⟨(Works.Tends.of_eq (v := w.giveUp who f) rfl rfl).sumps, fun n m h => w.giveUp_halts who f n m h⟩

theorem Works.queueStart_of_room (hx : w.dewater.pumps[i]? = some x) (hr : w.lineRoom) : w.queueStart i =
    (w.updPump i (fun p => { p with pair := .inFlight, pairRefused := false })).setLineQueue
      (joinLine (w.asking (.pair .start) x.unit x.motor (.pumpStart i)) w.line.queue) := by
  simp only [Works.queueStart, hx, Works.request, Works.enqueue, Works.joinNew]
  rw [if_pos (by simpa using hr)]
  rfl

end Motor

/-! ## Figures of a sump, and orders (R50, R66) -/

section Figures

variable {w : Works} {i si : Nat} {x : Pump}

/-- The figures of R50 taken anew. -/
theorem Works.setFigures_dewater (si d : Nat) (w : Works) : (w.setFigures si d).dewater =
    { w.dewater with sumps := updAt (fun s => { s with demand := d, able := w.ableOf si }) si w.dewater.sumps } := by
  unfold Works.setFigures
  split
  · next h => rw [updAt_eq_self (by simp [h])]
  · dsimp only
    split
    · rfl
    · rfl

theorem Works.recount_dewater (si : Nat) (w : Works) : (w.recount si).dewater =
    { w.dewater with sumps := updAt (fun s => { s with able := w.ableOf si }) si w.dewater.sumps } := by
  unfold Works.recount
  split
  · next h => rw [updAt_eq_self (by simp [h])]
  · next s h =>
    rw [Works.setFigures_dewater, updAt_eq_replace _ h, ← updAt_eq_replace (fun s => { s with able := w.ableOf si }) h]

theorem Works.recount_only (si : Nat) (w : Works) : Works.Leads [.dewater] w (w.recount si) :=
  Works.recount_leads _ _ (by decide) .refl

theorem Works.judgePumpOrders_only (i : Nat) (w : Works) : Works.Leads [.active] w (w.judgePumpOrders i) :=
  Works.judgePumpOrders_leads _ _ (by decide) .refl

@[simp] theorem Works.recount_pumps (si : Nat) (w : Works) : (w.recount si).dewater.pumps = w.dewater.pumps := by
  rw [Works.recount_dewater]

@[simp] theorem Works.recount_active (si : Nat) (w : Works) : (w.recount si).active = w.active :=
  (w.recount_only si).active_eq (by decide)

@[simp] theorem Works.recount_line (si : Nat) (w : Works) : (w.recount si).line = w.line :=
  (w.recount_only si).line_eq (by decide)

@[simp] theorem Works.judgePumpOrders_dewater (i : Nat) (w : Works) : (w.judgePumpOrders i).dewater = w.dewater :=
  (w.judgePumpOrders_only i).dewater_eq (by decide)

@[simp] theorem Works.judgePumpOrders_line (i : Nat) (w : Works) : (w.judgePumpOrders i).line = w.line :=
  (w.judgePumpOrders_only i).line_eq (by decide)

theorem Works.Leads.completed {ps : List Part} {v : Works} (h : Works.Leads ps w v) (hp : Part.voids ∉ ps) {k st d d2 : Nat}
    (hc : w.completed k st d d2) : v.completed k st d d2 := by
  obtain ⟨r, hr⟩ := hc
  exact ⟨r, h.handed hp hr⟩

/-- Every ACTIVE order that meets the test is completed. -/
theorem Works.completeAll_completed {p : Active → Bool} {f : Active → Works → Works} {a : Active} {st d d2 : Nat} {r : List Nat}
    (ha : a ∈ w.active) (hp : p a = true) (hl : ∀ b v, Works.Leads [.active] v (f b v))
    (hf : ∀ v, f a v = v.complete a.slot st d d2 r) : (w.completeAll p f).completed a.slot st d d2 :=
  ⟨r, each_handed (List.mem_filter.mpr ⟨ha, hp⟩) hl fun v => by rw [hf]; exact Works.handed_send _ _⟩

theorem Works.complete_only (k st d d2 : Nat) (r : List Nat) (w : Works) : Works.Leads [.active] w (w.complete k st d d2 r) :=
  Works.complete_leads _ _ _ _ _ _ (by decide) .refl

/-- The order has found its pump where it wants it (R67, R68, R70). -/
def Active.reached (a : Active) (s : PumpState) : Prop :=
  a.code = .pumpRun ∧ s = .running ∨ a.code = .pumpStop ∧ (s = .resting ∨ s = .idle) ∨ a.code = .pumpService ∧ s = .outOfService

/-- The judgement of a pump's ACTIVE orders completes an order or leaves it: one that has reached its pump's state is DONE_OK,
and a PUMP SERVICE whose pump is STOPPING goes on. -/
theorem Works.judgePumpOrders_eq (hx : w.dewater.pumps[i]? = some x) : ∃ f : Active → Works → Works,
    w.judgePumpOrders i = w.completeAll (fun a => a.subject == i) f ∧
    (∀ a, (∀ v, f a v = v) ∨ ∃ st d d2 r, ∀ v, f a v = v.complete a.slot st d d2 r) ∧
    (∀ a, a.reached x.state → ∃ r, ∀ v, f a v = v.complete a.slot 0 0 0 r) ∧
    ∀ a, a.code = .pumpService → x.state = .stopping → ∀ v, f a v = v := by
  unfold Works.judgePumpOrders
  rw [hx]
  refine ⟨_, rfl, fun a => ?_, fun a ha => ?_, fun a hc hs v => by rw [hc, hs]⟩
  · split
    case h_8 => exact .inl fun _ => rfl
    all_goals exact .inr ⟨_, _, _, _, fun _ => rfl⟩
  · rcases ha with ⟨hc, hs⟩ | ⟨hc, hs | hs⟩ | ⟨hc, hs⟩ <;> rw [hc, hs] <;> exact ⟨_, fun _ => rfl⟩

theorem Works.judgePumpOrders_done {a : Active} (hx : w.dewater.pumps[i]? = some x) (ha : a ∈ w.active) (hi : a.subject = i)
    (h : a.reached x.state) : (w.judgePumpOrders i).completed a.slot 0 0 0 := by
  obtain ⟨f, hf, hcases, hdone, -⟩ := w.judgePumpOrders_eq hx
  obtain ⟨r, hr⟩ := hdone a h
  rw [hf]
  refine Works.completeAll_completed ha (by simp [hi]) (fun b v => ?_) hr
  rcases hcases b with hb | ⟨st, d, d2, r, hb⟩
  · rw [hb]; exact .refl
  · rw [hb]; exact Works.complete_only _ _ _ _ _ v

/-- An ACTIVE order that is alone in its slot. -/
def Works.holdsAlone (w : Works) (a : Active) : Prop := a ∈ w.active ∧ ∀ b ∈ w.active, b.slot = a.slot → b = a

theorem Works.holdsAlone.congr {v : Works} {a : Active} (h : w.holdsAlone a) (he : v.active = w.active) : v.holdsAlone a := by
  unfold Works.holdsAlone
  rwa [he]

theorem Works.holdsAlone.complete {a : Active} (h : w.holdsAlone a) {k : Nat} (hk : a.slot ≠ k) (st d d2 : Nat) (r : List Nat) :
    (w.complete k st d d2 r).holdsAlone a :=
  ⟨Works.mem_complete.mpr ⟨h.1, hk⟩, fun b hb => h.2 b (Works.mem_complete.mp hb).1⟩

/-- A PUMP SERVICE stays ACTIVE at the judgement of another pump, and while its own is STOPPING (R70). -/
theorem Works.holdsAlone.judge {a : Active} (h : w.holdsAlone a) (hc : a.code = .pumpService)
    (hi : a.subject ≠ i ∨ ∃ x, w.dewater.pumps[i]? = some x ∧ x.state = .stopping) : (w.judgePumpOrders i).holdsAlone a := by
  cases hx : w.dewater.pumps[i]? with
  | none =>
    unfold Works.judgePumpOrders
    rwa [hx]
  | some x =>
    obtain ⟨f, hf, hcases, -, hstay⟩ := w.judgePumpOrders_eq hx
    rw [hf]
    refine each_induction (P := fun v => Works.holdsAlone v a) h fun b hb v hv => ?_
    obtain ⟨hb, hs⟩ := List.mem_filter.mp hb
    by_cases hba : b = a
    · subst hba
      obtain ⟨y, hy, hst⟩ := hi.resolve_left fun hne => hne (by simpa using hs)
      obtain rfl : x = y := Option.some.inj (hx.symm.trans hy)
      rwa [hstay b hc hst]
    · rcases hcases b with hfb | ⟨st, d, d2, r, hfb⟩
      · rwa [hfb]
      · rw [hfb]
        exact hv.complete (fun e => hba (h.2 b hb e.symm)) st d d2 r

end Figures

/-! ## Changes of a pump record (R71) -/

section Moves

variable {w : Works} {i : Nat} {x : Pump} {f : Pump → Pump}

/-- The records that a change of a pump's state writes (R71). -/
def Works.moveRecords (i : Nat) (x y : Pump) (w : Works) : Works :=
  let w := if x.state = y.state ∧ x.cause = y.cause then w else
    w.record .pump i (some x.state.code) (some y.state.code)
      [y.causeOrMark, (w.claimOf (.pump i)).code, y.grant.code, y.runSeconds] false
  if y.state = .tripped ∧ x.state ≠ .tripped then
    w.record .pumpTrip i (some x.state.code) (some y.state.code) [y.tripSecond, y.tripCode, y.running.code, y.overload.code] true
  else w

theorem Works.moveRecords_only (i : Nat) (x y : Pump) (w : Works) : Works.Leads [] w (w.moveRecords i x y) := by
  have hr : Works.Leads [] w (if x.state = y.state ∧ x.cause = y.cause then w else
      w.record .pump i (some x.state.code) (some y.state.code)
        [y.causeOrMark, (w.claimOf (.pump i)).code, y.grant.code, y.runSeconds] false) :=
    ite_leads .refl (Works.record_leads _ _ _ _ _ _ _ .refl)
  exact ite_leads (Works.record_leads _ _ _ _ _ _ _ hr) hr

theorem Works.movePump_eq (hx : w.dewater.pumps[i]? = some x) : w.movePump i f =
    (((w.updPump i f).moveRecords i x (f x)).recount (f x).sump).judgePumpOrders i := by
  have hu : w.updPump i (fun _ => f x) = w.updPump i f := by
    simp only [Works.updPump, updAt_eq_replace f hx]
  simp only [Works.movePump, hx]
  rw [hu]
  rfl

theorem Works.movePump_of_none (h : w.dewater.pumps[i]? = none) : w.movePump i f = w := by
  simp only [Works.movePump, h]

theorem Works.movePump_dewater (hx : w.dewater.pumps[i]? = some x) : (w.movePump i f).dewater =
    { pumps := updAt f i w.dewater.pumps
      sumps := updAt (fun s => { s with able := (w.updPump i f).ableOf (f x).sump }) (f x).sump w.dewater.sumps } := by
  have hd := ((w.updPump i f).moveRecords_only i x (f x)).dewater_eq (by decide)
  rw [Works.movePump_eq hx, Works.judgePumpOrders_dewater, Works.recount_dewater, Works.ableOf, hd]
  rfl

@[simp] theorem Works.movePump_pumps (i : Nat) (f : Pump → Pump) (w : Works) :
    (w.movePump i f).dewater.pumps = updAt f i w.dewater.pumps := by
  cases hx : w.dewater.pumps[i]? with
  | none => rw [Works.movePump_of_none hx, updAt_eq_self (by simp [hx])]
  | some x => rw [Works.movePump_dewater hx]

theorem Works.movePump_pump (hx : w.dewater.pumps[i]? = some x) : (w.movePump i f).dewater.pumps[i]? = some (f x) := by
  rw [Works.movePump_pumps, getElem?_updAt_self hx]

@[simp] theorem Works.movePump_line (i : Nat) (f : Pump → Pump) (w : Works) : (w.movePump i f).line = w.line :=
  (Works.movePump_leads (ps := [.dewater, .active]) i f w (by decide) .refl).line_eq (by decide)

theorem Works.movePump_tends (i : Nat) (f : Pump → Pump) (w : Works) : w.Tends (w.movePump i f) := by
  cases hx : w.dewater.pumps[i]? with
  | none =>
    rw [Works.movePump_of_none hx]
    exact .refl w
  | some x => exact .of_updSump (fun s => ⟨_, s.lead, rfl⟩) (by rw [Works.movePump_dewater hx]) (by simp)

theorem Works.movePump_judged (hx : w.dewater.pumps[i]? = some x) {n : Instr}
    (h : ((w.updPump i f).moveRecords i x (f x)).handed n) : (w.movePump i f).handed n := by
  rw [Works.movePump_eq hx]
  exact ((Works.recount_only _ _).handed (by decide) h |> (Works.judgePumpOrders_only _ _).handed (by decide))

/-- The PUMP record of a change of state or of the cause of waiting. -/
theorem Works.movePump_recorded (hx : w.dewater.pumps[i]? = some x) (h : x.state ≠ (f x).state ∨ x.cause ≠ (f x).cause) :
    (w.movePump i f).recorded .pump i (some x.state.code) (some (f x).state.code)
      [(f x).causeOrMark, (w.claimOf (.pump i)).code, (f x).grant.code, (f x).runSeconds] false := by
  refine Works.movePump_judged hx ?_
  unfold Works.moveRecords
  rw [if_neg (c := x.state = (f x).state ∧ x.cause = (f x).cause) (by tauto)]
  have hr := Works.recorded_record (w.updPump i f) .pump i (some x.state.code) (some (f x).state.code)
    [(f x).causeOrMark, ((w.updPump i f).claimOf (.pump i)).code, (f x).grant.code, (f x).runSeconds] false
  exact Works.Leads.handed (ps := []) (ite_leads (Works.record_leads _ _ _ _ _ _ _ .refl) .refl) (by decide) hr

/-- The PUMP_TRIP record of a trip. -/
theorem Works.movePump_trips (hx : w.dewater.pumps[i]? = some x) (ho : x.state ≠ .tripped) (hn : (f x).state = .tripped) :
    (w.movePump i f).recorded .pumpTrip i (some x.state.code) (some (f x).state.code)
      [(f x).tripSecond, (f x).tripCode, (f x).running.code, (f x).overload.code] true := by
  refine Works.movePump_judged hx ?_
  unfold Works.moveRecords
  rw [if_pos ⟨hn, ho⟩]
  exact Works.recorded_record _ _ _ _ _ _ _

theorem Works.movePump_done {a : Active} (hx : w.dewater.pumps[i]? = some x) (ha : a ∈ w.active) (hi : a.subject = i)
    (h : a.reached (f x).state) : (w.movePump i f).completed a.slot 0 0 0 := by
  rw [Works.movePump_eq hx]
  have ha' : a ∈ ((w.updPump i f).moveRecords i x (f x)).active := by
    rw [(Works.moveRecords_only i x (f x) _).active_eq (by decide)]
    exact ha
  refine Works.judgePumpOrders_done (x := f x) ?_ (by rwa [Works.recount_active]) hi h
  rw [Works.recount_pumps, (Works.moveRecords_only i x (f x) _).dewater_eq (by decide), Works.updPump_pumps,
    getElem?_updAt_self hx]

theorem Works.holdsAlone.move {a : Active} (h : w.holdsAlone a) (hc : a.code = .pumpService)
    (hi : a.subject ≠ i ∨ ∀ x, w.dewater.pumps[i]? = some x → (f x).state = .stopping) : (w.movePump i f).holdsAlone a := by
  cases hx : w.dewater.pumps[i]? with
  | none => rwa [Works.movePump_of_none hx]
  | some x =>
    have hd := (Works.moveRecords_only i x (f x) (w.updPump i f)).dewater_eq (by decide)
    rw [Works.movePump_eq hx]
    refine Works.holdsAlone.judge (h.congr ?_) hc (hi.imp_right fun hs => ⟨f x, ?_, hs x hx⟩)
    · rw [Works.recount_active, (Works.moveRecords_only i x (f x) _).active_eq (by decide), Works.updPump_active]
    · rw [Works.recount_pumps, hd, Works.updPump_pumps, getElem?_updAt_self hx]

end Moves

/-! ## The grant of a pump (R54, R65) -/

section Grants

variable {w : Works} {i : Nat} {x : Pump}

@[simp] theorem Works.dropPumpGrant_pumps (i : Nat) (w : Works) :
    (w.dropPumpGrant i).dewater.pumps = updAt (fun p => { p with grant := .none }) i w.dewater.pumps := by
  unfold Works.dropPumpGrant
  split
  · next h => rw [updAt_eq_self (by simp [h])]
  · dsimp only
    split <;> rfl

@[simp] theorem Works.dropPumpGrant_sumps (i : Nat) (w : Works) : (w.dropPumpGrant i).dewater.sumps = w.dewater.sumps := by
  unfold Works.dropPumpGrant
  split
  · rfl
  · dsimp only
    split <;> rfl

@[simp] theorem Works.dropPumpGrant_line (i : Nat) (w : Works) : (w.dropPumpGrant i).line = w.line :=
  (Works.dropPumpGrant_leads (ps := [.dewater]) i w (by decide) .refl).line_eq (by decide)

theorem Works.dropPumpGrant_only (i : Nat) (w : Works) : Works.Leads [.dewater] w (w.dropPumpGrant i) :=
  Works.dropPumpGrant_leads i w (by decide) .refl

theorem Works.dropPumpGrant_releases (hx : w.dewater.pumps[i]? = some x) (hg : x.grant = .granted) :
    (w.dropPumpGrant i).handed (.loadRelease i) := by
  simp [Works.dropPumpGrant, hx, hg, Works.handed]

theorem Works.dropPumpGrant_withdraws (hx : w.dewater.pumps[i]? = some x) (hg : x.grant = .requested) :
    (w.dropPumpGrant i).handed (.loadWithdrawal i) := by
  simp [Works.dropPumpGrant, hx, hg, Works.handed]

@[simp] theorem Works.keepOrAdoptPump_pumps (i : Nat) (w : Works) :
    (w.keepOrAdoptPump i).dewater.pumps = updAt (fun p => { p with grant := .granted }) i w.dewater.pumps := by
  unfold Works.keepOrAdoptPump
  split
  · next h => rw [updAt_eq_self (by simp [h])]
  · next x hx =>
    split
    · next hg => rw [updAt_eq_self fun y hy => by rw [hx] at hy; cases hy; rw [← hg]]
    · rfl

@[simp] theorem Works.keepOrAdoptPump_sumps (i : Nat) (w : Works) : (w.keepOrAdoptPump i).dewater.sumps = w.dewater.sumps := by
  unfold Works.keepOrAdoptPump
  split
  · rfl
  · split <;> rfl

theorem Works.keepOrAdoptPump_only (i : Nat) (w : Works) : Works.Leads [.dewater] w (w.keepOrAdoptPump i) :=
  Works.keepOrAdoptPump_leads i w (by decide) .refl

theorem Works.keepOrAdoptPump_adopts (hx : w.dewater.pumps[i]? = some x) (hg : x.grant ≠ .granted) :
    (w.keepOrAdoptPump i).handed (.adoptionNotice i x.runPower) := by
  simp [Works.keepOrAdoptPump, hx, hg, Works.handed]

theorem Works.requestPump_only (i : Nat) (w : Works) : Works.Leads [] w (w.requestPump i) :=
  Works.requestPump_leads i w .refl

theorem Works.requestPump_requests (hx : w.dewater.pumps[i]? = some x) :
    (w.requestPump i).handed (.loadRequest i (w.pumpClass i) x.runPower) := by
  simp only [Works.requestPump, hx]
  exact Works.handed_send _ _

theorem Works.failShed_only (i : Nat) (w : Works) : Works.Leads [] w (w.failShed i) := Works.failShed_leads i w .refl

theorem Works.failShed_fails {g : Grant} (hg : w.budget.grants[i]? = some g) (hm : g.mark = .asked) :
    (w.failShed i).handed (.shedFailure i) := by
  simp only [Works.failShed, hg, hm]
  exact Works.handed_send _ _

theorem Works.pumpClass_eq {s : Sump} (hx : w.dewater.pumps[i]? = some x) (hs : w.dewater.sumps[x.sump]? = some s) :
    w.pumpClass i = if s.list.head? = some i then 1 else 2 := by
  simp only [Works.pumpClass, hx, hs]

end Grants

/-! ## The start order list (R52) and the lead (R53) -/

section StartOrder

variable {w : Works} {i si k : Nat} {x : Pump} {s : Sump}

/-- The list without a pump. -/
def Sump.without (i : Nat) (s : Sump) : Sump := { s with list := s.list.filter (fun j => !(j == i)) }

/-- The list with a pump at its end. -/
def Sump.joinedBy (i : Nat) (s : Sump) : Sump := { s with list := s.list ++ [i] }

theorem Sump.not_mem_without (i : Nat) (s : Sump) : i ∉ (s.without i).list := by simp [Sump.without]

@[simp] theorem Works.leaveList_pumps (i : Nat) (w : Works) : (w.leaveList i).dewater.pumps = w.dewater.pumps := by
  unfold Works.leaveList
  split
  · rfl
  · split
    · rfl
    · dsimp only
      split
      · split <;> rfl
      · rfl

theorem Works.leaveList_sumps (hx : w.dewater.pumps[i]? = some x) :
    (w.leaveList i).dewater.sumps = updAt (Sump.without i) x.sump w.dewater.sumps := by
  simp only [Works.leaveList, hx]
  split
  · next h => rw [updAt_eq_self (by simp [h])]
  · next s hs =>
    have hu : updAt (Sump.without i) x.sump w.dewater.sumps =
        updAt (fun s' => { s' with list := s.list.filter (fun j => !(j == i)) }) x.sump w.dewater.sumps := by
      rw [updAt_eq_replace _ hs, updAt_eq_replace (fun s' : Sump => { s' with list := _ }) hs]
      rfl
    rw [hu]
    split
    · split <;> rfl
    · rfl

theorem Works.leaveList_only (i : Nat) (w : Works) : Works.Leads [.dewater] w (w.leaveList i) :=
  Works.leaveList_leads i w (by decide) .refl

@[simp] theorem Works.leaveList_line (i : Nat) (w : Works) : (w.leaveList i).line = w.line :=
  (w.leaveList_only i).line_eq (by decide)

theorem Works.leaveList_of_none (h : w.dewater.pumps[i]? = none) : w.leaveList i = w := by simp only [Works.leaveList, h]

/-- A new first member of the list hears of its class. -/
theorem Works.leaveList_notifies {j : Nat} {rest : List Nat} (hx : w.dewater.pumps[i]? = some x)
    (hs : w.dewater.sumps[x.sump]? = some s) (hl : s.list = i :: j :: rest) (hj : j ≠ i) :
    (w.leaveList i).handed (.classNotice j 1) := by
  have hij : i ≠ j := hj.symm
  simp [Works.leaveList, hx, hs, hl, hj, hij, Works.handed]

@[simp] theorem Works.joinList_pumps (i : Nat) (w : Works) : (w.joinList i).dewater.pumps = w.dewater.pumps := by
  unfold Works.joinList
  split <;> rfl

theorem Works.joinList_sumps (hx : w.dewater.pumps[i]? = some x) :
    (w.joinList i).dewater.sumps = updAt (Sump.joinedBy i) x.sump w.dewater.sumps := by
  simp only [Works.joinList, hx]
  rfl

theorem Works.joinList_only (i : Nat) (w : Works) : Works.Leads [.dewater] w (w.joinList i) :=
  Works.joinList_leads i w (by decide) .refl

theorem Works.setLead_eq (hs : w.dewater.sumps[si]? = some s) (n why : Nat) : w.setLead si n why =
    (w.updSump si (fun s => { s with lead := n })).record .lead si (some s.lead) (some n) [s.rotation.getD n 0, why] false := by
  simp only [Works.setLead, hs]

/-- The lead moves or stands. -/
theorem Works.advanceLead_cases (si : Nat) (w : Works) : w.advanceLead si = w ∨
    ∃ s n, w.dewater.sumps[si]? = some s ∧ w.advanceLead si = w.setLead si n 0 := by
  unfold Works.advanceLead
  split
  · exact .inl rfl
  · next s hs =>
    split
    · split
      · exact .inr ⟨s, _, hs, rfl⟩
      · exact .inl rfl
    · exact .inl rfl

@[simp] theorem Works.advanceLead_pumps (si : Nat) (w : Works) : (w.advanceLead si).dewater.pumps = w.dewater.pumps := by
  rcases w.advanceLead_cases si with h | ⟨s, n, hs, h⟩
  · rw [h]
  · rw [h, Works.setLead_eq hs]
    rfl

theorem Works.advanceLead_tends (si : Nat) (w : Works) : w.Tends (w.advanceLead si) := by
  rcases w.advanceLead_cases si with h | ⟨s, n, hs, h⟩
  · rw [h]
    exact .refl w
  · rw [h, Works.setLead_eq hs]
    exact .of_updSump (k := si) (f := fun s => { s with lead := n }) (fun s => ⟨s.able, n, rfl⟩) rfl rfl

end StartOrder
end Sys2Proof.Machine

namespace Sys2Proof.Machine

open Sys2Proof

/-! # Dewatering: dismissing, calling and serving (R52)

Serving dismisses pumps with claim AUTO and calls IDLE ones. What both do to the records stands here once, and an induction over
the changes of serving gives what serving keeps. -/

/-! ## Start pairs given up (R58) -/

section Abandoning

variable {w v u : Works} {i : Nat} {x : Pump}

theorem Works.requestPump_tends (i : Nat) (w : Works) : w.Tends (w.requestPump i) :=
  .of_eq (by rw [(w.requestPump_only i).dewater_eq (by decide)]) ((w.requestPump_only i).line_eq (by decide))

theorem Works.dropPumpGrant_tends (i : Nat) (w : Works) : w.Tends (w.dropPumpGrant i) := .of_eq (by simp) (by simp)

theorem Works.dropThenMove_tends (i : Nat) (f : Pump → Pump) (w : Works) : w.Tends ((w.dropPumpGrant i).movePump i f) :=
  (w.dropPumpGrant_tends i).trans (Works.movePump_tends i f _)

theorem Works.haltPump_tends (i : Nat) (w : Works) : w.Tends (w.haltPump i) := (w.haltPump_asks i).tends

theorem Works.waitShed_tends (i : Nat) (w : Works) : w.Tends (w.waitShed i) :=
  (w.dropThenMove_tends i _).trans (Works.requestPump_tends i _)

theorem Works.abandonedUnexecuted_tends (i : Nat) (w : Works) : w.Tends (w.abandonedUnexecuted i) := by
  unfold Works.abandonedUnexecuted
  split
  · exact .refl w
  · split
    · exact .refl w
    · dsimp only
      refine (w.updPump_tends i (fun p => { p with pair := .none, pairRefused := false })).trans ?_
      split
      · split
        · exact Works.waitShed_tends i _
        · exact Works.dropThenMove_tends i _ _
        · exact (Works.dropThenMove_tends i _ _).trans (Works.advanceLead_tends _ _)
      · split
        · exact (Works.send_tends _ _).trans (Works.requestPump_tends i _)
        · exact .refl _
      · exact .refl _

theorem Works.abandonStart_tends (i : Nat) (w : Works) : w.Tends (w.abandonStart i) := by
  unfold Works.abandonStart
  split
  · exact .refl w
  · have hg := (w.updPump_tends i (fun p => { p with pair := .abandoned })).trans (Works.giveUp_tends (.pumpStart i) .abandoned _)
    dsimp only
    split
    · exact hg.trans (Works.abandonedUnexecuted_tends i _)
    · exact hg

/-- A start pair on its way is abandoned. -/
theorem Works.abandonStart_eq (hx : w.dewater.pumps[i]? = some x) (hr : x.pairRefused = false) : w.abandonStart i =
    (w.updPump i (fun p => { p with pair := .abandoned })).giveUp (.pumpStart i) .abandoned := by
  simp [Works.abandonStart, hx, hr]

/-- A pump under dismissal whose start pair never went out is IDLE again, without its grant (R58, log 27). -/
theorem Works.abandonStart_refused_pumps (hx : w.dewater.pumps[i]? = some x) (hr : x.pairRefused = true)
    (hs : x.state = .stopping) (hm : x.mark = .demand) : (w.abandonStart i).dewater.pumps = updAt (fun _ =>
      { x with pair := .none, pairRefused := false, grant := .none, state := .idle, mark := .none }) i w.dewater.pumps := by
  have hu : ((w.updPump i (fun p => { p with pair := .abandoned })).giveUp (.pumpStart i) .abandoned).dewater.pumps[i]? =
      some { x with pair := .abandoned } := by
    rw [Works.giveUp_dewater, Works.updPump_pumps, getElem?_updAt_self hx]
  simp only [Works.abandonStart, hx, if_pos hr, Works.abandonedUnexecuted, hu, reduceCtorEq, if_false, hs, hm]
  rw [Works.advanceLead_pumps, Works.movePump_pumps, Works.dropPumpGrant_pumps, Works.updPump_pumps, Works.giveUp_dewater,
    Works.updPump_pumps, updAt_updAt, updAt_updAt, updAt_updAt, updAt_eq_replace _ hx]

end Abandoning

/-! ## Dismissing a pump -/

section Dismissal

variable {w : Works} {i k : Nat} {x : Pump} {s : Sump} {a : Active}

/-- A pump as its dismissal leaves it, but for the marks of refused line requests. -/
def Pump.dismissed (now : Nat) (x : Pump) : Pump :=
  match x.state with
  | .waiting =>
    if x.pair = .inFlight then
      if x.pairRefused then { x with state := .idle, cause := none, mark := .none, confirmStart := none, pair := .none,
                                     pairRefused := false, grant := .none }
      else { x with state := .stopping, cause := none, mark := .demand, confirmStart := none, pair := .abandoned }
    else if x.cause = some .rest then { x with state := .resting, cause := none, mark := .demand }
    else { x with grant := .none, state := x.restState now, cause := none, mark := .demand }
  | .starting => { x with state := .stopping, mark := .demand, confirmStart := none, lapse := false }
  | .running => { x with state := .stopping, mark := .demand, confirmStart := none, lapse := false }
  | .stopping => { x with mark := .demand }
  | _ => x

theorem Works.dismiss_of_none (h : w.dewater.pumps[i]? = none) : w.dismiss i = w := by simp only [Works.dismiss, h]

/-- The sumps of a dismissal are those of the pump's leaving the list. -/
theorem Works.dismiss_tends (i : Nat) (w : Works) : (w.leaveList i).Tends (w.dismiss i) := by
  unfold Works.dismiss
  split
  · next h =>
    rw [Works.leaveList_of_none h]
    exact .refl w
  · dsimp only
    split
    · split
      · exact (Works.movePump_tends i _ _).trans (Works.abandonStart_tends i _)
      · split
        · exact Works.movePump_tends i _ _
        · exact Works.dropThenMove_tends i _ _
    · exact (Works.movePump_tends i _ _).trans (Works.haltPump_tends i _)
    · exact (Works.movePump_tends i _ _).trans (Works.haltPump_tends i _)
    · exact Works.updPump_tends i _ _
    · exact .refl _

/-- A change of the pump's record that gives `y`. -/
theorem Works.alike_of_updAt {v : Works} {f : Pump → Pump} {y : Pump} (hx : w.dewater.pumps[i]? = some x)
    (hv : v.dewater.pumps = updAt f i w.dewater.pumps) (hf : f x = y) : (w.updPump i (fun _ => y)).pumpsAlike v :=
  .of_eq (by rw [hv, updAt_eq_replace f hx, hf]; rfl)

theorem Works.dismiss_alike (hx : w.dewater.pumps[i]? = some x) :
    (w.updPump i (fun _ => x.dismissed w.now)).pumpsAlike (w.dismiss i) := by
  have hl : (w.leaveList i).dewater.pumps = w.dewater.pumps := Works.leaveList_pumps i w
  have hn : (w.leaveList i).now = w.now := (w.leaveList_only i).now_eq
  have hmove (f : Pump → Pump) (hf : f x = x.dismissed w.now) :
      (w.updPump i (fun _ => x.dismissed w.now)).pumpsAlike ((w.leaveList i).movePump i f) :=
    Works.alike_of_updAt hx (by rw [Works.movePump_pumps, hl]) hf
  have hstop (f : Pump → Pump) (hf : f x = x.dismissed w.now) :
      (w.updPump i (fun _ => x.dismissed w.now)).pumpsAlike (((w.leaveList i).movePump i f).haltPump i) :=
    (hmove f hf).trans (Works.haltPump_asks i _).alike
  cases hs : x.state <;> simp only [Works.dismiss, hx, hs]
  case waiting =>
    split
    · next hp =>
      have hm (f : Pump → Pump) : ((w.leaveList i).movePump i f).dewater.pumps[i]? = some (f x) :=
        Works.movePump_pump (by rw [hl, hx])
      cases hr : x.pairRefused
      · rw [Works.abandonStart_eq (hm _) hr]
        refine Works.alike_of_updAt (f := fun p => { p with state := .stopping, cause := none, mark := .demand,
                                                               confirmStart := none, pair := .abandoned }) hx ?_ ?_
        · rw [Works.giveUp_dewater, Works.updPump_pumps, Works.movePump_pumps, hl, updAt_updAt]
        · simp [Pump.dismissed, hs, hp, hr]
      · refine Works.alike_of_updAt (f := fun p => x.dismissed w.now) hx ?_ rfl
        rw [Works.abandonStart_refused_pumps (hm _) hr rfl rfl, Works.movePump_pumps, hl, updAt_updAt]
        simp [Pump.dismissed, hs, hp, hr]
    · next hp =>
      split
      · next hc => exact hmove _ (by simp [Pump.dismissed, hs, hp, hc])
      · next hc =>
        refine Works.alike_of_updAt (f := fun p => x.dismissed w.now) hx ?_ rfl
        rw [Works.movePump_pumps, Works.dropPumpGrant_pumps, hl, updAt_updAt, updAt_eq_replace _ hx]
        simp only [Pump.dismissed, hs, if_neg hp, if_neg hc, hn]
        rfl
  case starting => exact hstop _ (by simp [Pump.dismissed, hs])
  case running => exact hstop _ (by simp [Pump.dismissed, hs])
  case stopping => exact Works.alike_of_updAt hx (by rw [Works.updPump_pumps, hl]) (by simp [Pump.dismissed, hs])
  all_goals exact Works.alike_of_updAt (f := id) hx (by rw [hl, updAt_eq_self (f := id) fun _ _ => rfl]) (by simp [Pump.dismissed, hs])

/-- What a dismissal does to the pumps: the dismissed one is as R52 has it, the others stand. -/
theorem Works.dismiss_pump {p : Nat} (hx : w.dewater.pumps[p]? = some x) : ∃ a b, (w.dismiss i).dewater.pumps[p]? =
    some ((if p = i then x.dismissed w.now else x).flagged a b) := by
  cases hy : w.dewater.pumps[i]? with
  | none =>
    rw [Works.dismiss_of_none hy, if_neg (by rintro rfl; simp [hx] at hy)]
    exact ⟨x.pairRefused, x.haltRefused, hx⟩
  | some y =>
    refine Works.dismiss_alike hy p _ ?_
    split
    · next hp =>
      subst hp
      obtain rfl : x = y := Option.some.inj (hx.symm.trans hy)
      exact getElem?_updAt_self hx
    · next hp => rw [Works.updPump_pumps, getElem?_updAt_ne hp, hx]

theorem Works.dismiss_sump (hx : w.dewater.pumps[i]? = some x) (hs : w.dewater.sumps[k]? = some s) :
    ∃ n l, (w.dismiss i).dewater.sumps[k]? = some { (if k = x.sump then s.without i else s) with able := n, lead := l } := by
  refine (w.dismiss_tends i).sumps k _ ?_
  rw [Works.leaveList_sumps hx]
  split
  · next hk =>
    subst hk
    exact getElem?_updAt_self hs
  · next hk => rw [getElem?_updAt_ne hk, hs]

theorem Works.dismiss_halts {n m : Nat} (i : Nat) (h : w.haltWaits n m) : (w.dismiss i).haltWaits n m :=
  (w.dismiss_tends i).halts n m (by rwa [Works.haltWaits, Works.leaveList_line])

/-- A pump that stops for its dismissal has a HALT (R57). -/
theorem Works.dismiss_waits (hx : w.dewater.pumps[i]? = some x) (hs : x.state = .starting ∨ x.state = .running)
    (hr : w.lineRoom) : (w.dismiss i).haltWaits x.unit x.motor := by
  have hwaits (f : Pump → Pump) (hu : (f x).unit = x.unit) (hm : (f x).motor = x.motor) :
      (((w.leaveList i).movePump i f).haltPump i).haltWaits x.unit x.motor := by
    have hv : ((w.leaveList i).movePump i f).dewater.pumps[i]? = some (f x) :=
      Works.movePump_pump (by rw [Works.leaveList_pumps, hx])
    rw [← hu, ← hm]
    exact Works.haltPump_waits hv (by rwa [Works.lineRoom, Works.movePump_line, Works.leaveList_line])
  unfold Works.dismiss
  simp only [hx]
  rcases hs with hs | hs <;> rw [hs] <;> exact hwaits _ rfl rfl

end Dismissal

/-! ## Calling a pump -/

section Calling

variable {w : Works} {i k : Nat} {x : Pump} {s : Sump}

/-- A pump as its call leaves it. -/
def Pump.called (x : Pump) : Pump := { x with state := .waiting, cause := some .grant, grant := .requested, mark := .none }

theorem Works.callPump_eq (i : Nat) (w : Works) : w.callPump i = ((w.joinList i).movePump i Pump.called).requestPump i := rfl

theorem Works.callPump_only (i : Nat) (w : Works) : Works.Leads [.dewater, .active] w (w.callPump i) :=
  Works.callPump_leads i w (by decide) .refl

@[simp] theorem Works.callPump_pumps (i : Nat) (w : Works) :
    (w.callPump i).dewater.pumps = updAt Pump.called i w.dewater.pumps := by
  rw [Works.callPump_eq, (Works.requestPump_only i _).dewater_eq (by decide), Works.movePump_pumps, Works.joinList_pumps]

theorem Works.callPump_sumps (hx : w.dewater.pumps[i]? = some x) : (w.callPump i).dewater.sumps =
    updAt (fun s => { s.joinedBy i with able := (w.updPump i Pump.called).ableOf x.sump }) x.sump w.dewater.sumps := by
  have hj : (w.joinList i).dewater.pumps[i]? = some x := by rw [Works.joinList_pumps, hx]
  rw [Works.callPump_eq, (Works.requestPump_only i _).dewater_eq (by decide), Works.movePump_dewater hj,
    Works.joinList_sumps hx, Works.ableOf, Works.ableOf, Works.updPump_pumps, Works.joinList_pumps]
  exact updAt_updAt _ _ _ _

theorem Works.callPump_sump (hx : w.dewater.pumps[i]? = some x) (hs : w.dewater.sumps[k]? = some s) :
    ∃ n l, (w.callPump i).dewater.sumps[k]? = some { (if k = x.sump then s.joinedBy i else s) with able := n, lead := l } := by
  rw [Works.callPump_sumps hx]
  split
  · next hk =>
    subst hk
    exact ⟨_, s.lead, getElem?_updAt_self hs⟩
  · next hk => exact ⟨s.able, s.lead, by rw [getElem?_updAt_ne hk, hs]⟩

@[simp] theorem Works.callPump_line (i : Nat) (w : Works) : (w.callPump i).line = w.line :=
  (w.callPump_only i).line_eq (by decide)

theorem Works.callPump_halts {n m : Nat} (i : Nat) (h : w.haltWaits n m) : (w.callPump i).haltWaits n m := by
  rwa [Works.haltWaits, Works.callPump_line]

/-- A called pump asks for power with the class of its place in the list (R52). -/
theorem Works.callPump_requests (hx : w.dewater.pumps[i]? = some x) (hs : w.dewater.sumps[x.sump]? = some s) :
    (w.callPump i).handed (.loadRequest i (if (s.joinedBy i).list.head? = some i then 1 else 2) x.runPower) := by
  have hj : (w.joinList i).dewater.pumps[i]? = some x := by rw [Works.joinList_pumps, hx]
  have hs' : (w.joinList i).dewater.sumps[x.sump]? = some (s.joinedBy i) := by
    rw [Works.joinList_sumps hx, getElem?_updAt_self hs]
  have hv : ((w.joinList i).movePump i Pump.called).dewater.pumps[i]? = some x.called :=
    Works.movePump_pump hj
  obtain ⟨n, l, hz⟩ := (Works.movePump_tends i Pump.called (w.joinList i)).sumps _ _ hs'
  have hc := Works.pumpClass_eq hv hz
  have hr := Works.requestPump_requests hv
  rw [hc] at hr
  exact hr

/-- A change of serving leaves the ACTIVE PUMP SERVICE of another pump (R70). -/
theorem Works.holdsAlone.call {a : Active} (h : w.holdsAlone a) (hc : a.code = .pumpService) (hi : a.subject ≠ i) :
    (w.callPump i).holdsAlone a := by
  have hj := h.congr ((Works.joinList_only i w).active_eq (by decide))
  exact (hj.move hc (.inl hi)).congr ((Works.requestPump_only i _).active_eq (by decide))

end Calling

/-! ## Serving -/

section Serving

variable {w : Works} {si p k : Nat} {x : Pump} {s : Sump}

/-- The records that serving changes. -/
def Part.ofServing : List Part := [.dewater, .portals, .lights, .active, .line]

theorem Works.serve_only (si : Nat) (w : Works) : Works.Leads Part.ofServing w (w.serve si) :=
  Works.serve_leads si w (by decide) .refl

theorem Works.newestAuto_auto {l : List Nat} {j : Nat} (h : w.newestAuto l = some j) : j ∈ l ∧ w.claimOf (.pump j) = .auto := by
  have hp := List.find?_some h
  exact ⟨List.mem_reverse.mp (List.mem_of_find?_eq_some h), by simpa using hp⟩

/-- The pump that an ordered intent RUN wants called (R52). -/
theorem Works.orderedToCall_spec {i : Nat} (h : w.orderedToCall si s = some i) : i ∉ s.list ∧
    ∃ q, w.dewater.pumps[i]? = some q ∧ q.sump = si ∧ q.intent = some .run ∧ q.state = .idle := by
  obtain ⟨⟨j, q⟩, hf, rfl⟩ := Option.map_eq_some_iff.mp h
  have hp := List.find?_some hf
  have hm := mem_indexed_zero.mp (List.mem_of_find?_eq_some hf)
  simp only [Bool.and_eq_true, beq_iff_eq, decide_eq_true_eq, Bool.not_eq_true', List.contains_eq_mem,
    decide_eq_false_iff_not] at hp
  obtain ⟨⟨⟨hs, hi⟩, hst⟩, hl⟩ := hp
  exact ⟨hl, q, hm, hs, hi, hst⟩

theorem Works.demandToCall_spec {i : Nat} (h : w.demandToCall s = some i) : w.callable i := by
  have hp := List.find?_some h
  rw [Bool.and_eq_true, decide_eq_true_eq] at hp
  obtain ⟨hc, hst⟩ := hp
  refine ⟨hc, ?_⟩
  split at hst
  · next q hq => exact ⟨q, hq, by simpa using hst⟩
  · cases hst

/-- A change of serving dismisses a pump with claim AUTO, or calls an IDLE one, or does the one and then the other. -/
theorem Works.serveOnce_cases {v : Works} (h : w.serveOnce si = some v) :
    (∃ j, w.claimOf (.pump j) = .auto ∧ v = w.dismiss j) ∨
    (∃ i q, w.dewater.pumps[i]? = some q ∧ q.state = .idle ∧ v = w.callPump i) ∨
    ∃ j i q, w.claimOf (.pump j) = .auto ∧ (w.dismiss j).dewater.pumps[i]? = some q ∧ q.state = .idle ∧
      v = (w.dismiss j).callPump i := by
  unfold Works.serveOnce at h
  split at h
  · cases h
  · next s hs =>
    dsimp only at h
    split at h
    · next j hj =>
      cases h
      split at hj
      · exact .inl ⟨j, (Works.newestAuto_auto hj).2, rfl⟩
      · cases hj
    · split at h
      · next i hi =>
        have hi' : w.orderedToCall si s = some i := by
          split at hi
          · cases hi
          · exact hi
        obtain ⟨hnot, q, hq, -, -, hst⟩ := Works.orderedToCall_spec hi'
        split at h
        · cases h
          exact .inr (.inl ⟨i, q, hq, hst, rfl⟩)
        · split at h
          · next j hj =>
            cases h
            obtain ⟨hmem, hauto⟩ := Works.newestAuto_auto hj
            obtain ⟨a, b, hd⟩ := Works.dismiss_pump (i := j) hq
            rw [if_neg (by rintro rfl; exact hnot hmem)] at hd
            exact .inr (.inr ⟨j, i, _, hauto, hd, hst, rfl⟩)
          · cases h
      · cases h

theorem Works.callForDemand_spec {v : Works} (h : w.callForDemand si = some v) : ∃ s i, w.dewater.sumps[si]? = some s ∧
    s.list.length < s.target ∧ w.callable i ∧ v = w.callPump i := by
  unfold Works.callForDemand at h
  split at h
  · cases h
  · next s hs =>
    split at h
    · next hc =>
      obtain ⟨i, hi, rfl⟩ := Option.map_eq_some_iff.mp h
      exact ⟨s, i, hs, hc.1, Works.demandToCall_spec hi, rfl⟩
    · cases h

/-- `v` comes from `w` by dismissals of pumps with claim AUTO and calls of IDLE pumps, as serving makes them. -/
inductive Works.Serves (w : Works) : Works → Prop where
  | refl : Works.Serves w w
  | dismiss (j : Nat) (v : Works) : Works.Serves w v → v.claimOf (.pump j) = .auto → Works.Serves w (v.dismiss j)
  | call (j : Nat) (v : Works) (q : Pump) : Works.Serves w v → v.dewater.pumps[j]? = some q → q.state = .idle →
      Works.Serves w (v.callPump j)

theorem serveLoop_serves (si n : Nat) {u : Works} (h : w.Serves u) : w.Serves (serveLoop si n u) := by
  induction n generalizing u with
  | zero => exact h
  | succ n ih =>
    unfold serveLoop
    split
    · next v hv =>
      rcases Works.serveOnce_cases hv with ⟨j, ha, rfl⟩ | ⟨i, q, hq, hs, rfl⟩ | ⟨j, i, q, ha, hq, hs, rfl⟩
      · exact ih (.dismiss j u h ha)
      · exact ih (.call i u q h hq hs)
      · exact ih (.call i _ q (.dismiss j u h ha) hq hs)
    · split
      · next v hv =>
        obtain ⟨s, i, -, -, ⟨-, q, hq, hs⟩, rfl⟩ := Works.callForDemand_spec hv
        exact ih (.call i u q h hq hs)
      · exact h

theorem Works.serve_serves (si : Nat) (w : Works) : w.Serves (w.serve si) := by
  unfold Works.serve
  split
  · exact serveLoop_serves si 64 .refl
  · exact .refl

section Served

variable {v : Works}

theorem Works.Serves.leads (h : w.Serves v) : Works.Leads Part.ofServing w v := by
  induction h with
  | refl => exact .refl
  | dismiss j v _ _ ih => exact Works.dismiss_leads j v (by decide) ih
  | call j v q _ _ _ ih => exact Works.callPump_leads j v (by decide) ih

theorem Works.Serves.claimOf_eq (h : w.Serves v) (c : ClaimSubject) : v.claimOf c = w.claimOf c :=
  Works.claimOf_congr (h.leads.claims_eq (by decide)) c

/-- What the marks of refused requests, dismissal and call keep of a pump, serving keeps; a pump whose claim is not AUTO is not
dismissed. -/
theorem Works.Serves.pump {Q : Pump → Prop} (h : w.Serves v) (hx : w.dewater.pumps[p]? = some x) (hQ : Q x)
    (hf : ∀ y a b, Q y → Q (y.flagged a b)) (hd : w.claimOf (.pump p) = .auto → ∀ y, Q y → Q (y.dismissed w.now))
    (hc : ∀ y, Q y → y.state = .idle → Q y.called) : ∃ y, v.dewater.pumps[p]? = some y ∧ Q y := by
  induction h with
  | refl => exact ⟨x, hx, hQ⟩
  | dismiss j v hv ha ih =>
    obtain ⟨y, hy, hQ⟩ := ih
    obtain ⟨a, b, hd'⟩ := Works.dismiss_pump (i := j) hy
    refine ⟨_, hd', hf _ _ _ ?_⟩
    split
    · next hp =>
      rw [hv.leads.now_eq]
      rw [hv.claimOf_eq, ← hp] at ha
      exact hd ha y hQ
    · exact hQ
  | call j v q _ hq hs ih =>
    obtain ⟨y, hy, hQ⟩ := ih
    rw [Works.callPump_pumps]
    by_cases hp : p = j
    · subst hp
      obtain rfl : y = q := Option.some.inj (hy.symm.trans hq)
      exact ⟨_, getElem?_updAt_self hy, hc y hQ hs⟩
    · exact ⟨y, by rw [getElem?_updAt_ne hp, hy], hQ⟩

/-- A pump that is not IDLE, and that a dismissal would not change or cannot come to, is left alone by serving. -/
theorem Works.Serves.pump_kept (h : w.Serves v) (hx : w.dewater.pumps[p]? = some x) (hi : x.state ≠ .idle)
    (hd : w.claimOf (.pump p) = .auto → ∀ a b, (x.flagged a b).dismissed w.now = x.flagged a b) :
    ∃ a b, v.dewater.pumps[p]? = some (x.flagged a b) := by
  obtain ⟨y, hy, a, b, rfl⟩ := h.pump (Q := fun y => ∃ a b, y = x.flagged a b) hx ⟨x.pairRefused, x.haltRefused, rfl⟩
    (by rintro _ a b ⟨c, d, rfl⟩; exact ⟨a, b, rfl⟩)
    (by rintro ha _ ⟨a, b, rfl⟩; exact ⟨a, b, hd ha a b⟩)
    (by rintro _ ⟨c, d, rfl⟩ h; exact absurd h hi)
  exact ⟨a, b, hy⟩

theorem Works.Serves.pump_ordered (h : w.Serves v) (hx : w.dewater.pumps[p]? = some x) (hc : w.claimOf (.pump p) ≠ .auto)
    (hi : x.state ≠ .idle) : ∃ a b, v.dewater.pumps[p]? = some (x.flagged a b) :=
  h.pump_kept hx hi fun ha => absurd ha hc

theorem Works.Serves.pump_unused (h : w.Serves v) (hx : w.dewater.pumps[p]? = some x)
    (hs : x.state = .outOfService ∨ x.state = .tripped) : ∃ a b, v.dewater.pumps[p]? = some (x.flagged a b) :=
  h.pump_kept hx (by rcases hs with hs | hs <;> simp [hs])
    fun _ a b => by rcases hs with hs | hs <;> simp [Pump.dismissed, Pump.flagged, hs]

theorem Works.Serves.halts {n m : Nat} (h : w.Serves v) (hw : w.haltWaits n m) : v.haltWaits n m := by
  induction h with
  | refl => exact hw
  | dismiss j v _ _ ih => exact Works.dismiss_halts j ih
  | call j v q _ _ _ ih => exact Works.callPump_halts j ih

/-- The sump without the records that serving changes. -/
def Sump.setup (s : Sump) : Sump := { s with list := [], lead := 0, able := 0 }

theorem Works.dismiss_setup {j : Nat} (hs : w.dewater.sumps[k]? = some s) :
    ∃ z, (w.dismiss j).dewater.sumps[k]? = some z ∧ z.setup = s.setup ∧ z.list ⊆ s.list := by
  cases hj : w.dewater.pumps[j]? with
  | none => exact ⟨s, by rw [Works.dismiss_of_none hj, hs], rfl, List.Subset.refl _⟩
  | some y =>
    obtain ⟨n, l, hv⟩ := Works.dismiss_sump hj hs
    refine ⟨_, hv, ?_, ?_⟩
    · split <;> rfl
    · dsimp only
      split
      · exact List.filter_subset_self _
      · exact List.Subset.refl _

theorem Works.Serves.sump (h : w.Serves v) (hs : w.dewater.sumps[k]? = some s) :
    ∃ z, v.dewater.sumps[k]? = some z ∧ z.setup = s.setup := by
  induction h with
  | refl => exact ⟨s, hs, rfl⟩
  | dismiss j v _ _ ih =>
    obtain ⟨z, hz, hset⟩ := ih
    obtain ⟨y, hy, hyset, -⟩ := Works.dismiss_setup (j := j) hz
    exact ⟨y, hy, hyset.trans hset⟩
  | call j v q _ hq _ ih =>
    obtain ⟨z, hz, hset⟩ := ih
    obtain ⟨n, l, hv⟩ := Works.callPump_sump hq hz
    refine ⟨_, hv, Eq.trans ?_ hset⟩
    split <;> rfl

/-- A pump that is not IDLE, and that no dismissal takes there. -/
def Pump.busy (x : Pump) : Prop := x.state ≠ .idle ∧ x.state ≠ .waiting

theorem Pump.busy.dismissed (h : x.busy) (now : Nat) : (x.dismissed now).busy := by
  obtain ⟨hi, hw⟩ := h
  unfold Pump.dismissed
  split <;> simp_all [Pump.busy]

/-- A pump that is in no list and busy joins none. -/
theorem Works.Serves.unlisted (h : w.Serves v) (hx : w.dewater.pumps[p]? = some x) (hb : x.busy)
    (hs : w.dewater.sumps[k]? = some s) (hl : p ∉ s.list) : ∃ z, v.dewater.sumps[k]? = some z ∧ p ∉ z.list := by
  induction h with
  | refl => exact ⟨s, hs, hl⟩
  | dismiss j v _ _ ih =>
    obtain ⟨z, hz, hzl⟩ := ih
    obtain ⟨y, hy, -, hsub⟩ := Works.dismiss_setup (j := j) hz
    exact ⟨y, hy, fun hm => hzl (hsub hm)⟩
  | call j v q hv hq hqs ih =>
    obtain ⟨z, hz, hzl⟩ := ih
    obtain ⟨y, hy, hyb⟩ := hv.pump hx hb (fun _ _ _ h => h) (fun _ _ h => h.dismissed _) fun _ h hi => absurd hi h.1
    have hne : p ≠ j := by
      rintro rfl
      obtain rfl : y = q := Option.some.inj (hy.symm.trans hq)
      exact hyb.1 hqs
    obtain ⟨n, l, hz'⟩ := Works.callPump_sump hq hz
    refine ⟨_, hz', fun hm => ?_⟩
    dsimp only at hm
    split at hm
    · rcases List.mem_append.mp hm with hm | hm
      · exact hzl hm
      · exact hne (List.mem_singleton.mp hm)
    · exact hzl hm

end Served

/-! ### Serving without a dismissal -/

/-- The sump has no call for an order and no surplus, and its able count is right: serving dismisses no pump. -/
structure Works.calm (si : Nat) (w : Works) : Prop where
  none : w.noneOrdered si
  room : ∀ s, w.dewater.sumps[si]? = some s → s.list.length ≤ s.target ∧ s.able = w.ableOf si

theorem Works.orderedToCall_none (h : w.noneOrdered si) : w.orderedToCall si s = none := by
  cases hi : w.orderedToCall si s with
  | none => rfl
  | some i =>
    obtain ⟨-, q, hq, hs, hr, -⟩ := Works.orderedToCall_spec hi
    exact absurd hr (h q (List.mem_of_getElem? hq) hs)

/-- No surplus, and no order that wants a call or an ACTIVE cutout: serving has no change to make but a call for demand. -/
theorem Works.serveOnce_none (hs : w.dewater.sumps[si]? = some s) (hr : s.list.length ≤ s.target)
    (hn : w.noneOrdered si ∨ s.cutout.state = .active) : w.serveOnce si = none := by
  have hwanted : (if s.cutout.state = .active then none else w.orderedToCall si s) = none := by
    rcases hn with hn | hn
    · rw [Works.orderedToCall_none hn, ite_self]
    · exact if_pos hn
  simp only [Works.serveOnce, hs, if_neg (Nat.not_lt.mpr hr), hwanted]

theorem Works.serveOnce_of_none (hs : w.dewater.sumps[si]? = none) : w.serveOnce si = none := by
  simp only [Works.serveOnce, hs]

theorem Works.ableOf_congr {v : Works} {f : Pump → Pump} {i : Nat} (hv : v.dewater.pumps = updAt f i w.dewater.pumps)
    (hf : ∀ y, w.dewater.pumps[i]? = some y → (f y).sump = y.sump ∧ (f y).able = y.able) (k : Nat) :
    v.ableOf k = w.ableOf k := by
  rw [Works.ableOf, hv]
  exact filter_updAt_length fun y hy => by rw [(hf y hy).1, (hf y hy).2]

theorem Works.noneOrdered_congr {v : Works} {f : Pump → Pump} {i : Nat} (hv : v.dewater.pumps = updAt f i w.dewater.pumps)
    (hf : ∀ y, (f y).sump = y.sump ∧ (f y).intent = y.intent) (h : w.noneOrdered k) : v.noneOrdered k := by
  intro y hy hs
  rw [hv] at hy
  rcases mem_updAt hy with hy | ⟨z, hz, rfl⟩
  · exact h y hy hs
  · rw [(hf z).2]
    exact h z hz ((hf z).1 ▸ hs)

/-- A call for demand leaves a calm sump calm: the called pump was able before and is after. -/
theorem Works.calm.call {i : Nat} {q : Pump} (h : w.calm si) (hs : w.dewater.sumps[si]? = some s) (hl : s.list.length < s.target)
    (hq : w.dewater.pumps[i]? = some q) (hi : q.state = .idle) : (w.callPump i).calm si := by
  obtain ⟨-, hable⟩ := h.room s hs
  have hpumps := Works.callPump_pumps i w
  have hcalled (y : Pump) (hy : w.dewater.pumps[i]? = some y) : y.called.sump = y.sump ∧ y.called.able = y.able := by
    obtain rfl : q = y := Option.some.inj (hq.symm.trans hy)
    exact ⟨rfl, by rw [Pump.able, Pump.able, hi]; rfl⟩
  refine ⟨Works.noneOrdered_congr hpumps (fun y => ⟨rfl, rfl⟩) h.none, fun z hz => ?_⟩
  rw [Works.ableOf_congr hpumps hcalled]
  rw [Works.callPump_sumps hq] at hz
  by_cases hk : si = q.sump
  · subst hk
    rw [getElem?_updAt_self hs, Option.some.injEq, Works.ableOf_congr rfl hcalled] at hz
    subst hz
    rw [Sump.target, hable] at hl
    exact ⟨by simpa [Sump.target, Sump.joinedBy] using hl, rfl⟩
  · rw [getElem?_updAt_ne hk] at hz
    exact h.room z hz

theorem Works.calm.serveOnce (h : w.calm si) : w.serveOnce si = Option.none := by
  cases hs : w.dewater.sumps[si]? with
  | none => exact Works.serveOnce_of_none hs
  | some s => exact Works.serveOnce_none hs (h.room s hs).1 (.inl h.none)

/-- What calls of IDLE pumps keep, serving a calm sump keeps. -/
theorem serveLoop_calm_induction {P : Works → Prop} (n : Nat) (hw : w.calm si) (h : P w)
    (hc : ∀ j v q, P v → v.dewater.pumps[j]? = some q → q.state = .idle → P (v.callPump j)) : P (serveLoop si n w) := by
  induction n generalizing w with
  | zero => exact h
  | succ n ih =>
    unfold serveLoop
    rw [hw.serveOnce]
    dsimp only
    split
    · next u hu =>
      obtain ⟨s, i, hs, hl, ⟨-, q, hq, hst⟩, rfl⟩ := Works.callForDemand_spec hu
      exact ih (hw.call hs hl hq hst) (hc i w q h hq hst)
    · exact h

/-- Serving a calm sump leaves a pump that is not IDLE as it is. -/
theorem serveLoop_calm_pump (n : Nat) (hw : w.calm si) (hx : w.dewater.pumps[p]? = some x) (hi : x.state ≠ .idle) :
    (serveLoop si n w).dewater.pumps[p]? = some x := by
  refine serveLoop_calm_induction (P := fun v => v.dewater.pumps[p]? = some x) n hw hx fun j v q hv hq hs => ?_
  rw [Works.callPump_pumps, getElem?_updAt_ne, hv]
  rintro rfl
  obtain rfl : x = q := Option.some.inj (hv.symm.trans hq)
  exact hi hs

theorem Works.calm.serve_pump (hw : w.calm si) (hx : w.dewater.pumps[p]? = some x) (hi : x.state ≠ .idle) :
    (w.serve si).dewater.pumps[p]? = some x := by
  unfold Works.serve
  split
  · exact serveLoop_calm_pump 64 hw hx hi
  · exact hx

/-- A change of a pump's record that leaves it as able as before, with room in its sump's list: the sump is calm after it. -/
theorem Works.calm_movePump {i : Nat} {f : Pump → Pump} (hx : w.dewater.pumps[i]? = some x)
    (hable : (f x).able = x.able) (hf : ∀ y, (f y).sump = y.sump ∧ (f y).intent = y.intent) (hn : w.noneOrdered x.sump)
    (hroom : ∀ s, w.dewater.sumps[x.sump]? = some s → s.list.length ≤ min s.demand (w.ableOf x.sump)) :
    (w.movePump i f).calm x.sump := by
  have hcount : (w.movePump i f).ableOf x.sump = w.ableOf x.sump := by
    refine Works.ableOf_congr (Works.movePump_pumps i f w) (fun y hy => ?_) _
    obtain rfl : x = y := Option.some.inj (hx.symm.trans hy)
    exact ⟨(hf x).1, hable⟩
  have hupd : (w.updPump i f).ableOf x.sump = w.ableOf x.sump := by
    rw [← hcount, Works.ableOf, Works.ableOf, Works.movePump_pumps, Works.updPump_pumps]
  refine ⟨Works.noneOrdered_congr (Works.movePump_pumps i f w) hf hn, fun z hz => ?_⟩
  rw [Works.movePump_dewater hx, (hf x).1, hupd] at hz
  cases hs : w.dewater.sumps[x.sump]? with
  | none =>
    rw [updAt_eq_self (by simp [hs]), hs] at hz
    cases hz
  | some s =>
    rw [getElem?_updAt_self hs, Option.some.injEq] at hz
    subst hz
    exact ⟨hroom s hs, hcount.symm⟩

end Serving
end Sys2Proof.Machine

namespace Sys2Proof.Machine

open Sys2Proof

/-! # The events of a pump: confirm times, rests, shed requests and stops (R56, R57, R59, R60, R63) -/

section Kept

variable {w v : Works}

theorem Works.Leads.keepsAll {ps : List Part} (h : Works.Leads ps w v) (hc : Part.channels ∉ ps) (hv : Part.voids ∉ ps) :
    w.keepsAll v := ⟨h.now_eq, h.station_eq, h.channels_eq hc, h.handsOn hv⟩

theorem Works.Leads.keepsPumps (h : Works.Leads Part.ofServing w v) : w.keepsPumps v :=
  ⟨h.keepsAll (by decide) (by decide), h.water_eq (by decide), h.budget_eq (by decide), h.claims_eq (by decide),
    h.reports_eq (by decide), h.fresh_eq (by decide)⟩

end Kept

/-! ## Trips (R60) -/

section Trips

variable {w v : Works} {i k : Nat} {x : Pump} {s : Sump} {r : TripReason}

/-- A pump as a trip leaves it; its grant is settled before. -/
def Pump.trippedFor (r : TripReason) (x : Pump) : Pump :=
  { x with state := .tripped, cause := none, trip := some r, tripCode := 0, confirmStart := none, lapse := false, mark := .none }

/-- The works of a trip as the pump's state changes: a HALT is queued, the grant is given back, the list is left. -/
def Works.tripping (i : Nat) (w : Works) : Works := ((w.haltPump i).dropPumpGrant i).leaveList i

theorem Works.tripPump_eq (hx : w.dewater.pumps[i]? = some x) (r : TripReason) :
    w.tripPump i r = ((w.tripping i).movePump i (Pump.trippedFor r)).serve x.sump := by
  simp only [Works.tripPump, hx]
  rfl

theorem Works.tripPump_only (i : Nat) (r : TripReason) (w : Works) : Works.Leads Part.ofServing w (w.tripPump i r) :=
  Works.tripPump_leads i r w (by decide) .refl

theorem Works.tripping_pump (hx : w.dewater.pumps[i]? = some x) :
    ∃ a b, (w.tripping i).dewater.pumps[i]? = some { x.flagged a b with grant := .none } := by
  obtain ⟨a, b, hv⟩ := (w.haltPump_asks i).alike i x hx
  exact ⟨a, b, by rw [Works.tripping, Works.leaveList_pumps, Works.dropPumpGrant_pumps, getElem?_updAt_self hv]⟩

/-- After the pump has left the list of its sump, and stays out of use, serving does not bring it back. -/
theorem Works.served_unlisted {u : Works} {f : Pump → Pump} {y : Pump} (hu : u.dewater.pumps[i]? = some y)
    (hs : u.dewater.sumps[k]? = some s) (hl : i ∉ s.list) (hf : (f y).busy) (si : Nat) :
    ∃ z, ((u.movePump i f).serve si).dewater.sumps[k]? = some z ∧ i ∉ z.list := by
  obtain ⟨n, l, hz⟩ := (Works.movePump_tends i f u).sumps k s hs
  exact (Works.serve_serves si _).unlisted (Works.movePump_pump hu) hf hz hl

theorem Works.tripPump_spec (hx : w.dewater.pumps[i]? = some x) (ho : x.state ≠ .tripped) (r : TripReason) (hv : v = w.tripPump i r) :
    v.recorded .pumpTrip i (some x.state.code) (some 1) [r.code, 0, x.running.code, x.overload.code] true ∧
    (x.grant = .granted → v.handed (.loadRelease i)) ∧ (x.grant = .requested → v.handed (.loadWithdrawal i)) ∧
    (w.lineRoom → v.haltWaits x.unit x.motor) ∧
    (∀ t, w.dewater.sumps[x.sump]? = some t → (∃ z, v.dewater.sumps[x.sump]? = some z ∧ i ∉ z.list) ∧
      ∀ j rest, t.list = i :: j :: rest → j ≠ i → v.handed (.classNotice j 1)) ∧
    ∃ y, v.dewater.pumps[i]? = some y ∧ y.state = .tripped ∧ y.trip = some r ∧ y.grant = .none := by
  rw [Works.tripPump_eq hx] at hv
  obtain ⟨a, b, hh⟩ := (w.haltPump_asks i).alike i x hx
  obtain ⟨c, d, hu⟩ := w.tripping_pump hx
  have hd : ((w.haltPump i).dropPumpGrant i).dewater.pumps[i]? = some { x.flagged a b with grant := .none } := by
    rw [Works.dropPumpGrant_pumps, getElem?_updAt_self hh]
  have hmove : Works.Leads [.dewater, .active] (w.tripping i) ((w.tripping i).movePump i (Pump.trippedFor r)) :=
    Works.movePump_leads _ _ _ (by decide) .refl
  have hserve : Works.Leads Part.ofServing ((w.tripping i).movePump i (Pump.trippedFor r)) v := hv ▸ Works.serve_only _ _
  have hlist {n : Instr} (h : (w.tripping i).handed n) : v.handed n :=
    hserve.handed (by decide) (hmove.handed (by decide) h)
  have hdrop {n : Instr} (h : ((w.haltPump i).dropPumpGrant i).handed n) : v.handed n :=
    hlist ((Works.leaveList_only i _).handed (by decide) h)
  refine ⟨?_, fun hg => hdrop (Works.dropPumpGrant_releases hh hg), fun hg => hdrop (Works.dropPumpGrant_withdraws hh hg),
    fun hr => ?_, fun t ht => ⟨?_, fun j rest hl hj => ?_⟩, ?_⟩
  · have htrip := Works.movePump_trips (f := Pump.trippedFor r) hu ho rfl
    exact hserve.recorded (by decide) htrip
  · have hline : ((w.tripping i).movePump i (Pump.trippedFor r)).line = (w.haltPump i).line := by
      rw [Works.movePump_line, Works.tripping, Works.leaveList_line, Works.dropPumpGrant_line]
    rw [hv]
    refine (Works.serve_serves _ _).halts ?_
    rw [Works.haltWaits, hline]
    exact Works.haltPump_waits hx hr
  · have hs : (w.tripping i).dewater.sumps[x.sump]? = some (t.without i) := by
      rw [Works.tripping, Works.leaveList_sumps hd, Works.dropPumpGrant_sumps, (w.haltPump_asks i).sumps]
      exact getElem?_updAt_self ht
    rw [hv]
    exact Works.served_unlisted hu hs (Sump.not_mem_without i t) ⟨by simp [Pump.trippedFor], by simp [Pump.trippedFor]⟩ _
  · refine hlist (Works.leaveList_notifies hd (s := t) ?_ hl hj)
    rw [Works.dropPumpGrant_sumps, (w.haltPump_asks i).sumps]
    exact ht
  · have hp := Works.movePump_pump (f := Pump.trippedFor r) hu
    obtain ⟨e, f, hy⟩ := (Works.serve_serves x.sump _).pump_unused hp (.inr rfl)
    rw [← hv] at hy
    exact ⟨_, hy, rfl, rfl, rfl⟩

end Trips

/-! ## Confirm times (R56, R57) -/

section Confirm

variable {w v : Works} {i : Nat} {x : Pump}

theorem exec_startConfirmExpiry (i : Nat) (s : State) :
    exec (.startConfirmExpiry i) s = .next (s.ended (s.works.startConfirmExpiry i)) := rfl

theorem exec_stopConfirmExpiry (i : Nat) (s : State) :
    exec (.stopConfirmExpiry i) s = .next (s.ended (s.works.stopConfirmExpiry i)) := rfl

theorem Works.startConfirmExpiry_of_over (hx : w.dewater.pumps[i]? = some x) (hs : x.state = .starting)
    (hc : x.confirmOver w.now = true) : w.startConfirmExpiry i = w.tripPump i .startFail := by
  simp only [Works.startConfirmExpiry, hx]
  exact if_pos ⟨hs, hc⟩

theorem Works.startConfirmExpiry_of_early (hx : w.dewater.pumps[i]? = some x)
    (h : x.state ≠ .starting ∨ x.confirmOver w.now = false) : w.startConfirmExpiry i = w := by
  simp only [Works.startConfirmExpiry, hx]
  refine if_neg fun hc => ?_
  simp [hc.1, hc.2] at h

/-- A pump as the end of the confirm time of its stop leaves it. -/
def Pump.stopFailed (x : Pump) : Pump :=
  { x with state := .tripped, trip := some .stopFail, tripCode := 0, confirmStart := none, mark := .none }

theorem Works.stopConfirmExpiry_of_over (hx : w.dewater.pumps[i]? = some x) (hs : x.state = .stopping)
    (hc : x.confirmOver w.now = true) (hr : x.running ≠ .stopped) :
    w.stopConfirmExpiry i = (((w.failShed i).leaveList i).movePump i Pump.stopFailed).serve x.sump := by
  simp only [Works.stopConfirmExpiry, hx]
  exact if_pos ⟨hs, hc, hr⟩

theorem Works.stopConfirmExpiry_of_early (hx : w.dewater.pumps[i]? = some x)
    (h : x.state ≠ .stopping ∨ x.confirmOver w.now = false ∨ x.running = .stopped) : w.stopConfirmExpiry i = w := by
  simp only [Works.stopConfirmExpiry, hx]
  refine if_neg fun hc => ?_
  simp [hc.1, hc.2.1, hc.2.2] at h

theorem Works.stopFailure_spec (hx : w.dewater.pumps[i]? = some x) (hs : x.state = .stopping)
    (hv : v = (((w.failShed i).leaveList i).movePump i Pump.stopFailed).serve x.sump) :
    v.recorded .pumpTrip i (some 7) (some 1) [2, 0, x.running.code, x.overload.code] true ∧
    (∀ g, w.budget.grants[i]? = some g → g.mark = .asked → v.handed (.shedFailure i)) ∧
    (∀ t, w.dewater.sumps[x.sump]? = some t → (∃ z, v.dewater.sumps[x.sump]? = some z ∧ i ∉ z.list) ∧
      ∀ j rest, t.list = i :: j :: rest → j ≠ i → v.handed (.classNotice j 1)) ∧
    ∃ y, v.dewater.pumps[i]? = some y ∧ y.state = .tripped ∧ y.trip = some .stopFail ∧ y.grant = x.grant := by
  have hfd : (w.failShed i).dewater = w.dewater := (w.failShed_only i).dewater_eq (by decide)
  have hf : (w.failShed i).dewater.pumps[i]? = some x := by rw [hfd, hx]
  have hu : ((w.failShed i).leaveList i).dewater.pumps[i]? = some x := by rw [Works.leaveList_pumps, hf]
  have hafter : Works.Leads Part.ofServing ((w.failShed i).leaveList i) v :=
    hv ▸ Works.serve_leads _ _ (by decide) (Works.movePump_leads _ _ _ (by decide) .refl)
  refine ⟨?_, fun g hg hm => ?_, fun t ht => ⟨?_, fun j rest hl hj => ?_⟩, ?_⟩
  · have hr := Works.movePump_trips (f := Pump.stopFailed) hu (by simp [hs]) rfl
    rw [hs] at hr
    rw [hv]
    exact (Works.serve_only _ _).recorded (by decide) hr
  · exact hafter.handed (by decide) ((Works.leaveList_only i _).handed (by decide) (Works.failShed_fails hg hm))
  · have hs : ((w.failShed i).leaveList i).dewater.sumps[x.sump]? = some (t.without i) := by
      rw [Works.leaveList_sumps hf, hfd]
      exact getElem?_updAt_self ht
    rw [hv]
    exact Works.served_unlisted hu hs (Sump.not_mem_without i t) ⟨by simp [Pump.stopFailed], by simp [Pump.stopFailed]⟩ _
  · exact hafter.handed (by decide) (Works.leaveList_notifies hf (s := t) (by rw [hfd, ht]) hl hj)
  · have hp := Works.movePump_pump (f := Pump.stopFailed) hu
    obtain ⟨e, f, hy⟩ := (Works.serve_serves x.sump _).pump_unused hp (.inr rfl)
    rw [← hv] at hy
    exact ⟨_, hy, rfl, rfl, rfl⟩

end Confirm

/-- Settles O35: a trip is its operations in order, and serving leaves a tripped pump and its place out of the list alone. -/
theorem confirmExpiries : Obligations.ConfirmExpiries := by
  unfold Obligations.ConfirmExpiries
  refine ⟨fun p x s hx => ⟨fun hs hc => ?_, fun h => ?_⟩, fun p x s hx => ⟨fun hs hc hr => ?_, fun h => ?_⟩⟩
  · have hspec := Works.tripPump_spec hx (by simp [hs]) .startFail rfl
    rw [hs] at hspec
    refine ⟨_, exec_startConfirmExpiry p s, ?_, ?_⟩
    · rw [Works.startConfirmExpiry_of_over hx hs hc]
      exact (Works.tripPump_only p _ _).keepsPumps
    · rw [Works.startConfirmExpiry_of_over hx hs hc]
      exact hspec
  · rw [exec_startConfirmExpiry, Works.startConfirmExpiry_of_early hx h]
  · refine ⟨_, exec_stopConfirmExpiry p s, ?_, ?_⟩
    · exact (Works.stopConfirmExpiry_leads p s.works (by decide) .refl).keepsPumps
    · exact Works.stopFailure_spec hx hs (Works.stopConfirmExpiry_of_over hx hs hc hr)
  · rw [exec_stopConfirmExpiry, Works.stopConfirmExpiry_of_early hx h]

end Sys2Proof.Machine

namespace Sys2Proof.Machine

open Sys2Proof

/-! # The events of a pump: rests, shed requests, HALTs and stops (R57, R59, R63) -/

/-! ## The rest (R59) -/

section Rest

variable {w v : Works} {i : Nat} {x : Pump}

theorem exec_pumpRestExpiry (i : Nat) (s : State) : exec (.pumpRestExpiry i) s = .next (s.ended (s.works.pumpRestExpiry i)) := rfl

theorem Works.pumpRestExpiry_only (i : Nat) (w : Works) : Works.Leads Part.ofServing w (w.pumpRestExpiry i) :=
  Works.pumpRestExpiry_leads i w (by decide) .refl

theorem Works.pumpRestExpiry_of_early (hx : w.dewater.pumps[i]? = some x) (hr : x.restAllows w.now = false) :
    w.pumpRestExpiry i = w := by
  simp [Works.pumpRestExpiry, hx, hr]

theorem Works.pumpRestExpiry_of_resting (hx : w.dewater.pumps[i]? = some x) (hr : x.restAllows w.now = true)
    (hs : x.state = .resting) : w.pumpRestExpiry i = (w.movePump i (fun p => { p with state := .idle })).serve x.sump := by
  simp only [Works.pumpRestExpiry, hx, hr, hs, if_true]

theorem Works.pumpRestExpiry_of_waiting (hx : w.dewater.pumps[i]? = some x) (hr : x.restAllows w.now = true)
    (hs : x.state = .waiting) (hc : x.cause = some .rest) :
    w.pumpRestExpiry i = (w.movePump i (fun p => { p with cause := some .grant, grant := .requested })).requestPump i := by
  simp only [Works.pumpRestExpiry, hx, hr, hs, hc, if_true]

/-- A pump that stays in its sump keeps its class through a change of its record (R52). -/
theorem Works.pumpClass_movePump {f : Pump → Pump} (hx : w.dewater.pumps[i]? = some x) (hf : (f x).sump = x.sump) :
    (w.movePump i f).pumpClass i = w.pumpClass i := by
  have hs : (w.movePump i f).dewater.sumps = updAt (fun s => { s with able := (w.updPump i f).ableOf x.sump }) x.sump w.dewater.sumps := by
    rw [Works.movePump_dewater hx, hf]
  cases ht : w.dewater.sumps[x.sump]? with
  | none =>
    have hn : (w.movePump i f).dewater.sumps[(f x).sump]? = none := by rw [hf, hs, updAt_eq_self (by simp [ht]), ht]
    simp only [Works.pumpClass, Works.movePump_pump hx, hn, hx, ht]
  | some t =>
    rw [Works.pumpClass_eq hx ht, Works.pumpClass_eq (Works.movePump_pump hx) (by rw [hf, hs, getElem?_updAt_self ht])]

end Rest

/-! ## A shed request (R63) -/

section Shed

variable {w v : Works} {i : Nat} {x : Pump}

theorem exec_pumpShedRequest (i : Nat) (s : State) : exec (.pumpShedRequest i) s = .next (s.ended (s.works.pumpShed i)) := rfl

/-- A pump that stops, for the cause that the mark names (R57). -/
def Pump.stopsFor (m : StopMark) (x : Pump) : Pump := { x with state := .stopping, mark := m, confirmStart := none, lapse := false }

/-- A pump that waited with its START pair on its way and stops, for the cause that the mark names (R58). -/
def Pump.givesUpFor (m : StopMark) (x : Pump) : Pump := { x with state := .stopping, cause := none, mark := m, confirmStart := none }

theorem Works.pumpShed_of_use (hx : w.dewater.pumps[i]? = some x) (hs : x.state = .starting ∨ x.state = .running) :
    w.pumpShed i = (w.movePump i (Pump.stopsFor .shed)).haltPump i := by
  rcases hs with hs | hs <;> simp only [Works.pumpShed, hx, hs] <;> rfl

theorem Works.pumpShed_of_pair (hx : w.dewater.pumps[i]? = some x) (hs : x.state = .waiting) (hp : x.pair = .inFlight) :
    w.pumpShed i = ((w.movePump i (Pump.givesUpFor .shed)).abandonStart i).serve x.sump := by
  simp only [Works.pumpShed, hx, hs, hp, if_true]
  rfl

theorem Works.pumpShed_of_stopping (hx : w.dewater.pumps[i]? = some x) (hs : x.state = .stopping) : w.pumpShed i = w := by
  simp only [Works.pumpShed, hx, hs]

theorem Works.pumpShed_of_unused (hx : w.dewater.pumps[i]? = some x) (h : x.state = .idle ∨ x.state = .resting ∨
    x.state = .tripped ∨ x.state = .outOfService ∨ x.state = .uncommanded ∨ x.state = .waiting ∧ x.pair ≠ .inFlight) :
    w.pumpShed i = w.send (.shedFailure i) := by
  rcases h with h | h | h | h | h | ⟨h, hp⟩ <;> simp [Works.pumpShed, hx, h]
  exact fun h => absurd h hp

/-- A pump stopped by a change of its record and a HALT: the record, the PUMP record of the journal, and the HALT. -/
theorem Works.stopped_spec {m : StopMark} (hx : w.dewater.pumps[i]? = some x) (hs : x.state = .starting ∨ x.state = .running)
    (hv : v = (w.movePump i (Pump.stopsFor m)).haltPump i) :
    (∃ a b, v.dewater.pumps[i]? = some ((x.stopsFor m).flagged a b)) ∧
    v.recorded .pump i (some x.state.code) (some 7) [m.code, (w.claimOf (.pump i)).code, x.grant.code, x.runSeconds] false ∧
    (w.lineRoom → v.haltWaits x.unit x.motor) := by
  subst hv
  have hp := Works.movePump_pump (f := Pump.stopsFor m) hx
  refine ⟨(Works.haltPump_asks i _).alike i _ hp, ?_, fun hr => ?_⟩
  · have hrec := Works.movePump_recorded (f := Pump.stopsFor m) hx (by rcases hs with hs | hs <;> simp [hs, Pump.stopsFor])
    have hh : Works.Leads Part.ofServing (w.movePump i (Pump.stopsFor m)) ((w.movePump i (Pump.stopsFor m)).haltPump i) :=
      Works.haltPump_leads i _ (by decide) .refl
    exact hh.recorded (by decide) hrec
  · have hw := Works.haltPump_waits hp (by rwa [Works.lineRoom, Works.movePump_line])
    exact hw

/-- A pump whose START pair is abandoned on its way: its record, through the serving that follows, and its PUMP record. -/
theorem Works.gaveUp_spec {m : StopMark} {si : Nat} (hx : w.dewater.pumps[i]? = some x) (hs : x.state = .waiting)
    (hr : x.pairRefused = false) (hv : v = ((w.movePump i (Pump.givesUpFor m)).abandonStart i).serve si) :
    v.recorded .pump i (some x.state.code) (some 7) [m.code, (w.claimOf (.pump i)).code, x.grant.code, x.runSeconds] false ∧
    ∃ y, v.dewater.pumps[i]? = some y ∧ y.state = .stopping ∧ y.cause = none ∧ y.pair = .abandoned ∧ y.grant = x.grant ∧
      (w.claimOf (.pump i) ≠ .auto → y.mark = m) := by
  have hp := Works.movePump_pump (f := Pump.givesUpFor m) hx
  have ha : ((w.movePump i (Pump.givesUpFor m)).abandonStart i).dewater.pumps[i]? =
      some { x.givesUpFor m with pair := .abandoned } := by
    rw [Works.abandonStart_eq hp hr, Works.giveUp_dewater, Works.updPump_pumps, getElem?_updAt_self hp]
  have hl : Works.Leads Part.ofServing w ((w.movePump i (Pump.givesUpFor m)).abandonStart i) :=
    Works.abandonStart_leads i _ (by decide) (Works.movePump_leads _ _ _ (by decide) .refl)
  have hclaim := Works.claimOf_congr (hl.claims_eq (by decide)) (.pump i)
  subst hv
  constructor
  · have hrec := Works.movePump_recorded (f := Pump.givesUpFor m) hx (.inl (by simp [hs, Pump.givesUpFor]))
    have hh : Works.Leads Part.ofServing (w.movePump i (Pump.givesUpFor m))
        (((w.movePump i (Pump.givesUpFor m)).abandonStart i).serve si) :=
      Works.serve_leads _ _ (by decide) (Works.abandonStart_leads i _ (by decide) .refl)
    exact hh.recorded (by decide) hrec
  · refine (Works.serve_serves si _).pump (Q := fun y =>
      y.state = .stopping ∧ y.cause = none ∧ y.pair = .abandoned ∧ y.grant = x.grant ∧
        (w.claimOf (.pump i) ≠ .auto → y.mark = m)) ha ⟨rfl, rfl, rfl, rfl, fun _ => rfl⟩ (fun _ _ _ h => h) ?_ ?_
    · rintro hc y ⟨h1, h2, h3, h4, -⟩
      rw [hclaim] at hc
      simp [Pump.dismissed, h1, h2, h3, h4, hc]
    · rintro y ⟨h1, -⟩ h
      simp [h1] at h

end Shed

/-! ## The end of a HALT and of a stop (R57) -/

section Stop

variable {w v : Works} {i : Nat} {x : Pump}

theorem Works.updPump_eq_self {f : Pump → Pump} (h : ∀ y, w.dewater.pumps[i]? = some y → f y = y) : w.updPump i f = w := by
  simp only [Works.updPump, updAt_eq_self h]

theorem Works.pumpHaltEnd_of_stop (hx : w.dewater.pumps[i]? = some x) (hs : x.state = .stopping) (hc : x.confirmStart = none)
    (ha : w.line.abandonedRuns (.pumpStart i) = false) :
    (w.pumpHaltEnd i).dewater.pumps[i]? = some { x with confirmStart := some w.now } := by
  rw [Works.pumpHaltEnd, if_neg (by simp [ha]), Works.updPump_pumps, getElem?_updAt_self hx, if_pos ⟨hs, hc⟩]

theorem Works.pumpHaltEnd_of_other (hx : w.dewater.pumps[i]? = some x)
    (h : x.state ≠ .stopping ∨ x.confirmStart.isSome = true ∨ w.line.abandonedRuns (.pumpStart i) = true) : w.pumpHaltEnd i = w := by
  unfold Works.pumpHaltEnd
  split
  · rfl
  · next ha =>
    refine Works.updPump_eq_self fun y hy => if_neg ?_
    obtain rfl : x = y := Option.some.inj (hx.symm.trans hy)
    rintro ⟨hs, hc⟩
    simp [hs, hc, ha] at h

/-- The views and the count of the running seconds changed, and nothing else of the pump (R49, R61). -/
def Pump.viewed (r : RunView) (o : FloatState) (secs rest : Nat) (since : Option Nat) (sat : Bool) (x : Pump) : Pump :=
  { x with running := r, overload := o, runSeconds := secs, runRest := rest, runSince := since, saturated := sat }

theorem Works.addRun_pump (hx : w.dewater.pumps[i]? = some x) :
    ∃ n m t b, (w.addRun i).dewater.pumps[i]? = some (x.viewed x.running x.overload n m t b) := by
  simp only [Works.addRun, hx]
  split
  · exact ⟨x.runSeconds, x.runRest, x.runSince, x.saturated, hx⟩
  · split
    · exact ⟨_, _, _, _, getElem?_updAt_self hx⟩
    · exact ⟨_, _, _, _, getElem?_updAt_self hx⟩

theorem Works.setRunning_pump (r : RunView) (hx : w.dewater.pumps[i]? = some x) :
    ∃ n m t b, (w.setRunning i r).dewater.pumps[i]? = some (x.viewed r x.overload n m t b) := by
  simp only [Works.setRunning, hx]
  split
  · next h =>
    subst h
    exact ⟨x.runSeconds, x.runRest, x.runSince, x.saturated, hx⟩
  · split
    · obtain ⟨n, m, t, b, ha⟩ := Works.addRun_pump hx
      exact ⟨n, m, none, b, getElem?_updAt_self ha⟩
    · exact ⟨x.runSeconds, x.runRest, _, x.saturated, getElem?_updAt_self hx⟩

/-- The works of a pump item as the views are taken (R49). -/
def Works.itemTaken (i : Nat) (running overload : Bool) (w : Works) : Works :=
  (w.setRunning i (if running then .running else .stopped)).updPump i
    (fun p => { p with overload := if overload then .active else .inactive })

theorem Works.itemTaken_only (i : Nat) (r o : Bool) (w : Works) : Works.Leads [.dewater] w (w.itemTaken i r o) :=
  Works.updPump_leads _ _ _ (by decide) (Works.setRunning_leads _ _ _ (by decide) .refl)

theorem Works.itemTaken_pump (r o : Bool) (hx : w.dewater.pumps[i]? = some x) : ∃ n m t b, (w.itemTaken i r o).dewater.pumps[i]? =
    some (x.viewed (if r then .running else .stopped) (if o then .active else .inactive) n m t b) := by
  obtain ⟨n, m, t, b, h⟩ := Works.setRunning_pump (if r then .running else .stopped) hx
  exact ⟨n, m, t, b, getElem?_updAt_self h⟩

/-- A report of not running at a pump that stops (R57). -/
theorem Works.pumpItem_of_stopping (o : Bool) (hx : w.dewater.pumps[i]? = some x) (hs : x.state = .stopping) :
    w.pumpItem i false o =
      if x.confirmStart.isSome then (w.itemTaken i false o).pumpStopped i else w.itemTaken i false o := by
  simp only [Works.pumpItem, hx, hs, Bool.not_false, Bool.true_and]
  rfl

/-- A pump as the end of its stop leaves it (R57). -/
def Pump.stoppedAt (now : Nat) (x : Pump) : Pump :=
  let y := { x with confirmStart := none, lastStop := some now, grant := .none, mark := .none }
  if x.mark = .service then { y with state := .outOfService } else { y with state := y.restState now }

theorem Pump.stoppedAt_service (now : Nat) (h : x.mark = .service) : (x.stoppedAt now).state = .outOfService := by
  simp [Pump.stoppedAt, h]

theorem Pump.stoppedAt_demand (now : Nat) (h : x.mark ≠ .service) :
    (x.stoppedAt now).state = { x with lastStop := some now }.restState now := by
  simp only [Pump.stoppedAt, if_neg h]
  rfl

theorem Pump.stoppedAt_facts (now : Nat) (x : Pump) : (x.stoppedAt now).state ≠ .stopping ∧ (x.stoppedAt now).grant = .none ∧
    (x.stoppedAt now).runSeconds = x.runSeconds ∧ (x.stoppedAt now).causeOrMark = 0 := by
  unfold Pump.stoppedAt Pump.restState
  dsimp only
  split
  · simp [Pump.causeOrMark]
  · split <;> simp [Pump.causeOrMark]

/-- The works of a confirmed stop as the pump's state changes: its stop time is taken, its grant given back. -/
def Works.stopConfirmed (i : Nat) (w : Works) : Works :=
  (w.updPump i (fun p => { p with confirmStart := none, lastStop := some w.now })).dropPumpGrant i

theorem Works.pumpStopped_of_service (hx : w.dewater.pumps[i]? = some x) (hm : x.mark = .service) : w.pumpStopped i =
    ((w.stopConfirmed i).movePump i (fun p => { p with state := .outOfService, mark := .none })).serve x.sump := by
  simp only [Works.pumpStopped, hx, hm]
  rfl

theorem Works.pumpStopped_of_demand (hx : w.dewater.pumps[i]? = some x) (hm : x.mark ≠ .service) (hs : x.mark ≠ .shed) :
    w.pumpStopped i = (((w.stopConfirmed i).movePump i
      (fun p => { p with state := p.restState w.now, mark := .none })).advanceLead x.sump).serve x.sump := by
  cases hk : x.mark
  case shed => exact absurd hk hs
  case service => exact absurd hk hm
  all_goals
    simp only [Works.pumpStopped, hx, hk]
    rfl

theorem Works.stopConfirmed_pump (hx : w.dewater.pumps[i]? = some x) : (w.stopConfirmed i).dewater.pumps[i]? =
    some { x with confirmStart := none, lastStop := some w.now, grant := .none } := by
  rw [Works.stopConfirmed, Works.dropPumpGrant_pumps, Works.updPump_pumps, updAt_updAt, getElem?_updAt_self hx]

theorem Works.stopConfirmed_leads (i : Nat) (w : Works) : Works.Leads Part.ofServing w (w.stopConfirmed i) :=
  Works.dropPumpGrant_leads i _ (by decide) (Works.updPump_leads _ _ _ (by decide) .refl)

/-- A change of the record that ends a stop, with what may follow of it. -/
theorem Works.stopConfirmed_moved {f : Pump → Pump} (hx : w.dewater.pumps[i]? = some x) (hs : x.state = .stopping)
    (hf : f { x with confirmStart := none, lastStop := some w.now, grant := .none } = x.stoppedAt w.now)
    (hl : Works.Leads Part.ofServing ((w.stopConfirmed i).movePump i f) v)
    (hp : v.dewater.pumps = ((w.stopConfirmed i).movePump i f).dewater.pumps) :
    Works.Leads Part.ofServing w v ∧ v.dewater.pumps[i]? = some (x.stoppedAt w.now) ∧
      (x.grant = .granted → v.handed (.loadRelease i)) ∧ v.recorded .pump i (some 7) (some (x.stoppedAt w.now).state.code)
        [0, (w.claimOf (.pump i)).code, 0, x.runSeconds] false := by
  have hd := Works.stopConfirmed_pump hx
  have hld := w.stopConfirmed_leads i
  have hm : Works.Leads Part.ofServing (w.stopConfirmed i) ((w.stopConfirmed i).movePump i f) :=
    Works.movePump_leads _ _ _ (by decide) .refl
  obtain ⟨hst, hgr, hrun, hcm⟩ := x.stoppedAt_facts w.now
  refine ⟨hld.trans (hm.trans hl), by rw [hp, Works.movePump_pump hd, hf], fun hg => ?_, ?_⟩
  · exact (hm.trans hl).handed (by decide) (Works.dropPumpGrant_releases (getElem?_updAt_self hx) hg)
  · have hr := Works.movePump_recorded (f := f) hd (.inl (by rw [hf, hs]; exact hst.symm))
    rw [hf, hgr, hrun, hcm, Works.claimOf_congr (hld.claims_eq (by decide)), hs] at hr
    exact hl.recorded (by decide) hr

/-- The end of a stop without the mark SHED: the grant is given back, and the pump is OUT_OF_SERVICE, IDLE or RESTING. -/
theorem Works.pumpStopped_spec (hx : w.dewater.pumps[i]? = some x) (hs : x.state = .stopping) (hm : x.mark ≠ .shed) :
    ∃ u, w.pumpStopped i = u.serve x.sump ∧ Works.Leads Part.ofServing w u ∧
      u.dewater.pumps[i]? = some (x.stoppedAt w.now) ∧ (x.grant = .granted → u.handed (.loadRelease i)) ∧
      u.recorded .pump i (some 7) (some (x.stoppedAt w.now).state.code)
        [0, (w.claimOf (.pump i)).code, 0, x.runSeconds] false := by
  by_cases hsv : x.mark = .service
  · exact ⟨_, Works.pumpStopped_of_service hx hsv,
      Works.stopConfirmed_moved hx hs (by simp [Pump.stoppedAt, hsv]) .refl rfl⟩
  · exact ⟨_, Works.pumpStopped_of_demand hx hsv hm, Works.stopConfirmed_moved hx hs
      (by simp only [Pump.stoppedAt, if_neg hsv]; rfl) (Works.advanceLead_leads x.sump _ (by decide) .refl)
      (Works.advanceLead_pumps _ _)⟩

/-- A stopped pump through the serving that follows: called and dismissed again it has the mark DEMAND (log 27). -/
def Pump.restsFrom (now : Nat) (x y : Pump) : Prop :=
  y.lastStop = some now ∧ y.confirmStart = none ∧ (x.mark = .service → y.state = .outOfService ∧ y.grant = .none) ∧
    (x.pair ≠ .inFlight → y.pair ≠ .inFlight ∧
      (y.mark = .none ∧ (y.state = .outOfService ∨ y.state = .idle ∨ y.state = .resting ∨ y.state = .waiting) ∨
        y.mark = .demand ∧ (y.state = .idle ∨ y.state = .resting)))

theorem Pump.restsFrom.of_stopped (now : Nat) (x : Pump) : x.restsFrom now (x.stoppedAt now) := by
  unfold Pump.restsFrom Pump.stoppedAt Pump.restState
  dsimp only
  split
  · next hm => simp
  · next hm => split <;> simp [hm]

theorem Pump.restState_cases (now : Nat) (x : Pump) : x.restState now = .idle ∨ x.restState now = .resting := by
  unfold Pump.restState
  split <;> simp

theorem Pump.restsFrom.dismissed {now : Nat} {y : Pump} (h : x.restsFrom now y) (n : Nat) : x.restsFrom now (y.dismissed n) := by
  obtain ⟨hl, hc, hsv, hp⟩ := h
  have hrest := y.restState_cases n
  unfold Pump.dismissed
  split
  case h_1 hs =>
    have hm : x.mark ≠ .service := fun hm => by simp [hs] at hsv; exact (hsv hm).elim
    split
    · next hpair =>
      have hx : x.pair = .inFlight := by
        by_contra hne
        exact (hp hne).1 hpair
      split <;> exact ⟨hl, rfl, fun h => absurd h hm, fun h => absurd hx h⟩
    · next hpair =>
      split
      · exact ⟨hl, hc, fun h => absurd h hm, fun _ => ⟨hpair, .inr ⟨rfl, .inr rfl⟩⟩⟩
      · exact ⟨hl, hc, fun h => absurd h hm, fun _ => ⟨hpair, .inr ⟨rfl, hrest⟩⟩⟩
  case h_2 hs => simp_all [Pump.restsFrom]
  case h_3 hs => simp_all [Pump.restsFrom]
  case h_4 hs => simp_all [Pump.restsFrom]
  case h_5 => exact ⟨hl, hc, hsv, hp⟩

theorem Pump.restsFrom.called {now : Nat} {y : Pump} (h : x.restsFrom now y) (hi : y.state = .idle) : x.restsFrom now y.called := by
  obtain ⟨hl, hc, hsv, hp⟩ := h
  refine ⟨hl, hc, fun hm => ?_, fun hne => ⟨(hp hne).1, .inl ⟨rfl, .inr (.inr (.inr rfl))⟩⟩⟩
  simp [hi] at hsv
  exact absurd hm hsv

end Stop

/-! ## The clauses of R57, R59 and R63 -/

section Clauses

variable {w : Works} {i : Nat} {x : Pump}

/-- A report of not running before the confirm time of the stop has started leaves the stop as it is. -/
theorem Works.pumpItem_early (o : Bool) (hx : w.dewater.pumps[i]? = some x) (hs : x.state = .stopping) (hc : x.confirmStart = none) :
    ∃ y, (w.pumpItem i false o).dewater.pumps[i]? = some y ∧ y.state = .stopping ∧ y.confirmStart = none ∧ y.grant = x.grant ∧
      y.mark = x.mark := by
  obtain ⟨n, m, t, b, h⟩ := Works.itemTaken_pump false o hx
  rw [Works.pumpItem_of_stopping o hx hs, hc]
  exact ⟨_, h, hs, hc, rfl, rfl⟩

/-- A report of not running within the confirm time ends the stop. -/
theorem Works.pumpItem_ends (o : Bool) (hx : w.dewater.pumps[i]? = some x) (hs : x.state = .stopping)
    (hc : x.confirmStart.isSome = true) (hm : x.mark ≠ .shed) :
    (x.grant = .granted → (w.pumpItem i false o).handed (.loadRelease i)) ∧
    ∃ y r, (w.pumpItem i false o).dewater.pumps[i]? = some y ∧ y.lastStop = some w.now ∧ y.confirmStart = none ∧
      (x.pair ≠ .inFlight → y.mark = .none ∨ y.mark = .demand ∧ (y.state = .idle ∨ y.state = .resting)) ∧
      (x.mark = .service → y.state = .outOfService ∧ y.grant = .none) ∧
      (x.mark = .service → (w.pumpItem i false o).recorded .pump i (some 7) (some 0)
        [0, (w.claimOf (.pump i)).code, 0, r] false) ∧
      (x.mark ≠ .service → (w.pumpItem i false o).recorded .pump i (some 7)
        (some ({ x with lastStop := some w.now }.restState w.now).code) [0, (w.claimOf (.pump i)).code, 0, r] false) := by
  obtain ⟨n, m, t, b, hz⟩ := Works.itemTaken_pump false o hx
  have hlead := w.itemTaken_only i false o
  obtain ⟨u, hu, -, hup, hrel, hrec⟩ := Works.pumpStopped_spec hz hs hm
  rw [Works.claimOf_congr (hlead.claims_eq (by decide)), hlead.now_eq] at hrec
  rw [hlead.now_eq] at hup
  rw [Works.pumpItem_of_stopping o hx hs, if_pos hc, hu]
  have hserve := u.serve_only x.sump
  obtain ⟨y, hy, hlast, hconf, hsv, hmark⟩ := (u.serve_serves x.sump).pump hup (Pump.restsFrom.of_stopped w.now _)
    (fun _ _ _ h => h) (fun _ _ h => h.dismissed _) (fun _ h hi => h.called hi)
  refine ⟨fun hg => hserve.handed (by decide) (hrel hg), y, n, hy, hlast, hconf, fun hp => ?_, hsv, fun hm => ?_, fun hm => ?_⟩
  · exact (hmark hp).2.imp And.left id
  · rw [Pump.stoppedAt_service (x := x.viewed _ _ n m t b) _ hm] at hrec
    exact hserve.recorded (by decide) hrec
  · rw [Pump.stoppedAt_demand (x := x.viewed _ _ n m t b) _ hm] at hrec
    exact hserve.recorded (by decide) hrec

end Clauses

/-- Settles O36: each event is its operations in order; serving dismisses only pumps with claim AUTO and calls only IDLE ones. -/
theorem restAndShed : Obligations.RestAndShed := by
  unfold Obligations.RestAndShed
  refine ⟨fun p x s hx => ⟨fun hr hs => ?_, fun hr hs hc => ?_, fun hr => ?_⟩,
    fun p x s hx => ⟨fun hs => ?_, fun hs hp hr => ?_, fun hs => ?_, fun h => ?_⟩,
    fun w i x hx => ⟨Works.pumpHaltEnd_of_stop hx, Works.pumpHaltEnd_of_other hx⟩,
    fun w i x o hx hs => ⟨Works.pumpItem_early o hx hs, Works.pumpItem_ends o hx hs⟩⟩
  · refine ⟨_, exec_pumpRestExpiry p s, (Works.pumpRestExpiry_only p _).keepsPumps, ?_⟩
    rw [Works.pumpRestExpiry_of_resting hx hr hs]
    have hrec := Works.movePump_recorded (f := fun p => { p with state := .idle }) hx (.inl (by simp [hs]))
    rw [hs] at hrec
    exact (Works.serve_only _ _).recorded (by decide) hrec
  · refine ⟨_, exec_pumpRestExpiry p s, (Works.pumpRestExpiry_only p _).keepsPumps, ?_⟩
    have hm := Works.movePump_pump (f := fun p => { p with cause := some .grant, grant := .requested }) hx
    rw [Works.pumpRestExpiry_of_waiting hx hr hs hc]
    constructor
    · rw [← Works.pumpClass_movePump (f := fun p => { p with cause := some .grant, grant := .requested }) hx rfl]
      have hreq := Works.requestPump_requests hm
      exact hreq
    · rw [(Works.requestPump_only p _).dewater_eq (by decide)]
      exact hm
  · rw [exec_pumpRestExpiry, Works.pumpRestExpiry_of_early hx hr]
  · have hk := Works.pumpShed_leads (ps := Part.ofServing) p s.works (by decide) .refl
    obtain ⟨⟨a, b, hy⟩, hrec, hwait⟩ := Works.stopped_spec (m := .shed) hx hs rfl
    refine ⟨_, exec_pumpShedRequest p s, hk.keepsPumps, ?_⟩
    rw [Works.pumpShed_of_use hx hs]
    exact ⟨⟨_, hy, rfl, rfl, rfl, rfl⟩, hrec, hwait⟩
  · have hk := Works.pumpShed_leads (ps := Part.ofServing) p s.works (by decide) .refl
    obtain ⟨hrec, hy⟩ := Works.gaveUp_spec (m := .shed) (si := x.sump) hx hs hr rfl
    refine ⟨_, exec_pumpShedRequest p s, hk.keepsPumps, ?_⟩
    rw [Works.pumpShed_of_pair hx hs hp]
    exact ⟨hrec, hy⟩
  · rw [exec_pumpShedRequest, Works.pumpShed_of_stopping hx hs]
  · rw [exec_pumpShedRequest, Works.pumpShed_of_unused hx h]

end Sys2Proof.Machine

namespace Sys2Proof.Machine

open Sys2Proof

/-! # Grants, demand, calls, the cutout and the lead (R50 to R54) -/

/-! ## A grant notice (R54) -/

section Granted

variable {w v : Works} {i : Nat} {x : Pump}

theorem exec_pumpGrantNotice (i : Nat) (s : State) :
    exec (.pumpGrantNotice i) s = .next (s.ended (s.works.pumpGranted i)) := rfl

theorem Works.pumpGranted_only (i : Nat) (w : Works) : Works.Leads Part.ofServing w (w.pumpGranted i) :=
  Works.pumpGranted_leads i w (by decide) .refl

theorem Works.pumpGranted_unasked (hx : w.dewater.pumps[i]? = some x) (h : x.state ≠ .waiting ∨ x.grant ≠ .requested) :
    w.pumpGranted i = w := by
  simp only [Works.pumpGranted, hx]
  exact if_neg (by tauto)

theorem Works.pumpGranted_starts (hx : w.dewater.pumps[i]? = some x) (hs : x.state = .waiting) (hg : x.grant = .requested)
    (hr : x.restAllows w.now = true) : w.pumpGranted i = (w.updPump i (fun p => { p with grant := .granted })).queueStart i := by
  simp only [Works.pumpGranted, hx]
  rw [if_pos ⟨hs, hg⟩]
  exact if_pos hr

/-- The works of a grant that comes before the rest is over, as the pump's state changes: the grant is given back. -/
def Works.grantReturned (i : Nat) (w : Works) : Works := (w.updPump i (fun p => { p with grant := .granted })).dropPumpGrant i

/-- A pump that waits for its rest. -/
def Pump.awaitingRest (x : Pump) : Pump := { x with state := .waiting, cause := some .rest }

theorem Pump.able_awaitingRest (h : x.state = .waiting) : x.awaitingRest.able = x.able := by
  rw [Pump.able, Pump.able, h]
  rfl

theorem Works.pumpGranted_early (hx : w.dewater.pumps[i]? = some x) (hs : x.state = .waiting) (hg : x.grant = .requested)
    (hr : x.restAllows w.now = false) :
    w.pumpGranted i = ((w.grantReturned i).movePump i Pump.awaitingRest).serve x.sump := by
  simp only [Works.pumpGranted, hx]
  rw [if_pos ⟨hs, hg⟩]
  exact if_neg (by simpa using hr)

theorem Works.grantReturned_pumps (i : Nat) (w : Works) :
    (w.grantReturned i).dewater.pumps = updAt (fun p => { p with grant := .none }) i w.dewater.pumps := by
  rw [Works.grantReturned, Works.dropPumpGrant_pumps, Works.updPump_pumps, updAt_updAt]

theorem Works.grantReturned_leads (i : Nat) (w : Works) : Works.Leads Part.ofServing w (w.grantReturned i) :=
  Works.dropPumpGrant_leads i _ (by decide) (Works.updPump_leads _ _ _ (by decide) .refl)

/-- A granted pump that may start queues its START pair, and nothing else changes. -/
theorem pumpGrantNotice_starts {s : State} (hx : s.works.dewater.pumps[i]? = some x) (hs : x.state = .waiting)
    (hg : x.grant = .requested) (hr : x.restAllows s.works.now = true) (hl : s.works.lineRoom) :
    ∃ v, exec (.pumpGrantNotice i) s = .next (s.ended v) ∧ s.works.keepsPumps v ∧ v.notices = s.works.notices ∧
      v.dewater.sumps = s.works.dewater.sumps ∧ v.dewater.pumps = updAt
        (fun _ => { x with grant := .granted, pair := .inFlight, pairRefused := false }) i s.works.dewater.pumps ∧
      v.line.queue = joinLine (s.works.asking (.pair .start) x.unit x.motor (.pumpStart i)) s.works.line.queue ∧
      v.portals = s.works.portals ∧ v.lights = s.works.lights ∧ v.active = s.works.active := by
  refine ⟨_, exec_pumpGrantNotice i s, (Works.pumpGranted_only i _).keepsPumps, ?_⟩
  have hu : (s.works.updPump i (fun p => { p with grant := .granted })).dewater.pumps[i]? = some { x with grant := .granted } :=
    getElem?_updAt_self hx
  rw [Works.pumpGranted_starts hx hs hg hr, Works.queueStart_of_room hu hl]
  refine ⟨rfl, rfl, ?_, rfl, rfl, rfl, rfl⟩
  rw [Works.setLineQueue_dewater, Works.updPump_pumps, Works.updPump_pumps, updAt_updAt, updAt_eq_replace _ hx]

/-- A pump that is granted before its rest is over gives the grant back and waits for the rest, unless it is surplus. -/
theorem pumpGrantNotice_waits {s : State} (hx : s.works.dewater.pumps[i]? = some x) (hs : x.state = .waiting)
    (hg : x.grant = .requested) (hr : x.restAllows s.works.now = false) :
    ∃ v, exec (.pumpGrantNotice i) s = .next (s.ended v) ∧ s.works.keepsPumps v ∧ v.handed (.loadRelease i) ∧
      (x.cause ≠ some .rest → v.recorded .pump i (some 4) (some 4)
        [4, (s.works.claimOf (.pump i)).code, 0, x.runSeconds] false) ∧
      (x.pair ≠ .inFlight → ∃ y, v.dewater.pumps[i]? = some y ∧ y.grant = .none ∧ y.pair = x.pair ∧
        (y.state = .waiting ∧ y.cause = some .rest ∨ y.state = .resting ∧ y.mark = .demand)) ∧
      ((s.works.claimOf (.pump i) ≠ .auto ∨ s.works.noneOrdered x.sump ∧
          ∀ y, s.works.dewater.sumps[x.sump]? = some y → y.list.length ≤ min y.demand (s.works.ableOf x.sump)) →
        ∃ a b, v.dewater.pumps[i]? = some { x with
          grant := .none, cause := some .rest, pairRefused := a, haltRefused := b }) := by
  refine ⟨_, exec_pumpGrantNotice i s, (Works.pumpGranted_only i _).keepsPumps, ?_⟩
  rw [Works.pumpGranted_early hx hs hg hr]
  have hu : (s.works.grantReturned i).dewater.pumps[i]? = some { x with grant := .none } := by
    rw [Works.grantReturned_pumps, getElem?_updAt_self hx]
  have hm := Works.movePump_pump (f := Pump.awaitingRest) hu
  have hlead := (s.works.grantReturned_leads i).trans (Works.movePump_leads i Pump.awaitingRest _ (by decide) .refl)
  have hserves := Works.serve_serves x.sump ((s.works.grantReturned i).movePump i Pump.awaitingRest)
  have hclaim := Works.claimOf_congr (hlead.claims_eq (by decide)) (.pump i)
  refine ⟨?_, fun hc => ?_, fun hp => ?_, fun h => ?_⟩
  · exact hserves.leads.handed (by decide) (Works.Leads.handed (ps := Part.ofServing) (Works.movePump_leads _ _ _ (by decide) .refl)
      (by decide) (Works.dropPumpGrant_releases (getElem?_updAt_self hx) rfl))
  · have hrec := Works.movePump_recorded (f := Pump.awaitingRest) hu (.inr hc)
    rw [hs, Works.claimOf_congr ((s.works.grantReturned_leads i).claims_eq (by decide))] at hrec
    exact hserves.leads.recorded (by decide) hrec
  · refine hserves.pump (Q := fun y => y.grant = .none ∧ y.pair = x.pair ∧
      (y.state = .waiting ∧ y.cause = some .rest ∨ y.state = .resting ∧ y.mark = .demand)) hm ⟨rfl, rfl, .inl ⟨rfl, rfl⟩⟩
      (fun _ _ _ h => h) ?_ ?_
    · rintro - y ⟨h1, h2, ⟨h3, h4⟩ | ⟨h3, h4⟩⟩
      · simp [Pump.dismissed, h1, h2, h3, h4, hp]
      · simp [Pump.dismissed, h1, h2, h3, h4]
    · rintro y ⟨-, -, ⟨h, -⟩ | ⟨h, -⟩⟩ hi <;> simp [h] at hi
  · have heq (a b : Bool) : (Pump.awaitingRest { x with grant := .none }).flagged a b =
        { x with grant := .none, cause := some .rest, pairRefused := a, haltRefused := b } := by
      simp only [Pump.awaitingRest, Pump.flagged, hs]
    rcases h with hc | ⟨hn, hroom⟩
    · obtain ⟨a, b, hy⟩ := hserves.pump_ordered hm (by rwa [hclaim]) (by simp [Pump.awaitingRest])
      exact ⟨a, b, by rw [hy, heq]⟩
    · have hs' : (s.works.grantReturned i).dewater.sumps = s.works.dewater.sumps := by
        rw [Works.grantReturned, Works.dropPumpGrant_sumps, Works.updPump_sumps]
      have hcount := Works.ableOf_congr (s.works.grantReturned_pumps i) (fun _ _ => ⟨rfl, rfl⟩) x.sump
      have hcalm := Works.calm_movePump (f := Pump.awaitingRest) hu (Pump.able_awaitingRest hs)
        (fun _ => ⟨rfl, rfl⟩) (Works.noneOrdered_congr (s.works.grantReturned_pumps i) (fun _ => ⟨rfl, rfl⟩) hn)
        (by rw [hs', hcount]; exact hroom)
      refine ⟨x.pairRefused, x.haltRefused, ?_⟩
      rw [← heq]
      exact hcalm.serve_pump hm (by simp [Pump.awaitingRest, Pump.flagged])

end Granted

/-! ## Demand (R50) -/

section Demand

variable {w : Works} {si d : Nat} {s : Sump} {c : Channel}

/-- The table of R50, row by row. -/
theorem demandOf_rows (s : Sump) (c : Channel) (n : Nat) (hn : n = ([Role.start1, .start2, .start3, .start4].filter c.isAbove).length) :
    (s.cutout.state = .active → demandOf s (some c) = 0) ∧
    (s.cutout.state ≠ .active → c.validity ≠ .valid → s.high.state = .active → demandOf s (some c) = s.duty) ∧
    (s.cutout.state ≠ .active → c.validity ≠ .valid → s.high.state ≠ .active → demandOf s (some c) = s.demand) ∧
    (s.cutout.state ≠ .active → c.validity = .valid → c.isBelow .stop = true → demandOf s (some c) = 0) ∧
    (s.cutout.state ≠ .active → c.validity = .valid → c.isBelow .stop = false → c.isAbove .start1 = true →
      demandOf s (some c) = if s.storm then s.duty else max s.demand (min s.duty n)) ∧
    (s.cutout.state ≠ .active → c.validity = .valid → c.isBelow .stop = false → c.isAbove .start1 = false →
      demandOf s (some c) = s.demand) := by
  subst hn
  refine ⟨fun h => if_pos h, fun h hv hh => ?_, fun h hv hh => ?_, fun h hv hb => ?_, fun h hv hb ha => ?_, fun h hv hb ha => ?_⟩
  · simp only [demandOf, if_neg h, if_pos hv, if_pos hh]
  · simp only [demandOf, if_neg h, if_pos hv, if_neg hh]
  · simp [demandOf, h, hv, hb]
  · simp [demandOf, h, hv, hb, ha]
  · simp [demandOf, h, hv, hb, ha]

/-- A change of the demand or of the target is recorded (R50). -/
theorem Works.setFigures_recorded (hs : w.dewater.sumps[si]? = some s)
    (h : s.demand ≠ d ∨ min s.demand s.able ≠ min d (w.ableOf si)) :
    (w.setFigures si d).recorded .demand si (some s.demand) (some d)
      [flag s.storm, min d (w.ableOf si), w.ableOf si, s.list.length] false := by
  simp only [Works.setFigures, hs]
  split
  · next hsame => exact (h.elim (fun hd => hd hsame.1) fun ht => ht hsame.2).elim
  · exact Works.recorded_record _ _ _ _ _ _ _

theorem Works.judgeDemand_eq (hs : w.dewater.sumps[si]? = some s) (hc : w.water.channels[s.level]? = some c) :
    w.judgeDemand si = (w.setFigures si (demandOf s (some c))).serve si := by
  simp only [Works.judgeDemand, Works.refigure, hs, hc]

theorem Works.judgeDemand_spec (hs : w.dewater.sumps[si]? = some s) (hc : w.water.channels[s.level]? = some c)
    (hd : d = demandOf s (some c)) :
    (∃ y, (w.judgeDemand si).dewater.sumps[si]? = some y ∧ y.demand = d) ∧
    ((s.demand ≠ d ∨ min s.demand s.able ≠ min d (w.ableOf si)) →
      (w.judgeDemand si).recorded .demand si (some s.demand) (some d)
        [flag s.storm, min d (w.ableOf si), w.ableOf si, s.list.length] false) := by
  rw [Works.judgeDemand_eq hs hc, ← hd]
  have hu : (w.setFigures si d).dewater.sumps[si]? = some { s with demand := d, able := w.ableOf si } := by
    rw [Works.setFigures_dewater]
    exact getElem?_updAt_self hs
  obtain ⟨y, hy, hset⟩ := (Works.serve_serves si _).sump hu
  exact ⟨⟨y, hy, congrArg Sump.demand hset⟩,
    fun h => (Works.serve_only si _).recorded (by decide) (Works.setFigures_recorded hs h)⟩

end Demand

/-! ## The first change of serving (R52) -/

section FirstChange

variable {w v : Works} {si i k : Nat} {s : Sump} {p : Pump}

/-- A station that takes orders serves, and its first change is the one that `serveOnce` finds. -/
theorem Works.serve_of_once (ht : w.takesOrders) (h : w.serveOnce si = some v) : w.serve si = serveLoop si 63 v := by
  rw [Works.serve, if_pos ht, serveLoop, h]

theorem Works.serve_of_call (ht : w.takesOrders) (h : w.serveOnce si = none) (hc : w.callForDemand si = some v) :
    w.serve si = serveLoop si 63 v := by
  rw [Works.serve, if_pos ht, serveLoop, h, hc]

theorem Works.serve_still (h : w.serveOnce si = none) (hc : w.callForDemand si = none) : w.serve si = w := by
  rw [Works.serve]
  split
  · rw [serveLoop, h, hc]
  · rfl

/-- The first callable pump from the lead on is the one a call for demand takes. -/
theorem Works.demandToCall_first (hk : (s.rotation.drop s.lead ++ s.rotation.take s.lead)[k]? = some i)
    (hfirst : ∀ j ∈ (s.rotation.drop s.lead ++ s.rotation.take s.lead).take k, ¬ w.callable j) (hi : w.callable i) :
    w.demandToCall s = some i := by
  obtain ⟨hlt, hget⟩ := List.getElem?_eq_some_iff.mp hk
  refine List.find?_eq_some_iff_getElem.mpr ⟨?_, k, hlt, hget, fun j hj => ?_⟩
  · obtain ⟨ha, q, hq, hs⟩ := hi
    simp [ha, hq, hs]
  · have hn := hfirst _ (List.mem_take_iff_getElem.mpr ⟨j, by omega, rfl⟩)
    rw [Bool.not_eq_true', Bool.eq_false_iff]
    intro hb
    rw [Bool.and_eq_true, decide_eq_true_eq] at hb
    refine hn ⟨hb.1, ?_⟩
    have hst := hb.2
    split at hst
    · next q hq => exact ⟨q, hq, by simpa using hst⟩
    · cases hst

/-- A pump that serves its sump counts there. -/
theorem Works.ableOf_pos (hp : w.dewater.pumps[i]? = some p) (hs : p.sump = si) (ha : p.able = true) : 0 < w.ableOf si :=
  List.length_pos_of_mem (List.mem_filter.mpr ⟨List.mem_of_getElem? hp, by simp [hs, ha]⟩)

/-- A first call into an empty list leaves the sump calm: the called pump is able. -/
theorem Works.calm_firstCall (hs : w.dewater.sumps[si]? = some s) (hn : w.noneOrdered si) (hl : s.list = [])
    (ht : 0 < s.demand) (hp : w.dewater.pumps[i]? = some p) (hsi : p.sump = si) (hint : p.intent = none) : (w.callPump i).calm si := by
  have hpumps := Works.callPump_pumps i w
  have hcount : (w.updPump i Pump.called).ableOf p.sump = (w.callPump i).ableOf si := by
    rw [Works.ableOf, Works.ableOf, hpumps, hsi]
    rfl
  have hpos : 0 < (w.callPump i).ableOf si :=
    Works.ableOf_pos (p := p.called) (by rw [hpumps, getElem?_updAt_self hp]) hsi (by simp [Pump.able, Pump.called, hint])
  refine ⟨Works.noneOrdered_congr hpumps (fun _ => ⟨rfl, rfl⟩) hn, fun z hz => ?_⟩
  rw [Works.callPump_sumps hp, hcount, hsi, getElem?_updAt_self hs, Option.some.injEq] at hz
  subst hz
  refine ⟨?_, rfl⟩
  simp only [Sump.joinedBy, hl, Sump.target, List.nil_append, List.length_singleton]
  omega

/-- Serving a calm sump keeps the first member of its list. -/
theorem serveLoop_calm_head (n : Nat) (hw : w.calm si) (h : ∃ y, w.dewater.sumps[si]? = some y ∧ y.list.head? = some i) :
    ∃ y, (serveLoop si n w).dewater.sumps[si]? = some y ∧ y.list.head? = some i := by
  refine serveLoop_calm_induction (P := fun v => ∃ y, v.dewater.sumps[si]? = some y ∧ y.list.head? = some i) n hw h ?_
  rintro j v q ⟨y, hy, hl⟩ hq -
  obtain ⟨a, b, hz⟩ := Works.callPump_sump hq hy
  refine ⟨_, hz, ?_⟩
  dsimp only
  split
  · simp [Sump.joinedBy, hl]
  · exact hl

theorem Works.serve_calls_lead (hs : w.dewater.sumps[si]? = some s) (hst : w.station.state = .running) (hn : w.noneOrdered si)
    (hc : s.cutout.state ≠ .active) (hl : s.list = []) (ht : 0 < s.target)
    (hk : (s.rotation.drop s.lead ++ s.rotation.take s.lead)[k]? = some i)
    (hfirst : ∀ j ∈ (s.rotation.drop s.lead ++ s.rotation.take s.lead).take k, ¬ w.callable j) (hi : w.callable i)
    (hp : w.dewater.pumps[i]? = some p) (hsi : p.sump = si) (hint : p.intent = none) :
    (w.serve si).handed (.loadRequest i 1 p.runPower) ∧
    (∃ y, (w.serve si).dewater.sumps[si]? = some y ∧ y.list.head? = some i) ∧
    ∃ q, (w.serve si).dewater.pumps[i]? = some q ∧ q.state = .waiting ∧ q.cause = some .grant ∧ q.grant = .requested := by
  have hcall : w.callForDemand si = some (w.callPump i) := by
    simp only [Works.callForDemand, hs]
    rw [if_pos ⟨by simpa [hl] using ht, hst, hc⟩, Works.demandToCall_first hk hfirst hi, Option.map_some]
  have hdemand : 0 < s.demand := by
    rw [Sump.target] at ht
    omega
  have hcalm := Works.calm_firstCall hs hn hl hdemand hp hsi hint
  have hp' : (w.callPump i).dewater.pumps[i]? = some p.called := by rw [Works.callPump_pumps, getElem?_updAt_self hp]
  rw [Works.serve_of_call (.inr hst) (Works.serveOnce_none hs (by simp [hl]) (.inl hn)) hcall]
  refine ⟨?_, serveLoop_calm_head 63 hcalm ?_, p.called, serveLoop_calm_pump 63 hcalm hp' (by simp [Pump.called]), rfl, rfl, rfl⟩
  · have hr := Works.callPump_requests hp (s := s) (by rw [hsi, hs])
    rw [if_pos (by simp [Sump.joinedBy, hl])] at hr
    exact (serveLoop_serves si 63 .refl).leads.handed (by decide) hr
  · obtain ⟨a, b, hz⟩ := Works.callPump_sump hp hs
    exact ⟨_, hz, by simp [Sump.joinedBy, hl, hsi]⟩

/-- Of several pumps with an ordered intent RUN the one with the lowest index is called (log 27). -/
theorem Works.orderedToCall_first (hp : w.dewater.pumps[i]? = some p) (hsi : p.sump = si) (hint : p.intent = some .run)
    (hst : p.state = .idle) (hl : i ∉ s.list) (hfirst : ∀ j q, j < i → w.dewater.pumps[j]? = some q → q.sump = si →
      q.intent = some .run → q.state = .idle → j ∈ s.list) : w.orderedToCall si s = some i := by
  obtain ⟨before, after, hsplit⟩ := List.append_of_mem (mem_indexed_zero.mpr hp)
  have hasc := indexed_ascends 0 w.dewater.pumps
  rw [hsplit, List.pairwise_append] at hasc
  have hfind : (indexed 0 w.dewater.pumps).find? (fun ip => ip.2.sump == si && decide (ip.2.intent = some .run) &&
      decide (ip.2.state = .idle) && !(s.list.contains ip.1)) = some (i, p) := by
    refine List.find?_eq_some_iff_append.mpr ⟨by simp [hsi, hint, hst, hl], before, after, hsplit, fun ⟨j, q⟩ hj => ?_⟩
    have hlt : j < i := hasc.2.2 _ hj _ (List.mem_cons_self ..)
    have hq : w.dewater.pumps[j]? = some q := mem_indexed_zero.mp (by rw [hsplit]; exact List.mem_append_left _ hj)
    have hin := hfirst j q hlt hq
    simp only [Bool.not_eq_true', Bool.eq_false_iff, ne_eq, Bool.and_eq_true, beq_iff_eq, decide_eq_true_eq,
      List.contains_eq_mem]
    rintro ⟨⟨⟨h1, h2⟩, h3⟩, h4⟩
    exact h4 (hin h1 h2 h3)
  simp only [Works.orderedToCall, hfind, Option.map_some]

theorem Works.serve_calls_ordered (hs : w.dewater.sumps[si]? = some s) (ht : w.takesOrders) (hc : s.cutout.state ≠ .active)
    (hroom : s.list.length ≤ s.target ∨ ∀ j ∈ s.list, w.claimOf (.pump j) ≠ .auto) (hduty : s.list.length < s.duty)
    (hp : w.dewater.pumps[i]? = some p) (hsi : p.sump = si) (hint : p.intent = some .run) (hst : p.state = .idle)
    (hclaim : w.claimOf (.pump i) = .ordered) (hl : i ∉ s.list) (hfirst : ∀ j q, j < i → w.dewater.pumps[j]? = some q →
      q.sump = si → q.intent = some .run → q.state = .idle → j ∈ s.list) :
    (w.serve si).handed (.loadRequest i (if s.list = [] then 1 else 2) p.runPower) ∧
    ∃ q, (w.serve si).dewater.pumps[i]? = some q ∧ q.state = .waiting ∧ q.cause = some .grant ∧ q.grant = .requested := by
  have hnoSurplus : (if s.target < s.list.length then w.newestAuto s.list else none) = none := by
    rcases hroom with hle | hauto
    · exact if_neg (by omega)
    · have hnone : w.newestAuto s.list = none := by
        rw [Works.newestAuto, List.find?_eq_none]
        intro j hj
        simpa using hauto j (List.mem_reverse.mp hj)
      rw [hnone, ite_self]
  have honce : w.serveOnce si = some (w.callPump i) := by
    simp only [Works.serveOnce, hs, hnoSurplus, if_neg hc, Works.orderedToCall_first hp hsi hint hst hl hfirst, if_pos hduty]
  rw [Works.serve_of_once ht honce]
  have hserves := serveLoop_serves si 63 (u := w.callPump i) .refl
  constructor
  · have hr := Works.callPump_requests hp (s := s) (by rw [hsi, hs])
    have hhead : (s.joinedBy i).list.head? = some i ↔ s.list = [] := by
      cases hlist : s.list with
      | nil => simp [Sump.joinedBy, hlist]
      | cons j rest =>
        have hne : j ≠ i := by
          rintro rfl
          exact hl (by simp [hlist])
        simpa [Sump.joinedBy, hlist] using hne
    simp only [hhead] at hr
    exact hserves.leads.handed (by decide) hr
  · have hp' : (w.callPump i).dewater.pumps[i]? = some p.called := by rw [Works.callPump_pumps, getElem?_updAt_self hp]
    have hc' : (w.callPump i).claimOf (.pump i) ≠ .auto := by
      rw [Works.claimOf_congr ((Works.callPump_only i w).claims_eq (by decide)), hclaim]
      decide
    obtain ⟨a, b, hq⟩ := hserves.pump_ordered hp' hc' (by simp [Pump.called])
    exact ⟨_, hq, rfl, rfl, rfl⟩

/-- A surplus costs the newest member with claim AUTO its place. -/
theorem Works.serveOnce_surplus {old new : List Nat} (hs : w.dewater.sumps[si]? = some s) (hl : s.list = old ++ i :: new)
    (hsur : s.target < s.list.length) (hi : w.claimOf (.pump i) = .auto) (hnew : ∀ j ∈ new, w.claimOf (.pump j) ≠ .auto) :
    w.serveOnce si = some (w.dismiss i) := by
  have hnone : new.reverse.find? (fun j => decide (w.claimOf (.pump j) = .auto)) = none := by
    rw [List.find?_eq_none]
    intro j hj
    simpa using hnew j (List.mem_reverse.mp hj)
  have hnewest : w.newestAuto s.list = some i := by
    rw [Works.newestAuto, hl, List.reverse_append, List.reverse_cons, List.append_assoc, List.find?_append, hnone]
    simp [hi]
  simp only [Works.serveOnce, hs, if_pos hsur, hnewest]

theorem Works.serve_dismisses {old new : List Nat} (hs : w.dewater.sumps[si]? = some s) (ht : w.takesOrders)
    (hl : s.list = old ++ i :: new) (hsur : s.target < s.list.length) (hi : w.claimOf (.pump i) = .auto)
    (hnew : ∀ j ∈ new, w.claimOf (.pump j) ≠ .auto) (hp : w.dewater.pumps[i]? = some p) (hsi : p.sump = si)
    (hst : p.state = .starting ∨ p.state = .running) :
    (∃ q, (w.serve si).dewater.pumps[i]? = some q ∧ q.state = .stopping ∧ q.mark = .demand) ∧
    (∃ y, (w.serve si).dewater.sumps[si]? = some y ∧ i ∉ y.list) ∧
    (w.lineRoom → (w.serve si).haltWaits p.unit p.motor) := by
  rw [Works.serve_of_once ht (Works.serveOnce_surplus hs hl hsur hi hnew)]
  have hserves := serveLoop_serves si 63 (u := w.dismiss i) .refl
  obtain ⟨a, b, hq⟩ := Works.dismiss_pump (i := i) hp
  have hstop : (p.dismissed w.now).state = .stopping ∧ (p.dismissed w.now).mark = .demand := by
    rcases hst with hst | hst <;> simp [Pump.dismissed, hst]
  rw [if_pos rfl] at hq
  obtain ⟨n, l, hz⟩ := Works.dismiss_sump hp hs
  rw [if_pos hsi.symm] at hz
  refine ⟨?_, ?_, fun hr => hserves.halts (Works.dismiss_waits hp hst hr)⟩
  · refine hserves.pump (Q := fun q => q.state = .stopping ∧ q.mark = .demand) hq hstop (fun _ _ _ h => h) ?_ ?_
    · rintro - y ⟨hy, -⟩
      simp [Pump.dismissed, hy]
    · rintro y ⟨hy, -⟩ hidle
      simp [hy] at hidle
  · exact hserves.unlisted hq ⟨by simp [Pump.flagged, hstop.1], by simp [Pump.flagged, hstop.1]⟩ hz (Sump.not_mem_without i s)

/-- In HELD no pump is called for demand. -/
theorem Works.serve_held (hs : w.dewater.sumps[si]? = some s) (hst : w.station.state = .held) (hn : w.noneOrdered si)
    (hr : s.list.length ≤ s.target) : w.serve si = w :=
  Works.serve_still (Works.serveOnce_none hs hr (.inl hn)) (by simp [Works.callForDemand, hs, hst])

end FirstChange

/-! ## The cutout float (R51) -/

section Cutout

variable {w v : Works} {si : Nat} {s z : Sump} {l : List Nat}

theorem Pump.dismissed_sump {p : Pump} (now : Nat) : (p.dismissed now).sump = p.sump := by
  unfold Pump.dismissed
  repeat' split
  all_goals rfl

/-- Dismissals of pumps of one sump take each of them out of its list, and bring none in. -/
theorem each_dismiss_unlists (hz : v.dewater.sumps[si]? = some z) (hl : ∀ i ∈ l, ∃ p, v.dewater.pumps[i]? = some p ∧ p.sump = si) :
    ∃ y, (each l Works.dismiss v).dewater.sumps[si]? = some y ∧ y.setup = z.setup ∧ y.list ⊆ z.list ∧
      ∀ i ∈ l, i ∉ y.list := by
  induction l generalizing v z with
  | nil => exact ⟨z, hz, rfl, List.Subset.refl _, by simp⟩
  | cons i l ih =>
    obtain ⟨p, hp, hsi⟩ := hl i (List.mem_cons_self ..)
    obtain ⟨n, a, hz'⟩ := Works.dismiss_sump hp hz
    rw [if_pos hsi.symm] at hz'
    have hl' : ∀ j ∈ l, ∃ q, (v.dismiss i).dewater.pumps[j]? = some q ∧ q.sump = si := fun j hj => by
      obtain ⟨q, hq, hqs⟩ := hl j (List.mem_cons_of_mem _ hj)
      obtain ⟨a, b, hq'⟩ := Works.dismiss_pump (i := i) hq
      refine ⟨_, hq', Eq.trans ?_ hqs⟩
      split
      · exact Pump.dismissed_sump _
      · rfl
    obtain ⟨y, hy, hset, hsub, hout⟩ := ih hz' hl'
    refine ⟨y, hy, hset, fun j hj => (List.mem_filter.mp (hsub hj)).1, fun j hj => ?_⟩
    rcases List.mem_cons.mp hj with rfl | hj
    · exact fun hm => Sump.not_mem_without j z (hsub hm)
    · exact hout j hj

/-- The works as the record of the cutout float's ACTIVE leaves it. -/
def Works.cutoutSeen (si : Nat) (old : FloatState) (w : Works) : Works :=
  (w.updSump si (fun s => { s with cutout := { s.cutout with state := .active } })).record .float si (some old.code)
    (some FloatState.active.code) [0] false

theorem Works.setFloat_cutout (hs : w.dewater.sumps[si]? = some s) (hc : s.cutout.state ≠ .active) :
    w.setFloat si false .active =
      (each s.list.reverse Works.dismiss ((w.cutoutSeen si s.cutout.state).setFigures si 0)).serve si := by
  have hu : (w.cutoutSeen si s.cutout.state).dewater.sumps[si]? = some { s with cutout := { s.cutout with state := .active } } :=
    getElem?_updAt_self hs
  have hf : s.floatState false ≠ .active := hc
  simp only [Works.setFloat, hs, if_neg hf, Works.takeFloat]
  rw [if_pos (by rfl)]
  change Works.serve si (Works.cutoutActive si (w.cutoutSeen si s.cutout.state)) = _
  simp only [Works.cutoutActive, hu]

theorem Works.setFloat_cutout_spec (hs : w.dewater.sumps[si]? = some s) (hc : s.cutout.state ≠ .active)
    (hl : ∀ i ∈ s.list, ∃ p, w.dewater.pumps[i]? = some p ∧ p.sump = si) :
    (w.setFloat si false .active).recorded .float si (some s.cutout.state.code) (some FloatState.active.code) [0] false ∧
    ∃ y, (w.setFloat si false .active).dewater.sumps[si]? = some y ∧ y.cutout.state = .active ∧ y.demand = 0 ∧ y.list = [] := by
  have hu : (w.cutoutSeen si s.cutout.state).dewater.sumps[si]? = some { s with cutout := { s.cutout with state := .active } } :=
    getElem?_updAt_self hs
  have hfig : ((w.cutoutSeen si s.cutout.state).setFigures si 0).dewater.sumps[si]? =
      some { s with cutout := { s.cutout with state := .active }, demand := 0, able := (w.cutoutSeen si s.cutout.state).ableOf si } := by
    rw [Works.setFigures_dewater]
    exact getElem?_updAt_self hu
  have hpumps : ((w.cutoutSeen si s.cutout.state).setFigures si 0).dewater.pumps = w.dewater.pumps := by
    rw [Works.setFigures_dewater]
    rfl
  obtain ⟨y, hy, hset, hsub, hout⟩ := each_dismiss_unlists (l := s.list.reverse) hfig
    fun i hi => by rw [hpumps]; exact hl i (List.mem_reverse.mp hi)
  have hempty : y.list = [] := by
    refine List.eq_nil_iff_forall_not_mem.mpr fun i hi => hout i (List.mem_reverse.mpr ?_) hi
    exact hsub hi
  have hcut : y.cutout.state = .active := congrArg (fun s => s.cutout.state) hset
  have hstill := Works.serve_still (Works.serveOnce_none hy (by simp [hempty]) (.inr hcut))
    (by simp [Works.callForDemand, hy, hcut])
  rw [Works.setFloat_cutout hs hc, hstill]
  refine ⟨?_, y, hy, hcut, congrArg Sump.demand hset, hempty⟩
  have hrec : (w.cutoutSeen si s.cutout.state).recorded .float si (some s.cutout.state.code) (some FloatState.active.code) [0] false :=
    Works.recorded_record _ _ _ _ _ _ _
  have hafter : Works.Leads Part.ofServing (w.cutoutSeen si s.cutout.state)
      (each s.list.reverse Works.dismiss ((w.cutoutSeen si s.cutout.state).setFigures si 0)) :=
    each_leads _ _ _ (fun i v hv => Works.dismiss_leads i v (by decide) hv) (Works.setFigures_leads _ _ _ (by decide) .refl)
  exact hafter.recorded (by decide) hrec

end Cutout

/-! ## The lead (R53) -/

section Lead

variable {w : Works} {si k : Nat} {s : Sump}

/-- The first position after the lead that meets a test. -/
theorem find_positionsAfter {f : Nat → Bool} {lead n : Nat} (hk : k + 1 < n) (hf : f ((lead + 1 + k) % n) = true)
    (hskip : ∀ j, j < k → f ((lead + 1 + j) % n) = false) : (positionsAfter lead n).find? f = some ((lead + 1 + k) % n) := by
  rw [positionsAfter, List.find?_map, Option.map_eq_some_iff]
  exact ⟨k, List.find?_range_eq_some.mpr ⟨hf, List.mem_range.mpr (by omega), fun j hj => by simp [hskip j hj]⟩, rfl⟩

theorem Works.advanceLead_moves (hs : w.dewater.sumps[si]? = some s) (hd : s.demand = 0) (hl : s.list = [])
    (hstop : ∀ p ∈ w.dewater.pumps, p.sump = si → p.state ≠ .stopping) (hk : k + 1 < s.rotation.length)
    (hnext : ∃ p, w.dewater.pumps[s.rotation.getD ((s.lead + 1 + k) % s.rotation.length) 0]? = some p ∧
      p.state ≠ .outOfService ∧ p.state ≠ .tripped)
    (hskip : ∀ j, j < k → ∀ p, w.dewater.pumps[s.rotation.getD ((s.lead + 1 + j) % s.rotation.length) 0]? = some p →
      p.state = .outOfService ∨ p.state = .tripped) :
    w.advanceLead si = w.setLead si ((s.lead + 1 + k) % s.rotation.length) 0 := by
  have hrest : s.demand = 0 ∧ s.list = [] ∧ !(w.dewater.pumps.any (fun p => p.sump == si && decide (p.state = .stopping))) := by
    refine ⟨hd, hl, ?_⟩
    rw [Bool.not_eq_true', List.any_eq_false]
    intro p hp
    simpa using hstop p hp
  simp only [Works.advanceLead, hs]
  rw [if_pos hrest, find_positionsAfter hk]
  · obtain ⟨p, hp, hno, hnt⟩ := hnext
    simp only [hp, hno, hnt, decide_false, Bool.or_false, Bool.not_false]
  · intro j hj
    cases hp : w.dewater.pumps[s.rotation.getD ((s.lead + 1 + j) % s.rotation.length) 0]? with
    | none => rfl
    | some p => rcases hskip j hj p hp with h | h <;> simp only [h] <;> rfl

theorem Works.setLead_spec (hs : w.dewater.sumps[si]? = some s) (n why : Nat) :
    (w.setLead si n why).dewater.sumps[si]? = some { s with lead := n } ∧
    (w.setLead si n why).recorded .lead si (some s.lead) (some n) [s.rotation.getD n 0, why] false := by
  rw [Works.setLead_eq hs]
  exact ⟨getElem?_updAt_self hs, Works.recorded_record _ _ _ _ _ _ _⟩

end Lead

/-- Settles O34: serving's first change is found by the rules of R52, and what comes after it leaves the called or dismissed pump. -/
theorem pumpGrantNotice : Obligations.PumpGrantNotice := by
  unfold Obligations.PumpGrantNotice
  refine ⟨fun p x s hx => ⟨fun hs hg hr hl => pumpGrantNotice_starts hx hs hg hr hl,
      fun hs hg hr => pumpGrantNotice_waits hx hs hg hr, fun h => ?_⟩,
    fun s c n hn => demandOf_rows s c n hn,
    fun w si d s c hs hc hd => Works.judgeDemand_spec hs hc hd,
    fun w si k i s p hs hst hn hc hl ht _ hk hfirst hi hp hsi hint =>
      Works.serve_calls_lead hs hst hn hc hl ht hk hfirst hi hp hsi hint,
    fun w si i s p hs ht hc hroom hduty hp hsi hint hst hclaim hl hfirst =>
      Works.serve_calls_ordered hs ht hc hroom hduty hp hsi hint hst hclaim hl hfirst,
    fun w si i s p old new hs ht hl hsur hi hnew hp hsi hst => Works.serve_dismisses hs ht hl hsur hi hnew hp hsi hst,
    fun w si s hs hst hn hr => Works.serve_held hs hst hn hr,
    fun w si s hs hc hl => Works.setFloat_cutout_spec hs hc hl,
    fun w si k s hs hd hl hstop hk hnext hskip => ?_⟩
  · rw [exec_pumpGrantNotice, Works.pumpGranted_unasked hx h]
  · rw [Works.advanceLead_moves hs hd hl hstop hk hnext hskip]
    exact Works.setLead_spec hs _ 0

end Sys2Proof.Machine

namespace Sys2Proof.Machine

open Sys2Proof

/-! # Pump orders: the claim and the superseded orders (R66, R125), PUMP RUN and PUMP STOP (R67, R68) -/

section Positions

variable {α : Type} {l : List α} {p : α → Bool} {f : α → α} {k : Nat}

theorem find?_of_posOf_none (h : posOf p l = none) : l.find? p = none := by
  induction l with
  | nil => rfl
  | cons x l ih =>
    by_cases hp : p x = true
    · simp [posOf, hp] at h
    · rw [posOf, if_neg hp, Option.map_eq_none_iff] at h
      rw [List.find?_cons_of_neg hp, ih h]

/-- The position of the first element that meets a test holds one that does. -/
theorem getElem?_of_posOf (h : posOf p l = some k) : ∃ a, l[k]? = some a ∧ p a = true := by
  induction l generalizing k with
  | nil => cases h
  | cons x l ih =>
    by_cases hp : p x = true
    · rw [posOf, if_pos hp, Option.some.injEq] at h
      subst h
      exact ⟨x, rfl, hp⟩
    · rw [posOf, if_neg hp, Option.map_eq_some_iff] at h
      obtain ⟨j, hj, rfl⟩ := h
      exact ih hj

/-- The first element that meets a test, after a change of it that still meets it. -/
theorem find?_updAt_posOf (hf : ∀ a, p a = true → p (f a) = true) (h : posOf p l = some k) :
    (updAt f k l).find? p = (l.find? p).map f := by
  induction l generalizing k with
  | nil => cases h
  | cons x l ih =>
    by_cases hp : p x = true
    · rw [posOf, if_pos hp, Option.some.injEq] at h
      subst h
      rw [updAt, List.find?_cons_of_pos (hf x hp), List.find?_cons_of_pos hp, Option.map_some]
    · rw [posOf, if_neg hp, Option.map_eq_some_iff] at h
      obtain ⟨j, hj, rfl⟩ := h
      rw [updAt, List.find?_cons_of_neg hp, List.find?_cons_of_neg hp, ih hj]

end Positions

/-! ## Claims (R125) -/

section Claims

variable {w : Works} {s : ClaimSubject} {v : ClaimValue} {slot : Option Nat} {cause : ClaimCause} {d : Nat}

theorem Works.claimEntry_of_commands (h : (w.claimOf s).commands = true) : ∃ c, w.claimEntry s = some c := by
  cases hc : w.claimEntry s with
  | none => simp [Works.claimOf, hc, ClaimValue.commands] at h
  | some c => exact ⟨c, rfl⟩

theorem Works.setClaim_claimOf {c : Claim} (hc : w.claimEntry s = some c) : (w.setClaim s v slot cause d).claimOf s = v := by
  cases hk : posOf (fun c : Claim => decide (c.subject = s)) w.claims with
  | none => rw [Works.claimEntry, find?_of_posOf_none hk] at hc; cases hc
  | some k =>
    obtain ⟨a, ha, -⟩ := getElem?_of_posOf hk
    have hset : (w.setClaim s v slot cause d).claims =
        updAt (fun c => { c with value := v, slot := slot, changed := w.now }) k w.claims := by
      simp only [Works.setClaim, hk, ha]
      rfl
    have hentry : (w.setClaim s v slot cause d).claimEntry s = some { c with value := v, slot := slot, changed := w.now } := by
      rw [Works.claimEntry] at hc
      rw [Works.claimEntry, hset, find?_updAt_posOf ?_ hk, hc, Option.map_some]
      exact fun _ h => h
    simp only [Works.claimOf, hentry]

/-- An accepted order leaves the claim ORDERED (R125). -/
theorem Works.orderClaim_claimOf (n : Nat) (h : (w.claimOf s).commands = true) : (w.orderClaim s n).claimOf s = .ordered := by
  obtain ⟨c, hc⟩ := Works.claimEntry_of_commands h
  unfold Works.orderClaim
  split
  · next ho =>
    rw [← ho]
    have hf : (fun c : Claim => decide (c.subject = s)) ∘ (fun c => if c.subject = s then { c with slot := some n } else c) =
        fun c => decide (c.subject = s) := by
      funext c
      simp only [Function.comp_apply]
      split <;> rfl
    simp only [Works.claimOf, Works.claimEntry, List.find?_map, hf]
    rw [Works.claimEntry] at hc
    rw [hc, Option.map_some]
    dsimp only
    split <;> rfl
  · exact Works.setClaim_claimOf hc

/-- PUMP AUTO leaves the claim AUTO (R125). -/
theorem Works.autoClaim_claimOf (n : Nat) (h : (w.claimOf s).commands = true) : (w.autoClaim s n).claimOf s = .auto := by
  obtain ⟨c, hc⟩ := Works.claimEntry_of_commands h
  unfold Works.autoClaim
  split
  · exact Works.setClaim_claimOf hc
  · next ho => exact ((ClaimValue.commands_iff _).mp h).resolve_right ho

theorem Works.orderClaim_only (s : ClaimSubject) (n : Nat) (w : Works) : Works.Leads [.claims] w (w.orderClaim s n) :=
  Works.orderClaim_leads s n w (by decide) .refl

theorem Works.autoClaim_only (s : ClaimSubject) (n : Nat) (w : Works) : Works.Leads [.claims] w (w.autoClaim s n) :=
  Works.autoClaim_leads s n w (by decide) .refl

end Claims

/-! ## Orders taken up and superseded (R66) -/

section Orders

variable {w v : Works} {o : Order} {a : Active}

/-- The records that a pump order changes. -/
def Part.ofPumpOrder : List Part := [.dewater, .portals, .lights, .claims, .active, .line]

theorem Works.Leads.keepsButClaims (h : Works.Leads Part.ofPumpOrder w v) : w.keepsButClaims v :=
  ⟨h.keepsAll (by decide) (by decide), h.water_eq (by decide), h.budget_eq (by decide), h.reports_eq (by decide),
    h.fresh_eq (by decide)⟩

theorem Works.supersedePump_only (o : Order) (w : Works) : Works.Leads [.active] w (w.supersedePump o) :=
  Works.supersedePump_leads o w (by decide) .refl

theorem Works.supersedePump_completed (ha : a ∈ w.active) (hi : a.subject = o.subject)
    (hc : a.code = .pumpRun ∨ a.code = .pumpStop ∨ a.code = .pumpService) :
    (w.supersedePump o).completed a.slot 7 o.slot 0 :=
  Works.completeAll_completed ha (by rcases hc with hc | hc | hc <;> simp [hi, hc]) (fun b v => Works.complete_only _ _ _ _ _ v)
    fun _ => rfl

/-- A pump order that is accepted and goes on: the orders before it are superseded, the claim is ORDERED, and it is ACTIVE. -/
def Works.accept (o : Order) (w : Works) : Works :=
  ((w.supersedePump o).orderClaim (.pump o.subject) o.slot).hold (o.active 0)

theorem Works.accept_leads {ps : List Part} {w0 : Works} (o : Order) (w : Works) (hp : [Part.claims, Part.active] ⊆ ps)
    (h : Works.Leads ps w0 w) : Works.Leads ps w0 (w.accept o) :=
  Works.hold_leads _ _ (sub_trans (by decide) hp) (Works.orderClaim_leads _ _ _ (sub_trans (by decide) hp)
    (Works.supersedePump_leads _ _ (sub_trans (by decide) hp) h))

theorem Works.accept_only (o : Order) (w : Works) : Works.Leads [.claims, .active] w (w.accept o) :=
  Works.accept_leads o w (by decide) .refl

@[simp] theorem Works.accept_dewater (o : Order) (w : Works) : (w.accept o).dewater = w.dewater :=
  (w.accept_only o).dewater_eq (by decide)

@[simp] theorem Works.accept_line (o : Order) (w : Works) : (w.accept o).line = w.line :=
  (w.accept_only o).line_eq (by decide)

theorem Works.accept_claimOf (h : (w.claimOf (.pump o.subject)).commands = true) :
    (w.accept o).claimOf (.pump o.subject) = .ordered := by
  refine Works.orderClaim_claimOf _ ?_
  rwa [Works.claimOf_congr ((w.supersedePump_only o).claims_eq (by decide))]

theorem Works.accept_completed (ha : a ∈ w.active) (hi : a.subject = o.subject)
    (hc : a.code = .pumpRun ∨ a.code = .pumpStop ∨ a.code = .pumpService) : (w.accept o).completed a.slot 7 o.slot 0 := by
  have h : Works.Leads [.claims, .active] (w.supersedePump o) (w.accept o) :=
    Works.hold_leads _ _ (by decide) (Works.orderClaim_leads _ _ _ (by decide) .refl)
  exact h.completed (by decide) (Works.supersedePump_completed ha hi hc)

theorem Works.accept_active (o : Order) (w : Works) : o.active 0 ∈ (w.accept o).active :=
  List.mem_append_right _ (List.mem_singleton_self _)

theorem ClaimValue.refuses_of_not_commands {v : ClaimValue} (h : v.commands = false) : (!v.commands) = true := by rw [h]; rfl

theorem ClaimValue.not_refuses_of_commands {v : ClaimValue} (h : v.commands = true) : ¬ (!v.commands) = true := by rw [h]; decide

end Orders

/-! ## What serving leaves of an order's work -/

section Ordered

variable {w v : Works} {i si : Nat} {x : Pump} {a : Active}

theorem Pump.dismissed_intent (now : Nat) : (x.dismissed now).intent = x.intent := by
  unfold Pump.dismissed
  repeat' split
  all_goals rfl

theorem Pump.dismissed_out (now : Nat) : (x.dismissed now).out = x.out := by
  unfold Pump.dismissed
  repeat' split
  all_goals rfl

/-- Serving leaves the intent, and whether the pump is out of service (R66). -/
theorem Works.Serves.intent_out (h : w.Serves v) (hx : w.dewater.pumps[i]? = some x) :
    ∃ y, v.dewater.pumps[i]? = some y ∧ y.intent = x.intent ∧ y.out = x.out :=
  h.pump (Q := fun y => y.intent = x.intent ∧ y.out = x.out) hx ⟨rfl, rfl⟩ (fun _ _ _ h => h)
    (fun _ _ h => ⟨(Pump.dismissed_intent _).trans h.1, (Pump.dismissed_out _).trans h.2⟩) (fun _ h _ => h)

theorem Works.dismiss_of_rest (hx : w.dewater.pumps[i]? = some x) (hs : x.state = .resting ∨ x.state = .idle) :
    w.dismiss i = w.leaveList i := by
  rcases hs with hs | hs <;> simp only [Works.dismiss, hx, hs]

end Ordered

/-! ## PUMP RUN and PUMP STOP (R67, R68) -/

section Run

variable {w : Works} {o : Order} {x : Pump}

theorem Works.runAndStop_refused (hx : w.dewater.pumps[o.subject]? = some x)
    (h : (w.claimOf (.pump o.subject)).commands = false) :
    w.pumpRunOrder o = o.finish 5 (w.claimOf (.pump o.subject)).code 0 [] w ∧
    w.pumpStopOrder o = o.finish 5 (w.claimOf (.pump o.subject)).code 0 [] w := by
  simp only [Works.pumpRunOrder, Works.pumpStopOrder, hx]
  exact ⟨if_pos (ClaimValue.refuses_of_not_commands h), if_pos (ClaimValue.refuses_of_not_commands h)⟩

theorem Works.runAndStop_tripped (hx : w.dewater.pumps[o.subject]? = some x)
    (h : (w.claimOf (.pump o.subject)).commands = true) (hs : x.state = .tripped) :
    w.pumpRunOrder o = o.finish 10 1 x.tripSecond [x.tripCode] w ∧
    w.pumpStopOrder o = o.finish 10 1 x.tripSecond [x.tripCode] w := by
  have hc := ClaimValue.not_refuses_of_commands h
  simp only [Works.pumpRunOrder, Works.pumpStopOrder, hx]
  exact ⟨(if_neg hc).trans (if_pos hs), (if_neg hc).trans (if_pos hs)⟩

theorem Works.runAndStop_out (hx : w.dewater.pumps[o.subject]? = some x)
    (h : (w.claimOf (.pump o.subject)).commands = true) (hs : x.state = .outOfService) :
    w.pumpRunOrder o = o.finish 10 2 0 [] w ∧ w.pumpStopOrder o = o.finish 10 2 0 [] w := by
  have hc := ClaimValue.not_refuses_of_commands h
  have ht : x.state ≠ .tripped := by simp [hs]
  simp only [Works.pumpRunOrder, Works.pumpStopOrder, hx]
  exact ⟨(if_neg hc).trans ((if_neg ht).trans (if_pos hs)), (if_neg hc).trans ((if_neg ht).trans (if_pos hs))⟩

/-- The works of an accepted PUMP RUN or PUMP STOP with its intent set and the able pumps counted. -/
def Works.intended (o : Order) (n : Intent) (si : Nat) (w : Works) : Works :=
  ((w.accept o).updPump o.subject (fun p => { p with intent := some n })).recount si

theorem Works.pumpRunOrder_accepted (hx : w.dewater.pumps[o.subject]? = some x)
    (h : (w.claimOf (.pump o.subject)).commands = true) (ht : x.state ≠ .tripped) (ho : x.state ≠ .outOfService) :
    w.pumpRunOrder o = ((w.intended o .run x.sump).judgePumpOrders o.subject).serve x.sump := by
  simp only [Works.pumpRunOrder, hx]
  rw [if_neg (ClaimValue.not_refuses_of_commands h), if_neg ht, if_neg ho]
  rfl

/-- A pump that stops by an order leaves the list of its sump. -/
def Works.dismissListed (i : Nat) (w : Works) : Works := if w.inList i then w.dismiss i else w

theorem Works.pumpStopOrder_accepted (hx : w.dewater.pumps[o.subject]? = some x)
    (h : (w.claimOf (.pump o.subject)).commands = true) (ht : x.state ≠ .tripped) (ho : x.state ≠ .outOfService) :
    w.pumpStopOrder o =
      (((w.intended o .stop x.sump).dismissListed o.subject).judgePumpOrders o.subject).serve x.sump := by
  simp only [Works.pumpStopOrder, hx]
  rw [if_neg (ClaimValue.not_refuses_of_commands h), if_neg ht, if_neg ho]
  rfl

theorem Works.intended_only (o : Order) (n : Intent) (si : Nat) (w : Works) :
    Works.Leads Part.ofServing (w.accept o) (w.intended o n si) :=
  Works.recount_leads _ _ (by decide) (Works.updPump_leads _ _ _ (by decide) .refl)

theorem Works.intended_pump (hx : w.dewater.pumps[o.subject]? = some x) (n : Intent) (si : Nat) :
    (w.intended o n si).dewater.pumps[o.subject]? = some { x with intent := some n } := by
  rw [Works.intended, Works.recount_pumps, Works.updPump_pumps, Works.accept_dewater, getElem?_updAt_self hx]

/-- What an accepted PUMP RUN or PUMP STOP comes to, once it is judged and served: `u` is the works as it is judged. -/
theorem Works.intended_served {u : Works} {y : Pump} {n : Intent} {si : Nat} (hc : (w.claimOf (.pump o.subject)).commands = true)
    (hu : Works.Leads Part.ofServing (w.intended o n si) u) (hy : u.dewater.pumps[o.subject]? = some y) (hn : y.intent = some n) :
    let v := (u.judgePumpOrders o.subject).serve si
    v.claimOf (.pump o.subject) = .ordered ∧ (∃ z, v.dewater.pumps[o.subject]? = some z ∧ z.intent = some n) ∧
    (∀ a ∈ w.active, a.subject = o.subject → (a.code = .pumpRun ∨ a.code = .pumpStop ∨ a.code = .pumpService) →
      v.completed a.slot 7 o.slot 0) ∧
    (o.active 0 ∈ u.active → (o.active 0).reached y.state → v.completed o.slot 0 0 0) := by
  intro v
  have hserves := Works.serve_serves si (u.judgePumpOrders o.subject)
  have hall : Works.Leads Part.ofServing (w.accept o) v :=
    Works.serve_leads _ _ (by decide) (Works.judgePumpOrders_leads _ _ (by decide)
      ((Works.intended_only o n si w).trans hu))
  refine ⟨?_, ?_, fun a ha hi hcode => ?_, fun ha hr => ?_⟩
  · rw [Works.claimOf_congr (hall.claims_eq (by decide)), Works.accept_claimOf hc]
  · obtain ⟨z, hz, hzn, -⟩ := hserves.intent_out (x := y) (by rwa [Works.judgePumpOrders_dewater])
    exact ⟨z, hz, hzn.trans hn⟩
  · exact hall.completed (by decide) (Works.accept_completed ha hi hcode)
  · exact hserves.leads.completed (by decide) (Works.judgePumpOrders_done hy ha rfl hr)

theorem Works.dismissListed_only (i : Nat) (w : Works) : Works.Leads Part.ofServing w (w.dismissListed i) :=
  ite_leads (Works.dismiss_leads i w (by decide) .refl) .refl

theorem Works.dismissListed_pump {i : Nat} (hx : w.dewater.pumps[i]? = some x) :
    ∃ y, (w.dismissListed i).dewater.pumps[i]? = some y ∧ y.intent = x.intent ∧
      (x.state = .resting ∨ x.state = .idle → y.state = x.state ∧ (w.dismissListed i).active = w.active) := by
  unfold Works.dismissListed
  split
  · obtain ⟨a, b, hy⟩ := Works.dismiss_pump (i := i) hx
    rw [if_pos rfl] at hy
    refine ⟨_, hy, Pump.dismissed_intent _, fun hs => ⟨?_, ?_⟩⟩
    · rcases hs with hs | hs <;> simp [Pump.dismissed, Pump.flagged, hs]
    · rw [Works.dismiss_of_rest hx hs, (Works.leaveList_only i w).active_eq (by decide)]
  · exact ⟨x, hx, rfl, fun _ => ⟨rfl, rfl⟩⟩

theorem exec_pumpRun {k : Nat} {s : State} (h : s.orderWaits k o) (hc : o.code = .pumpRun) (hs : s.works.takesOrders) :
    exec (.pumpRun k) s = .next (s.takenUp k (s.works.pumpRunOrder o)) :=
  takeUp_of_waits _ _ k o s h hc hs

theorem exec_pumpStop {k : Nat} {s : State} (h : s.orderWaits k o) (hc : o.code = .pumpStop) (hs : s.works.takesOrders) :
    exec (.pumpStop k) s = .next (s.takenUp k (s.works.pumpStopOrder o)) :=
  takeUp_of_waits _ _ k o s h hc hs

/-- An accepted PUMP RUN (R67). -/
theorem Works.pumpRunOrder_spec (hx : w.dewater.pumps[o.subject]? = some x) (ho : o.code = .pumpRun)
    (h : (w.claimOf (.pump o.subject)).commands = true) (hst : x.state ≠ .tripped) (hso : x.state ≠ .outOfService) :
    (w.pumpRunOrder o).claimOf (.pump o.subject) = .ordered ∧
    (∃ y, (w.pumpRunOrder o).dewater.pumps[o.subject]? = some y ∧ y.intent = some .run) ∧
    (∀ a ∈ w.active, a.subject = o.subject → (a.code = .pumpRun ∨ a.code = .pumpStop ∨ a.code = .pumpService) →
      (w.pumpRunOrder o).completed a.slot 7 o.slot 0) ∧
    (x.state = .running → (w.pumpRunOrder o).completed o.slot 0 0 0) := by
  obtain ⟨hclaim, hy, hsup, hdone⟩ := Works.intended_served (n := .run) (si := x.sump) h .refl (Works.intended_pump hx _ _) rfl
  rw [Works.pumpRunOrder_accepted hx h hst hso]
  exact ⟨hclaim, hy, hsup, fun hs => hdone (by rw [Works.intended, Works.recount_active]; exact Works.accept_active o w)
    (.inl ⟨ho, hs⟩)⟩

/-- An accepted PUMP STOP (R68). -/
theorem Works.pumpStopOrder_spec (hx : w.dewater.pumps[o.subject]? = some x) (ho : o.code = .pumpStop)
    (h : (w.claimOf (.pump o.subject)).commands = true) (hst : x.state ≠ .tripped) (hso : x.state ≠ .outOfService) :
    (w.pumpStopOrder o).claimOf (.pump o.subject) = .ordered ∧
    (∃ y, (w.pumpStopOrder o).dewater.pumps[o.subject]? = some y ∧ y.intent = some .stop) ∧
    (∀ a ∈ w.active, a.subject = o.subject → (a.code = .pumpRun ∨ a.code = .pumpStop ∨ a.code = .pumpService) →
      (w.pumpStopOrder o).completed a.slot 7 o.slot 0) ∧
    (x.state = .resting ∨ x.state = .idle → (w.pumpStopOrder o).completed o.slot 0 0 0) := by
  obtain ⟨y, hy, hint, hrest⟩ := Works.dismissListed_pump (Works.intended_pump hx .stop x.sump)
  obtain ⟨hclaim, hz, hsup, hdone⟩ := Works.intended_served (n := .stop) (si := x.sump) h (Works.dismissListed_only _ _) hy hint
  rw [Works.pumpStopOrder_accepted hx h hst hso]
  refine ⟨hclaim, hz, hsup, fun hs => ?_⟩
  obtain ⟨hys, hactive⟩ := hrest hs
  refine hdone ?_ (.inr (.inl ⟨ho, by rwa [hys]⟩))
  rw [hactive, Works.intended, Works.recount_active]
  exact Works.accept_active o w

end Run

/-- Settles O37: the order is judged after its claim and its intent, and serving undoes neither. -/
theorem pumpRunAndStop : Obligations.PumpRunAndStop := by
  unfold Obligations.PumpRunAndStop
  intro k o x i n s h ht hc hx
  obtain rfl := State.orderWaits_slot s k o h
  rcases hc with ⟨hc, rfl, rfl⟩ | ⟨hc, rfl, rfl⟩
  · rw [exec_pumpRun h hc ht]
    refine ⟨fun hr => ?_, fun hr hs => ?_, fun hr hs => ?_, fun hr hs ho => ⟨_, rfl, ?_, ?_⟩⟩
    · rw [(Works.runAndStop_refused hx hr).1]
    · rw [(Works.runAndStop_tripped hx hr hs).1]
    · rw [(Works.runAndStop_out hx hr hs).1]
    · exact (Works.pumpRunOrder_leads o _ (by decide) .refl : Works.Leads Part.ofPumpOrder _ _).keepsButClaims
    · obtain ⟨hclaim, hy, hsup, hdone⟩ := Works.pumpRunOrder_spec hx hc hr hs ho
      exact ⟨hclaim, hy, hsup, fun _ => hdone, fun hn => by cases hn⟩
  · rw [exec_pumpStop h hc ht]
    refine ⟨fun hr => ?_, fun hr hs => ?_, fun hr hs => ?_, fun hr hs ho => ⟨_, rfl, ?_, ?_⟩⟩
    · rw [(Works.runAndStop_refused hx hr).2]
    · rw [(Works.runAndStop_tripped hx hr hs).2]
    · rw [(Works.runAndStop_out hx hr hs).2]
    · exact (Works.pumpStopOrder_leads o _ (by decide) .refl : Works.Leads Part.ofPumpOrder _ _).keepsButClaims
    · obtain ⟨hclaim, hy, hsup, hdone⟩ := Works.pumpStopOrder_spec hx hc hr hs ho
      exact ⟨hclaim, hy, hsup, fun hn => (by cases hn), fun _ => hdone⟩

end Sys2Proof.Machine

namespace Sys2Proof.Machine

open Sys2Proof

/-! # PUMP AUTO and PUMP CLEAR (R69), pumps with a changed claim (R64, R65) -/

/-! ## PUMP AUTO (R69) -/

section Auto

variable {w : Works} {o : Order} {x : Pump} {a : Active}

theorem exec_pumpAuto {k : Nat} {s : State} (h : s.orderWaits k o) (hc : o.code = .pumpAuto) (hs : s.works.takesOrders) :
    exec (.pumpAuto k) s = .next (s.takenUp k (s.works.pumpAutoOrder o)) :=
  takeUp_of_waits _ _ k o s h hc hs

/-- The claim is AUTO and the intent absent. -/
def Works.toAuto (o : Order) (w : Works) : Works :=
  (w.autoClaim (.pump o.subject) o.slot).updPump o.subject (fun p => { p with intent := none })

theorem Works.toAuto_claimOf (h : (w.claimOf (.pump o.subject)).commands = true) :
    (w.toAuto o).claimOf (.pump o.subject) = .auto :=
  Works.autoClaim_claimOf o.slot h

/-- The ACTIVE orders of a pump fail as it returns to AUTO. -/
def Works.failOrders (o : Order) (w : Works) : Works :=
  w.completeAll (fun a => a.subject == o.subject &&
      (decide (a.code = .pumpRun) || decide (a.code = .pumpStop) || decide (a.code = .pumpService)))
    (fun a w => w.complete a.slot Status.failed 3 o.slot [])

theorem Works.failOrders_only (o : Order) (w : Works) : Works.Leads [.active] w (w.failOrders o) :=
  each_leads _ _ _ (fun a v hv => Works.complete_leads a.slot Status.failed 3 o.slot [] v (by decide) hv) .refl

theorem Works.failOrders_completed (ha : a ∈ w.active) (hi : a.subject = o.subject)
    (hc : a.code = .pumpRun ∨ a.code = .pumpStop ∨ a.code = .pumpService) : (w.failOrders o).completed a.slot 10 3 o.slot :=
  Works.completeAll_completed ha (by rcases hc with hc | hc | hc <;> simp [hi, hc]) (fun b v => Works.complete_only _ _ _ _ _ v)
    fun _ => rfl

theorem Works.pumpAutoOrder_refused (hx : w.dewater.pumps[o.subject]? = some x)
    (h : (w.claimOf (.pump o.subject)).commands = false) :
    w.pumpAutoOrder o = o.finish 5 (w.claimOf (.pump o.subject)).code 0 [] w := by
  simp only [Works.pumpAutoOrder, hx]
  exact if_pos (ClaimValue.refuses_of_not_commands h)

theorem Works.pumpAutoOrder_accepted (hx : w.dewater.pumps[o.subject]? = some x)
    (h : (w.claimOf (.pump o.subject)).commands = true) :
    w.pumpAutoOrder o = (o.finish 0 0 0 [] (((w.toAuto o).failOrders o).recount x.sump)).serve x.sump := by
  simp only [Works.pumpAutoOrder, hx]
  exact if_neg (ClaimValue.not_refuses_of_commands h)

/-- An accepted PUMP AUTO. -/
theorem Works.pumpAutoOrder_spec (hx : w.dewater.pumps[o.subject]? = some x)
    (h : (w.claimOf (.pump o.subject)).commands = true) :
    (w.pumpAutoOrder o).claimOf (.pump o.subject) = .auto ∧ (w.pumpAutoOrder o).completed o.slot 0 0 0 ∧
    (∃ y, (w.pumpAutoOrder o).dewater.pumps[o.subject]? = some y ∧ y.intent = none) ∧
    ∀ a ∈ w.active, a.subject = o.subject → (a.code = .pumpRun ∨ a.code = .pumpStop ∨ a.code = .pumpService) →
      (w.pumpAutoOrder o).completed a.slot 10 3 o.slot := by
  have hfail := (w.toAuto o).failOrders_only o
  have hafter : Works.Leads [.dewater, .active] ((w.toAuto o).failOrders o)
      (o.finish 0 0 0 [] (((w.toAuto o).failOrders o).recount x.sump)) :=
    Order.finish_leads _ _ _ _ _ _ (by decide) (Works.recount_leads _ _ (by decide) .refl)
  have hserves := Works.serve_serves x.sump (o.finish 0 0 0 [] (((w.toAuto o).failOrders o).recount x.sump))
  rw [Works.pumpAutoOrder_accepted hx h]
  refine ⟨?_, hserves.leads.completed (by decide) (Order.finish_completed ..), ?_, fun a ha hi hc => ?_⟩
  · rw [hserves.claimOf_eq, Works.claimOf_congr (hafter.claims_eq (by decide)), Works.claimOf_congr (hfail.claims_eq (by decide)),
      Works.toAuto_claimOf h]
  · have hp : (o.finish 0 0 0 [] (((w.toAuto o).failOrders o).recount x.sump)).dewater.pumps[o.subject]? =
        some { x with intent := none } := by
      rw [Order.finish, (Works.complete_only _ _ _ _ _ _).dewater_eq (by decide), Works.recount_pumps, hfail.dewater_eq (by decide),
        Works.toAuto, Works.updPump_pumps, (Works.autoClaim_only _ _ _).dewater_eq (by decide), getElem?_updAt_self hx]
    obtain ⟨y, hy, hint, -⟩ := hserves.intent_out hp
    exact ⟨y, hy, hint⟩
  · refine hserves.leads.completed (by decide) (hafter.completed (by decide) (Works.failOrders_completed ?_ hi hc))
    rw [Works.toAuto, Works.updPump_active, (Works.autoClaim_only _ _ _).active_eq (by decide)]
    exact ha

end Auto

/-! ## PUMP CLEAR (R69) -/

section Clear

variable {w v : Works} {o : Order} {x : Pump}

theorem exec_pumpClear {k : Nat} {s : State} (h : s.orderWaits k o) (hc : o.code = .pumpClear) (hs : s.works.takesOrders) :
    exec (.pumpClear k) s = .next (s.takenUp k (s.works.pumpClearOrder o)) :=
  takeUp_of_waits _ _ k o s h hc hs

theorem Works.pumpClearOrder_untripped (hx : w.dewater.pumps[o.subject]? = some x) (hs : x.state ≠ .tripped) :
    w.pumpClearOrder o = o.finish 10 4 x.state.code [] w := by
  simp only [Works.pumpClearOrder, hx]
  exact if_pos hs

/-- A pump cleared after a STOP_FAIL whose motor was not seen stopped. -/
def Pump.clearedToStop (x : Pump) : Pump :=
  { x with state := .stopping, mark := .demand, trip := none, tripCode := 0, confirmStart := none }

/-- A pump cleared that is at rest. -/
def Pump.clearedToRest (now : Nat) (x : Pump) : Pump := { x with state := x.restState now, trip := none, tripCode := 0 }

theorem Works.pumpClearOrder_stops (hx : w.dewater.pumps[o.subject]? = some x) (hs : x.state = .tripped)
    (hf : x.trip = some .stopFail) (hr : x.running ≠ .stopped) : w.pumpClearOrder o =
      (o.finish 0 0 0 [] ((w.movePump o.subject Pump.clearedToStop).haltPump o.subject)).serve x.sump := by
  simp only [Works.pumpClearOrder, hx]
  rw [if_neg (not_not_intro hs), if_pos ⟨hf, hr⟩]
  rfl

theorem Works.pumpClearOrder_rests (hx : w.dewater.pumps[o.subject]? = some x) (hs : x.state = .tripped)
    (hr : x.trip ≠ some .stopFail ∨ x.running = .stopped) : w.pumpClearOrder o =
      (o.finish 0 0 0 [] ((w.dropPumpGrant o.subject).movePump o.subject (Pump.clearedToRest w.now))).serve x.sump := by
  simp only [Works.pumpClearOrder, hx]
  rw [if_neg (not_not_intro hs), if_neg (by tauto)]
  rfl

/-- The end of PUMP CLEAR hands its completion on and keeps what was handed before. -/
theorem Order.finish_serve_leads (o : Order) (si : Nat) (w : Works) : Works.Leads Part.ofServing w ((o.finish 0 0 0 [] w).serve si) :=
  Works.serve_leads _ _ (by decide) (Order.finish_leads _ _ _ _ _ _ (by decide) .refl)

theorem Order.finish_serve_completed (o : Order) (si : Nat) (w : Works) :
    ((o.finish 0 0 0 [] w).serve si).completed o.slot 0 0 0 :=
  (Works.serve_only si _).completed (by decide) (Order.finish_completed ..)

theorem Works.pumpClearOrder_stops_recorded (hx : w.dewater.pumps[o.subject]? = some x) (hs : x.state = .tripped)
    (hf : x.trip = some .stopFail) (hr : x.running ≠ .stopped) :
    (w.pumpClearOrder o).recorded .pump o.subject (some 1) (some 7)
      [1, (w.claimOf (.pump o.subject)).code, x.grant.code, x.runSeconds] false := by
  have hrec := Works.movePump_recorded (f := Pump.clearedToStop) hx (.inl (by simp [hs, Pump.clearedToStop]))
  rw [hs] at hrec
  have hhalt : Works.Leads Part.ofServing (w.movePump o.subject Pump.clearedToStop) _ := Works.haltPump_leads o.subject _ (by decide) .refl
  rw [Works.pumpClearOrder_stops hx hs hf hr]
  exact (Order.finish_serve_leads o _ _).recorded (by decide) (hhalt.recorded (by decide) hrec)

theorem Works.pumpClearOrder_rests_handed (hx : w.dewater.pumps[o.subject]? = some x) (hs : x.state = .tripped)
    (hr : x.trip ≠ some .stopFail ∨ x.running = .stopped) :
    (w.pumpClearOrder o).recorded .pump o.subject (some 1) (some (x.restState w.now).code)
      [0, (w.claimOf (.pump o.subject)).code, 0, x.runSeconds] false ∧
    (x.grant = .granted → (w.pumpClearOrder o).handed (.loadRelease o.subject)) := by
  have hd : (w.dropPumpGrant o.subject).dewater.pumps[o.subject]? = some { x with grant := .none } := by
    rw [Works.dropPumpGrant_pumps, getElem?_updAt_self hx]
  have hmove : Works.Leads Part.ofServing (w.dropPumpGrant o.subject) ((w.dropPumpGrant o.subject).movePump o.subject
      (Pump.clearedToRest w.now)) := Works.movePump_leads _ _ _ (by decide) .refl
  have hrest := x.restState_cases w.now
  have hrec := Works.movePump_recorded (f := Pump.clearedToRest w.now) hd (.inl (by
    change x.state ≠ x.restState w.now
    rcases hrest with h | h <;> simp [hs, h]))
  have hcause : (Pump.clearedToRest w.now { x with grant := .none }).causeOrMark = 0 := by
    change Pump.causeOrMark { x with state := x.restState w.now, trip := none, tripCode := 0, grant := .none } = 0
    rcases hrest with h | h <;> rw [h] <;> rfl
  rw [hcause, hs, Works.claimOf_congr ((Works.dropPumpGrant_only _ _).claims_eq (by decide))] at hrec
  rw [Works.pumpClearOrder_rests hx hs hr]
  exact ⟨(Order.finish_serve_leads o _ _).recorded (by decide) hrec, fun hg => (Order.finish_serve_leads o _ _).handed (by decide)
    (hmove.handed (by decide) (Works.dropPumpGrant_releases hx hg))⟩

theorem Works.pumpClearOrder_completed (hx : w.dewater.pumps[o.subject]? = some x) (hs : x.state = .tripped) :
    (w.pumpClearOrder o).completed o.slot 0 0 0 := by
  by_cases hr : x.trip = some .stopFail ∧ x.running ≠ .stopped
  · rw [Works.pumpClearOrder_stops hx hs hr.1 hr.2]
    exact Order.finish_serve_completed ..
  · rw [Works.pumpClearOrder_rests hx hs (by tauto)]
    exact Order.finish_serve_completed ..

end Clear

/-! ## A pump whose claim becomes PANEL or LOCAL (R64) -/

section Uncommand

variable {w v : Works} {i : Nat} {c : ClaimValue} {x : Pump} {a : Active} {s : Sump}

theorem Works.preemptPump_only (i : Nat) (c : ClaimValue) (w : Works) : Works.Leads [.active] w (w.preemptPump i c) :=
  Works.preemptPump_leads i c w (by decide) .refl

theorem Works.preemptPump_completed (ha : a ∈ w.active) (hi : a.subject = i) (ho : a.code.owner = .dewatering) :
    (w.preemptPump i c).completed a.slot 9 c.code 0 :=
  Works.completeAll_completed ha (by simp [hi, ho]) (fun b v => Works.complete_only _ _ _ _ _ v) fun _ => rfl

/-- A pump as it becomes UNCOMMANDED; its grant is settled before. -/
def Pump.uncommanded (x : Pump) : Pump :=
  { x with state := .uncommanded, cause := none, confirmStart := none, lapse := false, intent := none, mark := .none,
           haltRefused := false, pairRefused := false,
           pair := if x.pair = .inFlight then (if x.pairRefused then .none else .abandoned) else x.pair }

/-- The grant view of a pump under a panel or under local control. -/
def Pump.grantUnder (c : ClaimValue) (x : Pump) : GrantView :=
  if c = .panel ∧ x.running = .running then .granted
  else if c = .panel ∧ x.running = .stopped then .none
  else if x.grant = .requested then .none
  else x.grant

/-- The grant of a pump is settled as its claim is lost. -/
def Works.settleLost (i : Nat) (c : ClaimValue) (x : Pump) (w : Works) : Works :=
  if c = .panel ∧ x.running = .running then w.keepOrAdoptPump i
  else if c = .panel ∧ x.running = .stopped then w.dropPumpGrant i
  else if x.grant = .requested then w.dropPumpGrant i
  else w

/-- Power that a start under way may have drawn is told to the budget. -/
def Works.tellKept (i : Nat) (c : ClaimValue) (x : Pump) (w : Works) : Works :=
  if (decide (x.grant = .granted) && !(decide (c = .panel) && decide (x.running = .stopped))) && decide (x.pair = .inFlight) then
    w.send (.energisedNotice i)
  else w

/-- The works of a pump that loses its claim before its grant is settled: its orders, its list and its start pair are done with. -/
def Works.unlisted (i : Nat) (c : ClaimValue) (w : Works) : Works :=
  (((w.preemptPump i c).leaveList i).giveUp (.pumpStart i) .disregarded).failShed i

theorem Works.uncommandPump_eq (hx : w.dewater.pumps[i]? = some x) : w.uncommandPump i c =
    (((w.unlisted i c).settleLost i c x).tellKept i c x).movePump i Pump.uncommanded := by
  simp only [Works.uncommandPump, hx]
  rfl

theorem Works.settleLost_only (i : Nat) (c : ClaimValue) (x : Pump) (w : Works) : Works.Leads [.dewater] w (w.settleLost i c x) :=
  ite_leads (w.keepOrAdoptPump_only i) (ite_leads (w.dropPumpGrant_only i) (ite_leads (w.dropPumpGrant_only i) .refl))

theorem Works.tellKept_only (i : Nat) (c : ClaimValue) (x : Pump) (w : Works) : Works.Leads [] w (w.tellKept i c x) :=
  ite_leads (Works.send_leads _ _ .refl) .refl

theorem Works.settleLost_pump (hx : w.dewater.pumps[i]? = some x) :
    (w.settleLost i c x).dewater.pumps[i]? = some { x with grant := x.grantUnder c } := by
  unfold Works.settleLost Pump.grantUnder
  split
  · rw [Works.keepOrAdoptPump_pumps, getElem?_updAt_self hx]
  · split
    · rw [Works.dropPumpGrant_pumps, getElem?_updAt_self hx]
    · split
      · rw [Works.dropPumpGrant_pumps, getElem?_updAt_self hx]
      · exact hx

theorem Works.settleLost_sumps (i : Nat) (c : ClaimValue) (x : Pump) (w : Works) :
    (w.settleLost i c x).dewater.sumps = w.dewater.sumps := by
  unfold Works.settleLost
  split
  · exact w.keepOrAdoptPump_sumps i
  · split
    · exact w.dropPumpGrant_sumps i
    · split
      · exact w.dropPumpGrant_sumps i
      · rfl

/-- The grant of a pump by its claim and its running view (R64). -/
theorem Works.settleLost_handed (hx : w.dewater.pumps[i]? = some x) :
    (c = .panel → x.running = .running → x.grantUnder c = .granted ∧
      (x.grant ≠ .granted → (w.settleLost i c x).handed (.adoptionNotice i x.runPower))) ∧
    (c = .panel → x.running = .stopped → x.grantUnder c = .none ∧
      (x.grant = .granted → (w.settleLost i c x).handed (.loadRelease i)) ∧
      (x.grant = .requested → (w.settleLost i c x).handed (.loadWithdrawal i))) ∧
    (c = .away → (x.grant ≠ .requested → x.grantUnder c = x.grant) ∧
      (x.grant = .requested → x.grantUnder c = .none ∧ (w.settleLost i c x).handed (.loadWithdrawal i))) := by
  refine ⟨fun hc hr => ?_, fun hc hr => ?_, fun hc => ⟨fun hg => ?_, fun hg => ?_⟩⟩
  · subst hc
    rw [Pump.grantUnder, Works.settleLost, if_pos ⟨rfl, hr⟩, if_pos ⟨rfl, hr⟩]
    exact ⟨rfl, Works.keepOrAdoptPump_adopts hx⟩
  · have hne : ¬ (c = .panel ∧ x.running = .running) := by simp [hr]
    rw [Pump.grantUnder, Works.settleLost, if_neg hne, if_neg hne, if_pos ⟨hc, hr⟩, if_pos ⟨hc, hr⟩]
    exact ⟨rfl, Works.dropPumpGrant_releases hx, Works.dropPumpGrant_withdraws hx⟩
  · simp [Pump.grantUnder, hc, hg]
  · have hne (r : RunView) : ¬ (c = .panel ∧ x.running = r) := by simp [hc]
    rw [Pump.grantUnder, Works.settleLost, if_neg (hne _), if_neg (hne _), if_neg (hne _), if_neg (hne _), if_pos hg, if_pos hg]
    exact ⟨rfl, Works.dropPumpGrant_withdraws hx hg⟩

theorem Works.tellKept_handed (hp : x.pair = .inFlight) (hg : x.grant = .granted) (h : c = .away ∨ x.running = .running) :
    (w.tellKept i c x).handed (.energisedNotice i) := by
  rw [Works.tellKept, if_pos (by rcases h with h | h <;> simp [hp, hg, h])]
  exact Works.handed_send _ _

/-- What the operations before the grant leave of the pumps, the sumps and the line. -/
theorem Works.unlisted_dewater (i : Nat) (c : ClaimValue) (w : Works) :
    (w.unlisted i c).dewater = ((w.preemptPump i c).leaveList i).dewater := by
  rw [Works.unlisted, (Works.failShed_only i _).dewater_eq (by decide), Works.giveUp_dewater]

theorem Works.unlisted_pumps (i : Nat) (c : ClaimValue) (w : Works) : (w.unlisted i c).dewater.pumps = w.dewater.pumps := by
  rw [Works.unlisted_dewater, Works.leaveList_pumps, (w.preemptPump_only i c).dewater_eq (by decide)]

theorem Works.unlisted_sumps (hx : w.dewater.pumps[i]? = some x) :
    (w.unlisted i c).dewater.sumps = updAt (Sump.without i) x.sump w.dewater.sumps := by
  have hd := (w.preemptPump_only i c).dewater_eq (by decide)
  rw [Works.unlisted_dewater, Works.leaveList_sumps (x := x) (by rw [hd, hx]), hd]

theorem Works.unlisted_leads (i : Nat) (c : ClaimValue) (w : Works) : Works.Leads Part.ofServing w (w.unlisted i c) :=
  Works.failShed_leads _ _ (Works.giveUp_leads _ _ _ (by decide) (Works.leaveList_leads _ _ (by decide)
    (Works.preemptPump_leads _ _ _ (by decide) .refl)))

/-- The line queue holds the requests that it held; some have lost their requester. -/
theorem Works.giveUp_requests (who : ReqFor) (f : Fate) (w : Works) :
    (w.giveUp who f).line.queue.map (fun e => (e.req, e.unit, e.output)) =
      w.line.queue.map (fun e => (e.req, e.unit, e.output)) := by
  change (w.line.queue.map (QEntry.give who f)).map _ = _
  rw [List.map_map]
  rfl

theorem Works.uncommandPump_queue (hx : w.dewater.pumps[i]? = some x) :
    (w.uncommandPump i c).line.queue.map (fun e => (e.req, e.unit, e.output)) =
      w.line.queue.map (fun e => (e.req, e.unit, e.output)) := by
  rw [Works.uncommandPump_eq hx, Works.movePump_line, (Works.tellKept_only i c x _).line_eq (by decide),
    (Works.settleLost_only i c x _).line_eq (by decide), Works.unlisted, (Works.failShed_only i _).line_eq (by decide),
    Works.giveUp_requests, Works.leaveList_line, (w.preemptPump_only i c).line_eq (by decide)]

/-- What a notice of the operations before the change of state comes to. -/
theorem Works.uncommandPump_leads_settled (hx : w.dewater.pumps[i]? = some x) :
    Works.Leads Part.ofServing ((w.unlisted i c).settleLost i c x) (w.uncommandPump i c) := by
  rw [Works.uncommandPump_eq hx]
  exact Works.movePump_leads _ _ _ (by decide) (ite_leads (Works.send_leads _ _ .refl) .refl)

theorem Works.uncommandPump_leads_unlisted (hx : w.dewater.pumps[i]? = some x) :
    Works.Leads Part.ofServing (w.unlisted i c) (w.uncommandPump i c) := by
  refine Works.Leads.trans ?_ (Works.uncommandPump_leads_settled hx)
  unfold Works.settleLost
  exact ite_leads (Works.keepOrAdoptPump_leads _ _ (by decide) .refl) (ite_leads (Works.dropPumpGrant_leads _ _ (by decide) .refl)
    (ite_leads (Works.dropPumpGrant_leads _ _ (by decide) .refl) .refl))

theorem Works.uncommandPump_leads_list (hx : w.dewater.pumps[i]? = some x) :
    Works.Leads Part.ofServing ((w.preemptPump i c).leaveList i) (w.uncommandPump i c) :=
  (Works.failShed_leads _ _ (Works.giveUp_leads _ _ _ (by decide) .refl)).trans (Works.uncommandPump_leads_unlisted hx)

/-- The pump as it is told and moved. -/
theorem Works.settled_pump (hx : w.dewater.pumps[i]? = some x) :
    (((w.unlisted i c).settleLost i c x).tellKept i c x).dewater.pumps[i]? = some { x with grant := x.grantUnder c } := by
  rw [(Works.tellKept_only i c x _).dewater_eq (by decide)]
  exact Works.settleLost_pump (by rw [Works.unlisted_pumps, hx])

theorem Works.uncommandPump_pump (hx : w.dewater.pumps[i]? = some x) :
    (w.uncommandPump i c).dewater.pumps[i]? = some ({ x with grant := x.grantUnder c }.uncommanded) := by
  rw [Works.uncommandPump_eq hx]
  exact Works.movePump_pump (Works.settled_pump hx)

theorem Works.uncommandPump_recorded (hx : w.dewater.pumps[i]? = some x) (hs : x.state ≠ .uncommanded) :
    (w.uncommandPump i c).recorded .pump i (some x.state.code) (some 8)
      [0, (w.claimOf (.pump i)).code, (x.grantUnder c).code, x.runSeconds] false := by
  have hrec := Works.movePump_recorded (f := Pump.uncommanded) (Works.settled_pump (c := c) hx) (.inl hs)
  have hclaim : (((w.unlisted i c).settleLost i c x).tellKept i c x).claims = w.claims := by
    rw [(Works.tellKept_only i c x _).claims_eq (by decide), (Works.settleLost_only i c x _).claims_eq (by decide),
      (w.unlisted_leads i c).claims_eq (by decide)]
  rw [Works.claimOf_congr hclaim] at hrec
  rw [Works.uncommandPump_eq hx]
  exact hrec

theorem Works.uncommandPump_sump (hx : w.dewater.pumps[i]? = some x) (hs : w.dewater.sumps[x.sump]? = some s) :
    ∃ z, (w.uncommandPump i c).dewater.sumps[x.sump]? = some z ∧ i ∉ z.list := by
  rw [Works.uncommandPump_eq hx]
  obtain ⟨n, l, hz⟩ := (Works.movePump_tends i Pump.uncommanded
    (((w.unlisted i c).settleLost i c x).tellKept i c x)).sumps x.sump (s.without i) (by
      rw [(Works.tellKept_only i c x _).dewater_eq (by decide), Works.settleLost_sumps, Works.unlisted_sumps hx]
      exact getElem?_updAt_self hs)
  exact ⟨_, hz, Sump.not_mem_without i s⟩

end Uncommand

/-! ## A pump whose claim returns to AUTO (R65) -/

section Settle

variable {w v : Works} {i : Nat} {x : Pump} {s : Sump}

/-- A running pump that the list of its sump has room for. -/
def Pump.admittedTo (s : Sump) (x : Pump) : Bool :=
  decide (x.running = .running) && x.trip.isNone && !x.out && !decide (s.cutout.state = .active) &&
    decide (s.list.length < s.duty)

/-- An admitted pump joins the list and hears of its class. -/
def Works.joinTold (i : Nat) (w : Works) : Works := (w.joinList i).send (.classNotice i ((w.joinList i).pumpClass i))

/-- The grant of a pump that is settled, and the last stop of a stopped one. -/
def Works.settleGrant (i : Nat) (x : Pump) (w : Works) : Works :=
  if decide (x.running = .running) then w.keepOrAdoptPump i
  else (w.dropPumpGrant i).updPump i (fun p => { p with lastStop := some (p.lastStop.getD w.now) })

/-- The works as a pump that is settled changes its state. -/
def Works.settling (i : Nat) (x : Pump) (s : Sump) (w : Works) : Works :=
  (if x.admittedTo s then w.joinTold i else w).settleGrant i x

/-- A stop of a pump found running. -/
def Pump.settledToStop (m : StopMark) (x : Pump) : Pump := { x with state := .stopping, mark := m, confirmStart := none }

theorem Works.joinTold_only (i : Nat) (w : Works) : Works.Leads [.dewater] w (w.joinTold i) :=
  Works.send_leads _ _ (Works.joinList_only i w)

/-- A running view other than RUNNING admits no pump. -/
theorem Pump.not_admitted (hr : x.running ≠ .running) : x.admittedTo s = false := by simp [Pump.admittedTo, hr]

theorem Works.settling_running (hr : x.running = .running) :
    w.settling i x s = (if x.admittedTo s then w.joinTold i else w).keepOrAdoptPump i := if_pos (by simp [hr])

theorem Works.settling_stopped (hr : x.running ≠ .running) : w.settling i x s =
    (w.dropPumpGrant i).updPump i (fun p => { p with lastStop := some (p.lastStop.getD w.now) }) := by
  rw [Works.settling, if_neg (by simp [Pump.not_admitted hr])]
  exact if_neg (by simp [hr])

theorem Works.settling_only (i : Nat) (x : Pump) (s : Sump) (w : Works) : Works.Leads [.dewater] w (w.settling i x s) := by
  have hadmit : Works.Leads [.dewater] w (if x.admittedTo s then w.joinTold i else w) := ite_leads (w.joinTold_only i) .refl
  exact ite_leads (Works.keepOrAdoptPump_leads _ _ (by decide) hadmit)
    (Works.updPump_leads _ _ _ (by decide) (Works.dropPumpGrant_leads _ _ (by decide) hadmit))

@[simp] theorem Works.joinTold_pumps (i : Nat) (w : Works) : (w.joinTold i).dewater.pumps = w.dewater.pumps := w.joinList_pumps i

theorem Works.joinTold_sumps (hx : w.dewater.pumps[i]? = some x) (hs : w.dewater.sumps[x.sump]? = some s) :
    (w.joinTold i).dewater.sumps[x.sump]? = some (s.joinedBy i) := by
  change (w.joinList i).dewater.sumps[x.sump]? = _
  rw [Works.joinList_sumps hx]
  exact getElem?_updAt_self hs

/-- The class of an admitted pump is that of its place in the list (R52). -/
theorem Works.joinTold_notifies (hx : w.dewater.pumps[i]? = some x) (hs : w.dewater.sumps[x.sump]? = some s) :
    (w.joinTold i).handed (.classNotice i (if (s.joinedBy i).list.head? = some i then 1 else 2)) := by
  have hc : (w.joinList i).pumpClass i = if (s.joinedBy i).list.head? = some i then 1 else 2 :=
    Works.pumpClass_eq (by rw [Works.joinList_pumps, hx]) (Works.joinTold_sumps hx hs)
  rw [← hc]
  exact Works.handed_send _ _

/-- The pump that is settled, running. -/
theorem Works.settling_pump_running (hx : w.dewater.pumps[i]? = some x) (hr : x.running = .running) :
    (w.settling i x s).dewater.pumps[i]? = some { x with grant := .granted } := by
  rw [Works.settling_running hr, Works.keepOrAdoptPump_pumps]
  exact getElem?_updAt_self (by split <;> simpa using hx)

/-- The pump that is settled, not running. -/
theorem Works.settling_pump_stopped (hx : w.dewater.pumps[i]? = some x) (hr : x.running ≠ .running) :
    (w.settling i x s).dewater.pumps[i]? = some { x with grant := .none, lastStop := some (x.lastStop.getD w.now) } := by
  rw [Works.settling_stopped hr, Works.updPump_pumps, Works.dropPumpGrant_pumps, getElem?_updAt_self (getElem?_updAt_self hx)]

/-- The rows of R65, as the pump's grant is settled. -/
theorem Works.settlePump_eq (hx : w.dewater.pumps[i]? = some x) (hs : w.dewater.sumps[x.sump]? = some s) : w.settlePump i =
    if x.trip.isSome then (w.settling i x s).movePump i (fun p => { p with state := .tripped })
    else if x.out then
      if decide (x.running = .running) then ((w.settling i x s).movePump i (Pump.settledToStop .service)).haltPump i
      else (w.settling i x s).movePump i (fun p => { p with state := .outOfService })
    else if !decide (x.running = .running) then
      (w.settling i x s).movePump i (fun p => { p with state := p.restState (w.settling i x s).now })
    else if x.admittedTo s then (w.settling i x s).movePump i (fun p => { p with state := .running, lapse := false })
    else ((w.settling i x s).movePump i (Pump.settledToStop .demand)).haltPump i := by
  simp only [Works.settlePump, hx, hs]
  rfl

theorem Works.settlePump_leads_settling (hx : w.dewater.pumps[i]? = some x) (hs : w.dewater.sumps[x.sump]? = some s) :
    Works.Leads Part.ofServing (w.settling i x s) (w.settlePump i) := by
  rw [Works.settlePump_eq hx hs]
  have hmove (f : Pump → Pump) : Works.Leads Part.ofServing (w.settling i x s) ((w.settling i x s).movePump i f) :=
    Works.movePump_leads _ _ _ (by decide) .refl
  have hstop (f : Pump → Pump) : Works.Leads Part.ofServing (w.settling i x s) (((w.settling i x s).movePump i f).haltPump i) :=
    Works.haltPump_leads _ _ (by decide) (hmove f)
  exact ite_leads (hmove _) (ite_leads (ite_leads (hstop _) (hmove _)) (ite_leads (hmove _) (ite_leads (hmove _) (hstop _))))

/-- A pump found running is stopped: the mark and a HALT. -/
theorem Works.settled_stops {m : StopMark} (hx : w.dewater.pumps[i]? = some x) (hr : x.running = .running)
    (hv : v = ((w.settling i x s).movePump i (Pump.settledToStop m)).haltPump i) :
    (∃ a b, v.dewater.pumps[i]? = some (({ x with grant := .granted }.settledToStop m).flagged a b)) ∧
    (w.lineRoom → v.haltWaits x.unit x.motor) := by
  have hp := Works.movePump_pump (f := Pump.settledToStop m) (Works.settling_pump_running (s := s) hx hr)
  subst hv
  refine ⟨(Works.haltPump_asks i _).alike i _ hp, fun hroom => ?_⟩
  have hwait := Works.haltPump_waits hp
    (by rwa [Works.lineRoom, Works.movePump_line, (Works.settling_only i x s w).line_eq (by decide)])
  exact hwait

/-- An admitted pump runs on, in the list of its sump. -/
theorem Works.settled_admitted (hx : w.dewater.pumps[i]? = some x) (hs : w.dewater.sumps[x.sump]? = some s)
    (hr : x.running = .running) (ha : x.admittedTo s = true)
    (hv : v = (w.settling i x s).movePump i (fun p => { p with state := .running, lapse := false })) :
    v.dewater.pumps[i]? = some { x with grant := .granted, state := .running, lapse := false } ∧
    (∃ z, v.dewater.sumps[x.sump]? = some z ∧ z.list = s.list ++ [i]) ∧ (s.list = [] → v.handed (.classNotice i 1)) ∧
    ∀ j rest, s.list = j :: rest → j ≠ i → v.handed (.classNotice i 2) := by
  have hsettling : w.settling i x s = (w.joinTold i).keepOrAdoptPump i := by rw [Works.settling_running hr, if_pos ha]
  have hnotice := Works.joinTold_notifies hx hs
  have hafter : Works.Leads Part.ofServing (w.joinTold i) v := by
    rw [hv, hsettling]
    exact Works.movePump_leads _ _ _ (by decide) (Works.keepOrAdoptPump_leads _ _ (by decide) .refl)
  refine ⟨?_, ?_, fun hl => ?_, fun j rest hl hj => ?_⟩
  · rw [hv, Works.movePump_pump (Works.settling_pump_running hx hr)]
  · obtain ⟨n, l, hz⟩ := (Works.movePump_tends i (fun p => { p with state := .running, lapse := false })
      (w.settling i x s)).sumps x.sump (s.joinedBy i) (by
        rw [hsettling, Works.keepOrAdoptPump_sumps, Works.joinTold_sumps hx hs])
    exact ⟨_, by rw [hv, hz], rfl⟩
  · rw [if_pos (by simp [Sump.joinedBy, hl])] at hnotice
    exact hafter.handed (by decide) hnotice
  · rw [if_neg (by simp [Sump.joinedBy, hl, hj])] at hnotice
    exact hafter.handed (by decide) hnotice

/-- The settlement of a pump found running (R65). -/
theorem Works.settlePump_running (hx : w.dewater.pumps[i]? = some x) (hs : w.dewater.sumps[x.sump]? = some s)
    (hr : x.running = .running) (hv : v = w.settlePump i) :
    (x.grant ≠ .granted → v.handed (.adoptionNotice i x.runPower)) ∧
    ∃ y, v.dewater.pumps[i]? = some y ∧ y.grant = .granted ∧ y.history = x.history ∧ y.trip = x.trip ∧
      (x.trip.isSome = true → y.state = .tripped) ∧
      (x.trip = none → x.out = true → y.state = .stopping ∧ y.mark = .service ∧ (w.lineRoom → v.haltWaits x.unit x.motor)) ∧
      (x.trip = none → x.out = false → (s.cutout.state = .active ∨ s.duty ≤ s.list.length) →
        y.state = .stopping ∧ y.mark = .demand ∧ (w.lineRoom → v.haltWaits x.unit x.motor)) ∧
      (x.trip = none → x.out = false → s.cutout.state ≠ .active → s.list.length < s.duty → y.state = .running ∧
        (∃ z, v.dewater.sumps[x.sump]? = some z ∧ z.list = s.list ++ [i]) ∧
        (s.list = [] → v.handed (.classNotice i 1)) ∧
        ∀ j rest, s.list = j :: rest → j ≠ i → v.handed (.classNotice i 2)) := by
  constructor
  · intro hg
    rw [hv]
    refine (Works.settlePump_leads_settling hx hs).handed (by decide) ?_
    rw [Works.settling_running hr]
    exact Works.keepOrAdoptPump_adopts (by split <;> simpa using hx) hg
  · rw [Works.settlePump_eq hx hs] at hv
    cases ht : x.trip with
    | some r =>
      rw [if_pos (by simp [ht])] at hv
      subst hv
      exact ⟨_, Works.movePump_pump (Works.settling_pump_running hx hr), rfl, rfl, ht, fun _ => rfl, nofun,
        nofun, nofun⟩
    | none =>
      rw [if_neg (by simp [ht])] at hv
      cases ho : x.out with
      | true =>
        rw [if_pos ho, if_pos (by simp [hr])] at hv
        obtain ⟨⟨a, b, hy⟩, hwait⟩ := Works.settled_stops hx hr hv
        exact ⟨_, hy, rfl, rfl, ht, nofun, fun _ _ => ⟨rfl, rfl, hwait⟩, fun _ h => by simp at h,
          fun _ h => by simp at h⟩
      | false =>
        rw [if_neg (by simp [ho]), if_neg (by simp [hr])] at hv
        cases ha : x.admittedTo s with
        | true =>
          rw [if_pos ha] at hv
          obtain ⟨hy, hlist⟩ := Works.settled_admitted hx hs hr ha hv
          have hroom : s.cutout.state ≠ .active ∧ s.list.length < s.duty := by simpa [Pump.admittedTo, hr, ht, ho] using ha
          exact ⟨_, hy, rfl, rfl, ht, nofun, fun _ h => by simp at h,
            fun _ _ h => (h.elim hroom.1 (by omega)).elim, fun _ _ _ _ => ⟨rfl, hlist⟩⟩
        | false =>
          rw [if_neg (by simp [ha])] at hv
          obtain ⟨⟨a, b, hy⟩, hwait⟩ := Works.settled_stops hx hr hv
          refine ⟨_, hy, rfl, rfl, ht, nofun, fun _ h => by simp at h, fun _ _ _ => ⟨rfl, rfl, hwait⟩,
            fun _ _ hc hd => ?_⟩
          simp [Pump.admittedTo, hr, ht, ho, hc, hd] at ha

/-- The settlement of a pump found not running (R65). -/
theorem Works.settlePump_stopped (hx : w.dewater.pumps[i]? = some x) (hs : w.dewater.sumps[x.sump]? = some s)
    (hr : x.running ≠ .running) (hv : v = w.settlePump i) :
    (x.grant = .granted → v.handed (.loadRelease i)) ∧ (x.grant = .requested → v.handed (.loadWithdrawal i)) ∧
    v.line.queue = w.line.queue ∧
    ∃ y, v.dewater.pumps[i]? = some y ∧ y.grant = .none ∧ y.lastStop = some (x.lastStop.getD w.now) ∧ y.trip = x.trip ∧
      (x.trip.isSome = true → y.state = .tripped) ∧ (x.trip = none → x.out = true → y.state = .outOfService) ∧
      (x.trip = none → x.out = false → y.state = { x with lastStop := some (x.lastStop.getD w.now) }.restState w.now) := by
  have hafter := Works.settlePump_leads_settling hx hs
  have hp := Works.settling_pump_stopped (s := s) hx hr
  have hline := (Works.settling_only i x s w).line_eq (by decide)
  have hnow := (Works.settling_only i x s w).now_eq
  rw [← hv, Works.settling_stopped hr] at hafter
  have hdrop {n : Instr} (h : (w.dropPumpGrant i).handed n) : v.handed n := hafter.handed (by decide) h
  refine ⟨fun hg => hdrop (Works.dropPumpGrant_releases hx hg), fun hg => hdrop (Works.dropPumpGrant_withdraws hx hg), ?_⟩
  rw [Works.settlePump_eq hx hs] at hv
  cases ht : x.trip with
  | some r =>
    rw [if_pos (by simp [ht])] at hv
    subst hv
    exact ⟨by rw [Works.movePump_line, hline], _, Works.movePump_pump hp, rfl, rfl, ht, fun _ => rfl, nofun,
      nofun⟩
  | none =>
    rw [if_neg (by simp [ht])] at hv
    cases ho : x.out with
    | true =>
      rw [if_pos ho, if_neg (by simp [hr])] at hv
      subst hv
      exact ⟨by rw [Works.movePump_line, hline], _, Works.movePump_pump hp, rfl, rfl, ht, nofun,
        fun _ _ => rfl, fun _ h => by simp at h⟩
    | false =>
      rw [if_neg (by simp [ho]), if_pos (by simp [hr]), hnow] at hv
      subst hv
      exact ⟨by rw [Works.movePump_line, hline], _, Works.movePump_pump hp, rfl, rfl, ht, nofun,
        fun _ h => by simp at h, fun _ _ => rfl⟩

end Settle

/-- Settles O38: each event is its operations in order, and what each leaves is kept by those after it. -/
theorem pumpAutoAndClear : Obligations.PumpAutoAndClear := by
  unfold Obligations.PumpAutoAndClear
  refine ⟨fun k o x s h ht hc hx => ?_, fun k o x s h ht hc hx => ?_, fun w v i c x hx hc hv => ?_,
    fun w v i x s hx hs hr hv => Works.settlePump_running hx hs hr hv,
    fun w v i x s hx hs hr hv => Works.settlePump_stopped hx hs hr hv⟩
  · obtain rfl := State.orderWaits_slot s k o h
    rw [exec_pumpAuto h hc ht]
    refine ⟨fun hr => by rw [Works.pumpAutoOrder_refused hx hr], fun hr => ⟨_, rfl, ?_, Works.pumpAutoOrder_spec hx hr⟩⟩
    exact (Works.pumpAutoOrder_leads o _ (by decide) .refl : Works.Leads Part.ofPumpOrder _ _).keepsButClaims
  · obtain rfl := State.orderWaits_slot s k o h
    rw [exec_pumpClear h hc ht]
    refine ⟨fun hs => by rw [Works.pumpClearOrder_untripped hx hs], fun hs => ⟨_, rfl, ?_, Works.pumpClearOrder_completed hx hs,
      fun hr => Works.pumpClearOrder_rests_handed hx hs hr, fun hf hr => Works.pumpClearOrder_stops_recorded hx hs hf hr⟩⟩
    exact (Works.pumpClearOrder_leads o _ (by decide) .refl : Works.Leads Part.ofServing _ _).keepsPumps
  · subst hv
    have hunlisted := Works.uncommandPump_leads_unlisted (c := c) hx
    have hsettled := Works.uncommandPump_leads_settled (c := c) hx
    have hlist := Works.uncommandPump_leads_list (c := c) hx
    have hpre := (w.preemptPump_only i c).dewater_eq (by decide)
    obtain ⟨hrun, hstop, haway⟩ := Works.settleLost_handed (c := c) (w := w.unlisted i c) (x := x) (i := i)
      (by rw [Works.unlisted_pumps, hx])
    refine ⟨Works.uncommandPump_queue hx, fun a ha hi ho => ?_, fun g hg hm => ?_, fun s hs => ⟨Works.uncommandPump_sump hx hs, ?_⟩,
      _, Works.uncommandPump_pump hx, rfl, Works.uncommandPump_recorded hx, ?_, ?_, ?_, ?_⟩
    · exact hlist.completed (by decide) ((Works.leaveList_only i _).completed (by decide) (Works.preemptPump_completed ha hi ho))
    · have hbudget : Works.Leads Part.ofServing w (((w.preemptPump i c).leaveList i).giveUp (.pumpStart i) .disregarded) :=
        Works.giveUp_leads _ _ _ (by decide) (Works.leaveList_leads _ _ (by decide) (Works.preemptPump_leads _ _ _ (by decide) .refl))
      exact hunlisted.handed (by decide) (Works.failShed_fails (g := g) (by rw [hbudget.budget_eq (by decide), hg]) hm)
    · exact fun j rest hl hj => hlist.handed (by decide)
        (Works.leaveList_notifies (x := x) (s := s) (by rw [hpre, hx]) (by rw [hpre, hs]) hl hj)
    · exact fun hc hr => ⟨(hrun hc hr).1, fun hg => hsettled.handed (by decide) ((hrun hc hr).2 hg)⟩
    · exact fun hc hr => ⟨(hstop hc hr).1, fun hg => hsettled.handed (by decide) ((hstop hc hr).2.1 hg),
        fun hg => hsettled.handed (by decide) ((hstop hc hr).2.2 hg)⟩
    · exact fun hc => ⟨(haway hc).1, fun hg => ⟨((haway hc).2 hg).1, hsettled.handed (by decide) ((haway hc).2 hg).2⟩⟩
    · intro hp hg hcr
      rw [Works.uncommandPump_eq hx]
      exact (Works.movePump_leads (ps := Part.ofServing) _ _ _ (by decide) .refl).handed (by decide)
        (Works.tellKept_handed hp hg hcr)

end Sys2Proof.Machine

namespace Sys2Proof.Machine

open Sys2Proof

/-! # PUMP SERVICE and LEAD SET (R53, R70) -/

/-! ## The ACTIVE PUMP SERVICE of a pump that stops (R70) -/

section Active

variable {w v : Works} {i j : Nat} {a : Active} {x : Pump} {o : Order}

theorem Works.Leads.holdsAlone {ps : List Part} (h : Works.Leads ps w v) (hp : Part.active ∉ ps) (ha : w.holdsAlone a) :
    v.holdsAlone a := ha.congr (h.active_eq hp)

theorem Works.holdsAlone.advance (h : w.holdsAlone a) (si : Nat) : (w.advanceLead si).holdsAlone a :=
  (Works.advanceLead_leads (ps := [.dewater]) si w (by decide) .refl).holdsAlone (by decide) h

theorem Works.holdsAlone.halt (h : w.holdsAlone a) (j : Nat) : (w.haltPump j).holdsAlone a :=
  (Works.haltPump_leads (ps := [.dewater, .portals, .lights, .line]) j w (by decide) .refl).holdsAlone (by decide) h

theorem Works.holdsAlone.drop (h : w.holdsAlone a) (j : Nat) : (w.dropPumpGrant j).holdsAlone a :=
  (w.dropPumpGrant_only j).holdsAlone (by decide) h

theorem Works.holdsAlone.request (h : w.holdsAlone a) (j : Nat) : (w.requestPump j).holdsAlone a :=
  (w.requestPump_only j).holdsAlone (by decide) h

theorem Works.holdsAlone.leave (h : w.holdsAlone a) (j : Nat) : (w.leaveList j).holdsAlone a :=
  (w.leaveList_only j).holdsAlone (by decide) h

/-- The end of an abandoned pair leaves the PUMP SERVICE of another pump. -/
theorem Works.holdsAlone.unexecuted (h : w.holdsAlone a) (hc : a.code = .pumpService) (hj : a.subject ≠ j) :
    (w.abandonedUnexecuted j).holdsAlone a := by
  unfold Works.abandonedUnexecuted
  split
  · exact h
  · split
    · exact h
    · have hu (f : Pump → Pump) : (w.updPump j f).holdsAlone a := h.congr rfl
      dsimp only
      split
      · split
        · exact (((hu _).drop j).move hc (.inl hj)).request j
        · exact ((hu _).drop j).move hc (.inl hj)
        · exact (((hu _).drop j).move hc (.inl hj)).advance _
      · split
        · refine Works.holdsAlone.request ?_ j
          exact (hu (fun p => { p with pair := .none, pairRefused := false })).congr rfl
        · exact hu _
      · exact hu _

theorem Works.holdsAlone.abandon (h : w.holdsAlone a) (hc : a.code = .pumpService) (hj : a.subject ≠ j) :
    (w.abandonStart j).holdsAlone a := by
  unfold Works.abandonStart
  split
  · exact h
  · have hg : ((w.updPump j (fun p => { p with pair := .abandoned })).giveUp (.pumpStart j) .abandoned).holdsAlone a := h.congr rfl
    dsimp only
    split
    · exact hg.unexecuted hc hj
    · exact hg

theorem Works.holdsAlone.dismiss (h : w.holdsAlone a) (hc : a.code = .pumpService) (hj : a.subject ≠ j) :
    (w.dismiss j).holdsAlone a := by
  have hl := h.leave j
  unfold Works.dismiss
  split
  · exact h
  · dsimp only
    split
    · split
      · exact (hl.move hc (.inl hj)).abandon hc hj
      · split
        · exact hl.move hc (.inl hj)
        · exact (hl.drop j).move hc (.inl hj)
    · exact (hl.move hc (.inl hj)).halt j
    · exact (hl.move hc (.inl hj)).halt j
    · exact hl.congr rfl
    · exact hl

/-- Serving leaves the PUMP SERVICE of a pump that is ordered and not IDLE. -/
theorem Works.Serves.holdsAlone (h : w.Serves v) (ha : w.holdsAlone a) (hc : a.code = .pumpService)
    (hclaim : w.claimOf (.pump a.subject) ≠ .auto) (hx : w.dewater.pumps[a.subject]? = some x) (hi : x.state ≠ .idle) :
    v.holdsAlone a := by
  induction h with
  | refl => exact ha
  | dismiss j v hv hj ih =>
    refine ih.dismiss hc ?_
    rintro rfl
    exact hclaim ((hv.claimOf_eq _).symm.trans hj)
  | call j v q hv hq hs ih =>
    refine ih.call hc ?_
    rintro rfl
    obtain ⟨b, d, hy⟩ := hv.pump_ordered hx hclaim hi
    obtain rfl : x.flagged b d = q := Option.some.inj (hy.symm.trans hq)
    exact hi hs

theorem Works.supersedePump_active (o : Order) (w : Works) : (w.supersedePump o).active ⊆ w.active :=
  each_induction (P := fun v : Works => v.active ⊆ w.active) (List.Subset.refl _) fun _ _ _ hv _ hb => hv (Works.mem_complete.mp hb).1

/-- An accepted order whose slot holds no other is alone in it. -/
theorem Works.accept_holdsAlone (h : ∀ a ∈ w.active, a.slot ≠ o.slot) : (w.accept o).holdsAlone (o.active 0) := by
  refine ⟨Works.accept_active o w, fun b hb hs => ?_⟩
  rcases List.mem_append.mp hb with hb | hb
  · rw [(Works.orderClaim_only _ _ _).active_eq (by decide)] at hb
    exact absurd hs (h b (Works.supersedePump_active o w hb))
  · exact List.mem_singleton.mp hb

end Active

/-! ## PUMP SERVICE 1 (R70) -/

section Service

variable {w u v : Works} {o : Order} {x : Pump} {s : Sump}

theorem exec_pumpService {k : Nat} {s : State} (h : s.orderWaits k o) (hc : o.code = .pumpService) (hs : s.works.takesOrders) :
    exec (.pumpService k) s = .next (s.takenUp k (s.works.pumpServiceOrder o)) :=
  takeUp_of_waits _ _ k o s h hc hs

theorem Works.pumpServiceOrder_refused (hx : w.dewater.pumps[o.subject]? = some x)
    (h : (w.claimOf (.pump o.subject)).commands = false) :
    w.pumpServiceOrder o = o.finish 5 (w.claimOf (.pump o.subject)).code 0 [] w := by
  simp only [Works.pumpServiceOrder, hx]
  exact if_pos (ClaimValue.refuses_of_not_commands h)

theorem Works.pumpServiceOrder_invalid (hx : w.dewater.pumps[o.subject]? = some x)
    (h : (w.claimOf (.pump o.subject)).commands = true) (hp : 1 < o.param) :
    w.pumpServiceOrder o = o.finish 10 5 o.param [] w := by
  simp only [Works.pumpServiceOrder, hx]
  rw [if_neg (ClaimValue.not_refuses_of_commands h), if_neg (by omega), if_neg (by omega)]
  rfl

theorem Works.pumpServiceOrder_stopFail (hx : w.dewater.pumps[o.subject]? = some x)
    (h : (w.claimOf (.pump o.subject)).commands = true) (hp : o.param = 1) (hs : x.state = .tripped) (ht : x.trip = some .stopFail) :
    w.pumpServiceOrder o = o.finish 10 1 x.tripSecond [x.tripCode] w := by
  simp only [Works.pumpServiceOrder, hx]
  rw [if_neg (ClaimValue.not_refuses_of_commands h), if_pos hp, if_pos ⟨hs, ht⟩]
  rfl

/-- A pump that is wanted out of service. -/
def Pump.outWanted (x : Pump) : Pump := { x with intent := none, out := true }

/-- The works of an accepted PUMP SERVICE 1, with the intent gone and the able pumps counted. -/
def Works.outWanted (o : Order) (si : Nat) (w : Works) : Works :=
  ((w.accept o).updPump o.subject Pump.outWanted).recount si

theorem Works.pumpServiceOrder_one (hx : w.dewater.pumps[o.subject]? = some x)
    (h : (w.claimOf (.pump o.subject)).commands = true) (hp : o.param = 1) (hs : ¬ (x.state = .tripped ∧ x.trip = some .stopFail)) :
    w.pumpServiceOrder o = (((w.outWanted o x.sump).pumpOut o.subject x).judgePumpOrders o.subject).serve x.sump := by
  simp only [Works.pumpServiceOrder, hx]
  rw [if_neg (ClaimValue.not_refuses_of_commands h), if_pos hp, if_neg hs]
  rfl

theorem Works.outWanted_pump (hx : w.dewater.pumps[o.subject]? = some x) (si : Nat) :
    (w.outWanted o si).dewater.pumps[o.subject]? = some x.outWanted := by
  rw [Works.outWanted, Works.recount_pumps, Works.updPump_pumps, Works.accept_dewater, getElem?_updAt_self hx]

theorem Works.outWanted_active (o : Order) (si : Nat) (w : Works) : (w.outWanted o si).active = (w.accept o).active := by
  rw [Works.outWanted, Works.recount_active, Works.updPump_active]

theorem Works.outWanted_line (o : Order) (si : Nat) (w : Works) : (w.outWanted o si).line = w.line := by
  rw [Works.outWanted, Works.recount_line]
  exact Works.accept_line o w

theorem Works.outWanted_claimOf (h : (w.claimOf (.pump o.subject)).commands = true) (si : Nat) :
    (w.outWanted o si).claimOf (.pump o.subject) = .ordered := by
  have hc : (w.outWanted o si).claims = (w.accept o).claims := by
    rw [Works.outWanted, (Works.recount_only _ _).claims_eq (by decide)]
    rfl
  rw [Works.claimOf_congr hc, Works.accept_claimOf h]

/-- The claim stays ORDERED while the pump goes out of service. -/
theorem Works.pumpOut_claimOf (h : (w.claimOf (.pump o.subject)).commands = true) (si i : Nat) (x : Pump) :
    (((w.outWanted o si).pumpOut i x).judgePumpOrders i).claimOf (.pump o.subject) = .ordered := by
  have hl : Works.Leads Part.ofServing (w.outWanted o si) (((w.outWanted o si).pumpOut i x).judgePumpOrders i) :=
    Works.judgePumpOrders_leads _ _ (by decide) (Works.pumpOut_leads _ _ _ (by decide) .refl)
  rw [Works.claimOf_congr (hl.claims_eq (by decide)), Works.outWanted_claimOf h]

/-- Once it is out of service the pump stays so, and what was completed stays completed. -/
theorem Works.serves_out {y : Pump} {si : Nat} (hy : u.dewater.pumps[o.subject]? = some y) (hs : y.state = .outOfService)
    (hd : (u.judgePumpOrders o.subject).completed o.slot 0 0 0) :
    ((u.judgePumpOrders o.subject).serve si).completed o.slot 0 0 0 ∧
    ∃ a b, ((u.judgePumpOrders o.subject).serve si).dewater.pumps[o.subject]? = some (y.flagged a b) :=
  ⟨(Works.serve_only si _).completed (by decide) hd,
    (Works.serve_serves si _).pump_unused (by rwa [Works.judgePumpOrders_dewater]) (.inl hs)⟩

/-- A change of the pump to OUT_OF_SERVICE completes its PUMP SERVICE. -/
theorem Works.out_done {f : Pump → Pump} {y : Pump} {si : Nat} (ho : o.code = .pumpService) (ha : o.active 0 ∈ u.active)
    (hy : u.dewater.pumps[o.subject]? = some y) (hf : (f y).state = .outOfService) :
    (((u.movePump o.subject f).judgePumpOrders o.subject).serve si).completed o.slot 0 0 0 ∧
    ∃ a b, (((u.movePump o.subject f).judgePumpOrders o.subject).serve si).dewater.pumps[o.subject]? = some ((f y).flagged a b) :=
  Works.serves_out (Works.movePump_pump hy) hf ((Works.judgePumpOrders_only _ _).completed (by decide)
    (Works.movePump_done hy ha rfl (.inr (.inr ⟨ho, hf⟩))))

theorem Works.pumpService_of_rest (hx : w.dewater.pumps[o.subject]? = some x) (ho : o.code = .pumpService)
    (h : (w.claimOf (.pump o.subject)).commands = true) (hp : o.param = 1) (hs : x.state = .idle ∨ x.state = .resting) :
    (w.pumpServiceOrder o).claimOf (.pump o.subject) = .ordered ∧ (w.pumpServiceOrder o).completed o.slot 0 0 0 ∧
    ∃ y, (w.pumpServiceOrder o).dewater.pumps[o.subject]? = some y ∧ y.state = .outOfService ∧ y.out = true ∧ y.intent = none := by
  have hclaim := Works.pumpOut_claimOf h x.sump o.subject x
  have hout : (w.outWanted o x.sump).pumpOut o.subject x =
      (w.outWanted o x.sump).movePump o.subject (fun p => { p with state := .outOfService }) := by
    rcases hs with hs | hs <;> simp only [Works.pumpOut, hs]
  have hactive : o.active 0 ∈ (w.outWanted o x.sump).active := by
    rw [Works.outWanted_active]
    exact Works.accept_active o w
  rw [Works.pumpServiceOrder_one hx h hp (by rcases hs with hs | hs <;> simp [hs]), (Works.serve_serves _ _).claimOf_eq, hclaim, hout]
  obtain ⟨hdone, a, b, hy⟩ := Works.out_done (f := fun p => { p with state := .outOfService }) (si := x.sump) ho hactive
    (Works.outWanted_pump hx _) rfl
  exact ⟨rfl, hdone, _, hy, rfl, rfl, rfl⟩

/-- A tripped pump taken out of service. -/
def Pump.tripCleared (x : Pump) : Pump := { x with state := .outOfService, trip := none, tripCode := 0 }

/-- A waiting pump taken out of service. -/
def Pump.waitEnded (x : Pump) : Pump := { x with state := .outOfService, cause := none, mark := .demand }

theorem Works.pumpService_of_unused (hx : w.dewater.pumps[o.subject]? = some x) (ho : o.code = .pumpService)
    (h : (w.claimOf (.pump o.subject)).commands = true) (hp : o.param = 1)
    (hs : x.state = .outOfService ∨ x.state = .tripped ∧ x.trip ≠ some .stopFail ∨ x.state = .waiting ∧ x.pair ≠ .inFlight) :
    (w.pumpServiceOrder o).claimOf (.pump o.subject) = .ordered ∧ (w.pumpServiceOrder o).completed o.slot 0 0 0 ∧
    (x.state = .waiting → x.grant = .requested → (w.pumpServiceOrder o).handed (.loadWithdrawal o.subject)) ∧
    ∃ y, (w.pumpServiceOrder o).dewater.pumps[o.subject]? = some y ∧ y.state = .outOfService ∧ y.out = true ∧ y.intent = none ∧
      (x.state ≠ .outOfService → y.cause = none ∨ x.state = .tripped) ∧ (x.state = .tripped → y.trip = none) := by
  have hclaim := Works.pumpOut_claimOf h x.sump o.subject x
  have hwanted := Works.outWanted_pump hx x.sump
  have hactive : o.active 0 ∈ (w.outWanted o x.sump).active := by
    rw [Works.outWanted_active]
    exact Works.accept_active o w
  have hnot : ¬ (x.state = .tripped ∧ x.trip = some .stopFail) := by
    rintro ⟨h1, h2⟩
    simp [h1, h2] at hs
  rw [Works.pumpServiceOrder_one hx h hp hnot, (Works.serve_serves _ _).claimOf_eq, hclaim]
  rcases hs with hs | ⟨hs, -⟩ | ⟨hs, hpair⟩
  · have hout : (w.outWanted o x.sump).pumpOut o.subject x = w.outWanted o x.sump := by simp only [Works.pumpOut, hs]
    have hdone := Works.judgePumpOrders_done (a := o.active 0) hwanted hactive rfl (.inr (.inr ⟨ho, hs⟩))
    obtain ⟨hdone, a, b, hy⟩ := Works.serves_out (si := x.sump) hwanted hs hdone
    rw [hout]
    exact ⟨rfl, hdone, fun hw => by simp [hs] at hw, _, hy, hs, rfl, rfl,
      fun hne => absurd hs hne, fun ht => by simp [hs] at ht⟩
  · have hout : (w.outWanted o x.sump).pumpOut o.subject x =
        ((w.outWanted o x.sump).dropPumpGrant o.subject).movePump o.subject Pump.tripCleared := by
      simp only [Works.pumpOut, hs]
      rfl
    obtain ⟨hdone, a, b, hy⟩ := Works.out_done (u := (w.outWanted o x.sump).dropPumpGrant o.subject) (f := Pump.tripCleared)
      (si := x.sump) ho (by rwa [(Works.dropPumpGrant_only _ _).active_eq (by decide)])
      (by rw [Works.dropPumpGrant_pumps, getElem?_updAt_self hwanted]) rfl
    rw [hout]
    exact ⟨rfl, hdone, fun hw => by simp [hs] at hw, _, hy, rfl, rfl, rfl, fun _ => .inr hs, fun _ => rfl⟩
  · have hout : (w.outWanted o x.sump).pumpOut o.subject x =
        (((w.outWanted o x.sump).leaveList o.subject).dropPumpGrant o.subject).movePump o.subject Pump.waitEnded := by
      simp only [Works.pumpOut, hs, if_neg hpair]
      rfl
    have hleft : ((w.outWanted o x.sump).leaveList o.subject).dewater.pumps[o.subject]? = some x.outWanted := by
      rw [Works.leaveList_pumps, hwanted]
    obtain ⟨hdone, a, b, hy⟩ := Works.out_done
      (u := ((w.outWanted o x.sump).leaveList o.subject).dropPumpGrant o.subject) (f := Pump.waitEnded) (si := x.sump) ho
      (by rwa [(Works.dropPumpGrant_only _ _).active_eq (by decide), (Works.leaveList_only _ _).active_eq (by decide)])
      (by rw [Works.dropPumpGrant_pumps, getElem?_updAt_self hleft]) rfl
    have hafter := Works.serve_leads (ps := Part.ofServing) x.sump _ (by decide) (Works.judgePumpOrders_leads o.subject _ (by decide)
      (Works.movePump_leads o.subject Pump.waitEnded _ (by decide)
        (.refl (w0 := ((w.outWanted o x.sump).leaveList o.subject).dropPumpGrant o.subject))))
    rw [hout]
    exact ⟨rfl, hdone, fun _ hg => hafter.handed (by decide) (Works.dropPumpGrant_withdraws hleft hg), _, hy, rfl, rfl, rfl,
      fun _ => .inl rfl, fun ht => by simp [hs] at ht⟩

/-- A pump that its PUMP SERVICE stops goes on stopping, and the order stays ACTIVE. -/
theorem Works.serves_stopping {y : Pump} {si : Nat} (ho : o.code = .pumpService) (hy : u.dewater.pumps[o.subject]? = some y)
    (hs : y.state = .stopping) (ha : u.holdsAlone (o.active 0))
    (hc : (u.judgePumpOrders o.subject).claimOf (.pump o.subject) = .ordered)
    (hv : v = (u.judgePumpOrders o.subject).serve si) :
    o.active 0 ∈ v.active ∧ (∃ a b, v.dewater.pumps[o.subject]? = some (y.flagged a b)) ∧
    ∀ n m, u.haltWaits n m → v.haltWaits n m := by
  have hy' : (u.judgePumpOrders o.subject).dewater.pumps[o.subject]? = some y := by rwa [Works.judgePumpOrders_dewater]
  have hserves := Works.serve_serves si (u.judgePumpOrders o.subject)
  have hne : (u.judgePumpOrders o.subject).claimOf (.pump o.subject) ≠ .auto := by rw [hc]; decide
  have hidle : y.state ≠ .idle := by simp [hs]
  subst hv
  refine ⟨(hserves.holdsAlone (ha.judge ho (.inr ⟨y, hy, hs⟩)) ho hne hy' hidle).1, hserves.pump_ordered hy' hne hidle,
    fun n m h => hserves.halts ?_⟩
  rwa [Works.haltWaits, Works.judgePumpOrders_line]

theorem Works.outWanted_holdsAlone (h : ∀ a ∈ w.active, a.slot ≠ o.slot) (si : Nat) :
    (w.outWanted o si).holdsAlone (o.active 0) :=
  (Works.accept_holdsAlone h).congr (Works.outWanted_active o si w)

/-- A pump that starts or runs is stopped for its PUMP SERVICE. -/
theorem Works.pumpOut_of_use {i : Nat} {y : Pump} (hs : x.state = .starting ∨ x.state = .running) (hx : u.dewater.pumps[i]? = some y)
    (hv : v = u.pumpOut i x) : (∃ a b, v.dewater.pumps[i]? = some ((y.stopsFor .service).flagged a b)) ∧
      (u.lineRoom → v.haltWaits y.unit y.motor) ∧ ∀ a, u.holdsAlone a → a.code = .pumpService → v.holdsAlone a := by
  have hout : u.pumpOut i x = ((u.leaveList i).movePump i (Pump.stopsFor .service)).haltPump i := by
    rcases hs with hs | hs <;> simp only [Works.pumpOut, hs] <;> rfl
  have hp : ((u.leaveList i).movePump i (Pump.stopsFor .service)).dewater.pumps[i]? = some (y.stopsFor .service) :=
    Works.movePump_pump (by rw [Works.leaveList_pumps, hx])
  subst hv
  rw [hout]
  refine ⟨(Works.haltPump_asks i _).alike i _ hp, fun hr => ?_, fun a ha hc => ?_⟩
  · have hw := Works.haltPump_waits hp (by rwa [Works.lineRoom, Works.movePump_line, Works.leaveList_line])
    exact hw
  · exact ((ha.leave i).move hc (.inr fun _ _ => rfl)).halt i

/-- A pump that waits with its pair on its way gives the pair up for its PUMP SERVICE. -/
theorem Works.pumpOut_of_pair {i : Nat} {y : Pump} (hs : x.state = .waiting) (hpair : x.pair = .inFlight)
    (hx : u.dewater.pumps[i]? = some y) (hr : y.pairRefused = false) (hv : v = u.pumpOut i x) :
    v.dewater.pumps[i]? = some { y.givesUpFor .service with pair := .abandoned } ∧
      ∀ a, u.holdsAlone a → a.code = .pumpService → v.holdsAlone a := by
  have hout : u.pumpOut i x =
      ((if u.inList i then u.leaveList i else u).movePump i (Pump.givesUpFor .service)).abandonStart i := by
    simp only [Works.pumpOut, hs, if_pos hpair]
    rfl
  have hl : (if u.inList i then u.leaveList i else u).dewater.pumps = u.dewater.pumps := by split <;> simp
  have hp : ((if u.inList i then u.leaveList i else u).movePump i (Pump.givesUpFor .service)).dewater.pumps[i]? =
      some (y.givesUpFor .service) := Works.movePump_pump (by rw [hl, hx])
  subst hv
  rw [hout, Works.abandonStart_eq hp hr]
  refine ⟨?_, fun a ha hc => Works.holdsAlone.congr (w := (if u.inList i then u.leaveList i else u).movePump i
    (Pump.givesUpFor .service)) (Works.holdsAlone.move ?_ hc (.inr fun _ _ => rfl)) rfl⟩
  · rw [Works.giveUp_dewater, Works.updPump_pumps, getElem?_updAt_self hp]
  · split
    · exact ha.leave i
    · exact ha

theorem Works.pumpService_of_use (hx : w.dewater.pumps[o.subject]? = some x) (ho : o.code = .pumpService)
    (h : (w.claimOf (.pump o.subject)).commands = true) (hp : o.param = 1) (hs : x.state = .starting ∨ x.state = .running ∨
      x.state = .stopping ∨ x.state = .waiting ∧ x.pair = .inFlight ∧ x.pairRefused = false)
    (halone : ∀ a ∈ w.active, a.slot ≠ o.slot) (hv : v = w.pumpServiceOrder o) :
    v.claimOf (.pump o.subject) = .ordered ∧ o.active 0 ∈ v.active ∧
    ((x.state = .starting ∨ x.state = .running) → w.lineRoom → v.haltWaits x.unit x.motor) ∧
    ∃ y, v.dewater.pumps[o.subject]? = some y ∧ y.state = .stopping ∧ y.mark = .service ∧ y.out = true ∧
      y.intent = none ∧ y.grant = x.grant ∧ (x.state = .waiting → y.pair = .abandoned) := by
  have hclaim := Works.pumpOut_claimOf h x.sump o.subject x
  have hwanted := Works.outWanted_pump hx x.sump
  have hheld := Works.outWanted_holdsAlone halone x.sump
  have hnot : ¬ (x.state = .tripped ∧ x.trip = some .stopFail) := by
    rintro ⟨h1, h2⟩
    simp [h1] at hs
  rw [Works.pumpServiceOrder_one hx h hp hnot] at hv
  refine ⟨by rw [hv, (Works.serve_serves _ _).claimOf_eq, hclaim], ?_⟩
  by_cases huse : x.state = .starting ∨ x.state = .running
  · obtain ⟨⟨a, b, hy⟩, hwait, hstay⟩ := Works.pumpOut_of_use huse hwanted rfl
    obtain ⟨hactive, ⟨c, d, hz⟩, hhalts⟩ := Works.serves_stopping ho hy rfl (hstay _ hheld ho) hclaim hv
    refine ⟨hactive, fun _ hr => hhalts _ _ (hwait (by rwa [Works.lineRoom, Works.outWanted_line])), _, hz, rfl, rfl, rfl, rfl, rfl,
      fun hw => ?_⟩
    simp [hw] at huse
  · rcases hs with hs | hs | hs | ⟨hs, hpair, hr⟩
    · exact absurd (.inl hs) huse
    · exact absurd (.inr hs) huse
    · have hout : (w.outWanted o x.sump).pumpOut o.subject x =
          ((w.outWanted o x.sump).leaveList o.subject).updPump o.subject (fun p => { p with mark := .service }) := by
        simp only [Works.pumpOut, hs]
      have hy : ((w.outWanted o x.sump).pumpOut o.subject x).dewater.pumps[o.subject]? =
          some { x.outWanted with mark := .service } := by
        rw [hout, Works.updPump_pumps, Works.leaveList_pumps, getElem?_updAt_self hwanted]
      have hstay : ((w.outWanted o x.sump).pumpOut o.subject x).holdsAlone (o.active 0) := by
        rw [hout]
        exact (hheld.leave _).congr rfl
      obtain ⟨hactive, ⟨c, d, hz⟩, -⟩ := Works.serves_stopping ho hy hs hstay hclaim hv
      exact ⟨hactive, fun h => absurd h huse, _, hz, hs, rfl, rfl, rfl, rfl, fun hw => by simp [hs] at hw⟩
    · obtain ⟨hy, hstay⟩ := Works.pumpOut_of_pair hs hpair hwanted hr rfl
      obtain ⟨hactive, ⟨c, d, hz⟩, -⟩ := Works.serves_stopping ho hy rfl (hstay _ hheld ho) hclaim hv
      exact ⟨hactive, fun h => absurd h huse, _, hz, rfl, rfl, rfl, rfl, rfl, fun _ => rfl⟩

/-! ## PUMP SERVICE 0 (R70) -/

theorem Works.pumpServiceOrder_zero_elsewhere (hx : w.dewater.pumps[o.subject]? = some x)
    (h : (w.claimOf (.pump o.subject)).commands = true) (hp : o.param = 0) (hs : x.state ≠ .outOfService) :
    w.pumpServiceOrder o = o.finish 0 0 0 [] (w.supersedePump o) := by
  simp only [Works.pumpServiceOrder, hx]
  rw [if_neg (ClaimValue.not_refuses_of_commands h), if_neg (by omega), if_pos hp, if_neg hs]
  rfl

/-- A pump brought back into service. -/
def Pump.broughtBack (now : Nat) (x : Pump) : Pump := { x with out := false, intent := some .stop, state := x.restState now }

theorem Works.pumpServiceOrder_zero (hx : w.dewater.pumps[o.subject]? = some x)
    (h : (w.claimOf (.pump o.subject)).commands = true) (hp : o.param = 0) (hs : x.state = .outOfService) :
    w.pumpServiceOrder o = (o.finish 0 0 0 [] (((w.supersedePump o).orderClaim (.pump o.subject) o.slot).movePump o.subject
      (Pump.broughtBack w.now))).serve x.sump := by
  simp only [Works.pumpServiceOrder, hx]
  rw [if_neg (ClaimValue.not_refuses_of_commands h), if_neg (by omega), if_pos hp, if_pos hs, (w.supersedePump_only o).now_eq]
  rfl

theorem Works.pumpService_elsewhere (hx : w.dewater.pumps[o.subject]? = some x)
    (h : (w.claimOf (.pump o.subject)).commands = true) (hp : o.param = 0) (hs : x.state ≠ .outOfService)
    (hv : v = w.pumpServiceOrder o) : v.claims = w.claims ∧ v.dewater = w.dewater ∧ v.completed o.slot 0 0 0 ∧
      ∀ a ∈ w.active, a.subject = o.subject → (a.code = .pumpRun ∨ a.code = .pumpStop ∨ a.code = .pumpService) →
        v.completed a.slot 7 o.slot 0 := by
  have hsup := w.supersedePump_only o
  have hfin : Works.Leads [.active] (w.supersedePump o) (o.finish 0 0 0 [] (w.supersedePump o)) :=
    Order.finish_leads _ _ _ _ _ _ (by decide) .refl
  rw [hv, Works.pumpServiceOrder_zero_elsewhere hx h hp hs]
  exact ⟨(hsup.trans hfin).claims_eq (by decide), (hsup.trans hfin).dewater_eq (by decide), Order.finish_completed ..,
    fun a ha hi hc => hfin.completed (by decide) (Works.supersedePump_completed ha hi hc)⟩

theorem Works.pumpService_back (hx : w.dewater.pumps[o.subject]? = some x)
    (h : (w.claimOf (.pump o.subject)).commands = true) (hp : o.param = 0) (hs : x.state = .outOfService)
    (hv : v = w.pumpServiceOrder o) : v.claimOf (.pump o.subject) = .ordered ∧ v.completed o.slot 0 0 0 ∧
      v.recorded .pump o.subject (some 0) (some (x.restState w.now).code) [0, 2, x.grant.code, x.runSeconds] false ∧
      ∃ y, v.dewater.pumps[o.subject]? = some y ∧ y.out = false ∧ y.intent = some .stop := by
  have hsup := w.supersedePump_only o
  have hclaimed := (w.supersedePump o).orderClaim_only (.pump o.subject) o.slot
  have hordered : ((w.supersedePump o).orderClaim (.pump o.subject) o.slot).claimOf (.pump o.subject) = .ordered :=
    Works.orderClaim_claimOf _ (by rwa [Works.claimOf_congr (hsup.claims_eq (by decide))])
  have hx' : ((w.supersedePump o).orderClaim (.pump o.subject) o.slot).dewater.pumps[o.subject]? = some x := by
    rw [hclaimed.dewater_eq (by decide), hsup.dewater_eq (by decide), hx]
  have hmove : Works.Leads Part.ofServing ((w.supersedePump o).orderClaim (.pump o.subject) o.slot)
      (((w.supersedePump o).orderClaim (.pump o.subject) o.slot).movePump o.subject (Pump.broughtBack w.now)) :=
    Works.movePump_leads _ _ _ (by decide) .refl
  have hend := Order.finish_serve_leads o x.sump
    (((w.supersedePump o).orderClaim (.pump o.subject) o.slot).movePump o.subject (Pump.broughtBack w.now))
  have hrest := x.restState_cases w.now
  have hrec := Works.movePump_recorded (f := Pump.broughtBack w.now) hx' (.inl (by
    change x.state ≠ x.restState w.now
    rcases hrest with h | h <;> simp [hs, h]))
  have hcause : (Pump.broughtBack w.now x).causeOrMark = 0 := by
    change Pump.causeOrMark { x with out := false, intent := some .stop, state := x.restState w.now } = 0
    rcases hrest with h | h <;> rw [h] <;> rfl
  rw [hcause, hs, hordered] at hrec
  rw [hv, Works.pumpServiceOrder_zero hx h hp hs]
  refine ⟨?_, Order.finish_serve_completed .., hend.recorded (by decide) hrec, ?_⟩
  · rw [Works.claimOf_congr ((hmove.trans hend).claims_eq (by decide)), hordered]
  · have hp : (o.finish 0 0 0 [] (((w.supersedePump o).orderClaim (.pump o.subject) o.slot).movePump o.subject
        (Pump.broughtBack w.now))).dewater.pumps[o.subject]? = some (x.broughtBack w.now) := Works.movePump_pump hx'
    obtain ⟨y, hy, hint, hout⟩ := (Works.serve_serves x.sump _).intent_out hp
    exact ⟨y, hy, hout, hint⟩

end Service

/-! ## LEAD SET (R53, R70) -/

section LeadSet

variable {w v : Works} {o : Order} {x : Pump} {s : Sump} {j : Nat}

theorem exec_leadSet {k : Nat} {s : State} (h : s.orderWaits k o) (hc : o.code = .leadSet) (hs : s.works.takesOrders) :
    exec (.leadSet k) s = .next (s.takenUp k (s.works.leadSetOrder o)) :=
  takeUp_of_waits _ _ k o s h hc hs

theorem Works.leadSetOrder_out (hx : w.dewater.pumps[o.subject]? = some x) (hs : x.state = .outOfService) :
    w.leadSetOrder o = o.finish 10 2 0 [] w := by
  simp only [Works.leadSetOrder, hx]
  exact if_pos hs

theorem Works.leadSetOrder_tripped (hx : w.dewater.pumps[o.subject]? = some x) (hs : x.state = .tripped) :
    w.leadSetOrder o = o.finish 10 1 x.tripSecond [x.tripCode] w := by
  simp only [Works.leadSetOrder, hx]
  rw [if_neg (by simp [hs]), if_pos hs]
  rfl

theorem Works.leadSetOrder_sets (hx : w.dewater.pumps[o.subject]? = some x) (hy : w.dewater.sumps[x.sump]? = some s)
    (hj : posOf (fun i => i == o.subject) s.rotation = some j) (ho : x.state ≠ .outOfService) (ht : x.state ≠ .tripped) :
    w.leadSetOrder o = o.finish 0 0 0 [] (w.setLead x.sump j 1) := by
  simp only [Works.leadSetOrder, hx, hy, hj]
  rw [if_neg ho, if_neg ht]
  rfl

theorem Works.leadSetOrder_spec (hx : w.dewater.pumps[o.subject]? = some x) (hy : w.dewater.sumps[x.sump]? = some s)
    (hj : posOf (fun i => i == o.subject) s.rotation = some j) (ho : x.state ≠ .outOfService) (ht : x.state ≠ .tripped)
    (hv : v = w.leadSetOrder o) : v.completed o.slot 0 0 0 ∧ v.dewater.pumps = w.dewater.pumps ∧
      v.dewater.sumps[x.sump]? = some { s with lead := j } ∧
      v.recorded .lead x.sump (some s.lead) (some j) [o.subject, 1] false := by
  have hfin : Works.Leads [.active] (w.setLead x.sump j 1) (o.finish 0 0 0 [] (w.setLead x.sump j 1)) :=
    Order.finish_leads _ _ _ _ _ _ (by decide) .refl
  have hat : s.rotation.getD j 0 = o.subject := by
    obtain ⟨a, ha, hsub⟩ := getElem?_of_posOf hj
    rw [List.getD_eq_getElem?_getD, ha, Option.getD_some]
    exact beq_iff_eq.mp hsub
  obtain ⟨hlead, hrec⟩ := Works.setLead_spec hy j 1
  rw [hat] at hrec
  rw [hv, Works.leadSetOrder_sets hx hy hj ho ht]
  refine ⟨Order.finish_completed .., ?_, ?_, hfin.recorded (by decide) hrec⟩
  · rw [hfin.dewater_eq (by decide), Works.setLead_eq hy]
    rfl
  · rw [hfin.dewater_eq (by decide), hlead]

end LeadSet

/-- Settles O39, by the state of the pump as the order comes: a stop leaves the order ACTIVE, all else completes it. -/
theorem pumpServiceAndLeadSet : Obligations.PumpServiceAndLeadSet := by
  unfold Obligations.PumpServiceAndLeadSet
  refine ⟨fun k o x s h ht hc hx => ?_, fun k j o x y s h ht hc hx hy hj => ?_⟩
  · obtain rfl := State.orderWaits_slot s k o h
    have hkeeps : s.works.keepsButClaims (s.works.pumpServiceOrder o) :=
      (Works.pumpServiceOrder_leads o _ (by decide) .refl : Works.Leads Part.ofPumpOrder _ _).keepsButClaims
    rw [exec_pumpService h hc ht]
    refine ⟨fun hr => ?_, fun hr hp => ?_, fun hr hp hs => ⟨_, rfl, hkeeps, Works.pumpService_of_rest hx hc hr hp hs⟩,
      fun hr hp hs htrip => ?_, fun hr hp hs => ⟨_, rfl, hkeeps, Works.pumpService_of_unused hx hc hr hp hs⟩,
      fun hr hp hs halone => ⟨_, rfl, hkeeps, Works.pumpService_of_use hx hc hr hp hs halone rfl⟩,
      fun hr hp hs => ⟨_, rfl, hkeeps, Works.pumpService_elsewhere hx hr hp hs rfl⟩,
      fun hr hp hs => ⟨_, rfl, hkeeps, Works.pumpService_back hx hr hp hs rfl⟩⟩
    · rw [Works.pumpServiceOrder_refused hx hr]
    · rw [Works.pumpServiceOrder_invalid hx hr hp]
    · rw [Works.pumpServiceOrder_stopFail hx hr hp hs htrip]
  · obtain rfl := State.orderWaits_slot s k o h
    rw [exec_leadSet h hc ht]
    refine ⟨fun hs => ?_, fun hs => ?_, fun hso hst => ⟨_, rfl, ?_, Works.leadSetOrder_spec hx hy hj hso hst rfl⟩⟩
    · rw [Works.leadSetOrder_out hx hs]
    · rw [Works.leadSetOrder_tripped hx hs]
    · exact (Works.leadSetOrder_leads o _ (by decide) .refl : Works.Leads Part.ofServing _ _).keepsPumps

end Sys2Proof.Machine

namespace Sys2Proof.Machine

open Sys2Proof

/-! # A step with nothing pending: the oldest notice, then time (log 1, 2, 24) -/

/-! ## The timers that are due -/

section Due

variable {w : Works} {i : Instr}

theorem mem_dueOf {α : Type} {p : Nat → α → Bool} {f : Nat → Instr} {l : List α} :
    i ∈ dueOf p f l ↔ ∃ n x, l[n]? = some x ∧ p n x = true ∧ i = f n := by
  simp only [dueOf, List.mem_map, List.mem_filter, Prod.exists, mem_indexed_zero, and_assoc, eq_comm]

theorem mem_dueIf {b : Bool} {c : Instr} : i ∈ dueIf b c ↔ b = true ∧ i = c := by
  cases b <;> simp [dueIf]

theorem mem_dueTimers : i ∈ w.dueTimers ↔
    i ∈ w.dueStation ∨ i ∈ w.dueLine ∨ i ∈ w.dueWater ∨ i ∈ w.dueBudget ∨ i ∈ w.dueDewater ∨ i ∈ w.duePortals := by
  simp only [Works.dueTimers, List.mem_append, or_assoc]

theorem mem_dueStation : i ∈ w.dueStation ↔
    ∃ p, w.station.programming = some p ∧ p.rowStart + 5 ≤ w.now ∧ i = .storeRowProgrammed none := by
  unfold Works.dueStation
  split
  · next p hp => simp [mem_dueIf, elapsed, hp]
  · next hp => simp [hp]

theorem Receiver.overGap_iff {r : Receiver} {now : Nat} :
    r.overGap now = true ↔ r.frame ≠ [] ∧ frameComplete r.frame = false ∧ r.lastByte + 2 < now := by
  simp [Receiver.overGap, and_assoc]

theorem Works.windowDue_iff : w.windowDue = true ↔ ∃ x, w.line.exchange = some x ∧ x.awaiting = true ∧
    frameComplete w.line.rx.frame = false ∧ x.windowStart + 25 ≤ w.now := by
  unfold Works.windowDue
  split
  · next x hx => simp [elapsed, hx, and_assoc]
  · next hx => simp [hx]

theorem mem_dueLine : i ∈ w.dueLine ↔
    (w.line.awaits = true ∧ w.line.rx.overGap w.now = true) ∧ i = .frameGapTimeout ∨
    w.windowDue = true ∧ i = .responseWindowExpiry ∨
    (w.stageRuns = true ∧ w.line.round.inProgress = false ∧
      elapsed w.line.round.start (w.siteTime Site.roundPeriod) w.now = true) ∧ i = .pollRoundStart := by
  simp only [Works.dueLine, List.mem_append, mem_dueIf, Bool.and_eq_true, Bool.not_eq_true', or_assoc, and_assoc]

theorem Channel.windowOver_iff {c : Channel} {now : Nat} : c.windowOver now = true ↔
    ∃ r, c.rise = some r ∧ ranOut (r.baseline.map Prod.snd) r.window now = true := by
  unfold Channel.windowOver
  split
  · next r hr => simp [hr]
  · next hr => simp [hr]

theorem mem_dueWater : i ∈ w.dueWater ↔
    (∃ c x, w.water.channels[c]? = some x ∧ x.windowOver w.now = true ∧ i = .riseWindowExpiry c) ∨
    (w.water.stage.stage = .watch ∧ ranOut w.water.stage.dwellStart (w.siteTime Site.watchDwell) w.now = true) ∧
      i = .watchDwellExpiry ∨
    (w.water.stage.stage = .closed ∧ ranOut w.water.stage.dwellStart (w.siteTime Site.reopenDwell) w.now = true) ∧
      i = .reopenDwellExpiry := by
  simp only [Works.dueWater, List.mem_append, mem_dueOf, mem_dueIf, Bool.and_eq_true, decide_eq_true_eq, or_assoc]

theorem Grant.windowOver_iff {g : Grant} {now : Nat} : g.windowOver now = true ↔
    ∃ t, g.state = .inrush ∧ g.energised = some t ∧ t + g.window ≤ now := by
  unfold Grant.windowOver
  rw [Bool.and_eq_true, decide_eq_true_eq]
  split
  · next t ht => simp [ht, elapsed]
  · next ht => simp [ht]

theorem mem_dueBudget : i ∈ w.dueBudget ↔
    ∃ n g, w.budget.grants[n]? = some g ∧ g.windowOver w.now = true ∧ i = .inrushWindowExpiry n := mem_dueOf

theorem Pump.awaitsRest_iff {x : Pump} :
    x.awaitsRest = true ↔ x.state = .resting ∨ x.state = .waiting ∧ x.cause = some .rest := by
  simp [Pump.awaitsRest]

theorem mem_dueDewater : i ∈ w.dueDewater ↔
    (∃ p x, w.dewater.pumps[p]? = some x ∧ (x.state = .starting ∧ x.confirmOver w.now = true) ∧ i = .startConfirmExpiry p) ∨
    (∃ p x, w.dewater.pumps[p]? = some x ∧ ((x.state = .stopping ∧ x.confirmOver w.now = true) ∧ x.running ≠ .stopped) ∧
      i = .stopConfirmExpiry p) ∨
    ∃ p x, w.dewater.pumps[p]? = some x ∧ (x.awaitsRest = true ∧ x.restAllows w.now = true) ∧ i = .pumpRestExpiry p := by
  simp only [Works.dueDewater, List.mem_append, mem_dueOf, Bool.and_eq_true, decide_eq_true_eq, Bool.not_eq_true',
    decide_eq_false_iff_not, or_assoc]

theorem mem_duePortal {n : Nat} : i ∈ w.duePortal n ↔
    (((w.portal n).closure = .warning ∧ ranOut (w.portal n).timer (w.portal n).warn w.now = true) ∧ w.suspended n = false) ∧
      i = .warnTimeExpiry n ∨
    ranOut (w.portal n).barrier.travel (w.portal n).barrier.limit w.now = true ∧ i = .barrierTravelExpiry n ∨
    (((w.portal n).closure = .clearing ∧ ranOut (w.portal n).timer (w.portal n).clearLimit w.now = true) ∧
      w.suspended n = false) ∧ i = .clearLimitExpiry n ∨
    (ranOut (w.portal n).gate.travel (w.portal n).gate.limit w.now = true ∧
      ((w.portal n).closure = .gating ∨ (w.portal n).closure = .ungating)) ∧ i = .gateTravelExpiry n ∨
    ranOut (w.portal n).gate.dwellStart (w.portal n).gate.dwell w.now = true ∧ i = .obstructionDwellExpiry n := by
  simp only [Works.duePortal, List.mem_append, mem_dueIf, Bool.and_eq_true, Bool.or_eq_true, decide_eq_true_eq,
    Bool.not_eq_true', or_assoc]

theorem mem_duePortals : i ∈ w.duePortals ↔
    ranOut w.portals.interior.dwellStart (w.siteTime Site.clearDwell) w.now = true ∧ i = .clearDwellExpiry ∨
    ∃ n, n < 2 ∧ i ∈ w.duePortal n := by
  have htwo : (∃ n, n < 2 ∧ i ∈ w.duePortal n) ↔ i ∈ w.duePortal 0 ∨ i ∈ w.duePortal 1 := by
    constructor
    · rintro ⟨n, hn, h⟩
      interval_cases n
      · exact .inl h
      · exact .inr h
    · rintro (h | h)
      · exact ⟨0, by decide, h⟩
      · exact ⟨1, by decide, h⟩
  rw [htwo]
  simp only [Works.duePortals, List.mem_append, mem_dueIf, or_assoc]

theorem due_of_mem_duePortal {n : Nat} (hn : n < 2) (h : i ∈ w.duePortal n) : w.due i := by
  rcases mem_duePortal.mp h with ⟨⟨⟨h1, h2⟩, h3⟩, rfl⟩ | ⟨hd, rfl⟩ | ⟨⟨⟨h1, h2⟩, h3⟩, rfl⟩ |
    ⟨⟨h1, h2⟩, rfl⟩ | ⟨hd, rfl⟩
  · exact ⟨hn, h1, h3, h2⟩
  · exact ⟨hn, hd⟩
  · exact ⟨hn, h1, h3, h2⟩
  · exact ⟨hn, h2, h1⟩
  · exact ⟨hn, hd⟩

/-- What is raised is due. -/
theorem due_of_mem_dueTimers (h : i ∈ w.dueTimers) : w.due i := by
  rcases mem_dueTimers.mp h with h | h | h | h | h | h
  · obtain ⟨p, hp, ht, rfl⟩ := mem_dueStation.mp h
    exact ⟨rfl, p, hp, ht⟩
  · rcases mem_dueLine.mp h with ⟨⟨ha, hg⟩, rfl⟩ | ⟨hd, rfl⟩ | ⟨hd, rfl⟩
    · exact ⟨ha, Receiver.overGap_iff.mp hg⟩
    · exact Works.windowDue_iff.mp hd
    · exact hd
  · rcases mem_dueWater.mp h with ⟨c, x, hx, ho, rfl⟩ | ⟨hd, rfl⟩ | ⟨hd, rfl⟩
    · obtain ⟨r, hr, ho⟩ := Channel.windowOver_iff.mp ho
      exact ⟨x, r, hx, hr, ho⟩
    · exact hd
    · exact hd
  · obtain ⟨n, g, hg, ho, rfl⟩ := mem_dueBudget.mp h
    obtain ⟨t, ho⟩ := Grant.windowOver_iff.mp ho
    exact ⟨g, t, hg, ho⟩
  · rcases mem_dueDewater.mp h with ⟨p, x, hx, hd, rfl⟩ | ⟨p, x, hx, ⟨⟨hs, hc⟩, hr⟩, rfl⟩ |
      ⟨p, x, hx, ⟨ha, hr⟩, rfl⟩
    · exact ⟨x, hx, hd⟩
    · exact ⟨x, hx, hs, hc, hr⟩
    · exact ⟨x, hx, Pump.awaitsRest_iff.mp ha, hr⟩
  · rcases mem_duePortals.mp h with ⟨hd, rfl⟩ | ⟨n, hn, hp⟩
    · exact hd
    · exact due_of_mem_duePortal hn hp

theorem mem_dueTimers_of_due (h : w.due i) : i ∈ w.dueTimers := by
  have hline (h : i ∈ w.dueLine) : i ∈ w.dueTimers := mem_dueTimers.mpr (.inr (.inl h))
  have hwater (h : i ∈ w.dueWater) : i ∈ w.dueTimers := mem_dueTimers.mpr (.inr (.inr (.inl h)))
  have hpump (h : i ∈ w.dueDewater) : i ∈ w.dueTimers := mem_dueTimers.mpr (.inr (.inr (.inr (.inr (.inl h)))))
  have hclear (h : i ∈ w.duePortals) : i ∈ w.dueTimers := mem_dueTimers.mpr (.inr (.inr (.inr (.inr (.inr h)))))
  have hportal (n : Nat) (hn : n < 2) (h : i ∈ w.duePortal n) : i ∈ w.dueTimers :=
    hclear (mem_duePortals.mpr (.inr ⟨n, hn, h⟩))
  unfold Works.due at h
  split at h
  case h_1 c =>
    obtain ⟨x, r, hx, hr, ho⟩ := h
    exact hwater (mem_dueWater.mpr (.inl ⟨c, x, hx, Channel.windowOver_iff.mpr ⟨r, hr, ho⟩, rfl⟩))
  case h_2 => exact hwater (mem_dueWater.mpr (.inr (.inl ⟨h, rfl⟩)))
  case h_3 => exact hwater (mem_dueWater.mpr (.inr (.inr ⟨h, rfl⟩)))
  case h_4 n =>
    obtain ⟨g, t, hg, ho⟩ := h
    exact mem_dueTimers.mpr (.inr (.inr (.inr (.inl (mem_dueBudget.mpr ⟨n, g, hg, Grant.windowOver_iff.mpr ⟨t, ho⟩, rfl⟩)))))
  case h_5 p =>
    obtain ⟨x, hx, h⟩ := h
    exact hpump (mem_dueDewater.mpr (.inl ⟨p, x, hx, h, rfl⟩))
  case h_6 p =>
    obtain ⟨x, hx, hs, hc, hr⟩ := h
    exact hpump (mem_dueDewater.mpr (.inr (.inl ⟨p, x, hx, ⟨⟨hs, hc⟩, hr⟩, rfl⟩)))
  case h_7 p =>
    obtain ⟨x, hx, ha, hr⟩ := h
    exact hpump (mem_dueDewater.mpr (.inr (.inr ⟨p, x, hx, ⟨Pump.awaitsRest_iff.mpr ha, hr⟩, rfl⟩)))
  case h_8 n =>
    obtain ⟨hn, h1, h3, h2⟩ := h
    exact hportal n hn (mem_duePortal.mpr (.inl ⟨⟨⟨h1, h2⟩, h3⟩, rfl⟩))
  case h_9 n => exact hportal n h.1 (mem_duePortal.mpr (.inr (.inl ⟨h.2, rfl⟩)))
  case h_10 n =>
    obtain ⟨hn, h1, h3, h2⟩ := h
    exact hportal n hn (mem_duePortal.mpr (.inr (.inr (.inl ⟨⟨⟨h1, h2⟩, h3⟩, rfl⟩))))
  case h_11 n =>
    obtain ⟨hn, h2, h1⟩ := h
    exact hportal n hn (mem_duePortal.mpr (.inr (.inr (.inr (.inl ⟨⟨h1, h2⟩, rfl⟩)))))
  case h_12 n => exact hportal n h.1 (mem_duePortal.mpr (.inr (.inr (.inr (.inr ⟨h.2, rfl⟩)))))
  case h_13 => exact hclear (mem_duePortals.mpr (.inl ⟨h, rfl⟩))
  case h_14 => exact hline (mem_dueLine.mpr (.inl ⟨⟨h.1, Receiver.overGap_iff.mpr h.2⟩, rfl⟩))
  case h_15 => exact hline (mem_dueLine.mpr (.inr (.inl ⟨Works.windowDue_iff.mpr h, rfl⟩)))
  case h_16 => exact hline (mem_dueLine.mpr (.inr (.inr ⟨h, rfl⟩)))
  case h_17 rb =>
    obtain ⟨rfl, p, hp, ht⟩ := h
    exact mem_dueTimers.mpr (.inl (mem_dueStation.mpr ⟨p, hp, ht, rfl⟩))
  case h_18 => exact h.elim

/-- The notices say nothing about what is due. -/
theorem Works.due_withNotices (l : List Instr) (h : { w with notices := l }.due i) : w.due i := h

end Due

/-! ## The upkeep of a rewrite (R61, R134, R164) -/

section Upkeep

variable {w v u : Works} {i : Nat} {s t r : State}

/-- What the sections of a rewrite do to the records of the blocks: running seconds are added, and last line errors are dropped. -/
structure Works.Upkeep (w v : Works) : Prop where
  only : Works.Leads [.dewater, .line, .fresh] w v
  sumps : v.dewater.sumps = w.dewater.sumps
  pumps : v.dewater.pumps.map Pump.sansRun = w.dewater.pumps.map Pump.sansRun
  line : v.line = { w.line with roster := v.line.roster }
  roster : v.line.roster.map RosterEntry.sansError = w.line.roster.map RosterEntry.sansError

theorem Works.Upkeep.refl (w : Works) : w.Upkeep w := ⟨.refl, rfl, rfl, rfl, rfl⟩

theorem Works.Upkeep.trans (h1 : w.Upkeep v) (h2 : v.Upkeep u) : w.Upkeep u where
  only := h1.only.trans h2.only
  sumps := h2.sumps.trans h1.sumps
  pumps := h2.pumps.trans h1.pumps
  line := by rw [h2.line, h1.line]
  roster := h2.roster.trans h1.roster

/-- A change of running seconds alone. -/
theorem Works.Upkeep.of_dewater (h : Works.Leads [.dewater] w v) (hs : v.dewater.sumps = w.dewater.sumps)
    (hp : v.dewater.pumps.map Pump.sansRun = w.dewater.pumps.map Pump.sansRun)
    (hl : Works.Leads [.dewater, .line, .fresh] w v) : w.Upkeep v :=
  ⟨hl, hs, hp, by rw [h.line_eq (by decide)], by rw [h.line_eq (by decide)]⟩

theorem map_updAt_at {α β : Type} {g : α → β} {f : α → α} {l : List α} (h : ∀ x, l[i]? = some x → g (f x) = g x) :
    (updAt f i l).map g = l.map g := by
  induction l generalizing i with
  | nil => cases i <;> rfl
  | cons y l ih =>
    cases i with
    | zero => simp [updAt, h y rfl]
    | succ i => simp [updAt, ih fun x hx => h x (by simpa using hx)]

theorem Works.addRun_upkeep (i : Nat) (w : Works) : w.Upkeep (w.addRun i) := by
  refine .of_dewater (Works.addRun_leads i w (by decide) .refl) ?_ ?_ (Works.addRun_leads i w (by decide) .refl)
  · unfold Works.addRun
    split
    · rfl
    · split
      · rfl
      · dsimp only
        split <;> rfl
  · unfold Works.addRun
    split
    · rfl
    · next x hx =>
      split
      · rfl
      · next start hstart =>
        have hsame {f : Pump → Pump} (hf : (f x).sansRun = x.sansRun) :
            (updAt f i w.dewater.pumps).map Pump.sansRun = w.dewater.pumps.map Pump.sansRun :=
          map_updAt_at fun y hy => by
            obtain rfl : x = y := Option.some.inj (hx.symm.trans hy)
            exact hf
        dsimp only
        split <;> exact hsame (by simp [Pump.sansRun, hstart])

theorem Works.addAllRun_upkeep (w : Works) : w.Upkeep w.addAllRun :=
  each_induction (P := fun v => w.Upkeep v) (.refl w) fun i _ v hv => hv.trans (Works.addRun_upkeep i v)

theorem Works.dropLineErrors_upkeep (w : Works) : w.Upkeep w.dropLineErrors where
  only := Works.dropLineErrors_leads w (by decide) .refl
  sumps := rfl
  pumps := rfl
  line := rfl
  roster := by
    change (w.line.roster.map _).map _ = _
    rw [List.map_map]
    refine List.map_congr_left fun r _ => ?_
    rw [Function.comp_apply]
    split <;> rfl

theorem Works.beforeSection_upkeep (n : Nat) (w : Works) : w.Upkeep (w.beforeSection n) := by
  unfold Works.beforeSection
  split
  · exact w.addAllRun_upkeep
  · exact .refl w

theorem Works.afterSection_upkeep (n : Nat) (w : Works) : w.Upkeep (w.afterSection n) := by
  unfold Works.afterSection
  split
  · exact w.dropLineErrors_upkeep
  · exact .refl w

theorem Works.draw_upkeep (w : Works) : w.Upkeep w.draw.2 := ⟨Works.draw_leads w (by decide) .refl, rfl, rfl, rfl, rfl⟩

/-- What the sections of a rewrite do to the state: they write the image, and count themselves. -/
structure State.Upkeep (s t : State) : Prop where
  works : s.works.Upkeep t.works
  store : t.store = s.store
  pending : t.pending = s.pending
  pstat : t.port.pstat = s.port.pstat
  readers : Port.sameReaders { s.port with rewrite := none } { t.port with rewrite := none }

theorem State.Upkeep.trans (h1 : s.Upkeep t) (h2 : t.Upkeep r) : s.Upkeep r where
  works := h1.works.trans h2.works
  store := h2.store.trans h1.store
  pending := h2.pending.trans h1.pending
  pstat := h2.pstat.trans h1.pstat
  readers := by
    obtain ⟨a1, b1, c1, d1, e1⟩ := h1.readers
    obtain ⟨a2, b2, c2, d2, e2⟩ := h2.readers
    exact ⟨a2.trans a1, b2.trans b1, c2.trans c1, d2.trans d1, e2.trans e1⟩

theorem State.Upkeep.of_works {v : Works} (h : s.works.Upkeep v) : s.Upkeep { s with works := v } :=
  ⟨h, rfl, rfl, rfl, rfl, rfl, rfl, rfl, rfl⟩

theorem writeSection_upkeep (s : State) : s.Upkeep (writeSection s) := by
  unfold writeSection
  split
  · exact .of_works (.refl _)
  · next x hx =>
    split
    · exact ⟨(Works.beforeSection_upkeep x.done s.works).trans (Works.afterSection_upkeep x.done _), rfl, rfl, rfl,
        rfl, rfl, rfl, rfl, rfl⟩
    · exact .of_works (.refl _)

theorem writeSections_upkeep (n : Nat) (s : State) : s.Upkeep (times writeSection n s) := by
  induction n generalizing s with
  | zero => exact .of_works (.refl _)
  | succ n ih => exact (writeSection_upkeep s).trans (ih _)

theorem passSections_upkeep (s : State) : s.Upkeep (passSections s) := by
  unfold passSections
  split
  · exact (State.Upkeep.of_works s.works.draw_upkeep).trans (writeSections_upkeep _ _)
  · exact .of_works (.refl _)

theorem passSections_of_none (h : s.port.rewrite = none) : passSections s = s := by
  rw [passSections, h]
  rfl

end Upkeep

/-! ## The step -/

section Step

variable {s : State}

theorem step_of_notice {c : Instr} {rest : List Instr} (hp : s.pending = []) (hn : s.works.notices = c :: rest) :
    step s = exec c (s.withNotices rest) := by
  simp only [step, hp, hn]

theorem step_of_time (hp : s.pending = []) (hn : s.works.notices = []) : step s = .next (tick s) := by
  simp only [step, hp, hn]

/-- A millisecond later, before the sections of a rewrite and the timers. -/
def State.later (s : State) : State := { s with works := { s.works with now := s.works.now + 1 } }

theorem tick_eq (s : State) : tick s = raiseTimers (passSections s.later) := rfl

/-- Every timer that is due is raised. -/
theorem tick_raises {i : Instr} (h : (tick s).works.due i) : (tick s).works.handed i :=
  List.mem_append_right _ (mem_dueTimers_of_due (Works.due_withNotices _ h))

/-- Outside a rewrite nothing else is raised. -/
theorem tick_raises_only {i : Instr} (hr : s.port.rewrite = none) (hn : s.works.notices = []) (h : (tick s).works.handed i) :
    (tick s).works.due i := by
  have hpass : passSections s.later = s.later := passSections_of_none hr
  have hi : i ∈ s.works.notices ++ s.later.works.dueTimers := by
    rw [tick_eq, hpass] at h
    exact h
  rw [hn, List.nil_append] at hi
  rw [tick_eq, hpass]
  exact due_of_mem_dueTimers hi

theorem tick_of_none (hr : s.port.rewrite = none) : (tick s).port = s.port ∧
    (tick s).works = { s.works with now := s.works.now + 1, notices := (tick s).works.notices } := by
  have hpass : passSections s.later = s.later := passSections_of_none hr
  rw [tick_eq, hpass]
  exact ⟨rfl, rfl⟩

end Step

/-- Settles O2: time passes, the sections of a rewrite keep the records but for their upkeep, and the due timers are raised. -/
theorem stepServesNoticesThenTime : Obligations.StepServesNoticesThenTime := by
  unfold Obligations.StepServesNoticesThenTime
  refine ⟨fun c rest s hp hn => step_of_notice hp hn, fun s hp hn => ⟨tick s, step_of_time hp hn, ?_⟩⟩
  have hup := passSections_upkeep s.later
  have hworks := hup.works
  have hnow := hworks.only.now_eq
  refine ⟨hnow, hworks.only.station_eq, hup.store, hup.pending.trans hp, hup.readers, hup.pstat, tick_of_none,
    hworks.only.water_eq (by decide), hworks.only.budget_eq (by decide), hworks.only.portals_eq (by decide),
    hworks.only.lights_eq (by decide), hworks.only.claims_eq (by decide), hworks.only.active_eq (by decide),
    hworks.only.reports_eq (by decide), hworks.sumps, hworks.pumps, hworks.line, hworks.roster, fun i h => tick_raises h,
    fun hr i h => tick_raises_only hr hn h⟩

end Sys2Proof.Machine

namespace Sys2Proof.Machine

open Sys2Proof

/-! # Portals: records, and what a command to a portal leaves of them (chapter 4) -/

/-! ## Portal records -/

section Records

variable {w v : Works} {n m : Nat}

theorem Works.portal_congr (h : v.portals = w.portals) (n : Nat) : v.portal n = w.portal n := by
  unfold Works.portal
  rw [h]

@[simp] theorem Works.send_portal (i : Instr) (w : Works) (n : Nat) : (w.send i).portal n = w.portal n := rfl

@[simp] theorem Works.record_portal (k : JournalKind) (x : Nat) (a b : Option Nat) (d : List Nat) (f : Bool) (w : Works)
    (n : Nat) : (w.record k x a b d f).portal n = w.portal n := rfl

@[simp] theorem Works.giveUp_portal (r : ReqFor) (f : Fate) (w : Works) (n : Nat) : (w.giveUp r f).portal n = w.portal n := rfl

@[simp] theorem Works.hold_portal (a : Active) (w : Works) (n : Nat) : (w.hold a).portal n = w.portal n := rfl

@[simp] theorem Works.setInterior_portal (i : Interior) (w : Works) (n : Nat) : (w.setInterior i).portal n = w.portal n := rfl

@[simp] theorem Works.portalFault_portal (x k c : Nat) (w : Works) (n : Nat) : (w.portalFault x k c).portal n = w.portal n := rfl

/-- A portal record after a change of one: of the two records, index 0 names the first and any other the second. -/
theorem Works.portal_setPortal_eq (n m : Nat) (p : Portal) (w : Works) :
    (w.setPortal m p).portal n = if n = 0 ↔ m = 0 then p else w.portal n := by
  unfold Works.setPortal Works.portal
  by_cases hn : n = 0 <;> by_cases hm : m = 0 <;> simp [hn, hm]

@[simp] theorem Works.updPortal_self (n : Nat) (f : Portal → Portal) (w : Works) :
    (w.updPortal n f).portal n = f (w.portal n) := Works.portal_setPortal n _ w

theorem Works.updPortal_other (f : Portal → Portal) (w : Works) (hn : n < 2) (hm : m < 2) (h : m ≠ n) :
    (w.updPortal n f).portal m = w.portal m := by
  rw [Works.updPortal, Works.portal_setPortal_eq, if_neg (by omega)]

@[simp] theorem Works.setPortal_interior (n : Nat) (p : Portal) (w : Works) :
    (w.setPortal n p).portals.interior = w.portals.interior := by
  unfold Works.setPortal
  split <;> rfl

@[simp] theorem Works.updPortal_interior (n : Nat) (f : Portal → Portal) (w : Works) :
    (w.updPortal n f).portals.interior = w.portals.interior := Works.setPortal_interior ..

@[simp] theorem Works.updPortal_notices (n : Nat) (f : Portal → Portal) (w : Works) :
    (w.updPortal n f).notices = w.notices := Works.setPortal_notices ..

@[simp] theorem Works.updPortal_line (n : Nat) (f : Portal → Portal) (w : Works) : (w.updPortal n f).line = w.line :=
  Works.setPortal_line ..

@[simp] theorem Works.updPortal_dewater (n : Nat) (f : Portal → Portal) (w : Works) :
    (w.updPortal n f).dewater = w.dewater := Works.setPortal_dewater ..

@[simp] theorem Works.updPortal_water (n : Nat) (f : Portal → Portal) (w : Works) : (w.updPortal n f).water = w.water :=
  Works.setPortal_water ..

@[simp] theorem Works.updPortal_claims (n : Nat) (f : Portal → Portal) (w : Works) : (w.updPortal n f).claims = w.claims :=
  Works.setPortal_claims ..

@[simp] theorem Works.updPortal_station (n : Nat) (f : Portal → Portal) (w : Works) :
    (w.updPortal n f).station = w.station := Works.setPortal_station ..

@[simp] theorem Works.updPortal_now (n : Nat) (f : Portal → Portal) (w : Works) : (w.updPortal n f).now = w.now :=
  Works.setPortal_now ..

@[simp] theorem Works.updPortal_budget (n : Nat) (f : Portal → Portal) (w : Works) : (w.updPortal n f).budget = w.budget :=
  Works.setPortal_budget ..

@[simp] theorem Works.updPortal_active (n : Nat) (f : Portal → Portal) (w : Works) : (w.updPortal n f).active = w.active :=
  Works.setPortal_active ..

@[simp] theorem Works.updPortal_reports (n : Nat) (f : Portal → Portal) (w : Works) :
    (w.updPortal n f).reports = w.reports := Works.setPortal_reports ..

/-- A change of a sub-record is a change of the portal record. -/
@[simp] theorem Works.updSignals_eq (n : Nat) (f : Signals → Signals) (w : Works) :
    w.updSignals n f = w.updPortal n (fun p => { p with signals := f p.signals }) := rfl

@[simp] theorem Works.updBarrier_eq (n : Nat) (f : Barrier → Barrier) (w : Works) :
    w.updBarrier n f = w.updPortal n (fun p => { p with barrier := f p.barrier }) := rfl

@[simp] theorem Works.updGate_eq (n : Nat) (f : Gate → Gate) (w : Works) :
    w.updGate n f = w.updPortal n (fun p => { p with gate := f p.gate }) := rfl

theorem Works.portalAuto_congr (hc : v.claims = w.claims) (n : Nat) : v.portalAuto n = w.portalAuto n := by
  rw [Works.portalAuto, Works.portalAuto, Works.claimOf_congr hc]

theorem Works.mayCommand_congr (hc : v.claims = w.claims) (hs : v.station = w.station)
    (hp : (v.portal n).closure = (w.portal n).closure) : v.mayCommand n = w.mayCommand n := by
  rw [Works.mayCommand, Works.mayCommand, Works.portalAuto_congr hc, Works.suspended, Works.suspended, hs, hp]

/-- Outside the closing states the claim alone decides (R76). -/
theorem Works.mayCommand_of_auto (h : (w.portal n).closure.closing = false ∨ w.station.state = .running) :
    w.mayCommand n = w.portalAuto n := by
  rcases h with h | h <;> simp [Works.mayCommand, Works.suspended, h]

/-- The record without the marks of refused line requests, which any request at the line queue may set (R140). -/
def Portal.core (p : Portal) : Portal :=
  { p with signals := { p.signals with refused := false }
           barrier := { p.barrier with pairRefused := false, haltRefused := false }
           gate := { p.gate with pairRefused := false, haltRefused := false } }

/-- The record without what a command to the portal turns: its grant, its pairs, its travels and dwells, and the timer. The
closure state, what the unit reports, the counts and the wanted aspect are left. -/
def Portal.observed (p : Portal) : Portal :=
  { p with timer := none
           signals := { p.signals with again := false, refused := false }
           barrier := { p.barrier with pair := .none, action := none, travel := none, pairRefused := false, haltRefused := false }
           gate := { p.gate with grant := .none, pair := .none, action := none, stopping := false, halting := false,
                                 travel := none, dwellStart := none, pairRefused := false, haltRefused := false } }

theorem Portal.observed_of_core {p q : Portal} (h : q.core = p.core) : q.observed = p.observed := by
  change q.core.observed = p.core.observed
  rw [h]

/-- `q` shows what `p` shows: the figures that no command turns. -/
structure Portal.Alike (p q : Portal) : Prop where
  closure : q.closure = p.closure
  stall : q.stall = p.stall
  interrupted : q.interrupted = p.interrupted
  unit : q.unit = p.unit
  barrierOut : q.barrierOut = p.barrierOut
  gateOut : q.gateOut = p.gateOut
  barrierState : q.barrier.state = p.barrier.state
  gateState : q.gate.state = p.gate.state
  position : q.gate.position = p.gate.position
  attempts : q.gate.attempts = p.gate.attempts
  wanted : q.signals.wanted = p.signals.wanted
  shown : q.signals.shown = p.signals.shown

theorem Portal.Alike.of_observed {p q : Portal} (h : q.observed = p.observed) : p.Alike q where
  closure := (congrArg Portal.closure h :)
  stall := (congrArg Portal.stall h :)
  interrupted := (congrArg Portal.interrupted h :)
  unit := (congrArg Portal.unit h :)
  barrierOut := (congrArg Portal.barrierOut h :)
  gateOut := (congrArg Portal.gateOut h :)
  barrierState := (congrArg (fun x : Portal => x.barrier.state) h :)
  gateState := (congrArg (fun x : Portal => x.gate.state) h :)
  position := (congrArg (fun x : Portal => x.gate.position) h :)
  attempts := (congrArg (fun x : Portal => x.gate.attempts) h :)
  wanted := (congrArg (fun x : Portal => x.signals.wanted) h :)
  shown := (congrArg (fun x : Portal => x.signals.shown) h :)

/-- More records named. -/
theorem Works.Leads.mono {ps qs : List Part} (h : Works.Leads ps w v) (hs : ps ⊆ qs) : Works.Leads qs w v := by
  induction h with
  | refl => exact .refl
  | send i w _ ih => exact .send i w ih
  | dewater x w hp _ ih => exact .dewater x w (hs hp) ih
  | portals x w hp _ ih => exact .portals x w (hs hp) ih
  | lights x w hp _ ih => exact .lights x w (hs hp) ih
  | claims x w hp _ ih => exact .claims x w (hs hp) ih
  | active x w hp _ ih => exact .active x w (hs hp) ih
  | reports x w hp _ ih => exact .reports x w (hs hp) ih
  | fresh x w hp _ ih => exact .fresh x w (hs hp) ih
  | water x w hp hx _ ih => exact .water x w (hs hp) (hx.imp_right fun hc => hs hc) ih
  | budget x w hp hx _ ih => exact .budget x w (hs hp) hx ih
  | line x w hp hx _ ih => exact .line x w (hs hp) hx ih
  | notices x w hp _ ih => exact .notices x w (hs hp) ih

end Records

/-! ## Requests at the line queue (R139, R140) -/

section Requests

variable {w v u : Works} {e : QEntry}

/-- What a request can do: a change of the line, a record, a step that leaves a SET list, a mark of refusal. -/
theorem Works.enqueue_induction {P : Works → Prop} (e : QEntry) (w : Works) (h : P w) (line : ∀ l v, P v → P (v.setLine l))
    (send : ∀ i v, P v → P (v.send i)) (step : ∀ c f v, P v → P (v.updCircuit c f))
    (full : ∀ r v, P v → P (v.refusedFull r)) : P (w.enqueue e).2 := by
  have hleaves (l : List Requester) (x : Nat) (v : Works) (hv : P v) : P (each l (fun r w => w.setLeaves r x) v) := by
    refine each_induction hv fun r _ v hv => ?_
    unfold Works.setLeaves
    split
    · split
      · exact step _ _ _ hv
      · exact hv
    · exact hv
  have hrefuse (e : QEntry) (v : Works) (hv : P v) : P (v.refuse e) := by
    have heach : P (each e.requesters (fun r w => (if r.fate = .live then w.refusedFull r else w).addRetry e.unit r.who.block) v) := by
      refine each_induction hv fun r _ v hv => ?_
      unfold Works.addRetry
      split <;> split
      · exact full _ _ hv
      · exact hv
      · exact line _ _ (full _ _ hv)
      · exact line _ _ hv
    have hdisplace : P ((each e.requesters (fun r w =>
        (if r.fate = .live then w.refusedFull r else w).addRetry e.unit r.who.block) v).displace e) := by
      unfold Works.displace
      split
      · exact heach
      · exact line _ _ heach
    unfold Works.refuse
    dsimp only
    split
    · exact hdisplace
    · exact send _ _ (line _ _ hdisplace)
  have hnew : P (w.joinNew e).2 := by
    unfold Works.joinNew
    split
    · exact line _ _ h
    · exact hrefuse _ _ h
  unfold Works.enqueue
  split
  · split
    · exact line _ _ (hleaves _ _ _ h)
    · exact hnew
  · split
    · exact line _ _ h
    · unfold Works.joinHalt
      split
      · exact line _ _ h
      · split
        · exact hrefuse _ _ h
        · split
          · exact hrefuse _ _ h
          · exact hrefuse _ _ (line _ _ (hleaves _ _ _ h))
  · exact hnew
  · split
    · exact h
    · exact hnew

/-- What a request at the line queue leaves of the portals: all but the marks of refusal. -/
structure Works.Marks (w v : Works) : Prop where
  portal : ∀ n, (v.portal n).core = (w.portal n).core
  interior : v.portals.interior = w.portals.interior
  pumps : v.dewater.pumps.length = w.dewater.pumps.length

theorem Works.Marks.of_eq (hp : v.portals = w.portals) (hd : v.dewater.pumps.length = w.dewater.pumps.length) : w.Marks v :=
  ⟨fun n => by rw [Works.portal_congr hp], by rw [hp], hd⟩

theorem Works.Marks.trans (h1 : w.Marks v) (h2 : v.Marks u) : w.Marks u :=
  ⟨fun n => (h2.portal n).trans (h1.portal n), h2.interior.trans h1.interior, h2.pumps.trans h1.pumps⟩

theorem length_updAt {α : Type} (f : α → α) (i : Nat) (l : List α) : (updAt f i l).length = l.length := by
  induction l generalizing i with
  | nil => cases i <;> rfl
  | cons x l ih => cases i with
    | zero => rfl
    | succ i => simp [updAt, ih]

theorem Works.setPortal_marks {n : Nat} {p : Portal} (h : p.core = (w.portal n).core) : w.Marks (w.setPortal n p) := by
  refine ⟨fun m => ?_, Works.setPortal_interior n p w, by rw [Works.setPortal_dewater]⟩
  rw [Works.portal_setPortal_eq]
  split
  · next hm => rw [h, Works.portal, Works.portal, if_congr hm.symm rfl rfl]
  · rfl

theorem Works.refusedFull_marks (r : Requester) (w : Works) : w.Marks (w.refusedFull r) := by
  unfold Works.refusedFull
  split
  case h_1 | h_2 => exact .of_eq rfl (length_updAt _ _ _)
  case h_8 | h_9 => exact .of_eq rfl rfl
  all_goals exact Works.setPortal_marks rfl

theorem Works.request_marks (r : Request) (x out : Nat) (who : ReqFor) (w : Works) : w.Marks (w.request r x out who).2 :=
  Works.enqueue_induction _ w (.of_eq rfl rfl) (fun _ _ h => h.trans (.of_eq rfl rfl)) (fun _ _ h => h.trans (.of_eq rfl rfl))
    (fun _ _ _ h => h.trans (.of_eq rfl rfl)) fun r v h => h.trans (Works.refusedFull_marks r v)

end Requests

end Sys2Proof.Machine

namespace Sys2Proof.Machine

open Sys2Proof

/-! # Portals: the commands (R73, R77, R80, R81)

`Works.Commands` says once what the commands to a portal leave; each operation that only commands has one lemma. -/

/-- The records that commands to a portal change. -/
def Part.ofCommands : List Part := [.dewater, .portals, .lights, .line]

/-- `v` comes from `w` by commands for portal `n`: its closure state and what its unit reports stand, and the other portal stands
but for marks of refusal. -/
structure Works.Commands (n : Nat) (w v : Works) : Prop where
  leads : Works.Leads Part.ofCommands w v
  asks : w.Asks v
  pumps : v.dewater.pumps.length = w.dewater.pumps.length
  own : (v.portal n).observed = (w.portal n).observed
  other : ∀ m, n < 2 → m < 2 → m ≠ n → (v.portal m).core = (w.portal m).core
  interior : v.portals.interior = w.portals.interior

section Commands

variable {w v u : Works} {n : Nat}

theorem Works.Commands.refl (n : Nat) (w : Works) : w.Commands n w :=
  ⟨.refl, .refl w, rfl, rfl, fun _ _ _ _ => rfl, rfl⟩

theorem Works.Commands.trans (h1 : w.Commands n v) (h2 : v.Commands n u) : w.Commands n u :=
  ⟨h1.leads.trans h2.leads, h1.asks.trans h2.asks, h2.pumps.trans h1.pumps, h2.own.trans h1.own,
    fun m hn hm h => (h2.other m hn hm h).trans (h1.other m hn hm h), h2.interior.trans h1.interior⟩

theorem Works.send_commands (n : Nat) (i : Instr) (w : Works) : w.Commands n (w.send i) :=
  ⟨Works.send_leads _ _ .refl, .of_subset rfl fun _ h _ => h, rfl, rfl, fun _ _ _ _ => rfl, rfl⟩

theorem Works.record_commands (n : Nat) (k : JournalKind) (x : Nat) (a b : Option Nat) (d : List Nat) (f : Bool) (w : Works) :
    w.Commands n (w.record k x a b d f) := Works.send_commands n _ w

theorem Works.giveUp_commands (n : Nat) (r : ReqFor) (f : Fate) (w : Works) : w.Commands n (w.giveUp r f) :=
  ⟨Works.giveUp_leads _ _ _ (by decide) .refl,
    .of_queue rfl fun e he hr => ⟨e.give r f, List.mem_map_of_mem he, hr, rfl, rfl⟩, rfl, rfl, fun _ _ _ _ => rfl, rfl⟩

theorem Works.updPortal_commands {f : Portal → Portal} (h : (f (w.portal n)).observed = (w.portal n).observed) :
    w.Commands n (w.updPortal n f) :=
  ⟨Works.updPortal_leads _ _ _ (by decide) .refl, .of_subset (by simp) fun e he _ => by simpa using he, by simp, by simpa using h,
    fun m hn hm hne => by rw [Works.updPortal_other f w hn hm hne], by simp⟩

theorem Works.updGate_commands {f : Gate → Gate}
    (h : ({ w.portal n with gate := f (w.portal n).gate } : Portal).observed = (w.portal n).observed) :
    w.Commands n (w.updGate n f) := Works.updPortal_commands h

theorem Works.updBarrier_commands {f : Barrier → Barrier}
    (h : ({ w.portal n with barrier := f (w.portal n).barrier } : Portal).observed = (w.portal n).observed) :
    w.Commands n (w.updBarrier n f) := Works.updPortal_commands h

theorem Works.request_commands (n : Nat) (r : Request) (x out : Nat) (who : ReqFor) (w : Works) :
    w.Commands n (w.request r x out who).2 :=
  have hm := Works.request_marks r x out who w
  ⟨Works.request_leads _ _ _ _ _ (by decide) .refl, Works.request_asks _ _ _ _ _, hm.pumps,
    Portal.observed_of_core (hm.portal n), fun m _ _ _ => hm.portal m, hm.interior⟩

theorem Works.setAspect_commands (n : Nat) (a : Aspect) (w : Works) :
    (w.updSignals n (fun s => { s with wanted := a })).Commands n (w.setAspect n a) := by
  unfold Works.setAspect
  dsimp only
  split
  · exact .trans (Works.updPortal_commands (by rfl)) (Works.request_commands _ _ _ _ _ _)
  · exact .refl _ _

theorem Works.haltBarrier_commands (n : Nat) (w : Works) : w.Commands n (w.haltBarrier n) := by
  unfold Works.haltBarrier
  split
  · exact .trans (Works.updPortal_commands (by rfl)) (Works.request_commands _ _ _ _ _ _)
  · exact .refl _ _

theorem Works.haltGate_commands (n : Nat) (stop : Bool) (w : Works) : w.Commands n (w.haltGate n stop) := by
  unfold Works.haltGate
  split
  · exact .trans (Works.updPortal_commands (by rfl)) (Works.request_commands _ _ _ _ _ _)
  · exact .refl _ _

theorem Works.queueBarrier_commands (n : Nat) (m : Motion) (w : Works) : w.Commands n (w.queueBarrier n m) :=
  .trans (Works.updPortal_commands (by rfl)) (Works.request_commands _ _ _ _ _ _)

theorem Works.queueGate_commands (n : Nat) (m : Motion) (w : Works) : w.Commands n (w.queueGate n m) :=
  .trans (Works.updPortal_commands (by rfl)) (Works.request_commands _ _ _ _ _ _)

theorem Works.dropGateGrant_commands (n : Nat) (w : Works) : w.Commands n (w.dropGateGrant n) := by
  unfold Works.dropGateGrant
  dsimp only
  refine .trans (v := match (w.portal n).gate.grant with
    | .none => w
    | .requested => w.send (.loadWithdrawal (w.gateEntry n))
    | .granted => w.send (.loadRelease (w.gateEntry n))) ?_ (Works.updPortal_commands (by rfl))
  split
  · exact .refl _ _
  · exact Works.send_commands _ _ _
  · exact Works.send_commands _ _ _

theorem Works.requestGate_commands (n : Nat) (w : Works) : w.Commands n (w.requestGate n) := by
  unfold Works.requestGate
  dsimp only
  split
  · exact .trans (Works.updPortal_commands (by rfl)) (Works.send_commands _ _ _)
  · exact .refl _ _

theorem Works.haltMoving_commands (n : Nat) (m : Motion) (w : Works) : w.Commands n (w.haltMoving n m) := by
  unfold Works.haltMoving
  split
  · exact Works.haltBarrier_commands n w
  · exact .refl _ _

theorem Works.dropBarrierPair_commands (n : Nat) (w : Works) : w.Commands n (w.dropBarrierPair n) := by
  unfold Works.dropBarrierPair
  dsimp only
  split
  · split
    · exact .trans (Works.updPortal_commands (by rfl)) (Works.updPortal_commands (by rfl))
    · exact .trans (.trans (Works.updPortal_commands (by rfl)) (Works.giveUp_commands _ _ _ _)) (Works.updPortal_commands (by rfl))
  · exact Works.updPortal_commands (by rfl)

theorem Works.abandonBarrier_commands (n : Nat) (m : Motion) (w : Works) : w.Commands n (w.abandonBarrier n m) :=
  .trans (Works.haltMoving_commands n m w) (Works.dropBarrierPair_commands n _)

theorem Works.moveBarrier_commands (n : Nat) (m : Motion) (w : Works) : w.Commands n (w.moveBarrier n m) := by
  unfold Works.moveBarrier
  dsimp only
  split
  · exact .refl _ _
  · split
    · exact .trans (Works.abandonBarrier_commands n _ w) (Works.queueBarrier_commands n m _)
    · exact Works.queueBarrier_commands n m w

theorem Works.clearStop_commands (n : Nat) (w : Works) : w.Commands n (w.clearStop n) := by
  rw [Works.clearStop, Works.updGate_eq]
  refine Works.updPortal_commands ?_
  split <;> rfl

theorem Works.beginStop_commands (n : Nat) (w : Works) : w.Commands n (w.beginStop n) := by
  unfold Works.beginStop
  dsimp only
  refine .trans (v := w.updGate n (fun g => { g with travel := none, dwellStart := none, stopping := true }))
    (Works.updPortal_commands (by rfl)) ?_
  split
  · split
    · exact .trans (Works.dropGateGrant_commands n _) (Works.updPortal_commands (by rfl))
    · exact .trans (Works.updPortal_commands (by rfl)) (Works.giveUp_commands _ _ _ _)
  · split
    · exact .refl _ _
    · exact Works.dropGateGrant_commands n _
    · split
      · exact Works.haltGate_commands n _ _
      · exact Works.dropGateGrant_commands n _

theorem Works.stopGate_commands (n : Nat) (w : Works) : w.Commands n (w.stopGate n) := by
  unfold Works.stopGate
  dsimp only
  split
  · split
    · exact Works.updPortal_commands (by rfl)
    · exact .trans (Works.beginStop_commands n w) (Works.clearStop_commands n _)
  · refine .trans (v := (w.dropGateGrant n).updGate n (fun g => { g with travel := none, dwellStart := none }))
      (.trans (Works.dropGateGrant_commands n w) (Works.updPortal_commands (by rfl))) ?_
    split
    · split
      · exact Works.updPortal_commands (by rfl)
      · exact .trans (Works.updPortal_commands (by rfl)) (Works.giveUp_commands _ _ _ _)
    · exact .refl _ _

theorem Works.barringGo_commands (n : Nat) (w : Works) : w.Commands n (w.barringGo n).2 := by
  unfold Works.barringGo
  dsimp only
  split
  · split
    · exact .refl _ _
    · exact Works.moveBarrier_commands n _ w
  · exact .refl _ _

theorem Works.haltFound_commands (n : Nat) (w : Works) : w.Commands n (w.haltFound n) := by
  unfold Works.haltFound
  dsimp only
  split
  · exact Works.haltGate_commands n _ w
  · exact .refl _ _

end Commands

end Sys2Proof.Machine

namespace Sys2Proof.Machine

open Sys2Proof

/-! # Portals: changes of closure state and the works (R75) -/

/-- The records that an operation on a portal changes. -/
def Part.ofPortal : List Part := [.dewater, .portals, .lights, .active, .reports, .water, .line]

/-- `v` comes from `w` by operations on portal `n`, changes of its closure state included. -/
structure Works.Moves (n : Nat) (w v : Works) : Prop where
  leads : Works.Leads Part.ofPortal w v
  asks : w.Asks v
  pumps : v.dewater.pumps.length = w.dewater.pumps.length
  other : ∀ m, n < 2 → m < 2 → m ≠ n → (v.portal m).core = (w.portal m).core
  reports : w.reports ⊆ v.reports

section Moves

variable {w v u : Works} {n m : Nat} {c : Closure}

theorem Works.Moves.refl (n : Nat) (w : Works) : w.Moves n w :=
  ⟨.refl, .refl w, rfl, fun _ _ _ _ => rfl, List.Subset.refl _⟩

theorem Works.Moves.trans (h1 : w.Moves n v) (h2 : v.Moves n u) : w.Moves n u :=
  ⟨h1.leads.trans h2.leads, h1.asks.trans h2.asks, h2.pumps.trans h1.pumps,
    fun m hn hm h => (h2.other m hn hm h).trans (h1.other m hn hm h), fun _ h => h2.reports (h1.reports h)⟩

theorem Works.Commands.moves (h : w.Commands n v) : w.Moves n v :=
  ⟨h.leads.mono (by decide), h.asks, h.pumps, h.other, by rw [h.leads.reports_eq (by decide)]; exact List.Subset.refl _⟩

theorem Works.updPortal_moves (n : Nat) (f : Portal → Portal) (w : Works) : w.Moves n (w.updPortal n f) :=
  ⟨Works.updPortal_leads _ _ _ (by decide) .refl, .of_subset (by simp) fun e he _ => by simpa using he, by simp,
    fun m hn hm hne => by rw [Works.updPortal_other f w hn hm hne], by simp⟩

theorem Works.Leads.keepsPortals (h : Works.Leads Part.ofPortal w v) : w.keepsPortals v :=
  ⟨h.keepsAll (by decide) (by decide), h.budget_eq (by decide), h.claims_eq (by decide), h.fresh_eq (by decide)⟩

theorem Works.Moves.keepsPortals (h : w.Moves n v) : w.keepsPortals v := h.leads.keepsPortals

theorem Works.Moves.gateEntry_eq (h : w.Moves n v) (m : Nat) : v.gateEntry m = w.gateEntry m := by
  rw [Works.gateEntry, Works.gateEntry, h.pumps]

theorem Works.Moves.portalAuto_eq (h : w.Moves n v) (m : Nat) : v.portalAuto m = w.portalAuto m :=
  Works.portalAuto_congr (h.leads.claims_eq (by decide)) m

theorem Works.Moves.mayCommand_eq (h : w.Moves n v) (hc : (v.portal m).closure = (w.portal m).closure) :
    v.mayCommand m = w.mayCommand m :=
  Works.mayCommand_congr (h.leads.claims_eq (by decide)) h.leads.station_eq hc

theorem Works.Moves.handed (h : w.Moves n v) {i : Instr} (hi : w.handed i) : v.handed i := h.leads.handed (by decide) hi

theorem Works.Moves.recorded (h : w.Moves n v) {k : JournalKind} {x : Nat} {a b : Option Nat} {d : List Nat} {f : Bool}
    (hr : w.recorded k x a b d f) : v.recorded k x a b d f := h.leads.handed (by decide) hr

end Moves

/-! ## The episode (R78) and the report of a view (R92) -/

section Episode

variable {w : Works} {n m : Nat} {c old : Closure}

theorem Works.setClear_portal (b : Bool) (k : Nat) (w : Works) (m : Nat) : (w.setClear b k).portal m = w.portal m := by
  unfold Works.setClear
  dsimp only
  split <;> rfl

theorem Works.openEpisode_portal (old new : Closure) (w : Works) (m : Nat) :
    (w.openEpisode old new).portal m = w.portal m := by
  unfold Works.openEpisode
  dsimp only
  split <;> rfl

theorem Works.closeEpisode_portal (w : Works) (m : Nat) : w.closeEpisode.portal m = w.portal m := by
  unfold Works.closeEpisode
  dsimp only
  split
  · exact Works.setClear_portal false 4 w m
  · rfl

theorem Works.openEpisode_of_under (ho : old ≠ .opened) (hu : old ≠ .unknown) : w.openEpisode old c = w := by
  simp [Works.openEpisode, ho, hu]

/-- No episode closes while a portal is not OPEN. -/
theorem Works.closeEpisode_of_shut (h : (w.portal n).closure ≠ .opened) : w.closeEpisode = w := by
  unfold Works.portal at h
  unfold Works.closeEpisode
  split at h <;> simp [h]

theorem Works.reportView_portal (n : Nat) (old new : Closure) (b : Bool) (w : Works) (m : Nat) :
    (w.reportView n old new b).portal m = w.portal m := by
  unfold Works.reportView
  split <;> rfl

theorem Works.reportView_reports (n : Nat) (old new : Closure) (b : Bool) (w : Works) :
    w.reports ⊆ (w.reportView n old new b).reports := by
  unfold Works.reportView
  split
  · exact List.Subset.refl _
  · exact List.subset_append_left _ _

theorem Works.endReopen_portals (n st d d2 : Nat) (r : List Nat) (w : Works) : (w.endReopen n st d d2 r).portals = w.portals :=
  (Works.endReopen_leads (ps := [.active]) n st d d2 r w (by decide) .refl).portals_eq (by decide)

end Episode

/-! ## Changes of closure state -/

section Change

variable {w : Works} {n m : Nat} {c : Closure}

/-- The portal record after a change of closure state (R79, R81, R89). -/
def Portal.turned (c : Closure) (p : Portal) : Portal :=
  Portal.entered c { p with
    gate := if c = .shut then { p.gate with attempts := 0 } else p.gate
    closure := c, timer := none, stall := none, interrupted := none, stallDetail := 0 }

@[simp] theorem Portal.turned_closure (c : Closure) (p : Portal) : (p.turned c).closure = c := by cases c <;> rfl

@[simp] theorem Portal.turned_signals (c : Closure) (p : Portal) : (p.turned c).signals = p.signals := by cases c <;> rfl

@[simp] theorem Portal.turned_barrier (c : Closure) (p : Portal) : (p.turned c).barrier = p.barrier := by cases c <;> rfl

theorem Portal.turned_gate (c : Closure) (p : Portal) :
    (p.turned c).gate = { p.gate with attempts := if c = .shut ∨ c = .opened then 0 else p.gate.attempts } := by
  cases c <;> rfl

theorem Works.attemptsBefore_self (n : Nat) (c : Closure) (w : Works) : (w.attemptsBefore n c).portal n =
    { w.portal n with gate := if c = .shut then { (w.portal n).gate with attempts := 0 } else (w.portal n).gate } := by
  unfold Works.attemptsBefore
  split
  · simp
  · rfl

/-- The last detail of the PORTAL record of a change to `c`: the reason of a stall that is left, or the attempt count, which is 0
at SHUT (R81, R95). -/
def Portal.leaving (c : Closure) (p : Portal) : Nat :=
  if p.closure = .stalled then stallCode p.stall else if c = .shut then 0 else p.gate.attempts

/-- A change of closure state up to the orders and the episode: the PORTAL record, the portal record, the view. -/
def Works.closureTurned (n : Nat) (c : Closure) (w : Works) : Works :=
  let p := w.portal n
  (((w.attemptsBefore n c).record .portal n (some p.closure.code) (some c.code)
    [p.barrier.state.code, p.gate.state.code, p.gate.position, p.leaving c] false).updPortal n (fun p => Portal.entered c
    { p with closure := c, timer := none, stall := none, interrupted := none, stallDetail := 0 })).reportView n p.closure c
    (p.reopening && decide (p.closure = .shut) && decide (c = .ungating))

theorem Works.changeClosure_of_same (h : (w.portal n).closure = c) : w.changeClosure n c = w := if_pos h

theorem Works.changeClosure_eq (h : (w.portal n).closure ≠ c) : w.changeClosure n c =
    ((if c = .opened then (w.closureTurned n c).endReopen n Status.doneOk 0 0 [(stamp (w.closureTurned n c).now).toNat]
      else w.closureTurned n c).openEpisode (w.portal n).closure c).closeEpisode := by
  unfold Works.changeClosure Works.closureTurned Portal.leaving
  simp only [if_neg h, Works.attemptsBefore_self]
  by_cases hc : c = .shut <;> simp only [hc, if_true, if_false]

theorem Works.closureTurned_only (n : Nat) (c : Closure) (w : Works) :
    Works.Leads [.portals, .reports, .water] w (w.closureTurned n c) :=
  Works.reportView_leads _ _ _ _ _ (by decide) (Works.updPortal_leads _ _ _ (by decide)
    (Works.record_leads _ _ _ _ _ _ _ (Works.attemptsBefore_leads _ _ _ (by decide) .refl)))

/-- What ends a change of closure state: an order that completes at OPEN, and the episode. -/
theorem Works.closureEnded_only (n : Nat) (c : Closure) (r : List Nat) (o : Closure) (w : Works) :
    Works.Leads [.portals, .active] w
      ((if c = .opened then w.endReopen n Status.doneOk 0 0 r else w).openEpisode o c).closeEpisode :=
  Works.closeEpisode_leads _ (by decide) (Works.openEpisode_leads _ _ _ (by decide)
    (ite_leads (Works.endReopen_leads _ _ _ _ _ _ (by decide) .refl) .refl))

theorem Works.closureEnded_portal (n : Nat) (c : Closure) (r : List Nat) (o : Closure) (w : Works) (m : Nat) :
    ((if c = .opened then w.endReopen n Status.doneOk 0 0 r else w).openEpisode o c).closeEpisode.portal m = w.portal m := by
  rw [Works.closeEpisode_portal, Works.openEpisode_portal]
  split
  · exact Works.portal_congr (Works.endReopen_portals ..) m
  · rfl

theorem Works.changeClosure_only (n : Nat) (c : Closure) (w : Works) :
    Works.Leads [.portals, .active, .reports, .water] w (w.changeClosure n c) := by
  by_cases h : (w.portal n).closure = c
  · rw [Works.changeClosure_of_same h]
    exact .refl
  · rw [Works.changeClosure_eq h]
    exact ((w.closureTurned_only n c).mono (by decide)).trans ((Works.closureEnded_only n c _ _ _).mono (by decide))

theorem Works.closureTurned_self (n : Nat) (c : Closure) (w : Works) :
    (w.closureTurned n c).portal n = (w.portal n).turned c := by
  rw [Works.closureTurned, Works.reportView_portal, Works.updPortal_self, Works.record_portal, Works.attemptsBefore_self]
  rfl

theorem Works.changeClosure_self (h : (w.portal n).closure ≠ c) : (w.changeClosure n c).portal n = (w.portal n).turned c := by
  rw [Works.changeClosure_eq h, Works.closureEnded_portal, Works.closureTurned_self]

@[simp] theorem Works.changeClosure_closure (n : Nat) (c : Closure) (w : Works) :
    ((w.changeClosure n c).portal n).closure = c := by
  by_cases h : (w.portal n).closure = c
  · rw [Works.changeClosure_of_same h, h]
  · rw [Works.changeClosure_self h, Portal.turned_closure]

@[simp] theorem Works.changeClosure_signals (n : Nat) (c : Closure) (w : Works) :
    ((w.changeClosure n c).portal n).signals = (w.portal n).signals := by
  by_cases h : (w.portal n).closure = c
  · rw [Works.changeClosure_of_same h]
  · rw [Works.changeClosure_self h, Portal.turned_signals]

@[simp] theorem Works.changeClosure_barrier (n : Nat) (c : Closure) (w : Works) :
    ((w.changeClosure n c).portal n).barrier = (w.portal n).barrier := by
  by_cases h : (w.portal n).closure = c
  · rw [Works.changeClosure_of_same h]
  · rw [Works.changeClosure_self h, Portal.turned_barrier]

theorem Works.changeClosure_gate (hs : c ≠ .shut) (ho : c ≠ .opened) :
    ((w.changeClosure n c).portal n).gate = (w.portal n).gate := by
  by_cases h : (w.portal n).closure = c
  · rw [Works.changeClosure_of_same h]
  · rw [Works.changeClosure_self h, Portal.turned_gate, if_neg (by simp [hs, ho])]

theorem Works.changeClosure_other (hn : n < 2) (hm : m < 2) (hne : m ≠ n) :
    (w.changeClosure n c).portal m = w.portal m := by
  by_cases h : (w.portal n).closure = c
  · rw [Works.changeClosure_of_same h]
  · rw [Works.changeClosure_eq h, Works.closureEnded_portal, Works.closureTurned, Works.reportView_portal,
      Works.updPortal_other _ _ hn hm hne, Works.record_portal, Works.attemptsBefore]
    split
    · exact Works.updPortal_other _ _ hn hm hne
    · rfl

theorem Works.changeClosure_moves (n : Nat) (c : Closure) (w : Works) : w.Moves n (w.changeClosure n c) := by
  have h := w.changeClosure_only n c
  refine ⟨h.mono (by decide), .of_subset (h.dewater_eq (by decide)) fun e he _ => by rwa [h.line_eq (by decide)],
    by rw [h.dewater_eq (by decide)], fun m hn hm hne => by rw [Works.changeClosure_other hn hm hne], ?_⟩
  by_cases he : (w.portal n).closure = c
  · rw [Works.changeClosure_of_same he]
    exact List.Subset.refl _
  · rw [Works.changeClosure_eq he, (Works.closureEnded_only n c _ _ _).reports_eq (by decide)]
    refine List.Subset.trans ?_ (Works.reportView_reports _ _ _ _ _)
    rw [Works.updPortal_reports, Works.record_reports,
      (Works.attemptsBefore_leads (ps := [.portals]) n c w (by decide) .refl).reports_eq (by decide)]
    exact List.Subset.refl _

/-- The PORTAL record of a change of closure state (R95). -/
theorem Works.changeClosure_recorded (h : (w.portal n).closure ≠ c) : (w.changeClosure n c).recorded .portal n
    (some (w.portal n).closure.code) (some c.code)
    [(w.portal n).barrier.state.code, (w.portal n).gate.state.code, (w.portal n).gate.position, (w.portal n).leaving c]
    false := by
  have hlast (u : Works) (o : Closure) (b : Bool) (f : Portal → Portal) :
      Works.Leads [.portals, .reports, .water] u ((u.updPortal n f).reportView n o c b) :=
    Works.reportView_leads _ _ _ _ _ (by decide) (Works.updPortal_leads _ _ _ (by decide) .refl)
  rw [Works.changeClosure_eq h]
  exact (Works.closureEnded_only n c _ _ _).handed (by decide)
    ((hlast _ _ _ _).handed (by decide) (Works.recorded_record _ _ _ _ _ _ _))

/-- Within an episode, a change to another state than OPEN leaves the interior record (R78). -/
theorem Works.changeClosure_interior (ho : (w.portal n).closure ≠ .opened) (hu : (w.portal n).closure ≠ .unknown)
    (hc : c ≠ .opened) : (w.changeClosure n c).portals.interior = w.portals.interior := by
  by_cases h : (w.portal n).closure = c
  · rw [Works.changeClosure_of_same h]
  · rw [Works.changeClosure_eq h, if_neg hc, Works.openEpisode_of_under ho hu,
      Works.closeEpisode_of_shut (n := n) (by rw [Works.closureTurned_self, Portal.turned_closure]; exact hc)]
    have hv (v : Works) (o : Closure) (b : Bool) : (v.reportView n o c b).portals = v.portals :=
      (Works.reportView_leads (ps := [.reports, .water]) n o c b v (by decide) .refl).portals_eq (by decide)
    rw [Works.closureTurned, hv, Works.updPortal_interior, Works.record_portals, Works.attemptsBefore]
    split
    · simp
    · rfl

/-- No order ends at a change to another state than OPEN. -/
theorem Works.changeClosure_active (hc : c ≠ .opened) : (w.changeClosure n c).active = w.active := by
  by_cases h : (w.portal n).closure = c
  · rw [Works.changeClosure_of_same h]
  · have hl : Works.Leads [.portals, .reports, .water] w (((w.closureTurned n c).openEpisode (w.portal n).closure c).closeEpisode) :=
      Works.closeEpisode_leads _ (by decide) (Works.openEpisode_leads _ _ _ (by decide) (w.closureTurned_only n c))
    rw [Works.changeClosure_eq h, if_neg hc]
    exact hl.active_eq (by decide)

end Change

end Sys2Proof.Machine

namespace Sys2Proof.Machine

open Sys2Proof

/-! # Portals: the works of the closure states (R75) -/

section Aspects

variable {w v : Works} {n : Nat}

/-- The record with another wanted aspect (R73). -/
def Portal.wanting (a : Aspect) (p : Portal) : Portal := { p with signals := { p.signals with wanted := a } }

/-- The aspect that the work of a closure state wants (R76, R77). -/
def Closure.aspect : Closure → Aspect
  | .opened => .dark
  | .warning => .amber
  | _ => .red

theorem Works.setAspect_observed (n : Nat) (a : Aspect) (w : Works) :
    ((w.setAspect n a).portal n).observed = ((w.portal n).wanting a).observed := by
  rw [(w.setAspect_commands n a).own, Works.updSignals_eq, Works.updPortal_self]
  rfl

/-- A SET leaves all of the portal record but the signals, and but the marks of refusal. -/
theorem Works.setAspect_core (n : Nat) (a : Aspect) (w : Works) :
    ∃ s, ((w.setAspect n a).portal n).core = { (w.portal n).core with signals := s } := by
  unfold Works.setAspect
  dsimp only
  split
  · rw [(Works.request_marks _ _ _ _ _).portal n]
    simp only [Works.updSignals_eq, Works.updPortal_self]
    exact ⟨_, rfl⟩
  · simp only [Works.updSignals_eq, Works.updPortal_self]
    exact ⟨_, rfl⟩

theorem Works.setAspect_moves (n : Nat) (a : Aspect) (w : Works) : w.Moves n (w.setAspect n a) :=
  .trans (Works.updPortal_moves n _ w) (w.setAspect_commands n a).moves

theorem Works.setAspect_alike (n : Nat) (a : Aspect) (w : Works) : ((w.portal n).wanting a).Alike ((w.setAspect n a).portal n) :=
  .of_observed (w.setAspect_observed n a)

@[simp] theorem Works.setAspect_closure (n : Nat) (a : Aspect) (w : Works) :
    ((w.setAspect n a).portal n).closure = (w.portal n).closure := (w.setAspect_alike n a).closure

@[simp] theorem Works.setAspect_barrierState (n : Nat) (a : Aspect) (w : Works) :
    ((w.setAspect n a).portal n).barrier.state = (w.portal n).barrier.state := (w.setAspect_alike n a).barrierState

@[simp] theorem Works.setAspect_gateState (n : Nat) (a : Aspect) (w : Works) :
    ((w.setAspect n a).portal n).gate.state = (w.portal n).gate.state := (w.setAspect_alike n a).gateState

@[simp] theorem Works.setAspect_shown (n : Nat) (a : Aspect) (w : Works) :
    ((w.setAspect n a).portal n).signals.shown = (w.portal n).signals.shown := (w.setAspect_alike n a).shown

@[simp] theorem Works.setAspect_interior (n : Nat) (a : Aspect) (w : Works) :
    (w.setAspect n a).portals.interior = w.portals.interior := by
  rw [(w.setAspect_commands n a).interior, Works.updSignals_eq, Works.updPortal_interior]

@[simp] theorem Works.dropGateGrant_portal (n : Nat) (w : Works) : (w.dropGateGrant n).portal n =
    { w.portal n with gate := { (w.portal n).gate with grant := .none } } := by
  unfold Works.dropGateGrant
  dsimp only
  rw [Works.updGate_eq, Works.updPortal_self]
  split <;> rfl

end Aspects

/-! ## One performance of a work -/

section Step

variable {w v : Works} {n : Nat} {c : Closure}

/-- The state that the work of the present state leads to at once. -/
def Portal.next (clear : Bool) (p : Portal) : Option Closure :=
  match p.closure with
  | .unknown | .stalled | .opened | .warning => none
  | .barring => if p.signals.shown = .red ∧ p.barrier.state = .down then some .clearing else none
  | .clearing => if clear then some .gating else none
  | .gating =>
    if p.gate.stopping then none
    else if p.gate.state = .deployed then some .shut
    else if p.barrier.state ≠ .down then some .barring else none
  | .shut => if p.gate.state = .deployed then none else some .gating
  | .ungating =>
    if p.gate.stopping then none
    else if p.gate.state = .stowed then some .unbarring else none
  | .unbarring =>
    if p.gate.state ≠ .stowed then some .ungating
    else if p.barrier.state = .up then some .opened else none

theorem Works.workStep_barred (h : w.mayCommand n = false) : w.workStep n = (none, w) := by simp [Works.workStep, h]

theorem Works.workStep_waits (hc : (w.portal n).closure = .gating ∨ (w.portal n).closure = .ungating)
    (hs : (w.portal n).gate.stopping = true) : w.workStep n = (none, w) := by
  unfold Works.workStep
  rcases hc with hc | hc <;> simp [hc, hs]

theorem Works.workStep_opened (h : w.mayCommand n = true) (hc : (w.portal n).closure = .opened) : w.workStep n =
    (none, if (w.portal n).gate.state ≠ .stowed ∨ (w.portal n).barrier.state ≠ .up
      then (w.setAspect n .dark).portalFault n 5 0 else w.setAspect n .dark) := by
  simp [Works.workStep, h, hc]

theorem Works.workStep_barring (h : w.mayCommand n = true) (hc : (w.portal n).closure = .barring) :
    w.workStep n = (w.setAspect n .red).barringGo n := by simp [Works.workStep, h, hc]

theorem Works.workStep_gating (h : w.mayCommand n = true) (hc : (w.portal n).closure = .gating)
    (hs : (w.portal n).gate.stopping = false) (hg : (w.portal n).gate.state ≠ .deployed)
    (hb : (w.portal n).barrier.state = .down) : w.workStep n = (none, (w.setAspect n .red).requestGate n) := by
  simp [Works.workStep, h, hc, hs, hg, hb]

theorem Works.workStep_ungating (h : w.mayCommand n = true) (hc : (w.portal n).closure = .ungating)
    (hs : (w.portal n).gate.stopping = false) (hg : (w.portal n).gate.state ≠ .stowed) :
    w.workStep n = (none, (w.setAspect n .red).requestGate n) := by simp [Works.workStep, h, hc, hs, hg]

theorem Works.workStep_next (n : Nat) (w : Works) :
    (w.workStep n).1 = if w.mayCommand n then (w.portal n).next w.portals.interior.clear else none := by
  unfold Works.workStep Portal.next
  cases hm : w.mayCommand n with
  | false => rfl
  | true =>
    dsimp only [Bool.not_true]
    cases hc : (w.portal n).closure <;> dsimp only
    case barring => unfold Works.barringGo; simp only [Works.setAspect_shown, Works.setAspect_barrierState]; split_ifs <;> simp_all
    case clearing => simp
    case gating => split_ifs <;> simp_all
    case shut => split_ifs <;> simp_all
    case ungating => split_ifs <;> simp_all
    case unbarring => split_ifs <;> simp_all
    all_goals rfl

theorem Works.workStep_stays (h : (w.portal n).next w.portals.interior.clear = none) : (w.workStep n).1 = none := by
  rw [Works.workStep_next, h, ite_self]

/-- A performance of a work does nothing, or it wants the aspect of its state and commands the portal. -/
theorem Works.workStep_commands (n : Nat) (w : Works) : (w.workStep n).2 = w ∨
    (w.setAspect n (w.portal n).closure.aspect).Commands n (w.workStep n).2 := by
  by_cases hm : w.mayCommand n = true
  · unfold Works.workStep
    cases hc : (w.portal n).closure <;> simp only [hm, Bool.not_true, Bool.false_eq_true, if_false, Closure.aspect]
    case unknown | stalled => exact .inl trivial
    case opened =>
      refine .inr ?_
      split
      · exact Works.record_commands _ _ _ _ _ _ _ _
      · exact .refl _ _
    case warning => exact .inr (Works.updPortal_commands (by split <;> rfl))
    case barring => exact .inr (Works.barringGo_commands _ _)
    case clearing => exact .inr (Works.updPortal_commands (by split <;> rfl))
    case gating =>
      split
      · exact .inl rfl
      · refine .inr ?_
        split
        · dsimp only
          exact Works.updGate_commands rfl
        · split
          · exact Works.stopGate_commands _ _
          · exact Works.requestGate_commands _ _
    case shut => exact .inr (Works.dropGateGrant_commands _ _)
    case ungating =>
      split
      · exact .inl rfl
      · refine .inr ?_
        split
        · exact .refl _ _
        · exact Works.requestGate_commands _ _
    case unbarring =>
      refine .inr ?_
      split
      · exact .refl _ _
      · split
        · exact .refl _ _
        · exact Works.moveBarrier_commands _ _ _
  · rw [Works.workStep_barred (by simpa using hm)]
    exact .inl rfl

theorem Works.workStep_moves (n : Nat) (w : Works) : w.Moves n (w.workStep n).2 := by
  rcases w.workStep_commands n with h | h
  · rw [h]
    exact .refl _ _
  · exact .trans (Works.setAspect_moves n _ w) h.moves

/-- What a performance of a work leaves of its portal: all that is observed but the wanted aspect. -/
theorem Works.workStep_alike (n : Nat) (w : Works) : (w.portal n).Alike ((w.workStep n).2.portal n) ∨
    ((w.portal n).wanting (w.portal n).closure.aspect).Alike ((w.workStep n).2.portal n) := by
  rcases w.workStep_commands n with h | h
  · exact .inl (.of_observed (by rw [h]))
  · exact .inr (.of_observed (by rw [h.own, Works.setAspect_observed]))

@[simp] theorem Works.workStep_closure (n : Nat) (w : Works) : ((w.workStep n).2.portal n).closure = (w.portal n).closure := by
  rcases w.workStep_alike n with h | h <;> exact h.closure

theorem Works.workStep_interior (n : Nat) (w : Works) : (w.workStep n).2.portals.interior = w.portals.interior := by
  rcases w.workStep_commands n with h | h
  · rw [h]
  · rw [h.interior, Works.setAspect_interior]

end Step

/-! ## A work and the works that it leads to -/

section Work

variable {w v : Works} {n k : Nat} {c : Closure}

/-- What each performance and each change of closure state keeps, a work keeps. -/
theorem workLoop_induction {P : Works → Prop} (n k : Nat) {w : Works} (h : P w) (step : ∀ v, P v → P (v.workStep n).2)
    (turn : ∀ v c, P v → (v.workStep n).1 = some c → P ((v.workStep n).2.changeClosure n c)) : P (workLoop n k w) := by
  induction k generalizing w with
  | zero => exact h
  | succ k ih =>
    have hs := step w h
    have ht := turn w
    unfold workLoop
    split
    · next e => rwa [e] at hs
    · next c u e =>
      rw [e] at ht
      exact ih (ht c h rfl)

theorem Works.work_of_stays (h : (w.workStep n).1 = none) : w.work n = (w.workStep n).2 := by
  unfold Works.work workLoop
  generalize w.workStep n = x at h
  obtain ⟨a, u⟩ := x
  cases h
  rfl

theorem Works.work_of_goes (h : (w.workStep n).1 = some c) :
    w.work n = workLoop n 7 ((w.workStep n).2.changeClosure n c) := by
  unfold Works.work
  rw [workLoop]
  generalize w.workStep n = x at h
  obtain ⟨a, u⟩ := x
  cases h
  rfl

theorem workLoop_moves (n k : Nat) (w : Works) : w.Moves n (workLoop n k w) :=
  workLoop_induction n k (.refl n w) (fun v h => h.trans (v.workStep_moves n))
    fun v c h _ => (h.trans (v.workStep_moves n)).trans (Works.changeClosure_moves n c _)

theorem Works.work_moves (n : Nat) (w : Works) : w.Moves n (w.work n) := workLoop_moves n 8 w

theorem Works.enter_moves (n : Nat) (c : Closure) (w : Works) : w.Moves n (w.enter n c) :=
  (Works.changeClosure_moves n c w).trans (Works.work_moves n _)

theorem Works.beginSequence_moves (n : Nat) (w : Works) : w.Moves n (w.beginSequence n) := by
  unfold Works.beginSequence
  split
  · exact Works.enter_moves n _ w
  · exact .refl n w

/-- Where the work leads to no other state, the closure state stands. -/
theorem Works.work_closure (h : (w.workStep n).1 = none) : ((w.work n).portal n).closure = (w.portal n).closure := by
  rw [Works.work_of_stays h, Works.workStep_closure]

theorem Works.work_barred (h : w.mayCommand n = false) : w.work n = w := by
  rw [Works.work_of_stays] <;> rw [Works.workStep_barred h]

theorem Works.enter_of_stays (h : ((w.changeClosure n c).portal n).next (w.changeClosure n c).portals.interior.clear = none) :
    w.enter n c = ((w.changeClosure n c).workStep n).2 := Works.work_of_stays (Works.workStep_stays h)

/-- A state is entered for good where its work leads to no other. -/
theorem Works.enter_closure (h : ((w.changeClosure n c).portal n).next (w.changeClosure n c).portals.interior.clear = none) :
    ((w.enter n c).portal n).closure = c := by
  rw [Works.enter, Works.work_closure (Works.workStep_stays h), Works.changeClosure_closure]

/-- The states behind the barrier's way down: their works lead to one another and want RED (R77 to R81). -/
def Closure.shutting : Closure → Bool
  | .barring | .clearing | .gating | .shut => true
  | _ => false

theorem Portal.next_shutting {clear : Bool} {p : Portal} (h : p.closure.shutting = true) (hn : p.next clear = some c) :
    c.shutting = true := by
  unfold Portal.next at hn
  cases hc : p.closure <;> rw [hc] at h hn
  case barring | clearing | gating | shut =>
    dsimp only at hn
    repeat' split at hn
    all_goals cases hn
    all_goals rfl
  all_goals cases h

theorem Closure.shutting_not (h : c.shutting = true) : c ≠ .opened ∧ c ≠ .unknown ∧ c.aspect = .red := by
  cases c <;> simp_all [Closure.shutting, Closure.aspect]

/-- The works behind the barrier's way down leave the interior record and go on wanting RED. -/
structure Works.Behind (n : Nat) (w v : Works) : Prop where
  state : (v.portal n).closure.shutting = true
  interior : v.portals.interior = w.portals.interior
  red : (w.portal n).signals.wanted = .red → (v.portal n).signals.wanted = .red

theorem workLoop_behind (n k : Nat) (h : (w.portal n).closure.shutting = true) : w.Behind n (workLoop n k w) := by
  have hstep (v : Works) (hv : w.Behind n v) : w.Behind n (v.workStep n).2 := by
    obtain ⟨-, -, hred⟩ := Closure.shutting_not hv.state
    refine ⟨by rw [Works.workStep_closure]; exact hv.state, by rw [Works.workStep_interior, hv.interior], fun hw => ?_⟩
    rcases v.workStep_alike n with ho | ho
    · exact ho.wanted.trans (hv.red hw)
    · exact ho.wanted.trans hred
  refine workLoop_induction n k ⟨h, rfl, id⟩ hstep fun v c hv hn => ?_
  rw [Works.workStep_next] at hn
  have hc : c.shutting = true := by
    split at hn
    · exact Portal.next_shutting hv.state hn
    · cases hn
  have hs := hstep v hv
  obtain ⟨ho, hu, -⟩ := Closure.shutting_not hs.state
  refine ⟨by rw [Works.changeClosure_closure]; exact hc, ?_, fun hw => by rw [Works.changeClosure_signals]; exact hs.red hw⟩
  rw [Works.changeClosure_interior ho hu (Closure.shutting_not hc).1, hs.interior]

end Work

end Sys2Proof.Machine

namespace Sys2Proof.Machine

open Sys2Proof

/-! # Portals: stopping, stalls, the warn time and the barrier travel (R77, R80, R88, R89) -/

section Gate

variable {w v u : Works} {n : Nat}

/-- Of the portal record only the gate, and marks of refusal, may have changed. -/
def Works.onlyGate (n : Nat) (w v : Works) : Prop := ∃ g, (v.portal n).core = { (w.portal n).core with gate := g }

theorem Works.onlyGate.refl (n : Nat) (w : Works) : w.onlyGate n w := ⟨_, rfl⟩

theorem Works.onlyGate.trans (h1 : w.onlyGate n v) (h2 : v.onlyGate n u) : w.onlyGate n u := by
  obtain ⟨g, hg⟩ := h1
  obtain ⟨f, hf⟩ := h2
  exact ⟨f, by rw [hf, hg]⟩

theorem Works.updGate_onlyGate (n : Nat) (f : Gate → Gate) (w : Works) : w.onlyGate n (w.updGate n f) := by
  unfold Works.onlyGate
  rw [Works.updGate_eq, Works.updPortal_self]
  exact ⟨_, rfl⟩

theorem Works.dropGateGrant_onlyGate (n : Nat) (w : Works) : w.onlyGate n (w.dropGateGrant n) := by
  unfold Works.onlyGate
  rw [Works.dropGateGrant_portal]
  exact ⟨_, rfl⟩

theorem Works.haltGate_onlyGate (n : Nat) (stop : Bool) (w : Works) : w.onlyGate n (w.haltGate n stop) := by
  unfold Works.haltGate
  split
  · refine (Works.updGate_onlyGate n (fun g => { g with haltRefused := false, halting := g.halting || stop }) w).trans ?_
    exact ⟨_, by rw [(Works.request_marks _ _ _ _ _).portal n]⟩
  · exact .refl n w

theorem Works.beginStop_onlyGate (n : Nat) (w : Works) : w.onlyGate n (w.beginStop n) := by
  unfold Works.beginStop
  dsimp only
  refine .trans (Works.updGate_onlyGate n (fun g => { g with travel := none, dwellStart := none, stopping := true }) w) ?_
  split
  · split
    · exact .trans (Works.dropGateGrant_onlyGate n _) (Works.updGate_onlyGate n _ _)
    · exact Works.updGate_onlyGate n _ _
  · split
    · exact .refl n _
    · exact Works.dropGateGrant_onlyGate n _
    · split
      · exact Works.haltGate_onlyGate n _ _
      · exact Works.dropGateGrant_onlyGate n _

theorem Works.stopGate_onlyGate (n : Nat) (w : Works) : w.onlyGate n (w.stopGate n) := by
  unfold Works.stopGate
  dsimp only
  split
  · split
    · exact Works.updGate_onlyGate n _ w
    · exact .trans (Works.beginStop_onlyGate n w) (Works.updGate_onlyGate n _ _)
  · refine .trans (.trans (Works.dropGateGrant_onlyGate n w)
      (Works.updGate_onlyGate n (fun g => { g with travel := none, dwellStart := none }) _)) ?_
    split
    · split
      · exact Works.updGate_onlyGate n _ _
      · exact Works.updGate_onlyGate n _ _
    · exact .refl n _

theorem Works.onlyGate.barrier (h : w.onlyGate n v) : (v.portal n).core.barrier = (w.portal n).core.barrier := by
  obtain ⟨g, hg⟩ := h
  rw [hg]

theorem Works.onlyGate.travel (h : w.onlyGate n v) : (v.portal n).barrier.travel = (w.portal n).barrier.travel :=
  (congrArg Barrier.travel h.barrier :)

end Gate

/-! ## What a stop leaves of the gate (R80) -/

section Stop

variable {w : Works} {n : Nat}

/-- The gate has no travel and no dwell. -/
def Gate.still (g : Gate) : Prop := g.travel = none ∧ g.dwellStart = none

theorem Works.request_still (r : Request) (x out : Nat) (who : ReqFor) (h : (w.portal n).gate.still) :
    ((w.request r x out who).2.portal n).gate.still := by
  have hc := (Works.request_marks r x out who w).portal n
  exact ⟨(congrArg (fun p : Portal => p.gate.travel) hc).trans h.1, (congrArg (fun p : Portal => p.gate.dwellStart) hc).trans h.2⟩

theorem Works.haltGate_still (stop : Bool) (h : (w.portal n).gate.still) : ((w.haltGate n stop).portal n).gate.still := by
  unfold Works.haltGate
  split
  · exact Works.request_still _ _ _ _ (by rw [Works.updGate_eq, Works.updPortal_self]; exact h)
  · exact h

theorem Works.updGate_still {f : Gate → Gate} (h : (f (w.portal n).gate).still) : ((w.updGate n f).portal n).gate.still := by
  rwa [Works.updGate_eq, Works.updPortal_self]

theorem Works.dropGateGrant_still (h : (w.portal n).gate.still) : ((w.dropGateGrant n).portal n).gate.still := by
  rw [Works.dropGateGrant_portal]
  exact h

theorem Works.beginStop_still (n : Nat) (w : Works) : ((w.beginStop n).portal n).gate.still := by
  unfold Works.beginStop
  dsimp only
  have h0 : ((w.updGate n (fun g => { g with travel := none, dwellStart := none, stopping := true })).portal n).gate.still :=
    Works.updGate_still ⟨rfl, rfl⟩
  split
  · split
    · exact Works.updGate_still (Works.dropGateGrant_still h0)
    · exact Works.updGate_still h0
  · split
    · exact h0
    · exact Works.dropGateGrant_still h0
    · split
      · exact Works.haltGate_still _ h0
      · exact Works.dropGateGrant_still h0

theorem Works.stopGate_still (n : Nat) (w : Works) : ((w.stopGate n).portal n).gate.still := by
  unfold Works.stopGate
  dsimp only
  split
  · split
    · exact Works.updGate_still ⟨rfl, rfl⟩
    · refine Works.updGate_still ?_
      split <;> exact w.beginStop_still n
  · have h0 : (((w.dropGateGrant n).updGate n (fun g => { g with travel := none, dwellStart := none })).portal n).gate.still :=
      Works.updGate_still ⟨rfl, rfl⟩
    split
    · split
      · exact Works.updGate_still h0
      · exact Works.updGate_still h0
    · exact h0

end Stop

/-! ## Stalls (R88) -/

section Stall

variable {w : Works} {n d : Nat} {r : StallReason}

/-- What a stall gives up ahead of STALLED: the gate's grant, pair and travel, the barrier's pair and travel. -/
def Works.stilled (n : Nat) (w : Works) : Works :=
  let p := w.portal n
  let w := if p.gate.grant ≠ .none ∨ p.gate.pair = .inFlight ∨ p.gate.travel.isSome then w.stopGate n else w
  let w := if p.barrier.travel.isSome ∨ p.barrier.pair = .inFlight then
      ((w.haltMoving n .lower).haltMoving n .raise).dropBarrierPair n
    else w
  w.updGate n (fun g => { g with travel := none, dwellStart := none })

theorem Works.stall_eq (n : Nat) (r : StallReason) (d : Nat) (w : Works) : w.stall n r d =
    ((((w.stilled n).changeClosure n .stalled).updPortal n (fun q =>
      { q with stall := some r, interrupted := some (w.portal n).closure, stallDetail := d })).record .portalStall n
        (some (w.portal n).closure.code) (some Closure.stalled.code)
        [r.code, d, (w.portal n).gate.position, (w.portal n).barrier.state.code] true).endReopen n Status.failed 1 r.code [] :=
  rfl

theorem Works.stilled_commands (n : Nat) (w : Works) : w.Commands n (w.stilled n) := by
  unfold Works.stilled
  dsimp only
  have hgate : w.Commands n (if (w.portal n).gate.grant ≠ .none ∨ (w.portal n).gate.pair = .inFlight ∨
      (w.portal n).gate.travel.isSome then w.stopGate n else w) := by
    split
    · exact Works.stopGate_commands n w
    · exact .refl n w
  have hbarrier (u : Works) : u.Commands n (if (w.portal n).barrier.travel.isSome ∨ (w.portal n).barrier.pair = .inFlight then
      ((u.haltMoving n .lower).haltMoving n .raise).dropBarrierPair n else u) := by
    split
    · exact .trans (.trans (Works.haltMoving_commands n _ _) (Works.haltMoving_commands n _ _)) (Works.dropBarrierPair_commands n _)
    · exact .refl n u
  exact .trans (.trans hgate (hbarrier _)) (Works.updGate_commands rfl)

theorem Works.dropBarrierPair_travel (n : Nat) (w : Works) : ((w.dropBarrierPair n).portal n).barrier.travel = none := by
  unfold Works.dropBarrierPair
  simp

/-- No travel of the barrier outlasts a stall. -/
theorem Works.stilled_travel (n : Nat) (w : Works) : ((w.stilled n).portal n).barrier.travel = none := by
  unfold Works.stilled
  dsimp only
  rw [Works.updGate_eq, Works.updPortal_self]
  dsimp only
  split
  · exact Works.dropBarrierPair_travel n _
  · next h =>
    have ht : (w.portal n).barrier.travel = none := by simp_all
    split
    · rw [(Works.stopGate_onlyGate n w).travel, ht]
    · exact ht

theorem Works.stilled_still (n : Nat) (w : Works) : ((w.stilled n).portal n).gate.still := Works.updGate_still ⟨rfl, rfl⟩

theorem Works.endReopen_moves (n st d d2 : Nat) (r : List Nat) (w : Works) : w.Moves n (w.endReopen n st d d2 r) := by
  have h : Works.Leads [.active] w (w.endReopen n st d d2 r) := Works.endReopen_leads _ _ _ _ _ _ (by decide) .refl
  exact ⟨h.mono (by decide), .of_subset (h.dewater_eq (by decide)) fun e he _ => by rwa [h.line_eq (by decide)],
    by rw [h.dewater_eq (by decide)], fun m _ _ _ => by rw [Works.portal_congr (h.portals_eq (by decide))],
    by rw [h.reports_eq (by decide)]; exact List.Subset.refl _⟩

theorem Works.stall_moves (n : Nat) (r : StallReason) (d : Nat) (w : Works) : w.Moves n (w.stall n r d) := by
  rw [Works.stall_eq]
  exact .trans (.trans (.trans (.trans (w.stilled_commands n).moves (Works.changeClosure_moves n _ _))
    (Works.updPortal_moves n _ _)) (Works.record_commands n _ _ _ _ _ _ _).moves) (Works.endReopen_moves n _ _ _ _ _)

/-- The portal record of a stall: STALLED, with its reason and the state it interrupted. -/
theorem Works.stall_portal (h : (w.portal n).closure ≠ .stalled) : (w.stall n r d).portal n =
    { ((w.stilled n).portal n).turned .stalled with
      stall := some r, interrupted := some (w.portal n).closure, stallDetail := d } := by
  rw [Works.stall_eq, Works.portal_congr (Works.endReopen_portals ..), Works.record_portal, Works.updPortal_self,
    Works.changeClosure_self]
  rwa [(Portal.Alike.of_observed (w.stilled_commands n).own).closure]

theorem Works.stall_recorded (n : Nat) (r : StallReason) (d : Nat) (w : Works) : (w.stall n r d).recorded .portalStall n
    (some (w.portal n).closure.code) (some 9) [r.code, d, (w.portal n).gate.position, (w.portal n).barrier.state.code] true := by
  rw [Works.stall_eq]
  exact (Works.endReopen_moves n _ _ _ _ _).recorded (Works.recorded_record _ _ _ _ _ _ _)

end Stall

/-! ## The warn time and the barrier travel (R77, R89) -/

section Expiry

variable {w : Works} {n : Nat}

theorem exec_warnTimeExpiry (n : Nat) (s : State) : exec (.warnTimeExpiry n) s = .next (s.ended (s.works.warnExpiry n)) := rfl

theorem exec_barrierTravelExpiry (n : Nat) (s : State) :
    exec (.barrierTravelExpiry n) s = .next (s.ended (s.works.barrierTravelExpiry n)) := rfl

theorem Works.warnExpiry_of_warning (hc : (w.portal n).closure = .warning) (hr : w.station.state = .running)
    (ht : ranOut (w.portal n).timer (w.portal n).warn w.now = true) : w.warnExpiry n = w.enter n .barring := by
  simp [Works.warnExpiry, Works.suspended, hc, hr, ht]

/-- BARRING waits for RED to be shown (R77). -/
theorem Works.enter_barring_waits (h : (w.portal n).signals.shown ≠ .red) : ((w.enter n .barring).portal n).closure = .barring := by
  refine Works.enter_closure ?_
  simp [Portal.next, h]

/-- A portal that enters BARRING wants RED, and goes on wanting it in the states that its works lead to (R77). -/
theorem Works.enter_barring_wanted (h : (w.changeClosure n .barring).mayCommand n = true) :
    ((w.enter n .barring).portal n).signals.wanted = .red := by
  have hc : ((w.changeClosure n .barring).portal n).closure = .barring := Works.changeClosure_closure n .barring w
  have hred : (((w.changeClosure n .barring).workStep n).2.portal n).signals.wanted = .red := by
    rw [Works.workStep_barring h hc]
    exact (Portal.Alike.of_observed (Works.barringGo_commands n _).own).wanted.trans (Works.setAspect_alike n .red _).wanted
  unfold Works.enter
  cases hn : ((w.changeClosure n .barring).workStep n).1 with
  | none => rwa [Works.work_of_stays hn]
  | some c =>
    have hs : c.shutting = true := by
      rw [Works.workStep_next, h] at hn
      exact Portal.next_shutting (by rw [hc]; rfl) hn
    rw [Works.work_of_goes hn]
    exact (workLoop_behind n 7 (by rwa [Works.changeClosure_closure])).red (by rwa [Works.changeClosure_signals])

/-- What a barrier travel that is over gives up. -/
def Works.travelOver (n : Nat) (w : Works) : Works := (w.haltBarrier n).updBarrier n (fun b => { b with travel := none })

theorem Works.travelOver_commands (n : Nat) (w : Works) : w.Commands n (w.travelOver n) :=
  .trans (w.haltBarrier_commands n) (Works.updBarrier_commands rfl)

theorem Works.travelOver_travel (n : Nat) (w : Works) : ((w.travelOver n).portal n).barrier.travel = none := by
  simp [Works.travelOver]

theorem Works.barrierTravelExpiry_eq (h : ranOut (w.portal n).barrier.travel (w.portal n).barrier.limit w.now = true) :
    w.barrierTravelExpiry n = if (w.portal n).closure = .barring ∨ (w.portal n).closure = .unbarring
      then (w.travelOver n).stall n .barrierTravel 0 else w.travelOver n := if_pos h

theorem Works.barrierTravelExpiry_moves (n : Nat) (w : Works) : w.Moves n (w.barrierTravelExpiry n) := by
  have h := (w.travelOver_commands n).moves
  unfold Works.barrierTravelExpiry
  dsimp only
  split
  · split
    · exact h.trans (Works.stall_moves n _ _ _)
    · exact h
  · exact .refl n w

theorem Works.barrierTravelExpiry_travel (h : ranOut (w.portal n).barrier.travel (w.portal n).barrier.limit w.now = true) :
    ((w.barrierTravelExpiry n).portal n).barrier.travel = none := by
  rw [Works.barrierTravelExpiry_eq h]
  split
  · next hc =>
    have hs : ((w.travelOver n).portal n).closure ≠ .stalled := by
      rw [(Portal.Alike.of_observed (w.travelOver_commands n).own).closure]
      rcases hc with hc | hc <;> simp [hc]
    rw [Works.stall_portal hs, Portal.turned_barrier, Works.stilled_travel]
  · exact w.travelOver_travel n

end Expiry

/-- Settles O40, by the entry to BARRING with the works behind it, and by the stall of a barrier travel that is over. -/
theorem warnAndBarrierTravel : Obligations.WarnAndBarrierTravel := by
  unfold Obligations.WarnAndBarrierTravel
  refine ⟨fun n s _ hc hr ht => ?_, fun n s _ => ⟨fun ht => ?_, fun ht => ?_⟩⟩
  · have hm := Works.enter_moves n .barring s.works
    refine ⟨_, exec_warnTimeExpiry n s, ?_⟩
    rw [Works.warnExpiry_of_warning hc hr ht]
    refine ⟨hm.keepsPortals, ?_, Works.enter_barring_waits, fun ha => Works.enter_barring_wanted ?_⟩
    · have hrec := Works.changeClosure_recorded (w := s.works) (n := n) (c := .barring) (by rw [hc]; decide)
      simp only [hc, Portal.leaving] at hrec
      exact (Works.work_moves n _).recorded hrec
    · have hch := Works.changeClosure_moves n .barring s.works
      rw [Works.mayCommand_of_auto (.inr (by rw [hch.leads.station_eq]; exact hr)), hch.portalAuto_eq]
      exact ha
  · have hal := Portal.Alike.of_observed (s.works.travelOver_commands n).own
    refine ⟨_, exec_barrierTravelExpiry n s, (s.works.barrierTravelExpiry_moves n).keepsPortals,
      Works.barrierTravelExpiry_travel ht, fun hc => ?_, fun hc => ?_⟩
    · have hs : ((s.works.travelOver n).portal n).closure ≠ .stalled := by
        rw [hal.closure]
        rcases hc with hc | hc <;> simp [hc]
      have hrec := Works.stall_recorded n .barrierTravel 0 (s.works.travelOver n)
      rw [hal.closure, hal.position, hal.barrierState] at hrec
      rw [Works.barrierTravelExpiry_eq ht, if_pos hc, Works.stall_portal hs]
      exact ⟨Portal.turned_closure _ _, rfl, by rw [hal.closure], hrec⟩
    · rw [Works.barrierTravelExpiry_eq ht, if_neg (by tauto)]
      exact hal.closure
  · rw [exec_barrierTravelExpiry, Works.barrierTravelExpiry, if_neg (by rw [ht]; decide)]

end Sys2Proof.Machine

namespace Sys2Proof.Machine

open Sys2Proof

/-! # Portals: the interior record, end switches, and a vehicle in an open episode (R74, R78, R79, R84) -/

section Interior

variable {w v : Works} {n k : Nat} {b : Bool}

/-- A change of the interior clear flag, with its INTERIOR record (R78). -/
theorem Works.setClear_of_ne (h : w.portals.interior.clear ≠ b) (k : Nat) : w.setClear b k =
    (w.setInterior { w.portals.interior with clear := b }).record .interior 0 (some (flag w.portals.interior.clear))
      (some (flag b)) [w.portals.interior.episode.toNat, k, w.vehicleCount] false := if_neg h

theorem Works.setClear_interior (b : Bool) (k : Nat) (w : Works) :
    (w.setClear b k).portals.interior = { w.portals.interior with clear := b } := by
  by_cases h : w.portals.interior.clear = b
  · rw [Works.setClear, if_pos h, ← h]
  · rw [Works.setClear_of_ne h]
    rfl

theorem Works.setClear_recorded (h : w.portals.interior.clear ≠ b) (k : Nat) : (w.setClear b k).recorded .interior 0
    (some (flag w.portals.interior.clear)) (some (flag b)) [w.portals.interior.episode.toNat, k, w.vehicleCount] false := by
  rw [Works.setClear_of_ne h]
  exact Works.recorded_record _ _ _ _ _ _ _

/-- The clear dwell runs only while the interior is not clear. -/
theorem Works.judgeClearDwell_of_clear (h : w.portals.interior.clear = true) :
    w.judgeClearDwell.portals.interior = { w.portals.interior with dwellStart := none } := by
  simp [Works.judgeClearDwell, Works.dwellHolds, Works.setInterior, h]

theorem Works.judgeClearDwell_interior (w : Works) :
    ∃ d, w.judgeClearDwell.portals.interior = { w.portals.interior with dwellStart := d } := ⟨_, rfl⟩

theorem Works.clearToGating_moves (n : Nat) (w : Works) : w.Moves n (w.clearToGating n) := by
  unfold Works.clearToGating
  split
  · exact Works.enter_moves n _ w
  · exact .refl n w

/-- Entry to a state behind the barrier's way down, from another state of a portal on its way, leaves the interior record. -/
theorem Works.enter_interior {c : Closure} (ho : (w.portal n).closure ≠ .opened) (hu : (w.portal n).closure ≠ .unknown)
    (hc : c.shutting = true) : (w.enter n c).portals.interior = w.portals.interior := by
  rw [Works.enter, Works.work, (workLoop_behind n 8 (by rwa [Works.changeClosure_closure])).interior,
    Works.changeClosure_interior ho hu (Closure.shutting_not hc).1]

theorem Works.clearToGating_interior (n : Nat) (w : Works) : (w.clearToGating n).portals.interior = w.portals.interior := by
  unfold Works.clearToGating
  split
  · next h =>
    obtain ⟨hc, -, -⟩ := h
    exact Works.enter_interior (by rw [hc]; decide) (by rw [hc]; decide) rfl
  · rfl

/-- The figures of a PORTAL record. -/
def Portal.figures (p : Portal) : List Nat :=
  [p.barrier.state.code, p.gate.state.code, p.gate.position, p.gate.attempts]

theorem Portal.Alike.figures {p q : Portal} (h : p.Alike q) : q.figures = p.figures := by
  rw [Portal.figures, Portal.figures, h.barrierState, h.gateState, h.position, h.attempts]

/-- The PORTAL record at the entry to another state than SHUT, from another than STALLED. -/
theorem Works.changeClosure_recorded_figures {c : Closure} (h : (w.portal n).closure ≠ c)
    (hl : (w.portal n).closure ≠ .stalled) (hs : c ≠ .shut) : (w.changeClosure n c).recorded .portal n
      (some (w.portal n).closure.code) (some c.code) (w.portal n).figures false := by
  have hrec := Works.changeClosure_recorded h
  rwa [Portal.leaving, if_neg hl, if_neg hs] at hrec

theorem Works.enter_recorded {c : Closure} (h : (w.portal n).closure ≠ c) (hl : (w.portal n).closure ≠ .stalled)
    (hs : c ≠ .shut) : (w.enter n c).recorded .portal n (some (w.portal n).closure.code) (some c.code) (w.portal n).figures
      false :=
  (Works.work_moves n _).recorded (Works.changeClosure_recorded_figures h hl hs)

/-- A portal in CLEARING that may command goes on to GATING once the interior is clear (R79). -/
theorem Works.clearToGating_recorded (hc : (w.portal n).closure = .clearing) (hi : w.portals.interior.clear = true)
    (hm : w.mayCommand n = true) :
    (w.clearToGating n).recorded .portal n (some 4) (some 5) (w.portal n).figures false := by
  have hrec := Works.enter_recorded (w := w) (n := n) (c := .gating) (by rw [hc]; decide) (by rw [hc]; decide) (by decide)
  rw [hc] at hrec
  rwa [Works.clearToGating, if_pos ⟨hc, hi, hm⟩]

/-- Both portals find the interior clear. -/
def Works.bothToGating (w : Works) : Works := (w.clearToGating 0).clearToGating 1

theorem Works.bothToGating_only (w : Works) : Works.Leads Part.ofPortal w w.bothToGating :=
  (w.clearToGating_moves 0).leads.trans (Works.clearToGating_moves 1 _).leads

theorem Works.bothToGating_interior (w : Works) : w.bothToGating.portals.interior = w.portals.interior := by
  rw [Works.bothToGating, Works.clearToGating_interior, Works.clearToGating_interior]

theorem Works.Moves.alike (h : w.Moves n v) {m : Nat} (hn : n < 2) (hm : m < 2) (hne : m ≠ n) : (w.portal m).Alike (v.portal m) :=
  .of_observed (Portal.observed_of_core (h.other m hn hm hne))

theorem Works.bothToGating_recorded (hn : n < 2) (hc : (w.portal n).closure = .clearing) (hi : w.portals.interior.clear = true)
    (hm : w.mayCommand n = true) : w.bothToGating.recorded .portal n (some 4) (some 5) (w.portal n).figures false := by
  have h0 := w.clearToGating_moves 0
  have hal := h0.alike (m := 1) (by decide) (by decide) (by decide)
  obtain rfl | rfl : n = 0 ∨ n = 1 := by omega
  · exact (Works.clearToGating_moves 1 _).recorded (Works.clearToGating_recorded hc hi hm)
  · rw [← hal.figures]
    exact Works.clearToGating_recorded (hal.closure.trans hc) (by rw [Works.clearToGating_interior, hi])
      (by rw [h0.mayCommand_eq hal.closure, hm])

/-- The interior becomes clear: the flag, its record, and the dwell that ends. -/
def Works.cleared (k : Nat) (w : Works) : Works := (w.setClear true k).judgeClearDwell

theorem Works.cleared_only (k : Nat) (w : Works) : Works.Leads [.portals] w (w.cleared k) :=
  Works.judgeClearDwell_leads _ (by decide) (Works.setClear_leads _ _ _ (by decide) .refl)

theorem Works.cleared_portal (k : Nat) (w : Works) (m : Nat) : (w.cleared k).portal m = w.portal m := Works.setClear_portal true k w m

theorem Works.cleared_interior (k : Nat) (w : Works) :
    (w.cleared k).portals.interior = { w.portals.interior with clear := true, dwellStart := none } := by
  rw [Works.cleared, Works.judgeClearDwell_of_clear] <;> rw [Works.setClear_interior]

theorem Works.cleared_mayCommand (k : Nat) (w : Works) (n : Nat) : (w.cleared k).mayCommand n = w.mayCommand n :=
  Works.mayCommand_congr ((w.cleared_only k).claims_eq (by decide)) (w.cleared_only k).station_eq (by rw [Works.cleared_portal])

theorem exec_clearDwellExpiry (s : State) : exec .clearDwellExpiry s = .next (s.ended s.works.clearDwellExpiry) := rfl

theorem Works.clearDwellExpiry_eq {site : Site} (hs : w.station.site = some site)
    (ht : ranOut w.portals.interior.dwellStart site.clearDwell w.now = true) :
    w.clearDwellExpiry = (w.cleared 1).bothToGating := by
  simp only [Works.clearDwellExpiry, hs, ht, if_true]
  rfl

end Interior

/-! ## The clear limit (R79) -/

section Limit

variable {w : Works} {n : Nat}

theorem exec_clearLimitExpiry (n : Nat) (s : State) :
    exec (.clearLimitExpiry n) s = .next (s.ended (s.works.clearLimitExpiry n)) := rfl

theorem Works.clearLimitExpiry_eq {c : Channel} {t : ThState} (hc : (w.portal n).closure = .clearing)
    (hr : w.station.state = .running) (ht : ranOut (w.portal n).timer (w.portal n).clearLimit w.now = true)
    (hv : w.vehicles = some c) (ho : c.roleState .occupied = some t) : w.clearLimitExpiry n =
      (w.updPortal n (fun p => { p with clearFault := true, timer := none })).record .interiorNotClear n none none
        [w.portals.interior.episode.toNat, c.value, t.wide] true := by
  simp [Works.clearLimitExpiry, Works.suspended, Works.vehicleCount, hc, hr, ht, hv, ho]

end Limit

/-! ## End switches (R74, Table 4-2) -/

section Switches

variable {w : Works} {n b : Nat}

theorem Works.setBarrier_portal (n : Nat) (s : BarrierState) (w : Works) : (w.setBarrier n s).portal n =
    { w.portal n with barrier := { (w.portal n).barrier with state := s } } := by
  unfold Works.setBarrier
  dsimp only
  split
  · next h => rw [← h]
  · simp

theorem Works.setGate_portal (n : Nat) (s : GateState) (w : Works) : (w.setGate n s).portal n =
    { w.portal n with gate := { (w.portal n).gate with state := s } } := by
  unfold Works.setGate
  dsimp only
  split
  · next h => rw [← h]
  · simp

theorem Works.setBarrier_of_same {s : BarrierState} (h : (w.portal n).barrier.state = s) : w.setBarrier n s = w := if_pos h

theorem Works.setGate_of_same {s : GateState} (h : (w.portal n).gate.state = s) : w.setGate n s = w := if_pos h

theorem Works.setBarrier_recorded {s : BarrierState} (h : (w.portal n).barrier.state ≠ s) : (w.setBarrier n s).recorded .barrier n
    (some (w.portal n).barrier.state.code) (some s.code) [actionCode (w.portal n).barrier.action] false := by
  rw [Works.setBarrier, if_neg h]
  exact Works.recorded_record _ _ _ _ _ _ _

theorem Works.setGate_recorded {s : GateState} (h : (w.portal n).gate.state ≠ s) : (w.setGate n s).recorded .gate n
    (some (w.portal n).gate.state.code) (some s.code)
    [(w.portal n).gate.position, flag (w.portal n).gate.obstruction, (w.portal n).gate.grant.code] false := by
  rw [Works.setGate, if_neg h]
  exact Works.recorded_record _ _ _ _ _ _ _

/-- A fault of the end switches is reported once (R99). -/
def Works.conflictFault (n : Nat) (now old : Bool) (w : Works) : Works := if now && !old then w.portalFault n 1 0 else w

theorem Works.conflictFault_portal (n : Nat) (a b : Bool) (w : Works) (m : Nat) : (w.conflictFault n a b).portal m = w.portal m := by
  unfold Works.conflictFault
  split <;> rfl

theorem Works.conflictFault_notices {a b : Bool} (h : a = false ∨ b = true) : (w.conflictFault n a b).notices = w.notices := by
  rcases h with h | h <;> simp [Works.conflictFault, h]

theorem Works.conflictFault_recorded (n : Nat) (w : Works) : (w.conflictFault n true false).recorded .portalFault n none none [1, 0] true :=
  Works.recorded_record _ _ _ _ _ _ _

theorem Works.takeBarrier_eq (n : Nat) (img : List Byte) (w : Works) : w.takeBarrier n img =
    ((w.conflictFault n (endSwitches (imgByte img 0)).conflict (w.portal n).barrier.conflict).updBarrier n
      (fun b => { b with conflict := (endSwitches (imgByte img 0)).conflict })).setBarrier n (endSwitches (imgByte img 0)).barrier := rfl

theorem Works.takeGate_eq (n : Nat) (img : List Byte) (w : Works) : w.takeGate n img =
    ((w.conflictFault n (endSwitches (imgByte img 1)).conflict (w.portal n).gate.conflict).updGate n
      (fun g => { g with conflict := (endSwitches (imgByte img 1)).conflict, position := min 100 (imgByte img 2),
                         obstruction := bitAt (imgByte img 1) 4 })).setGate n (endSwitches (imgByte img 1)).gate := rfl

theorem Works.takeBarrier_portal (n : Nat) (img : List Byte) (w : Works) : (w.takeBarrier n img).portal n =
    { w.portal n with barrier := { (w.portal n).barrier with
        conflict := (endSwitches (imgByte img 0)).conflict, state := (endSwitches (imgByte img 0)).barrier } } := by
  rw [Works.takeBarrier_eq, Works.setBarrier_portal, Works.updBarrier_eq, Works.updPortal_self, Works.conflictFault_portal]

theorem Works.takeGate_portal (n : Nat) (img : List Byte) (w : Works) : (w.takeGate n img).portal n =
    { w.portal n with gate := { (w.portal n).gate with
        conflict := (endSwitches (imgByte img 1)).conflict, position := min 100 (imgByte img 2),
        obstruction := bitAt (imgByte img 1) 4, state := (endSwitches (imgByte img 1)).gate } } := by
  rw [Works.takeGate_eq, Works.setGate_portal, Works.updGate_eq, Works.updPortal_self, Works.conflictFault_portal]

/-- What the records of a barrier's response tell (R74, R99). -/
theorem Works.takeBarrier_records (n : Nat) (img : List Byte) (w : Works) {e : EndSwitches} (he : e = endSwitches (imgByte img 0)) :
    (e.conflict = true → (w.portal n).barrier.conflict = false →
      (w.takeBarrier n img).recorded .portalFault n none none [1, 0] true) ∧
    (e.barrier ≠ (w.portal n).barrier.state → (w.takeBarrier n img).recorded .barrier n
      (some (w.portal n).barrier.state.code) (some e.barrier.code) [actionCode (w.portal n).barrier.action] false) ∧
    (e.barrier = (w.portal n).barrier.state → (e.conflict = false ∨ (w.portal n).barrier.conflict = true) →
      (w.takeBarrier n img).notices = w.notices) := by
  rw [Works.takeBarrier_eq, ← he]
  have hp := Works.conflictFault_portal n e.conflict (w.portal n).barrier.conflict w n
  refine ⟨fun hc hx => ?_, fun hs => ?_, fun hs hc => ?_⟩
  · have hl : Works.Leads [.portals] (w.conflictFault n e.conflict (w.portal n).barrier.conflict) _ :=
      Works.setBarrier_leads n e.barrier _ (by decide) (Works.updBarrier_leads n (fun b => { b with conflict := e.conflict }) _ (by decide) .refl)
    refine hl.recorded (by decide) ?_
    rw [hc, hx]
    exact Works.conflictFault_recorded n w
  · have hr := Works.setBarrier_recorded (w := (w.conflictFault n e.conflict (w.portal n).barrier.conflict).updBarrier n
      (fun b => { b with conflict := e.conflict })) (n := n) (s := e.barrier) (by simpa [hp] using hs.symm)
    simpa [hp] using hr
  · rw [Works.setBarrier_of_same (by simpa [hp] using hs.symm), Works.updBarrier_eq, Works.updPortal_notices,
      Works.conflictFault_notices hc]

/-- What the records of a gate's response tell (R74, R99). -/
theorem Works.takeGate_records (n : Nat) (img : List Byte) (w : Works) {e : EndSwitches} (he : e = endSwitches (imgByte img 1)) :
    (e.conflict = true → (w.portal n).gate.conflict = false →
      (w.takeGate n img).recorded .portalFault n none none [1, 0] true) ∧
    (e.gate ≠ (w.portal n).gate.state → (w.takeGate n img).recorded .gate n
      (some (w.portal n).gate.state.code) (some e.gate.code)
      [min 100 (imgByte img 2), flag (bitAt (imgByte img 1) 4), (w.portal n).gate.grant.code] false) ∧
    (e.gate = (w.portal n).gate.state → (e.conflict = false ∨ (w.portal n).gate.conflict = true) →
      (w.takeGate n img).notices = w.notices) := by
  rw [Works.takeGate_eq, ← he]
  have hp := Works.conflictFault_portal n e.conflict (w.portal n).gate.conflict w n
  refine ⟨fun hc hx => ?_, fun hs => ?_, fun hs hc => ?_⟩
  · have hl : Works.Leads [.portals] (w.conflictFault n e.conflict (w.portal n).gate.conflict) _ :=
      Works.setGate_leads n e.gate _ (by decide) (Works.updGate_leads n (fun g => { g with
        conflict := e.conflict, position := min 100 (imgByte img 2), obstruction := bitAt (imgByte img 1) 4 }) _ (by decide) .refl)
    refine hl.recorded (by decide) ?_
    rw [hc, hx]
    exact Works.conflictFault_recorded n w
  · have hr := Works.setGate_recorded (w := (w.conflictFault n e.conflict (w.portal n).gate.conflict).updGate n
      (fun g => { g with conflict := e.conflict, position := min 100 (imgByte img 2), obstruction := bitAt (imgByte img 1) 4 }))
      (n := n) (s := e.gate) (by simpa [hp] using hs.symm)
    simpa [hp] using hr
  · rw [Works.setGate_of_same (by simpa [hp] using hs.symm), Works.updGate_eq, Works.updPortal_notices,
      Works.conflictFault_notices hc]

/-- Table 4-2 by the bits of Table 10-10, for the barrier. -/
theorem endSwitches_barrier (b : Nat) :
    (bitAt b 0 = true → bitAt b 1 = true → (endSwitches b).barrier = .unknown) ∧
    (bitAt b 0 = false → bitAt b 1 = true → (endSwitches b).barrier = .down) ∧
    (bitAt b 0 = true → bitAt b 1 = false → (endSwitches b).barrier = .up) ∧
    (bitAt b 0 = false → bitAt b 1 = false → (endSwitches b).barrier =
      if bitAt b 2 = true ∧ bitAt b 3 = false then .lowering else if bitAt b 2 = false ∧ bitAt b 3 = true then .raising
      else .unknown) := by
  unfold endSwitches EndSwitches.barrier
  refine ⟨fun h0 h1 => by rw [h0, h1], fun h0 h1 => by rw [h0, h1], fun h0 h1 => by rw [h0, h1], fun h0 h1 => ?_⟩
  rw [h0, h1]
  cases bitAt b 2 <;> cases bitAt b 3 <;> rfl

/-- Table 4-2 by the bits of Table 10-10, for the gate. -/
theorem endSwitches_gate (b : Nat) :
    (bitAt b 0 = true → bitAt b 1 = true → (endSwitches b).gate = .unknown) ∧
    (bitAt b 0 = false → bitAt b 1 = true → (endSwitches b).gate = .deployed) ∧
    (bitAt b 0 = true → bitAt b 1 = false → (endSwitches b).gate = .stowed) ∧
    (bitAt b 0 = false → bitAt b 1 = false → (endSwitches b).gate =
      if bitAt b 2 = true ∧ bitAt b 3 = false then .deploying else if bitAt b 2 = false ∧ bitAt b 3 = true then .stowing
      else .halted) := by
  unfold endSwitches EndSwitches.gate
  refine ⟨fun h0 h1 => by rw [h0, h1], fun h0 h1 => by rw [h0, h1], fun h0 h1 => by rw [h0, h1], fun h0 h1 => ?_⟩
  rw [h0, h1]
  cases bitAt b 2 <;> cases bitAt b 3 <;> rfl

theorem Works.portalLost_portal (n : Nat) (w : Works) : (w.portalLost n).portal n = { w.portal n with
    barrier := { (w.portal n).barrier with state := .unknown, conflict := false }
    gate := { (w.portal n).gate with state := .unknown, conflict := false }
    signals := { (w.portal n).signals with shown := .unknown } } := by
  simp [Works.portalLost, Works.setGate_portal, Works.setBarrier_portal]

end Switches

/-! ## A vehicle in an open episode (R84) -/

section Vehicle

variable {w : Works} {n : Nat}

/-- A SET leaves the gate but for marks of refusal. -/
theorem Works.setAspect_gate (n : Nat) (a : Aspect) (w : Works) :
    ((w.setAspect n a).portal n).core.gate = (w.portal n).core.gate := by
  obtain ⟨s, hs⟩ := w.setAspect_core n a
  rw [hs]

theorem Works.setAspect_barrier (n : Nat) (a : Aspect) (w : Works) :
    ((w.setAspect n a).portal n).core.barrier = (w.portal n).core.barrier := by
  obtain ⟨s, hs⟩ := w.setAspect_core n a
  rw [hs]

/-- The work of CLEARING leaves the gate. -/
theorem Works.workStep_clearing_gate (hc : (w.portal n).closure = .clearing) :
    ((w.workStep n).2.portal n).core.gate = (w.portal n).core.gate := by
  by_cases hm : w.mayCommand n = true
  · have h : (w.workStep n).2 = (w.setAspect n .red).updPortal n
        (fun p => if p.clearFault then p else { p with timer := some w.now }) := by simp [Works.workStep, hm, hc]
    rw [h, Works.updPortal_self, ← Works.setAspect_gate n .red w]
    split <;> rfl
  · rw [Works.workStep_barred (by simpa using hm)]

theorem Works.vehicleStop_eq (h : (w.portal n).closure = .gating) : w.vehicleStop n = (w.stopGate n).enter n .clearing := if_pos h

theorem Works.vehicleStop_of_ne (h : (w.portal n).closure ≠ .gating) : w.vehicleStop n = w := if_neg h

theorem Works.vehicleStop_moves (n : Nat) (w : Works) : w.Moves n (w.vehicleStop n) := by
  unfold Works.vehicleStop
  split
  · exact (w.stopGate_commands n).moves.trans (Works.enter_moves n _ _)
  · exact .refl n w

theorem Works.stopGate_alike (n : Nat) (w : Works) : (w.portal n).Alike ((w.stopGate n).portal n) :=
  .of_observed (w.stopGate_commands n).own

theorem Works.vehicleStop_interior (n : Nat) (w : Works) : (w.vehicleStop n).portals.interior = w.portals.interior := by
  by_cases h : (w.portal n).closure = .gating
  · have hc := (w.stopGate_alike n).closure.trans h
    rw [Works.vehicleStop_eq h, Works.enter_interior (by rw [hc]; decide) (by rw [hc]; decide) rfl, (w.stopGate_commands n).interior]
  · rw [Works.vehicleStop_of_ne h]

/-- A portal in GATING goes back to CLEARING, its gate still, the attempt count kept (R84). -/
theorem Works.vehicleStop_portal (h : (w.portal n).closure = .gating) (hi : w.portals.interior.clear = false) :
    ((w.vehicleStop n).portal n).closure = .clearing ∧
      ((w.vehicleStop n).portal n).gate.attempts = (w.portal n).gate.attempts ∧ ((w.vehicleStop n).portal n).gate.still := by
  have hal := w.stopGate_alike n
  have hc := hal.closure.trans h
  have hclear : ((w.stopGate n).changeClosure n .clearing).portals.interior.clear = false := by
    rw [Works.changeClosure_interior (by rw [hc]; decide) (by rw [hc]; decide) (by decide), (w.stopGate_commands n).interior, hi]
  have hnext : (((w.stopGate n).changeClosure n .clearing).portal n).next
      ((w.stopGate n).changeClosure n .clearing).portals.interior.clear = none := by
    simp [Portal.next, hclear]
  have hgate := Works.workStep_clearing_gate (Works.changeClosure_closure n .clearing (w.stopGate n))
  have hstop : (((w.stopGate n).changeClosure n .clearing).portal n).gate = ((w.stopGate n).portal n).gate :=
    Works.changeClosure_gate (by decide) (by decide)
  obtain ⟨ht, hd⟩ := w.stopGate_still n
  rw [Works.vehicleStop_eq h]
  refine ⟨Works.enter_closure hnext, ?_⟩
  rw [Works.enter, Works.work_of_stays (Works.workStep_stays hnext)]
  refine ⟨(congrArg Gate.attempts hgate :).trans ?_, (congrArg Gate.travel hgate :).trans ?_,
    (congrArg Gate.dwellStart hgate :).trans ?_⟩
  · exact (congrArg Gate.attempts hstop).trans hal.attempts
  · exact (congrArg Gate.travel hstop).trans ht
  · exact (congrArg Gate.dwellStart hstop).trans hd

theorem Works.vehicleStop_recorded (h : (w.portal n).closure = .gating) :
    (w.vehicleStop n).recorded .portal n (some 5) (some 4) (w.portal n).figures false := by
  have hal := w.stopGate_alike n
  have hc := hal.closure.trans h
  have hrec := Works.enter_recorded (w := w.stopGate n) (n := n) (c := .clearing) (by rw [hc]; decide) (by rw [hc]; decide) (by decide)
  rwa [hc, hal.figures, ← Works.vehicleStop_eq h] at hrec

/-- The interior is no longer clear, and no confirmation counts. -/
def Works.unclear (w : Works) : Works :=
  ((w.setClear false 3).setInterior { (w.setClear false 3).portals.interior with confirm := none }).judgeClearDwell

theorem Works.vehiclesChanged_eq (h : w.portals.interior.opened = true) :
    w.vehiclesChanged true = (w.unclear.vehicleStop 0).vehicleStop 1 := by
  simp only [Works.vehiclesChanged, h, Bool.and_true, if_true]
  rfl

theorem Works.unclear_portal (w : Works) (m : Nat) : w.unclear.portal m = w.portal m := Works.setClear_portal false 3 w m

theorem Works.unclear_interior (w : Works) : w.unclear.portals.interior.clear = false ∧ w.unclear.portals.interior.confirm = none := by
  obtain ⟨d, hd⟩ := ((w.setClear false 3).setInterior { (w.setClear false 3).portals.interior with confirm := none }).judgeClearDwell_interior
  rw [Works.unclear, hd]
  exact ⟨by rw [Works.setInterior, Works.setClear_interior], rfl⟩

end Vehicle

end Sys2Proof.Machine

namespace Sys2Proof.Machine

open Sys2Proof

/-! # Portals: the clauses of O41 -/

section Clauses

theorem clearDwell_clears (site : Site) (s : State) (hs : s.works.station.site = some site)
    (hi : s.works.portals.interior.clear = false)
    (ht : ranOut s.works.portals.interior.dwellStart site.clearDwell s.works.now = true) :
    ∃ v, exec .clearDwellExpiry s = .next (s.ended v) ∧ s.works.keepsPortals v ∧
      v.portals.interior.clear = true ∧ v.portals.interior.dwellStart = none ∧
      v.recorded .interior 0 (some 0) (some 1) [s.works.portals.interior.episode.toNat, 1, s.works.vehicleCount] false ∧
      ∀ n, n < 2 → (s.works.portal n).closure = .clearing → s.works.mayCommand n = true →
        v.recorded .portal n (some 4) (some 5) (s.works.portal n).figures false := by
  have hboth := (s.works.cleared 1).bothToGating_only
  have hall : Works.Leads Part.ofPortal s.works (s.works.cleared 1).bothToGating :=
    ((s.works.cleared_only 1).mono (by decide)).trans hboth
  refine ⟨_, exec_clearDwellExpiry s, ?_⟩
  rw [Works.clearDwellExpiry_eq hs ht, Works.bothToGating_interior, Works.cleared_interior]
  refine ⟨hall.keepsPortals, rfl, rfl, ?_, fun n hn hc hm => ?_⟩
  · have hrec := Works.setClear_recorded (w := s.works) (b := true) (by rw [hi]; decide) 1
    rw [hi] at hrec
    exact hboth.recorded (by decide) ((Works.judgeClearDwell_leads (ps := [.portals]) _ (by decide) .refl).recorded (by decide) hrec)
  · rw [← Works.cleared_portal 1]
    exact Works.bothToGating_recorded hn (by rw [Works.cleared_portal, hc]) (by rw [Works.cleared_interior])
      (by rw [Works.cleared_mayCommand, hm])

theorem clearLimit_tells (n : Nat) (c : Channel) (t : ThState) (s : State) (hc : (s.works.portal n).closure = .clearing)
    (hr : s.works.station.state = .running)
    (ht : ranOut (s.works.portal n).timer (s.works.portal n).clearLimit s.works.now = true)
    (hv : s.works.vehicles = some c) (ho : c.roleState .occupied = some t) :
    ∃ v, exec (.clearLimitExpiry n) s = .next (s.ended v) ∧ s.works.keepsPortals v ∧ v.water = s.works.water ∧
      v.portal n = { s.works.portal n with clearFault := true, timer := none } ∧
      v.recorded .interiorNotClear n none none [s.works.portals.interior.episode.toNat, c.value, t.wide] true := by
  refine ⟨_, exec_clearLimitExpiry n s, ?_⟩
  rw [Works.clearLimitExpiry_eq hc hr ht hv ho]
  exact ⟨((Works.updPortal_moves n _ _).trans (Works.record_commands n _ _ _ _ _ _ _).moves).keepsPortals, by simp, by simp,
    Works.recorded_record _ _ _ _ _ _ _⟩

theorem takeBarrier_by_switches (w v : Works) (n b : Nat) (img : List Byte) (x y : Barrier) (hb : b = imgByte img 0)
    (hv : v = w.takeBarrier n img) (hx : x = (w.portal n).barrier) (hy : y = (v.portal n).barrier) :
    v.portal n = { w.portal n with barrier := y } ∧
    y = { x with conflict := bitAt b 0 && bitAt b 1, state := y.state } ∧
    (bitAt b 0 = true → bitAt b 1 = true → y.state = .unknown ∧
      (x.conflict = false → v.recorded .portalFault n none none [1, 0] true)) ∧
    (bitAt b 0 = false → bitAt b 1 = true → y.state = .down) ∧ (bitAt b 0 = true → bitAt b 1 = false → y.state = .up) ∧
    (bitAt b 0 = false → bitAt b 1 = false → y.state =
      if bitAt b 2 = true ∧ bitAt b 3 = false then .lowering else if bitAt b 2 = false ∧ bitAt b 3 = true then .raising
      else .unknown) ∧
    (y.state ≠ x.state → v.recorded .barrier n (some x.state.code) (some y.state.code) [actionCode x.action] false) ∧
    (y.state = x.state → (y.conflict = false ∨ x.conflict = true) → v.notices = w.notices) := by
  subst hb hv hx
  rw [Works.takeBarrier_portal] at hy
  obtain ⟨hunknown, hdown, hup, hmid⟩ := endSwitches_barrier (imgByte img 0)
  obtain ⟨hfault, hrec, hquiet⟩ := w.takeBarrier_records n img rfl
  subst hy
  refine ⟨Works.takeBarrier_portal n img w, rfl, fun h0 h1 => ⟨hunknown h0 h1, hfault ?_⟩, hdown, hup, hmid, hrec, hquiet⟩
  simp [EndSwitches.conflict, endSwitches, h0, h1]

theorem takeGate_by_switches (w v : Works) (n b : Nat) (img : List Byte) (x y : Gate) (hb : b = imgByte img 1)
    (hv : v = w.takeGate n img) (hx : x = (w.portal n).gate) (hy : y = (v.portal n).gate) :
    v.portal n = { w.portal n with gate := y } ∧
    y = { x with conflict := bitAt b 0 && bitAt b 1, position := min 100 (imgByte img 2), obstruction := bitAt b 4,
                 state := y.state } ∧
    (bitAt b 0 = true → bitAt b 1 = true → y.state = .unknown ∧
      (x.conflict = false → v.recorded .portalFault n none none [1, 0] true)) ∧
    (bitAt b 0 = false → bitAt b 1 = true → y.state = .deployed) ∧
    (bitAt b 0 = true → bitAt b 1 = false → y.state = .stowed) ∧
    (bitAt b 0 = false → bitAt b 1 = false → y.state =
      if bitAt b 2 = true ∧ bitAt b 3 = false then .deploying else if bitAt b 2 = false ∧ bitAt b 3 = true then .stowing
      else .halted) ∧
    (y.state ≠ x.state → v.recorded .gate n (some x.state.code) (some y.state.code)
      [y.position, flag y.obstruction, x.grant.code] false) ∧
    (y.state = x.state → (y.conflict = false ∨ x.conflict = true) → v.notices = w.notices) := by
  subst hb hv hx
  rw [Works.takeGate_portal] at hy
  obtain ⟨hunknown, hdeployed, hstowed, hmid⟩ := endSwitches_gate (imgByte img 1)
  obtain ⟨hfault, hrec, hquiet⟩ := w.takeGate_records n img rfl
  subst hy
  refine ⟨Works.takeGate_portal n img w, rfl, fun h0 h1 => ⟨hunknown h0 h1, hfault ?_⟩, hdeployed, hstowed, hmid, hrec, hquiet⟩
  simp [EndSwitches.conflict, endSwitches, h0, h1]

theorem Works.vehiclesChanged_interior {w : Works} (ho : w.portals.interior.opened = true) :
    (w.vehiclesChanged true).portals.interior.clear = false ∧ (w.vehiclesChanged true).portals.interior.confirm = none ∧
    (w.portals.interior.clear = true → (w.vehiclesChanged true).recorded .interior 0 (some 1) (some 0)
      [w.portals.interior.episode.toNat, 3, w.vehicleCount] false) := by
  rw [Works.vehiclesChanged_eq ho, Works.vehicleStop_interior, Works.vehicleStop_interior]
  obtain ⟨hclear, hconfirm⟩ := w.unclear_interior
  refine ⟨hclear, hconfirm, fun hi => ?_⟩
  have hrec := Works.setClear_recorded (w := w) (b := false) (by rw [hi]; decide) 3
  rw [hi] at hrec
  have hl : Works.Leads [.portals] (w.setClear false 3) w.unclear :=
    Works.judgeClearDwell_leads _ (by decide) (Works.setInterior_leads _ _ (by decide) .refl)
  exact (Works.vehicleStop_moves 1 _).recorded ((Works.vehicleStop_moves 0 _).recorded (hl.recorded (by decide) hrec))

/-- A vehicle turns back each portal that is in GATING, and no other (R84). -/
theorem Works.vehiclesChanged_portal {w : Works} {n : Nat} (ho : w.portals.interior.opened = true) (hn : n < 2) :
    ((w.portal n).closure ≠ .gating → ((w.vehiclesChanged true).portal n).closure = (w.portal n).closure) ∧
    ((w.portal n).closure = .gating → ((w.vehiclesChanged true).portal n).closure = .clearing ∧
      ((w.vehiclesChanged true).portal n).gate.attempts = (w.portal n).gate.attempts ∧
      ((w.vehiclesChanged true).portal n).gate.still ∧
      (w.vehiclesChanged true).recorded .portal n (some 5) (some 4) (w.portal n).figures false) := by
  obtain ⟨hclear, -⟩ := w.unclear_interior
  have hfirst := Works.vehicleStop_moves 0 w.unclear
  have hnext := Works.vehicleStop_moves 1 (w.unclear.vehicleStop 0)
  rw [Works.vehiclesChanged_eq ho]
  obtain rfl | rfl : n = 0 ∨ n = 1 := by omega
  · have hcore := hnext.other 0 (by decide) (by decide) (by decide)
    have hal := hnext.alike (m := 0) (by decide) (by decide) (by decide)
    rw [hal.closure, hal.attempts, ← Works.unclear_portal w 0]
    refine ⟨fun h => by rw [Works.vehicleStop_of_ne h], fun h => ?_⟩
    obtain ⟨hc, ha, ht, hd⟩ := Works.vehicleStop_portal h hclear
    exact ⟨hc, ha, ⟨(congrArg (fun p : Portal => p.gate.travel) hcore).trans ht,
      (congrArg (fun p : Portal => p.gate.dwellStart) hcore).trans hd⟩, hnext.recorded (Works.vehicleStop_recorded h)⟩
  · have hal := hfirst.alike (m := 1) (by decide) (by decide) (by decide)
    rw [Works.unclear_portal] at hal
    rw [← hal.closure, ← hal.attempts, ← hal.figures]
    refine ⟨fun h => by rw [Works.vehicleStop_of_ne h], fun h => ?_⟩
    obtain ⟨hc, ha, hs⟩ := Works.vehicleStop_portal h (by rw [Works.vehicleStop_interior, hclear])
    exact ⟨hc, ha, hs, Works.vehicleStop_recorded h⟩

end Clauses

/-- Settles O41, clause by clause. -/
theorem clearDwellAndLimit : Obligations.ClearDwellAndLimit := by
  unfold Obligations.ClearDwellAndLimit
  refine ⟨clearDwell_clears, fun n c t s _ => clearLimit_tells n c t s, fun w v n b img x y _ => takeBarrier_by_switches w v n b img x y,
    fun w v n b img x y _ => takeGate_by_switches w v n b img x y, fun w v n _ hv => ?_, fun w v ho hv => ?_⟩
  · rw [hv, Works.portalLost_portal]
  · subst hv
    obtain ⟨hclear, hconfirm, hrec⟩ := Works.vehiclesChanged_interior ho
    refine ⟨hclear, hconfirm, hrec, fun n hn => ?_⟩
    obtain ⟨hother, hgating⟩ := Works.vehiclesChanged_portal ho hn
    refine ⟨hother, fun h => ?_⟩
    obtain ⟨hc, ha, ⟨ht, hd⟩, hr⟩ := hgating h
    exact ⟨hc, ha, ht, hd, hr⟩

end Sys2Proof.Machine

namespace Sys2Proof.Machine

open Sys2Proof

/-! # Portals: grants, arrivals, the start of the closing sequence, and drift (R76, R80, R81, R86, R88) -/

section Grants

variable {w : Works} {n : Nat} {m : Motion}

/-- A grant is given back by a release (R35). -/
theorem Works.dropGateGrant_granted (h : (w.portal n).gate.grant = .granted) : w.dropGateGrant n =
    (w.send (.loadRelease (w.gateEntry n))).updGate n (fun g => { g with grant := .none }) := by
  simp only [Works.dropGateGrant, h]

/-- A request for a grant is withdrawn (R35). -/
theorem Works.dropGateGrant_requested (h : (w.portal n).gate.grant = .requested) : w.dropGateGrant n =
    (w.send (.loadWithdrawal (w.gateEntry n))).updGate n (fun g => { g with grant := .none }) := by
  simp only [Works.dropGateGrant, h]

theorem Works.dropGateGrant_releases (h : (w.portal n).gate.grant = .granted) :
    (w.dropGateGrant n).handed (.loadRelease (w.gateEntry n)) := by
  rw [Works.dropGateGrant_granted h]
  simp [Works.handed]

theorem Works.dropGateGrant_withdraws (h : (w.portal n).gate.grant = .requested) :
    (w.dropGateGrant n).handed (.loadWithdrawal (w.gateEntry n)) := by
  rw [Works.dropGateGrant_requested h]
  simp [Works.handed]

/-- A pair of the gate that finds room in the line queue (R139). -/
theorem Works.queueGate_of_room (n : Nat) (m : Motion) (hr : w.lineRoom) : w.queueGate n m =
    (w.updGate n (fun g => { g with pair := .inFlight, action := some m, pairRefused := false })).setLineQueue
      (joinLine (w.asking (.pair m) (w.portal n).unit (w.portal n).gateOut (.gatePair n)) w.line.queue) := by
  have hr' : (w.updGate n (fun g => { g with pair := .inFlight, action := some m, pairRefused := false })).line.queue.length < 32 := by
    simpa using hr
  simp only [Works.queueGate, Works.request, Works.enqueue, Works.joinNew]
  rw [if_pos hr']
  simp [Works.asking]

theorem exec_gateGrantNotice (n : Nat) (s : State) :
    exec (.gateGrantNotice n) s = .next (s.ended (s.works.gateGranted n)) := rfl

/-- A grant asked for, with no stop and no abandoned pair in the way (R81). -/
theorem Works.gateGranted_eq (ha : gateAction (w.portal n).closure = some m) (hg : (w.portal n).gate.grant = .requested)
    (hs : (w.portal n).gate.stopping = false) (hp : (w.portal n).gate.pair ≠ .abandoned) : w.gateGranted n =
    if w.mayCommand n = true then (w.updGate n (fun g => { g with grant := .granted })).queueGate n m
    else (w.updGate n (fun g => { g with grant := .granted })).dropGateGrant n := by
  have hm : (w.updGate n (fun g => { g with grant := .granted })).mayCommand n = w.mayCommand n :=
    Works.mayCommand_congr (by simp) (by simp) (by simp)
  simp only [Works.gateGranted, ha, hg, hs, hp, hm]
  simp

theorem Works.gateGranted_moves (n : Nat) (w : Works) : w.Moves n (w.gateGranted n) := by
  unfold Works.gateGranted
  dsimp only
  split
  · exact .refl n w
  · split
    · refine .trans (v := w.updGate n (fun g => { g with grant := .granted })) (Works.updPortal_moves n _ w) ?_
      split
      · exact .refl n _
      · split
        · exact (Works.queueGate_commands n _ _).moves
        · exact (Works.dropGateGrant_commands n _).moves
    · exact .refl n w

theorem gateGrant_starts (n : Nat) (m : Motion) (s : State) (ha : gateAction (s.works.portal n).closure = some m)
    (hg : (s.works.portal n).gate.grant = .requested) (hs : (s.works.portal n).gate.stopping = false)
    (hp : (s.works.portal n).gate.pair ≠ .abandoned) (hm : s.works.mayCommand n = true) (hr : s.works.lineRoom) :
    ∃ v, exec (.gateGrantNotice n) s = .next (s.ended v) ∧ s.works.keepsPortals v ∧ v.water = s.works.water ∧
      v.notices = s.works.notices ∧ (v.portal n).closure = (s.works.portal n).closure ∧
      (v.portal n).gate = { (s.works.portal n).gate with
        grant := .granted, pair := .inFlight, action := some m, pairRefused := false } ∧
      v.line.queue = joinLine (s.works.asking (.pair m) (s.works.portal n).unit (s.works.portal n).gateOut (.gatePair n))
        s.works.line.queue := by
  refine ⟨_, exec_gateGrantNotice n s, (s.works.gateGranted_moves n).keepsPortals, ?_⟩
  rw [Works.gateGranted_eq ha hg hs hp, if_pos hm, Works.queueGate_of_room n m (by simpa using hr)]
  have hport (v : Works) (q : List QEntry) : (v.setLineQueue q).portal n = v.portal n := rfl
  refine ⟨by simp, by simp, by simp [hport], by simp [hport], ?_⟩
  simp [Works.setLineQueue, Works.setLine, Works.asking]

theorem gateGrant_returned (n : Nat) (m : Motion) (s : State) (ha : gateAction (s.works.portal n).closure = some m)
    (hg : (s.works.portal n).gate.grant = .requested) (hs : (s.works.portal n).gate.stopping = false)
    (hp : (s.works.portal n).gate.pair ≠ .abandoned) (hm : s.works.mayCommand n = false) :
    ∃ v, exec (.gateGrantNotice n) s = .next (s.ended v) ∧ s.works.keepsPortals v ∧ v.water = s.works.water ∧
      v.notices = s.works.notices ++ [.loadRelease (s.works.gateEntry n)] ∧ (v.portal n).gate.grant = .none := by
  refine ⟨_, exec_gateGrantNotice n s, (s.works.gateGranted_moves n).keepsPortals, ?_⟩
  rw [Works.gateGranted_eq ha hg hs hp, if_neg (by rw [hm]; decide), Works.dropGateGrant_granted (by simp)]
  simp [Works.send, Works.gateEntry]

end Grants

/-! ## The gate travel (R81, R88) -/

section Travel

variable {w : Works} {n : Nat}

theorem exec_gateTravelExpiry (n : Nat) (s : State) :
    exec (.gateTravelExpiry n) s = .next (s.ended (s.works.gateTravelExpiry n)) := rfl

theorem gateTravel_stalls (n : Nat) (s : State)
    (ht : ranOut (s.works.portal n).gate.travel (s.works.portal n).gate.limit s.works.now = true)
    (hc : (s.works.portal n).closure = .gating ∨ (s.works.portal n).closure = .ungating) :
    ∃ v, exec (.gateTravelExpiry n) s = .next (s.ended v) ∧ s.works.keepsPortals v ∧ (v.portal n).gate.travel = none ∧
      (v.portal n).closure = .stalled ∧ (v.portal n).stall = some .gateTravel ∧
      (v.portal n).interrupted = some (s.works.portal n).closure ∧
      v.recorded .portalStall n (some (s.works.portal n).closure.code) (some 9)
        [1, 0, (s.works.portal n).gate.position, (s.works.portal n).barrier.state.code] true := by
  have hal := s.works.stopGate_alike n
  have hs : ((s.works.stopGate n).portal n).closure ≠ .stalled := by
    rw [hal.closure]
    rcases hc with hc | hc <;> simp [hc]
  have hrec := Works.stall_recorded n .gateTravel 0 (s.works.stopGate n)
  rw [hal.closure, hal.position, hal.barrierState] at hrec
  have heq : s.works.gateTravelExpiry n = (s.works.stopGate n).stall n .gateTravel 0 := if_pos ⟨ht, hc⟩
  obtain ⟨htravel, -⟩ := (s.works.stopGate n).stilled_still n
  refine ⟨_, exec_gateTravelExpiry n s, ?_⟩
  rw [heq]
  refine ⟨((s.works.stopGate_commands n).moves.trans (Works.stall_moves n _ _ _)).keepsPortals, ?_⟩
  rw [Works.stall_portal hs]
  refine ⟨?_, Portal.turned_closure _ _, rfl, by rw [hal.closure], hrec⟩
  rw [Portal.turned_gate]
  exact htravel

end Travel

/-! ## Arrival of the gate (R81) -/

section Arrival

variable {w : Works} {n : Nat}

/-- The work of SHUT with the gate DEPLOYED leaves of the gate the attempt count, the travel, and that it holds no grant. -/
theorem Works.work_shut (hc : (w.portal n).closure = .shut) (hg : (w.portal n).gate.state = .deployed) :
    ((w.work n).portal n).closure = .shut ∧ ((w.work n).portal n).gate.attempts = (w.portal n).gate.attempts ∧
      ((w.work n).portal n).gate.travel = (w.portal n).gate.travel ∧
      ((w.portal n).gate.grant = .none → ((w.work n).portal n).gate.grant = .none) := by
  have hnext : (w.workStep n).1 = none := Works.workStep_stays (by simp [Portal.next, hc, hg])
  refine ⟨(Works.work_closure hnext).trans hc, ?_⟩
  rw [Works.work_of_stays hnext]
  by_cases hm : w.mayCommand n = true
  · have h : (w.workStep n).2 = (w.setAspect n .red).dropGateGrant n := by simp [Works.workStep, hm, hc]
    have hgate := Works.setAspect_gate n .red w
    rw [h, Works.dropGateGrant_portal]
    exact ⟨(congrArg Gate.attempts hgate :), (congrArg Gate.travel hgate :), fun _ => rfl⟩
  · rw [Works.workStep_barred (by simpa using hm)]
    exact ⟨rfl, rfl, id⟩

theorem Works.gateArrived_portal (hp : (w.portal n).gate.pair ≠ .inFlight) : (w.gateArrived n).portal n =
    { w.portal n with gate := { (w.portal n).gate with grant := .none, travel := none } } := by
  simp [Works.gateArrived, hp]

theorem gateDeployed_shuts (n : Nat) (old : GateState) (own : Bool) (w v : Works) (hc : (w.portal n).closure = .gating)
    (hg : (w.portal n).gate.state = .deployed) (hp : (w.portal n).gate.pair ≠ .inFlight) (hv : v = w.judgeGateAuto n old own) :
    (v.portal n).closure = .shut ∧ (v.portal n).gate.attempts = 0 ∧ (v.portal n).gate.travel = none ∧
    (v.portal n).gate.grant = .none ∧
    v.recorded .portal n (some 5) (some 6) [(w.portal n).barrier.state.code, GateState.deployed.code,
      (w.portal n).gate.position, 0] false ∧
    ((w.portal n).gate.grant = .granted → v.handed (.loadRelease (w.gateEntry n))) := by
  have hports := Works.gateArrived_portal hp
  have hne : ((w.gateArrived n).portal n).closure ≠ .shut := by simp [hports, hc]
  have heq : v = (w.gateArrived n).enter n .shut := by
    rw [hv]
    simp only [Works.judgeGateAuto, hc, hg, if_true]
  have hself := Works.changeClosure_self hne
  obtain ⟨hclosure, hattempts, htravel, hgrant⟩ := Works.work_shut (w := (w.gateArrived n).changeClosure n .shut) (n := n)
    (by simp) (by rw [hself, Portal.turned_gate, hports]; exact hg)
  rw [hself, Portal.turned_gate, hports] at hattempts htravel hgrant
  rw [heq]
  refine ⟨hclosure, hattempts, htravel, hgrant rfl, ?_, fun hgranted => ?_⟩
  · have hrec := Works.changeClosure_recorded hne
    simp only [hports, Portal.leaving, hc, hg] at hrec
    exact (Works.work_moves n _).recorded hrec
  · refine (Works.enter_moves n _ _).handed ?_
    rw [Works.gateArrived, if_neg hp, Works.handed, Works.updGate_eq, Works.updPortal_notices]
    exact Works.dropGateGrant_releases hgranted

/-- While a stop is in progress the work of GATING and UNGATING waits (R80). -/
theorem Works.work_waits (hc : (w.portal n).closure = .gating ∨ (w.portal n).closure = .ungating)
    (hs : (w.portal n).gate.stopping = true) : w.work n = w := by
  rw [Works.work_of_stays] <;> rw [Works.workStep_waits hc hs]

end Arrival

/-! ## The start of the closing sequence (R76) -/

theorem Works.enter_warning_closure (n : Nat) (w : Works) : ((w.enter n .warning).portal n).closure = .warning :=
  Works.enter_closure (by simp [Portal.next])

theorem beginSequence_warns (n : Nat) (w : Works) (hc : (w.portal n).closure = .opened)
    (hs : w.water.stage.stage = .alert) (hr : w.station.state = .running) :
    ((w.beginSequence n).portal n).closure = .warning ∧ (w.portalRun n) = w.beginSequence n ∧
    (w.portalAlert n) = w.beginSequence n ∧
    (w.beginSequence n).recorded .portal n (some 1) (some 2) (w.portal n).figures false := by
  have heq : w.beginSequence n = w.enter n .warning := if_pos ⟨hc, hs, hr⟩
  have hrec := Works.enter_recorded (w := w) (n := n) (c := .warning) (by rw [hc]; decide) (by rw [hc]; decide) (by decide)
  rw [hc] at hrec
  refine ⟨by rw [heq, Works.enter_warning_closure], ?_, ?_, heq ▸ hrec⟩
  · simp [Works.portalRun, hc, Closure.closing]
  · simp only [Works.portalAlert, hc]

/-! ## Drift (R86) -/

section Barrier

variable {w v u : Works} {n : Nat} {m : Motion}

/-- Of the portal record the gate stands, but for marks of refusal. -/
def Works.keepsGate (n : Nat) (w v : Works) : Prop := (v.portal n).core.gate = (w.portal n).core.gate

theorem Works.keepsGate.refl (n : Nat) (w : Works) : w.keepsGate n w := rfl

theorem Works.keepsGate.trans (h1 : w.keepsGate n v) (h2 : v.keepsGate n u) : w.keepsGate n u := Eq.trans h2 h1

theorem Works.updBarrier_keepsGate (n : Nat) (f : Barrier → Barrier) (w : Works) : w.keepsGate n (w.updBarrier n f) := by
  unfold Works.keepsGate
  rw [Works.updBarrier_eq, Works.updPortal_self]
  rfl

theorem Works.request_keepsGate (n : Nat) (r : Request) (x out : Nat) (who : ReqFor) (w : Works) :
    w.keepsGate n (w.request r x out who).2 := congrArg Portal.gate ((Works.request_marks r x out who w).portal n)

theorem Works.haltBarrier_keepsGate (n : Nat) (w : Works) : w.keepsGate n (w.haltBarrier n) := by
  unfold Works.haltBarrier
  split
  · exact (Works.updBarrier_keepsGate n (fun b => { b with haltRefused := false }) w).trans (Works.request_keepsGate n _ _ _ _ _)
  · exact .refl n w

theorem Works.haltMoving_keepsGate (n : Nat) (m : Motion) (w : Works) : w.keepsGate n (w.haltMoving n m) := by
  unfold Works.haltMoving
  split
  · exact w.haltBarrier_keepsGate n
  · exact .refl n w

theorem Works.dropBarrierPair_keepsGate (n : Nat) (w : Works) : w.keepsGate n (w.dropBarrierPair n) := by
  unfold Works.dropBarrierPair
  dsimp only
  split
  · split
    · exact .trans (w.updBarrier_keepsGate n (fun b => { b with pair := .none, action := none, pairRefused := false }))
        (Works.updBarrier_keepsGate n _ _)
    · exact .trans (w.updBarrier_keepsGate n (fun b => { b with pair := .abandoned })) (Works.updBarrier_keepsGate n _ _)
  · exact Works.updBarrier_keepsGate n _ _

theorem Works.moveBarrier_keepsGate (n : Nat) (m : Motion) (w : Works) : w.keepsGate n (w.moveBarrier n m) := by
  have hq (v : Works) : v.keepsGate n (v.queueBarrier n m) :=
    (Works.updBarrier_keepsGate n (fun b => { b with pair := .inFlight, action := some m, pairRefused := false }) v).trans
      (Works.request_keepsGate n _ _ _ _ _)
  unfold Works.moveBarrier
  dsimp only
  split
  · exact .refl n w
  · split
    · exact .trans (.trans (w.haltMoving_keepsGate n _) (Works.dropBarrierPair_keepsGate n _)) (hq _)
    · exact hq w

/-- The work of BARRING leaves the gate. -/
theorem Works.workStep_barring_gate (hc : (w.portal n).closure = .barring) : w.keepsGate n (w.workStep n).2 := by
  by_cases hm : w.mayCommand n = true
  · rw [Works.workStep_barring hm hc]
    refine .trans (v := w.setAspect n .red) (Works.setAspect_gate n .red w) ?_
    unfold Works.barringGo
    dsimp only
    split
    · split
      · exact .refl n _
      · exact Works.moveBarrier_keepsGate n _ _
    · exact .refl n _
  · rw [Works.workStep_barred (by simpa using hm)]
    exact .refl n w

/-- BARRING entered with the barrier not DOWN: it stays so, and leaves the gate (R86). -/
theorem Works.enter_barring_away (hb : (w.portal n).barrier.state ≠ .down) :
    ((w.enter n .barring).portal n).closure = .barring ∧ w.keepsGate n (w.enter n .barring) := by
  have hnext : ((w.changeClosure n .barring).portal n).next (w.changeClosure n .barring).portals.interior.clear = none := by
    simp [Portal.next, hb]
  refine ⟨Works.enter_closure hnext, ?_⟩
  rw [Works.enter, Works.work_of_stays (Works.workStep_stays hnext)]
  refine .trans (v := w.changeClosure n .barring) ?_ (Works.workStep_barring_gate (by simp))
  have hgate : ((w.changeClosure n .barring).portal n).gate = (w.portal n).gate :=
    Works.changeClosure_gate (by decide) (by decide)
  exact congrArg (fun g : Gate => { g with pairRefused := false, haltRefused := false }) hgate

theorem Works.keepsGate.still (h : w.keepsGate n v) (hs : (w.portal n).gate.still) : (v.portal n).gate.still :=
  ⟨(congrArg Gate.travel h :).trans hs.1, (congrArg Gate.dwellStart h :).trans hs.2⟩

/-- A stop withdraws a request for the grant (R80). -/
theorem Works.stopGate_withdraws (ha : w.portalAuto n = true) (hg : (w.portal n).gate.grant = .requested)
    (hp : (w.portal n).gate.pair = .none) (hs : (w.portal n).gate.stopping = false) :
    (w.stopGate n).handed (.loadWithdrawal (w.gateEntry n)) := by
  have heq : w.stopGate n = ((w.updGate n (fun g => { g with travel := none, dwellStart := none, stopping := true })).dropGateGrant
      n).clearStop n := by
    simp [Works.stopGate, Works.beginStop, ha, hg, hp, hs]
  have hentry : (w.updGate n (fun g => { g with travel := none, dwellStart := none, stopping := true })).gateEntry n = w.gateEntry n := by
    simp [Works.gateEntry]
  rw [heq, ← hentry]
  exact (Works.clearStop_commands n _).moves.handed (Works.dropGateGrant_withdraws (by simpa using hg))

/-- A barrier at the end to which its travel brings it has its travel ended. -/
def Works.barrierArrived (n : Nat) (w : Works) : Works :=
  if (w.portal n).arrives then w.updBarrier n (fun b => { b with travel := none }) else w

theorem Works.barrierArrived_commands (n : Nat) (w : Works) : w.Commands n (w.barrierArrived n) := by
  unfold Works.barrierArrived
  split
  · exact Works.updBarrier_commands rfl
  · exact .refl n w

theorem Works.barrierArrived_keepsGate (n : Nat) (w : Works) : w.keepsGate n (w.barrierArrived n) := by
  unfold Works.barrierArrived
  split
  · exact Works.updBarrier_keepsGate n _ w
  · exact .refl n w

/-- A barrier that has left DOWN by itself, in CLEARING (R86). -/
theorem Works.judgeBarrier_clearing (ha : w.portalAuto n = true) (hb : (w.portal n).barrier.state ≠ .down)
    (hc : (w.portal n).closure = .clearing) : w.judgeBarrier n .down false = (w.barrierArrived n).enter n .barring := by
  simp [Works.judgeBarrier, Works.barrierArrived, ha, hb, hb.symm, hc]

theorem Works.judgeBarrier_gating (ha : w.portalAuto n = true) (hb : (w.portal n).barrier.state ≠ .down)
    (hc : (w.portal n).closure = .gating) :
    w.judgeBarrier n .down false = ((w.barrierArrived n).stopGate n).enter n .barring := by
  simp [Works.judgeBarrier, Works.barrierArrived, ha, hb, hb.symm, hc]

theorem Works.judgeBarrier_shut (ha : w.portalAuto n = true) (hb : (w.portal n).barrier.state ≠ .down)
    (hc : (w.portal n).closure = .shut) : w.judgeBarrier n .down false = (w.barrierArrived n).portalFault n 2 0 := by
  simp [Works.judgeBarrier, Works.barrierArrived, ha, hb, hb.symm, hc]

theorem barrierDrift_judged (w v : Works) (n : Nat) (p : Portal) (hp : p = w.portal n) (ha : w.portalAuto n = true)
    (hb : p.barrier.state ≠ .down) (hv : v = w.judgeBarrier n .down false) :
    (p.closure = .clearing → (v.portal n).closure = .barring ∧ v.recorded .portal n (some 4) (some 3) p.figures false) ∧
    (p.closure = .gating → (v.portal n).closure = .barring ∧ (v.portal n).gate.travel = none ∧
      (v.portal n).gate.dwellStart = none ∧ v.recorded .portal n (some 5) (some 3) p.figures false ∧
      (p.gate.grant = .requested → p.gate.pair = .none → p.gate.stopping = false →
        v.handed (.loadWithdrawal (w.gateEntry n)))) ∧
    (p.closure = .shut → (v.portal n).closure = .shut ∧ v.recorded .portalFault n none none [2, 0] true) := by
  subst hp hv
  have hcom := w.barrierArrived_commands n
  have hal := Portal.Alike.of_observed hcom.own
  refine ⟨fun hc => ?_, fun hc => ?_, fun hc => ?_⟩
  · have hrec := Works.enter_recorded (w := w.barrierArrived n) (n := n) (c := .barring) (by rw [hal.closure, hc]; decide)
      (by rw [hal.closure, hc]; decide) (by decide)
    rw [hal.closure, hal.figures, hc] at hrec
    rw [Works.judgeBarrier_clearing ha hb hc]
    exact ⟨(Works.enter_barring_away (by rwa [hal.barrierState])).1, hrec⟩
  · have hals := (w.barrierArrived n).stopGate_alike n
    have hclosure : (((w.barrierArrived n).stopGate n).portal n).closure = .gating := by rw [hals.closure, hal.closure, hc]
    have hrec := Works.enter_recorded (w := (w.barrierArrived n).stopGate n) (n := n) (c := .barring)
      (by rw [hclosure]; decide) (by rw [hclosure]; decide) (by decide)
    rw [hclosure, hals.figures, hal.figures] at hrec
    obtain ⟨hin, hgate⟩ := Works.enter_barring_away (w := (w.barrierArrived n).stopGate n) (n := n)
      (by rwa [hals.barrierState, hal.barrierState])
    obtain ⟨ht, hd⟩ := hgate.still ((w.barrierArrived n).stopGate_still n)
    rw [Works.judgeBarrier_gating ha hb hc]
    refine ⟨hin, ht, hd, hrec, fun hg hpair hs => (Works.enter_moves n _ _).handed ?_⟩
    have hk := w.barrierArrived_keepsGate n
    rw [← hcom.moves.gateEntry_eq]
    exact Works.stopGate_withdraws (by rwa [hcom.moves.portalAuto_eq]) ((congrArg Gate.grant hk :).trans hg)
      ((congrArg Gate.pair hk :).trans hpair) ((congrArg Gate.stopping hk :).trans hs)
  · rw [Works.judgeBarrier_shut ha hb hc]
    exact ⟨hal.closure.trans hc, Works.recorded_record _ _ _ _ _ _ _⟩

end Barrier

/-! ## Drift of the gate (R86) -/

section Drift

variable {w : Works} {n : Nat} {m : Motion}

/-- A HALT that finds room leaves the portals. -/
theorem Works.request_halt_portals (x out : Nat) (who : ReqFor) (hr : w.lineRoom) :
    (w.request .halt x out who).2.portals = w.portals := by
  unfold Works.request Works.enqueue
  dsimp only
  split
  · rfl
  · rw [Works.joinHalt, if_pos hr]
    rfl

theorem Works.haltBarrier_waits (ha : w.portalAuto n = true) (hr : w.lineRoom) :
    (w.haltBarrier n).haltWaits (w.portal n).unit (w.portal n).barrierOut := by
  have hr' : (w.updBarrier n (fun b => { b with haltRefused := false })).lineRoom := by simpa using hr
  have hw := Works.enqueue_halt_waits ((w.updBarrier n (fun b => { b with haltRefused := false })).asking .halt (w.portal n).unit
    (w.portal n).barrierOut (.barrierHalt n)) rfl hr'
  rw [Works.haltBarrier, if_pos ha]
  simpa [Works.request, Works.asking] using hw

/-- A HALT of the barrier that finds room leaves its pair, and whether that was refused. -/
theorem Works.haltBarrier_pair (n : Nat) (hr : w.lineRoom) :
    ((w.haltBarrier n).portal n).barrier.pair = (w.portal n).barrier.pair ∧
      ((w.haltBarrier n).portal n).barrier.pairRefused = (w.portal n).barrier.pairRefused := by
  unfold Works.haltBarrier
  split
  · have hr' : (w.updBarrier n (fun b => { b with haltRefused := false })).lineRoom := by simpa using hr
    dsimp only
    rw [Works.portal_congr (Works.request_halt_portals _ _ _ hr'), Works.updBarrier_eq, Works.updPortal_self]
    exact ⟨rfl, rfl⟩
  · exact ⟨rfl, rfl⟩

/-- A pair in flight that was not refused is abandoned (R86). -/
theorem Works.dropBarrierPair_abandons (hp : (w.portal n).barrier.pair = .inFlight) (hf : (w.portal n).barrier.pairRefused = false) :
    ((w.dropBarrierPair n).portal n).barrier.pair = .abandoned := by
  simp [Works.dropBarrierPair, hp, hf]

theorem Works.abandonBarrier_abandons (hp : (w.portal n).barrier.pair = .inFlight) (hf : (w.portal n).barrier.pairRefused = false)
    (hr : (w.portal n).barrier.state ≠ barrierMoving m ∨ w.lineRoom) :
    ((w.abandonBarrier n m).portal n).barrier.pair = .abandoned := by
  have hkept : ((w.haltMoving n m).portal n).barrier.pair = (w.portal n).barrier.pair ∧
      ((w.haltMoving n m).portal n).barrier.pairRefused = (w.portal n).barrier.pairRefused := by
    unfold Works.haltMoving
    split
    · next h => exact Works.haltBarrier_pair n (hr.resolve_left fun hne => hne h)
    · exact ⟨rfl, rfl⟩
  exact Works.dropBarrierPair_abandons (hkept.1.trans hp) (hkept.2.trans hf)

/-- UNGATING entered with the gate not STOWED: it stays so, and leaves the barrier. -/
theorem Works.enter_ungating_away (hg : (w.portal n).gate.state ≠ .stowed) :
    ((w.enter n .ungating).portal n).closure = .ungating ∧
      ((w.enter n .ungating).portal n).core.barrier = (w.portal n).core.barrier := by
  have hgate : ((w.changeClosure n .ungating).portal n).gate = (w.portal n).gate :=
    Works.changeClosure_gate (by decide) (by decide)
  have hnext : ((w.changeClosure n .ungating).portal n).next (w.changeClosure n .ungating).portals.interior.clear = none := by
    simp [Portal.next, hgate, hg]
  refine ⟨Works.enter_closure hnext, ?_⟩
  have hbarrier : ((w.changeClosure n .ungating).portal n).core.barrier = (w.portal n).core.barrier := by
    rw [Portal.core, Portal.core, Works.changeClosure_barrier]
  rw [Works.enter, Works.work_of_stays (Works.workStep_stays hnext), ← hbarrier]
  generalize hu : w.changeClosure n .ungating = u at *
  have hc : (u.portal n).closure = .ungating := by rw [← hu, Works.changeClosure_closure]
  by_cases hm : u.mayCommand n = true
  · by_cases hs : (u.portal n).gate.stopping = true
    · rw [Works.workStep_waits (.inr hc) hs]
    · rw [Works.workStep_ungating hm hc (by simpa using hs) (by rwa [hgate]), ← Works.setAspect_barrier n .red u]
      unfold Works.requestGate
      dsimp only
      split
      · rw [Works.send_portal, Works.updGate_eq, Works.updPortal_self]
        rfl
      · rfl
  · rw [Works.workStep_barred (by simpa using hm)]

theorem Works.judgeGateAuto_unbarring (hc : (w.portal n).closure = .unbarring) :
    w.judgeGateAuto n .stowed false = (w.abandonBarrier n .raise).enter n .ungating := by
  simp [Works.judgeGateAuto, hc]

theorem gateDrift_judged (w v : Works) (n : Nat) (p : Portal) (hp : p = w.portal n) (ha : w.portalAuto n = true)
    (hg : p.gate.state ≠ .stowed) (hv : v = w.judgeGateAuto n .stowed false) :
    (p.closure = .unbarring → (v.portal n).closure = .ungating ∧
      v.recorded .portal n (some 8) (some 7) p.figures false ∧
      (p.barrier.state = .raising → w.lineRoom → v.haltWaits p.unit p.barrierOut) ∧
      (p.barrier.pair = .inFlight → p.barrier.pairRefused = false → (p.barrier.state ≠ .raising ∨ w.lineRoom) →
        (v.portal n).barrier.pair = .abandoned)) ∧
    ((p.closure = .opened ∨ p.closure = .warning ∨ p.closure = .barring ∨ p.closure = .clearing) →
      v.portal n = p ∧ v.recorded .portalFault n none none [3, 0] true) := by
  subst hp hv
  refine ⟨fun hc => ?_, fun hc => ?_⟩
  · have hal := Portal.Alike.of_observed (w.abandonBarrier_commands n .raise).own
    have hclosure := hal.closure.trans hc
    have hrec := Works.enter_recorded (w := w.abandonBarrier n .raise) (n := n) (c := .ungating)
      (by rw [hclosure]; decide) (by rw [hclosure]; decide) (by decide)
    rw [hclosure, hal.figures] at hrec
    obtain ⟨hin, hbarrier⟩ := Works.enter_ungating_away (w := w.abandonBarrier n .raise) (n := n) (by rwa [hal.gateState])
    rw [Works.judgeGateAuto_unbarring hc]
    refine ⟨hin, hrec, fun hs hr => (Works.enter_moves n _ _).asks.halts _ _ ?_, fun hpair hf hs => ?_⟩
    · have hw := Works.haltBarrier_waits ha hr
      rw [Works.abandonBarrier, Works.haltMoving, if_pos (show (w.portal n).barrier.state = barrierMoving .raise from hs)]
      exact (Works.dropBarrierPair_commands n _).asks.halts _ _ hw
    · exact (congrArg Barrier.pair hbarrier :).trans (Works.abandonBarrier_abandons hpair hf hs)
  · have heq : w.judgeGateAuto n .stowed false = w.portalFault n 3 0 := by
      rcases hc with hc | hc | hc | hc <;> simp [Works.judgeGateAuto, hc]
    rw [heq]
    exact ⟨rfl, Works.recorded_record _ _ _ _ _ _ _⟩

end Drift

/-- Settles O42, clause by clause. -/
theorem gateGrantAndTravel : Obligations.GateGrantAndTravel := by
  unfold Obligations.GateGrantAndTravel
  exact ⟨fun n m s _ ha hg hs hp => ⟨gateGrant_starts n m s ha hg hs hp, gateGrant_returned n m s ha hg hs hp⟩,
    fun n s _ => gateTravel_stalls n s, fun n old own w v _ => gateDeployed_shuts n old own w v,
    fun n w => Works.work_waits, fun n w _ => beginSequence_warns n w, fun w v n p _ => barrierDrift_judged w v n p,
    fun w v n p _ => gateDrift_judged w v n p⟩

end Sys2Proof.Machine

namespace Sys2Proof.Machine

open Sys2Proof

/-! # Portals: an obstruction, its dwell, and a POLL response (R74, R83) -/

section Dwell

variable {w : Works} {n : Nat} {e : Grant}

/-- A request for the grant in class 0 (R81). -/
theorem Works.requestGate_requests (hg : (w.portal n).gate.grant = .none) (hs : (w.portal n).gate.stopping = false)
    (hd : (w.portal n).gate.dwellStart = none) (hp : (w.portal n).gate.pair ≠ .inFlight)
    (he : w.budget.grants[w.gateEntry n]? = some e) : w.requestGate n =
      (w.updGate n (fun g => { g with grant := .requested })).send (.loadRequest (w.gateEntry n) 0 e.requested) := by
  simp only [Works.requestGate, he]
  rw [if_pos ⟨hg, hs, hd, hp⟩]

/-- The work of GATING or UNGATING that goes no further asks for the grant (R81). -/
theorem Works.work_requests (hw : w.workStep n = (none, (w.setAspect n .red).requestGate n))
    (hg : (w.portal n).gate.grant = .none) (hs : (w.portal n).gate.stopping = false)
    (hd : (w.portal n).gate.dwellStart = none) (hp : (w.portal n).gate.pair ≠ .inFlight)
    (he : w.budget.grants[w.gateEntry n]? = some e) :
    (w.work n).water = w.water ∧ ((w.work n).portal n).gate.attempts = (w.portal n).gate.attempts ∧
      ((w.work n).portal n).gate.dwellStart = none ∧ ((w.work n).portal n).gate.grant = .requested ∧
      (w.work n).handed (.loadRequest (w.gateEntry n) 0 e.requested) := by
  have hmove := w.setAspect_moves n .red
  have hgate := w.setAspect_gate n .red
  have hdwell : ((w.setAspect n .red).portal n).gate.dwellStart = none := (congrArg Gate.dwellStart hgate :).trans hd
  have hattempts : ((w.setAspect n .red).portal n).gate.attempts = (w.portal n).gate.attempts := (congrArg Gate.attempts hgate :)
  have hreq := Works.requestGate_requests (w := w.setAspect n .red) (n := n) (e := e) ((congrArg Gate.grant hgate :).trans hg)
    ((congrArg Gate.stopping hgate :).trans hs) hdwell (fun h => hp ((congrArg Gate.pair hgate :).symm.trans h))
    (by rw [hmove.leads.budget_eq (by decide), hmove.gateEntry_eq, he])
  have hwater : (w.setAspect n .red).water = w.water :=
    (Works.setAspect_leads (ps := Part.ofCommands) n .red w (by decide) .refl).water_eq (by decide)
  rw [Works.work_of_stays (by rw [hw]), hw]
  dsimp only
  rw [hreq, hmove.gateEntry_eq]
  refine ⟨by simpa using hwater, ?_, ?_, ?_, Works.handed_send _ _⟩
  · simpa using hattempts
  · simpa using hdwell
  · simp

theorem exec_obstructionDwellExpiry (n : Nat) (s : State) :
    exec (.obstructionDwellExpiry n) s = .next (s.ended (s.works.obstructionDwellExpiry n)) := rfl

/-- The dwell is over: one more attempt. -/
def Works.attempting (n : Nat) (w : Works) : Works :=
  w.updGate n (fun g => { g with dwellStart := none, attempts := g.attempts + 1 })

theorem Works.attempting_moves (n : Nat) (w : Works) : w.Moves n (w.attempting n) := by
  rw [Works.attempting, Works.updGate_eq]
  exact Works.updPortal_moves n _ w

theorem Works.obstructionDwellExpiry_eq (h : ranOut (w.portal n).gate.dwellStart (w.portal n).gate.dwell w.now = true) :
    w.obstructionDwellExpiry n = (w.attempting n).work n := if_pos h

theorem dwellOver_asks (n : Nat) (e : Grant) (s : State)
    (ht : ranOut (s.works.portal n).gate.dwellStart (s.works.portal n).gate.dwell s.works.now = true)
    (hm : s.works.mayCommand n = true) (hc : (s.works.portal n).closure = .gating ∨ (s.works.portal n).closure = .ungating)
    (hh : (s.works.portal n).gate.state = .halted)
    (hb : (s.works.portal n).closure = .gating → (s.works.portal n).barrier.state = .down)
    (hg : (s.works.portal n).gate.grant = .none) (hs : (s.works.portal n).gate.stopping = false)
    (hp : (s.works.portal n).gate.pair ≠ .inFlight) (he : s.works.budget.grants[s.works.gateEntry n]? = some e) :
    ∃ v, exec (.obstructionDwellExpiry n) s = .next (s.ended v) ∧ s.works.keepsPortals v ∧ v.water = s.works.water ∧
      (v.portal n).closure = (s.works.portal n).closure ∧
      (v.portal n).gate.attempts = (s.works.portal n).gate.attempts + 1 ∧ (v.portal n).gate.dwellStart = none ∧
      (v.portal n).gate.grant = .requested ∧ v.handed (.loadRequest (s.works.gateEntry n) 0 e.requested) := by
  have hport : (s.works.attempting n).portal n = { s.works.portal n with gate := { (s.works.portal n).gate with
      dwellStart := none, attempts := (s.works.portal n).gate.attempts + 1 } } := by simp [Works.attempting]
  have hmove : s.works.Moves n (s.works.attempting n) := s.works.attempting_moves n
  have hmay : (s.works.attempting n).mayCommand n = true := by rw [hmove.mayCommand_eq (by rw [hport]), hm]
  have hw : (s.works.attempting n).workStep n = (none, ((s.works.attempting n).setAspect n .red).requestGate n) := by
    rcases hc with hc | hc
    · exact Works.workStep_gating hmay (by rw [hport]; exact hc) (by rw [hport]; exact hs) (by rw [hport, hh]; decide)
        (by rw [hport]; exact hb hc)
    · exact Works.workStep_ungating hmay (by rw [hport]; exact hc) (by rw [hport]; exact hs) (by rw [hport, hh]; decide)
  obtain ⟨hwater, hattempts, hdwell, hgrant, hhanded⟩ := Works.work_requests (e := e) hw (by rw [hport]; exact hg)
    (by rw [hport]; exact hs) (by rw [hport]) (by rw [hport]; exact hp)
    (by rw [hmove.leads.budget_eq (by decide), hmove.gateEntry_eq, he])
  have hclosure := Works.work_closure (w := s.works.attempting n) (n := n) (by rw [hw])
  rw [hport] at hattempts hclosure
  rw [hmove.gateEntry_eq] at hhanded
  refine ⟨_, exec_obstructionDwellExpiry n s, ?_⟩
  rw [Works.obstructionDwellExpiry_eq ht]
  exact ⟨(hmove.trans (Works.work_moves n _)).keepsPortals, hwater.trans (Works.updPortal_water n _ _), hclosure, hattempts,
    hdwell, hgrant, hhanded⟩

end Dwell

/-! ## An obstruction during a travel (R83) -/

section Obstruction

variable {w : Works} {n : Nat}

theorem Works.clearStop_grant (n : Nat) (w : Works) : ((w.clearStop n).portal n).gate.grant = (w.portal n).gate.grant := by
  rw [Works.clearStop, Works.updGate_eq, Works.updPortal_self]
  dsimp only
  split <;> rfl

theorem Works.beginStop_grant (h : (w.portal n).gate.grant = .none) : ((w.beginStop n).portal n).gate.grant = .none := by
  unfold Works.beginStop
  simp only [h]
  split
  · split <;> simp [h]
  · simp [h]

/-- A stop asks for no grant. -/
theorem Works.stopGate_grant (h : (w.portal n).gate.grant = .none) : ((w.stopGate n).portal n).gate.grant = .none := by
  unfold Works.stopGate
  dsimp only
  split
  · split
    · simpa using h
    · rw [Works.clearStop_grant]
      exact Works.beginStop_grant h
  · split
    · split <;> simp
    · simp

theorem Works.keepsGate.grant {v : Works} (h : w.keepsGate n v) : (v.portal n).gate.grant = (w.portal n).gate.grant :=
  (congrArg Gate.grant h :)

theorem Works.stilled_grant (h : (w.portal n).gate.grant = .none) : ((w.stilled n).portal n).gate.grant = .none := by
  have hstop : ((if (w.portal n).gate.grant ≠ .none ∨ (w.portal n).gate.pair = .inFlight ∨ (w.portal n).gate.travel.isSome
      then w.stopGate n else w).portal n).gate.grant = .none := by
    split
    · exact Works.stopGate_grant h
    · exact h
  unfold Works.stilled
  dsimp only
  rw [Works.updGate_eq, Works.updPortal_self]
  dsimp only
  split
  · rw [(Works.dropBarrierPair_keepsGate n _).grant, (Works.haltMoving_keepsGate n _ _).grant,
      (Works.haltMoving_keepsGate n _ _).grant]
    exact hstop
  · exact hstop

/-- What an obstruction ends: the grant and the travel, with an OBSTRUCTION record. -/
def Works.obstructed (n : Nat) (w : Works) : Works :=
  ((w.dropGateGrant n).updGate n (fun g => { g with travel := none })).record .obstruction n none none
    [(w.portal n).gate.attempts, (w.portal n).gate.position,
      if (w.portal n).closure = .gating then Motion.deploy.code else Motion.stow.code] false

theorem Works.judgeObstruction_eq (ho : (w.portal n).gate.obstruction = true) (ht : (w.portal n).gate.travel.isSome = true)
    (hc : (w.portal n).closure = .gating ∨ (w.portal n).closure = .ungating) : w.judgeObstruction n =
    if (w.portal n).gate.attempts = (w.portal n).gate.attemptLimit then (w.obstructed n).stall n .obstructed 0
    else (w.obstructed n).updGate n (fun g => { g with dwellStart := some (w.obstructed n).now }) := if_pos ⟨ho, ht, hc⟩

theorem Works.judgeObstruction_quiet (h : (w.portal n).gate.obstruction = false ∨ (w.portal n).gate.travel = none ∨
    (w.portal n).closure ≠ .gating ∧ (w.portal n).closure ≠ .ungating) : w.judgeObstruction n = w := by
  refine if_neg ?_
  rintro ⟨ho, ht, hc⟩
  rcases h with h | h | ⟨h1, h2⟩
  · simp [h] at ho
  · simp [h] at ht
  · exact hc.elim h1 h2

theorem Works.obstructed_portal (n : Nat) (w : Works) : (w.obstructed n).portal n =
    { w.portal n with gate := { (w.portal n).gate with grant := .none, travel := none } } := by
  simp [Works.obstructed]

theorem Works.obstructed_recorded (n : Nat) (w : Works) : (w.obstructed n).recorded .obstruction n none none
    [(w.portal n).gate.attempts, (w.portal n).gate.position, if (w.portal n).closure = .gating then 2 else 3] false :=
  Works.recorded_record _ _ _ _ _ _ _

theorem Works.obstructed_now (n : Nat) (w : Works) : (w.obstructed n).now = w.now :=
  ((Works.dropGateGrant_commands n w).trans (Works.updGate_commands (f := fun g => { g with travel := none }) rfl)).leads.now_eq

theorem Works.obstructed_releases (h : (w.portal n).gate.grant = .granted) :
    (w.obstructed n).handed (.loadRelease (w.gateEntry n)) := by
  have hup : w.Moves n (w.dropGateGrant n) := (Works.dropGateGrant_commands n w).moves
  exact ((Works.updPortal_moves n _ (w.dropGateGrant n)).trans (Works.record_commands n _ _ _ _ _ _ _).moves).handed
    (Works.dropGateGrant_releases h)

theorem obstruction_judged (w v : Works) (n : Nat) (p : Portal) (g : Gate) (hp : p = w.portal n) (hg : g = p.gate)
    (ho : g.obstruction = true) (ht : g.travel.isSome = true) (hc : p.closure = .gating ∨ p.closure = .ungating)
    (hv : v = w.judgeObstruction n) :
    v.recorded .obstruction n none none [g.attempts, g.position, if p.closure = .gating then 2 else 3] false ∧
    (v.portal n).gate.grant = .none ∧ (v.portal n).gate.travel = none ∧ (v.portal n).gate.attempts = g.attempts ∧
    (g.grant = .granted → v.handed (.loadRelease (w.gateEntry n))) ∧
    (g.attempts ≠ g.attemptLimit →
      v.portal n = { p with gate := { g with grant := .none, travel := none, dwellStart := some w.now } }) ∧
    (g.attempts = g.attemptLimit → (v.portal n).closure = .stalled ∧ (v.portal n).stall = some .obstructed ∧
      (v.portal n).interrupted = some p.closure ∧ (v.portal n).gate.dwellStart = none ∧
      v.recorded .portalStall n (some p.closure.code) (some 9) [3, 0, g.position, p.barrier.state.code] true) := by
  subst hg hp
  have hport := w.obstructed_portal n
  by_cases hl : (w.portal n).gate.attempts = (w.portal n).gate.attemptLimit
  · have hs : ((w.obstructed n).portal n).closure ≠ .stalled := by
      rw [hport]
      rcases hc with hc | hc <;> simp [hc]
    have hmove := Works.stall_moves n .obstructed 0 (w.obstructed n)
    have hal := Portal.Alike.of_observed ((w.obstructed n).stilled_commands n).own
    have hrec := Works.stall_recorded n .obstructed 0 (w.obstructed n)
    obtain ⟨htravel, hdwell⟩ := (w.obstructed n).stilled_still n
    have hgrant := Works.stilled_grant (w := w.obstructed n) (n := n) (by rw [hport])
    have hattempts := hal.attempts
    rw [hport] at hrec hattempts
    rw [hv, Works.judgeObstruction_eq ho ht hc, if_pos hl, Works.stall_portal hs, hport]
    dsimp only
    rw [Portal.turned_gate]
    exact ⟨hmove.recorded (w.obstructed_recorded n), hgrant, htravel, hattempts,
      fun h => hmove.handed (Works.obstructed_releases h), fun h => absurd hl h,
      fun _ => ⟨Portal.turned_closure _ _, rfl, rfl, hdwell, hrec⟩⟩
  · have hmove := Works.updPortal_moves n (fun p => { p with gate := { p.gate with dwellStart := some w.now } })
      (w.obstructed n)
    rw [hv, Works.judgeObstruction_eq ho ht hc, if_neg hl, Works.updGate_eq, Works.obstructed_now]
    refine ⟨hmove.recorded (w.obstructed_recorded n), ?_⟩
    rw [Works.updPortal_self, hport]
    exact ⟨rfl, rfl, rfl, fun h => hmove.handed (Works.obstructed_releases h), fun _ => rfl, fun h => absurd h hl⟩

end Obstruction

/-- Settles O43, clause by clause. -/
theorem obstructionDwell : Obligations.ObstructionDwell := by
  unfold Obligations.ObstructionDwell
  refine ⟨fun n e s _ => ⟨dwellOver_asks n e s, fun ht => ?_⟩, fun w v n p g _ => obstruction_judged w v n p g,
    fun w n => Works.judgeObstruction_quiet, fun w u v n img hu hv => ?_⟩
  · rw [exec_obstructionDwellExpiry, Works.obstructionDwellExpiry, if_neg (by rw [ht]; decide)]
  · subst hu hv
    rfl

end Sys2Proof.Machine

namespace Sys2Proof.Machine

open Sys2Proof

/-! # Portals: PORTAL REOPEN and CONFIRM CLEAR (R96, R97) -/

section Reopen

variable {w : Works} {o : Order} {n : Nat}

theorem exec_portalReopen {k : Nat} {s : State} (h : s.orderWaits k o) (hc : o.code = .portalReopen) (hs : s.works.takesOrders) :
    exec (.portalReopen k) s = .next (s.takenUp k (s.works.portalReopenOrder o)) :=
  takeUp_of_waits _ _ k o s h hc hs

theorem Works.portalReopenOrder_of_stage (h : w.water.stage.stage ≠ .draining) :
    w.portalReopenOrder o = o.finish 4 w.water.stage.stage.code 0 [] w := if_pos h

theorem Works.portalReopenOrder_of_claim (h : w.water.stage.stage = .draining)
    (hv : (w.claimOf (.portal o.subject)).commands = false) :
    w.portalReopenOrder o = o.finish 5 (w.claimOf (.portal o.subject)).code 0 [] w := by
  rw [Works.portalReopenOrder, if_neg (by rw [h]; decide), if_pos (ClaimValue.refuses_of_not_commands hv)]
  rfl

theorem Works.portalReopenOrder_of_open (h : w.water.stage.stage = .draining)
    (hv : (w.claimOf (.portal o.subject)).commands = true) (hc : (w.portal o.subject).closure ≠ .shut) :
    w.portalReopenOrder o = o.finish 10 3 (w.portal o.subject).closure.code [] w := by
  rw [Works.portalReopenOrder, if_neg (by rw [h]; decide), if_neg (ClaimValue.not_refuses_of_commands hv), if_pos hc]
  rfl

/-- A SHUT portal begins to reopen: the order is ACTIVE, and the portal on its way. -/
def Works.reopening (o : Order) (w : Works) : Works :=
  (w.hold (o.active 0)).updPortal o.subject (fun p => { p with reopening := true })

theorem Works.portalReopenOrder_of_shut (h : w.water.stage.stage = .draining)
    (hv : (w.claimOf (.portal o.subject)).commands = true) (hc : (w.portal o.subject).closure = .shut) :
    w.portalReopenOrder o = (w.reopening o).enter o.subject .ungating := by
  rw [Works.portalReopenOrder, if_neg (by rw [h]; decide), if_neg (ClaimValue.not_refuses_of_commands hv), if_neg (not_not_intro hc)]
  rfl

/-- An order that is ACTIVE stays so as UNGATING is entered with the gate not STOWED. -/
theorem Works.enter_ungating_active (hg : (w.portal n).gate.state ≠ .stowed) : (w.enter n .ungating).active = w.active := by
  have hgate : ((w.changeClosure n .ungating).portal n).gate = (w.portal n).gate :=
    Works.changeClosure_gate (by decide) (by decide)
  rw [Works.enter_of_stays (by simp [Portal.next, hgate, hg]),
    (Works.workStep_leads (ps := Part.ofCommands) n _ (by decide) .refl).active_eq (by decide),
    Works.changeClosure_active (by decide)]

theorem reopen_begins (k : Nat) (o : Order) (s : State) (h : s.orderWaits k o) (ht : s.works.takesOrders)
    (ho : o.code = .portalReopen) (hst : s.works.water.stage.stage = .draining)
    (hv : (s.works.claimOf (.portal o.subject)).commands = true) (hc : (s.works.portal o.subject).closure = .shut)
    (hg : (s.works.portal o.subject).gate.state ≠ .stowed) :
    ∃ v, exec (.portalReopen k) s = .next (s.takenUp k v) ∧ s.works.keepsPortals v ∧
      (v.portal o.subject).closure = .ungating ∧ o.active 0 ∈ v.active ∧
      v.recorded .portal o.subject (some 6) (some 7) (s.works.portal o.subject).figures false := by
  have hport : (s.works.reopening o).portal o.subject = { s.works.portal o.subject with reopening := true } := by
    simp [Works.reopening]
  have hgate : ((s.works.reopening o).portal o.subject).gate.state ≠ .stowed := by rw [hport]; exact hg
  have hleads : Works.Leads Part.ofPortal s.works ((s.works.reopening o).enter o.subject .ungating) :=
    Works.Leads.trans (Works.updPortal_leads _ _ _ (by decide) (Works.hold_leads _ _ (by decide) .refl))
      (Works.enter_moves _ _ _).leads
  have hrec := Works.enter_recorded (w := s.works.reopening o) (n := o.subject) (c := .ungating) (by rw [hport, hc]; decide)
    (by rw [hport, hc]; decide) (by decide)
  rw [hport, hc] at hrec
  refine ⟨_, exec_portalReopen h ho ht, ?_⟩
  rw [Works.portalReopenOrder_of_shut hst hv hc]
  refine ⟨hleads.keepsPortals, (Works.enter_ungating_away hgate).1, ?_, hrec⟩
  rw [Works.enter_ungating_active hgate, Works.reopening, Works.updPortal_active]
  exact List.mem_append_right _ (List.mem_singleton_self _)

end Reopen

section Confirm

variable {w : Works} {o : Order}

theorem exec_confirmClear {k : Nat} {s : State} (h : s.orderWaits k o) (hc : o.code = .confirmClear) (hs : s.works.takesOrders) :
    exec (.confirmClear k) s = .next (s.takenUp k (s.works.confirmClearOrder o)) :=
  takeUp_of_waits _ _ k o s h hc hs

theorem Works.confirmClearOrder_of_closed (h : w.portals.interior.opened = false) :
    w.confirmClearOrder o = o.finish 4 w.water.stage.stage.code 0 [] w := by
  rw [Works.confirmClearOrder, h]
  rfl

/-- The operator's word that the interior is clear. -/
def Works.confirmed (k : Nat) (w : Works) : Works :=
  (w.setInterior { w.portals.interior with confirm := some k }).cleared 2

theorem Works.confirmClearOrder_of_open (h : w.portals.interior.opened = true) : w.confirmClearOrder o =
    (o.finish 0 0 0 [w.portals.interior.episode.toNat] (w.confirmed o.slot)).bothToGating := by
  rw [Works.confirmClearOrder, if_neg (by rw [h]; decide)]
  rfl

theorem confirm_clears (k : Nat) (o : Order) (s : State) (h : s.orderWaits k o) (ht : s.works.takesOrders)
    (ho : o.code = .confirmClear) (hi : s.works.portals.interior.opened = true) :
    ∃ v, exec (.confirmClear k) s = .next (s.takenUp k v) ∧ s.works.keepsPortals v ∧ v.completed k 0 0 0 ∧
      v.portals.interior.clear = true ∧ v.portals.interior.confirm = some k ∧
      (s.works.portals.interior.clear = false → v.recorded .interior 0 (some 0) (some 1)
        [s.works.portals.interior.episode.toNat, 2, s.works.vehicleCount] false) := by
  obtain rfl : o.slot = k := State.orderWaits_slot s k o h
  have hboth := (o.finish 0 0 0 [s.works.portals.interior.episode.toNat] (s.works.confirmed o.slot)).bothToGating_only
  have hfinish : Works.Leads [.active] (s.works.confirmed o.slot)
      (o.finish 0 0 0 [s.works.portals.interior.episode.toNat] (s.works.confirmed o.slot)) := Works.complete_only _ _ _ _ _ _
  have hconf : Works.Leads [.portals] s.works (s.works.confirmed o.slot) :=
    (Works.setInterior_leads _ _ (by decide) .refl).trans (Works.cleared_only 2 _)
  have hint : (s.works.confirmed o.slot).portals.interior =
      { s.works.portals.interior with confirm := some o.slot, clear := true, dwellStart := none } := Works.cleared_interior 2 _
  refine ⟨_, exec_confirmClear h ho ht, ?_⟩
  rw [Works.confirmClearOrder_of_open hi, Works.bothToGating_interior, hfinish.portals_eq (by decide), hint]
  refine ⟨(((hconf.mono (by decide)).trans (hfinish.mono (by decide))).trans hboth).keepsPortals,
    hboth.completed (by decide) ⟨_, Works.handed_send _ _⟩, rfl, rfl, fun hclear => hboth.recorded (by decide)
      (hfinish.recorded (by decide) ?_)⟩
  have hrec := Works.setClear_recorded (w := s.works.setInterior { s.works.portals.interior with confirm := some o.slot })
    (b := true) (by rw [Works.setInterior, hclear]; decide) 2
  rw [show (s.works.setInterior { s.works.portals.interior with confirm := some o.slot }).portals.interior.clear = false
    from hclear] at hrec
  exact (Works.judgeClearDwell_leads (ps := [.portals]) _ (by decide) .refl).recorded (by decide) hrec

end Confirm

/-- Settles O44, by the cases of the two orders. -/
theorem reopenAndConfirm : Obligations.ReopenAndConfirm := by
  unfold Obligations.ReopenAndConfirm
  refine ⟨fun k o s h ht ho _ => ⟨fun hst => ?_, fun hst hv => ?_, fun hst hv hc => ?_, fun hst hv hc hg _ => ?_⟩,
    fun k o s h ht ho => ⟨fun hi => ?_, confirm_clears k o s h ht ho⟩⟩
  · rw [exec_portalReopen h ho ht, Works.portalReopenOrder_of_stage hst]
  · rw [exec_portalReopen h ho ht, Works.portalReopenOrder_of_claim hst hv]
  · rw [exec_portalReopen h ho ht, Works.portalReopenOrder_of_open hst hv hc]
  · exact reopen_begins k o s h ht ho hst hv hc hg
  · rw [exec_confirmClear h ho ht, Works.confirmClearOrder_of_closed hi]

end Sys2Proof.Machine

namespace Sys2Proof.Machine

open Sys2Proof

/-! # Portals: PORTAL RESET, changed claims, settlement and reconstruction (R93, R94, R98) -/

section Reset

variable {w : Works} {o : Order}

theorem exec_portalReset {k : Nat} {s : State} (h : s.orderWaits k o) (hc : o.code = .portalReset) (hs : s.works.takesOrders) :
    exec (.portalReset k) s = .next (s.takenUp k (s.works.portalResetOrder o)) :=
  takeUp_of_waits _ _ k o s h hc hs

theorem Works.portalResetOrder_of_stage (ha : w.water.stage.stage ≠ .alert) (hd : w.water.stage.stage ≠ .draining) :
    w.portalResetOrder o = o.finish 4 w.water.stage.stage.code 0 [] w := if_pos ⟨ha, hd⟩

theorem not_neither_of_or {st : Stage} (h : st = .alert ∨ st = .draining) : ¬ (st ≠ .alert ∧ st ≠ .draining) :=
  fun hn => h.elim hn.1 hn.2

theorem Works.portalResetOrder_of_claim (h : w.water.stage.stage = .alert ∨ w.water.stage.stage = .draining)
    (hv : (w.claimOf (.portal o.subject)).commands = false) :
    w.portalResetOrder o = o.finish 5 (w.claimOf (.portal o.subject)).code 0 [] w := by
  rw [Works.portalResetOrder, if_neg (not_neither_of_or h), if_pos (ClaimValue.refuses_of_not_commands hv)]
  rfl

theorem Works.portalResetOrder_of_sound (h : w.water.stage.stage = .alert ∨ w.water.stage.stage = .draining)
    (hv : (w.claimOf (.portal o.subject)).commands = true) (hc : (w.portal o.subject).closure ≠ .stalled) :
    w.portalResetOrder o = o.finish 10 3 (w.portal o.subject).closure.code [] w := by
  rw [Works.portalResetOrder, if_neg (not_neither_of_or h), if_neg (ClaimValue.not_refuses_of_commands hv), if_pos hc]
  rfl

/-- The stalled portal goes back to the state that the stall interrupted, its attempts counted anew. -/
def Works.restored (n : Nat) (c : Closure) (w : Works) : Works :=
  (w.updGate n (fun g => { g with attempts := 0 })).enter n c

theorem Works.portalResetOrder_of_stalled {c : Closure} (h : w.water.stage.stage = .alert ∨ w.water.stage.stage = .draining)
    (hv : (w.claimOf (.portal o.subject)).commands = true) (hc : (w.portal o.subject).closure = .stalled)
    (hi : (w.portal o.subject).interrupted = some c) : w.portalResetOrder o = o.finish 0 0 0 [c.code]
      (if w.water.stage.stage = .alert ∧ (c = .opened ∨ c = .ungating ∨ c = .unbarring)
        then (w.restored o.subject c).portalAlert o.subject else w.restored o.subject c) := by
  rw [Works.portalResetOrder, if_neg (not_neither_of_or h), if_neg (ClaimValue.not_refuses_of_commands hv),
    if_neg (not_not_intro hc), hi]
  rfl

theorem reset_restores (k : Nat) (o : Order) (s : State) (h : s.orderWaits k o) (ht : s.works.takesOrders)
    (ho : o.code = .portalReset) (c : Closure) (r : StallReason)
    (hst : s.works.water.stage.stage = .alert ∨ s.works.water.stage.stage = .draining)
    (hv : (s.works.claimOf (.portal o.subject)).commands = true) (hc : (s.works.portal o.subject).closure = .stalled)
    (hi : (s.works.portal o.subject).interrupted = some c) (hne : c ≠ .stalled)
    (hr : (s.works.portal o.subject).stall = some r) :
    ∃ v, exec (.portalReset k) s = .next (s.takenUp k v) ∧ s.works.keepsPortals v ∧ v.completed k 0 0 0 ∧
      v.recorded .portal o.subject (some 9) (some c.code) [(s.works.portal o.subject).barrier.state.code,
        (s.works.portal o.subject).gate.state.code, (s.works.portal o.subject).gate.position, r.code] false := by
  obtain rfl : o.slot = k := State.orderWaits_slot s k o h
  refine ⟨_, exec_portalReset h ho ht, (Works.portalResetOrder_leads o _ (by decide) .refl).keepsPortals, ?_⟩
  rw [Works.portalResetOrder_of_stalled hst hv hc hi]
  refine ⟨⟨_, Works.handed_send _ _⟩, ?_⟩
  have hrec := Works.changeClosure_recorded (w := s.works.updGate o.subject (fun g => { g with attempts := 0 })) (n := o.subject)
    (c := c) (by rw [Works.updGate_eq, Works.updPortal_self, hc]; exact hne.symm)
  simp only [Works.updGate_eq, Works.updPortal_self, Portal.leaving, hc, hr, if_true, stallCode] at hrec
  have hlast : Works.Leads Part.ofPortal (s.works.restored o.subject c) (o.finish 0 0 0 [c.code]
      (if s.works.water.stage.stage = .alert ∧ (c = .opened ∨ c = .ungating ∨ c = .unbarring)
        then (s.works.restored o.subject c).portalAlert o.subject else s.works.restored o.subject c)) :=
    Works.complete_leads _ _ _ _ _ _ (by decide) (ite_leads (Works.portalAlert_leads _ _ (by decide) .refl) .refl)
  exact hlast.recorded (by decide) ((Works.work_moves _ _).recorded hrec)

end Reset

/-! ## A claim that becomes PANEL or LOCAL (R93) -/

section Uncommand

variable {w : Works} {n : Nat} {c : ClaimValue}

/-- A PORTAL REOPEN of the portal is PREEMPTED, and what the portal has at the line is disregarded. -/
def Works.portalPreempted (n : Nat) (c : ClaimValue) (w : Works) : Works :=
  ((((w.endReopen n Status.preempted c.code 0 []).giveUp (.gatePair n) .disregarded).giveUp (.barrierPair n)
    .disregarded).giveUp (.gateHalt n true) .disregarded).giveUp (.gateHalt n false) .disregarded

theorem Works.portalPreempted_only (n : Nat) (c : ClaimValue) (w : Works) :
    Works.Leads [.active, .line] w (w.portalPreempted n c) :=
  Works.giveUp_leads _ _ _ (by decide) (Works.giveUp_leads _ _ _ (by decide) (Works.giveUp_leads _ _ _ (by decide)
    (Works.giveUp_leads _ _ _ (by decide) (Works.endReopen_leads _ _ _ _ _ _ (by decide) .refl))))

theorem Works.portalPreempted_portal (n : Nat) (c : ClaimValue) (w : Works) : (w.portalPreempted n c).portal n = w.portal n :=
  Works.portal_congr ((w.portalPreempted_only n c).portals_eq (by decide)) n

theorem Works.portalPreempted_gateEntry (n : Nat) (c : ClaimValue) (w : Works) (m : Nat) :
    (w.portalPreempted n c).gateEntry m = w.gateEntry m := by
  rw [Works.gateEntry, Works.gateEntry, (w.portalPreempted_only n c).dewater_eq (by decide)]

theorem Works.portalPreempted_requests (n : Nat) (c : ClaimValue) (w : Works) :
    (w.portalPreempted n c).line.queue.map (fun e => (e.req, e.unit, e.output)) =
      w.line.queue.map (fun e => (e.req, e.unit, e.output)) := by
  rw [Works.portalPreempted, Works.giveUp_requests, Works.giveUp_requests, Works.giveUp_requests, Works.giveUp_requests,
    (Works.endReopen_leads (ps := [.active]) n _ _ _ _ w (by decide) .refl).line_eq (by decide)]

theorem Works.endReopen_completed {a : Active} (ha : a ∈ w.active) (hc : a.code = .portalReopen) (hn : a.subject = n)
    (st d d2 : Nat) (r : List Nat) : (w.endReopen n st d d2 r).completed a.slot st d d2 :=
  Works.completeAll_completed ha (by simp [hc, hn]) (fun b v => Works.complete_only _ _ _ _ _ v) fun _ => rfl

theorem Works.portalPreempted_completed {a : Active} (ha : a ∈ w.active) (hc : a.code = .portalReopen) (hn : a.subject = n)
    (c : ClaimValue) : (w.portalPreempted n c).completed a.slot 9 c.code 0 := Works.endReopen_completed ha hc hn 9 c.code 0 []

/-- A pair as its portal is no longer commanded: one in flight is ABANDONED, or ends at once where it was refused full (log 29). -/
def PairState.left (refused : Bool) (p : PairState) : PairState :=
  if p = .inFlight then (if refused then .none else .abandoned) else p

/-- The gate of a portal that is no longer commanded (R93). -/
def Gate.left (g : Gate) : Gate :=
  { g with grant := .none, pair := g.pair.left g.pairRefused,
           action := if g.pair = .inFlight ∧ g.pairRefused then none else g.action,
           pairRefused := false, haltRefused := false, stopping := false, halting := false, travel := none, dwellStart := none }

/-- The barrier of a portal that is no longer commanded (R93). -/
def Barrier.left (b : Barrier) : Barrier :=
  { b with pair := b.pair.left b.pairRefused,
           action := if b.pair = .inFlight ∧ b.pairRefused then none else b.action,
           pairRefused := false, haltRefused := false, travel := none }

/-- The record of a portal that is no longer commanded (R73, R93). -/
def Portal.left (p : Portal) : Portal :=
  { p with gate := p.gate.left, barrier := p.barrier.left, timer := none,
           signals := { p.signals with shown := .unknown, again := false, refused := false } }

theorem Works.uncommandPortal_portal (n : Nat) (c : ClaimValue) (w : Works) : (w.uncommandPortal n c).portal n = (w.portal n).left := by
  simp only [Works.uncommandPortal, Works.updSignals_eq, Works.updBarrier_eq, Works.updGate_eq, Works.updPortal_self,
    Works.dropGateGrant_portal, Works.giveUp_portal, Works.portal_congr (Works.endReopen_portals _ _ _ _ _ _)]
  rfl

/-- After the orders, the requests and the grant only the portal record changes. -/
theorem Works.uncommandPortal_only (n : Nat) (c : ClaimValue) (w : Works) :
    Works.Leads [.portals] ((w.portalPreempted n c).dropGateGrant n) (w.uncommandPortal n c) := by
  unfold Works.uncommandPortal
  exact Works.updPortal_leads _ _ _ (by decide) (Works.updSignals_leads _ _ _ (by decide) (Works.updBarrier_leads _ _ _ (by decide)
    (Works.updGate_leads _ _ _ (by decide) .refl)))

theorem Works.dropGateGrant_only (n : Nat) (w : Works) : Works.Leads [.portals] w (w.dropGateGrant n) :=
  Works.dropGateGrant_leads n w (by decide) .refl

theorem claimGone_uncommands (w v : Works) (n : Nat) (c : ClaimValue) (p q : Portal) (hv : v = w.uncommandPortal n c)
    (hp : p = w.portal n) (hq : q = v.portal n) :
    v.line.queue.map (fun e => (e.req, e.unit, e.output)) = w.line.queue.map (fun e => (e.req, e.unit, e.output)) ∧
    q.closure = p.closure ∧ q.timer = none ∧ q.signals.shown = .unknown ∧ q.signals.wanted = p.signals.wanted ∧
    q.barrier.state = p.barrier.state ∧ q.gate.state = p.gate.state ∧ q.gate.attempts = p.gate.attempts ∧
    q.gate.grant = .none ∧ q.gate.travel = none ∧ q.gate.dwellStart = none ∧ q.gate.stopping = false ∧
    q.barrier.travel = none ∧
    q.gate.pair = (if p.gate.pair = .inFlight then (if p.gate.pairRefused then .none else .abandoned) else p.gate.pair) ∧
    q.barrier.pair =
      (if p.barrier.pair = .inFlight then (if p.barrier.pairRefused then .none else .abandoned) else p.barrier.pair) ∧
    (p.gate.grant = .granted → v.handed (.loadRelease (w.gateEntry n))) ∧
    (p.gate.grant = .requested → v.handed (.loadWithdrawal (w.gateEntry n))) ∧
    ∀ a ∈ w.active, a.code = .portalReopen → a.subject = n → v.completed a.slot 9 c.code 0 := by
  have hlast := w.uncommandPortal_only n c
  have hdrop := (w.portalPreempted n c).dropGateGrant_only n
  have hline : v.line = (w.portalPreempted n c).line := by rw [hv, hlast.line_eq (by decide), hdrop.line_eq (by decide)]
  have hport := w.portalPreempted_portal n c
  have hentry := w.portalPreempted_gateEntry n c n
  rw [hv, Works.uncommandPortal_portal, ← hp] at hq
  subst hq
  refine ⟨by rw [hline, Works.portalPreempted_requests], rfl, rfl, rfl, rfl, rfl, rfl, rfl, rfl, rfl, rfl, rfl, rfl, rfl, rfl,
    fun hg => ?_, fun hg => ?_, fun a ha hc hn => ?_⟩
  · rw [hv, ← hentry]
    exact hlast.handed (by decide) (Works.dropGateGrant_releases (by rw [hport, ← hp, hg]))
  · rw [hv, ← hentry]
    exact hlast.handed (by decide) (Works.dropGateGrant_withdraws (by rw [hport, ← hp, hg]))
  · rw [hv]
    exact hlast.completed (by decide) (hdrop.completed (by decide) (Works.portalPreempted_completed ha hc hn c))

end Uncommand

/-! ## What is followed under PANEL (R93) -/

section Panel

variable {w : Works} {n : Nat} {old : GateState}

theorem Works.judgeGate_panel (own : Bool) (h : w.claimOf (.portal n) = .panel) (hne : (w.portal n).gate.state ≠ old) :
    w.judgeGate n old own = if (w.portal n).closure = .gating ∧ (w.portal n).gate.state = .deployed then w.enter n .shut
      else w.shutBreach n := by
  simp only [Works.judgeGate, h, if_neg hne]

/-- Without the claim the portal takes the state and does no work (R75). -/
theorem Works.enter_uncommanded {c : Closure} (h : w.portalAuto n = false) : w.enter n c = w.changeClosure n c := by
  refine Works.work_barred ?_
  rw [Works.mayCommand, (Works.changeClosure_moves n c w).portalAuto_eq, h, Bool.false_and]

/-- A portal that leaves SHUT for GATING reports MOVING, and no reopening (R92). -/
theorem Works.changeClosure_breach (hc : (w.portal n).closure = .shut) :
    { portal := n, old := View.shut, new := View.moving, reopening := false } ∈ (w.changeClosure n .gating).reports := by
  obtain ⟨-, hr⟩ := Works.changeClosure_view (w := w) (n := n) (c := .gating) (by rw [hc]; decide)
  rw [hr, hc]
  exact List.mem_append_right _ (by simp [Closure.view])

theorem panel_follows (w v : Works) (n : Nat) (old : GateState) (own : Bool) (p : Portal) (hw : w.claimOf (.portal n) = .panel)
    (hp : p = w.portal n) (hne : p.gate.state ≠ old) (hv : v = w.judgeGate n old own) :
    (p.closure = .gating → p.gate.state = .deployed → (v.portal n).closure = .shut) ∧
    (p.closure = .shut → p.gate.state ≠ .deployed → (v.portal n).closure = .gating ∧
      { portal := n, old := View.shut, new := View.moving, reopening := false } ∈ v.reports) ∧
    (p.closure ≠ .gating → p.closure ≠ .shut → v = w) := by
  have hauto : w.portalAuto n = false := by simp [Works.portalAuto, hw]
  subst hp hv
  rw [Works.judgeGate_panel own hw hne]
  refine ⟨fun hc hg => ?_, fun hc hg => ?_, fun hc hs => ?_⟩
  · rw [if_pos ⟨hc, hg⟩, Works.enter_uncommanded hauto, Works.changeClosure_closure]
  · rw [if_neg (by simp [hc]), Works.shutBreach, if_pos ⟨hc, hg⟩, Works.enter_uncommanded hauto]
    exact ⟨Works.changeClosure_closure n _ w, Works.changeClosure_breach hc⟩
  · rw [if_neg fun h => hc h.1, Works.shutBreach, if_neg fun h => hs h.1]

end Panel

/-! ## Settlement and reconstruction (R94, Table 4-4) -/

section Settle

variable {w : Works} {n : Nat}

theorem reconstructed_table (g : GateState) (b : BarrierState) : reconstructed .deployed b = .shut ∧
    reconstructed .stowed .up = .opened ∧ reconstructed .stowed .down = .clearing ∧
    (b ≠ .up → b ≠ .down → reconstructed .stowed b = .barring) ∧
    (g ≠ .deployed → g ≠ .stowed → reconstructed g b = .gating) := by
  refine ⟨rfl, rfl, rfl, fun hu hd => ?_, fun hd hs => ?_⟩
  · cases b with
    | up => exact absurd rfl hu
    | down => exact absurd rfl hd
    | _ => rfl
  · cases g with
    | deployed => exact absurd rfl hd
    | stowed => exact absurd rfl hs
    | _ => rfl

theorem reconstructed_shut (g : GateState) (b : BarrierState) : reconstructed g b = .shut ↔ g = .deployed := by
  cases g <;> cases b <;> decide

theorem reconstructed_known (g : GateState) (b : BarrierState) : reconstructed g b ≠ .unknown := by
  cases g <;> cases b <;> decide

theorem Works.settlePortal_taken (n : Nat) (img : List Byte) (w : Works) :
    w.settlePortal n (some img) = ((w.takeBarrier n img).takeGate n img).settlePortal n none := rfl

theorem Works.settlePortal_unknown (hc : (w.portal n).closure = .unknown) : w.settlePortal n none =
    ((w.haltFound n).enter n (reconstructed (w.portal n).gate.state (w.portal n).barrier.state)).beginSequence n := if_pos hc

theorem Works.settlePortal_known (hc : (w.portal n).closure ≠ .unknown) : w.settlePortal n none = (w.haltFound n).work n := if_neg hc

theorem Works.settlePortal_halted (n : Nat) (w : Works) : (w.haltFound n).Moves n (w.settlePortal n none) := by
  by_cases hc : (w.portal n).closure = .unknown
  · rw [Works.settlePortal_unknown hc]
    exact (Works.enter_moves n _ _).trans (Works.beginSequence_moves n _)
  · rw [Works.settlePortal_known hc]
    exact Works.work_moves n _

theorem Works.haltGate_waits (stop : Bool) (ha : w.portalAuto n = true) (hr : w.lineRoom) :
    (w.haltGate n stop).haltWaits (w.portal n).unit (w.portal n).gateOut := by
  have hr' : (w.updGate n (fun g => { g with haltRefused := false, halting := g.halting || stop })).lineRoom := by simpa using hr
  have hw := Works.enqueue_halt_waits ((w.updGate n (fun g => { g with haltRefused := false, halting := g.halting || stop })).asking
    .halt (w.portal n).unit (w.portal n).gateOut (.gateHalt n stop)) rfl hr'
  rw [Works.haltGate, if_pos ha]
  simpa [Works.request, Works.asking] using hw

theorem settle_halts (hg : (w.portal n).gate.state = .deploying ∨ (w.portal n).gate.state = .stowing)
    (ha : w.portalAuto n = true) (hr : w.lineRoom) :
    (w.settlePortal n none).haltWaits (w.portal n).unit (w.portal n).gateOut := by
  refine (w.settlePortal_halted n).asks.halts _ _ ?_
  rw [Works.haltFound, if_pos hg]
  exact Works.haltGate_waits false ha hr

theorem Works.haltFound_alike (n : Nat) (w : Works) : (w.portal n).Alike ((w.haltFound n).portal n) :=
  .of_observed (w.haltFound_commands n).own

theorem settle_reconstructs (hc : (w.portal n).closure = .unknown) : (w.settlePortal n none).recorded .portal n (some 0)
    (some (reconstructed (w.portal n).gate.state (w.portal n).barrier.state).code)
    [(w.portal n).barrier.state.code, (w.portal n).gate.state.code, (w.portal n).gate.position,
      if (w.portal n).gate.state = .deployed then 0 else (w.portal n).gate.attempts] false := by
  have hal := w.haltFound_alike n
  have hrec := Works.changeClosure_recorded (w := w.haltFound n) (n := n)
    (c := reconstructed (w.portal n).gate.state (w.portal n).barrier.state)
    (by rw [hal.closure, hc]; exact (reconstructed_known _ _).symm)
  rw [Portal.leaving, hal.closure, hc, if_neg (by decide), hal.barrierState, hal.gateState, hal.position, hal.attempts] at hrec
  simp only [reconstructed_shut] at hrec
  rw [Works.settlePortal_unknown hc]
  exact (Works.beginSequence_moves n _).recorded ((Works.work_moves n _).recorded hrec)

theorem Works.workStep_figures (n : Nat) (w : Works) : ((w.workStep n).2.portal n).figures = (w.portal n).figures := by
  rcases w.workStep_alike n with h | h
  · exact h.figures
  · rw [h.figures]
    rfl

/-- A SHUT portal whose gate is found away from DEPLOYED goes back to GATING (R94). -/
theorem settle_breaches (hc : (w.portal n).closure = .shut) (hg : (w.portal n).gate.state ≠ .deployed)
    (ha : w.portalAuto n = true) :
    (w.settlePortal n none).recorded .portal n (some 6) (some 5) (w.portal n).figures false ∧
      { portal := n, old := View.shut, new := View.moving, reopening := false } ∈ (w.settlePortal n none).reports := by
  have hal := w.haltFound_alike n
  have hm : (w.haltFound n).mayCommand n = true := by
    rw [Works.mayCommand_of_auto (.inl (by rw [hal.closure, hc]; rfl)), (w.haltFound_commands n).moves.portalAuto_eq, ha]
  have hgoes : ((w.haltFound n).workStep n).1 = some .gating := by
    rw [Works.workStep_next, if_pos hm]
    simp [Portal.next, hal.closure, hal.gateState, hc, hg]
  have hshut : (((w.haltFound n).workStep n).2.portal n).closure = .shut := by rw [Works.workStep_closure, hal.closure, hc]
  have hrec := Works.changeClosure_recorded_figures (w := ((w.haltFound n).workStep n).2) (n := n) (c := .gating)
    (by rw [hshut]; decide) (by rw [hshut]; decide) (by decide)
  rw [hshut, Works.workStep_figures, hal.figures] at hrec
  rw [Works.settlePortal_known (by rw [hc]; decide), Works.work_of_goes hgoes]
  exact ⟨(workLoop_moves n 7 _).recorded hrec, (workLoop_moves n 7 _).reports (Works.changeClosure_breach hshut)⟩

theorem settle_asks (e : Grant) (hc : (w.portal n).closure = .gating) (hg : (w.portal n).gate.state = .stowed)
    (hb : (w.portal n).barrier.state = .down) (hm : w.mayCommand n = true) (hgrant : (w.portal n).gate.grant = .none)
    (hs : (w.portal n).gate.stopping = false) (hd : (w.portal n).gate.dwellStart = none)
    (hp : (w.portal n).gate.pair ≠ .inFlight) (he : w.budget.grants[w.gateEntry n]? = some e) :
    ((w.settlePortal n none).portal n).gate.grant = .requested ∧
      (w.settlePortal n none).handed (.loadRequest (w.gateEntry n) 0 e.requested) := by
  have hfound : w.haltFound n = w := by simp [Works.haltFound, hg]
  obtain ⟨-, -, -, hasked, hhanded⟩ := Works.work_requests (e := e)
    (Works.workStep_gating hm hc hs (by rw [hg]; decide) hb) hgrant hs hd hp he
  rw [Works.settlePortal_known (by rw [hc]; decide), hfound]
  exact ⟨hasked, hhanded⟩

/-- A portal found OPEN with its gate away from STOWED says so (R94). -/
theorem settle_faults (hc : (w.portal n).closure = .opened) (hg : (w.portal n).gate.state ≠ .stowed)
    (ha : w.portalAuto n = true) : (w.settlePortal n none).recorded .portalFault n none none [5, 0] true := by
  have hal := w.haltFound_alike n
  have hclosure := hal.closure.trans hc
  have hm : (w.haltFound n).mayCommand n = true := by
    rw [Works.mayCommand_of_auto (.inl (by rw [hclosure]; rfl)), (w.haltFound_commands n).moves.portalAuto_eq, ha]
  have hstep := Works.workStep_opened hm hclosure
  rw [if_pos (.inl (by rwa [hal.gateState]))] at hstep
  rw [Works.settlePortal_known (by rw [hc]; decide), Works.work_of_stays (by rw [hstep]), hstep]
  exact Works.recorded_record _ _ _ _ _ _ _

end Settle

/-- Settles O45, clause by clause. -/
theorem portalResetOrder : Obligations.PortalResetOrder := by
  unfold Obligations.PortalResetOrder
  refine ⟨fun k o s h ht ho _ => ⟨fun ha hd => ?_, fun hst hv => ?_, fun hst hv hc => ?_, reset_restores k o s h ht ho⟩,
    fun w v n c p q _ => claimGone_uncommands w v n c p q, fun w v n old own p _ => panel_follows w v n old own p,
    reconstructed_table, fun w n img => Works.settlePortal_taken n img w, fun w v n p _ hp hv => ?_⟩
  · rw [exec_portalReset h ho ht, Works.portalResetOrder_of_stage ha hd]
  · rw [exec_portalReset h ho ht, Works.portalResetOrder_of_claim hst hv]
  · rw [exec_portalReset h ho ht, Works.portalResetOrder_of_sound hst hv hc]
  · subst hp hv
    exact ⟨settle_halts, settle_reconstructs, settle_breaches, fun e => settle_asks e, settle_faults⟩

end Sys2Proof.Machine

namespace Sys2Proof.Machine

open Sys2Proof

/-! # What the blocks leave of the line

An operation of a block asks the line, gives requests up and joins retry lists; it neither takes the line nor frees it, and what
the polls tell of the units is not its own. One lemma for each such operation, in the order of the model. -/

/-- What the polls tell of a unit: its roster entry but for its retry list and its selection. -/
def RosterEntry.polled (r : RosterEntry) : RosterEntry := { r with retry := [], selection := .none }

/-- What no block changes of the line: whether an exchange is on it, and what the polls tell of its units. -/
def Line.stand (l : Line) : Bool × List RosterEntry := (l.exchange.isSome, l.roster.map RosterEntry.polled)

@[simp] theorem each_stand {α : Type} (l : List α) (f : α → Works → Works) (w : Works)
    (hf : ∀ a v, (f a v).line.stand = v.line.stand) : (each l f w).line.stand = w.line.stand :=
  each_induction (P := fun v => v.line.stand = w.line.stand) rfl fun a _ v h => (hf a v).trans h

@[simp] theorem ite_stand {c : Prop} [Decidable c] (x y : Works) :
    (if c then x else y).line.stand = if c then x.line.stand else y.line.stand := apply_ite (fun w : Works => w.line.stand) c x y

@[simp] theorem Works.setLineQueue_stand (q : List QEntry) (w : Works) : (w.setLineQueue q).line.stand = w.line.stand := rfl

theorem Works.updRoster_stand {f : RosterEntry → RosterEntry} (hf : ∀ r, (f r).polled = r.polled) (u : Nat) (w : Works) :
    (w.updRoster u f).line.stand = w.line.stand := by
  refine Prod.ext rfl ?_
  change (w.line.roster.map _).map _ = _
  rw [List.map_map]
  refine List.map_congr_left fun r _ => ?_
  rw [Function.comp_apply]
  split
  · exact hf r
  · rfl

@[simp] theorem Works.giveUp_stand (r : ReqFor) (f : Fate) (w : Works) : (w.giveUp r f).line.stand = w.line.stand :=
  Prod.ext (by simp [Works.giveUp, Line.stand]) rfl

/-! ## Operations that leave the line -/

@[simp] theorem Works.setBudgetState_line (st : BudgetState) (w : Works) : (w.setBudgetState st).line = w.line :=
  (Works.setBudgetState_leads _ _ (by decide) .refl).line_eq (ps := [.budget]) (by decide)

@[simp] theorem Works.judgeBudget_line (w : Works) : w.judgeBudget.line = w.line :=
  (Works.judgeBudget_leads _ (by decide) .refl).line_eq (ps := [.budget]) (by decide)

@[simp] theorem Works.recapacity_line (w : Works) : w.recapacity.line = w.line :=
  (Works.recapacity_leads _ (by decide) .refl).line_eq (ps := [.budget]) (by decide)

@[simp] theorem Works.setLeaves_line (r : Requester) (v : Nat) (w : Works) : (w.setLeaves r v).line = w.line :=
  (Works.setLeaves_leads _ _ _ (by decide) .refl).line_eq (ps := [.lights]) (by decide)

@[simp] theorem Works.refusedFull_line (r : Requester) (w : Works) : (w.refusedFull r).line = w.line :=
  (Works.refusedFull_leads _ _ (by decide) .refl).line_eq (ps := [.dewater, .portals]) (by decide)

@[simp] theorem Works.setFigures_line (si demand : Nat) (w : Works) : (w.setFigures si demand).line = w.line :=
  (Works.setFigures_leads _ _ _ (by decide) .refl).line_eq (ps := [.dewater]) (by decide)

@[simp] theorem Works.refigure_line (si : Nat) (w : Works) : (w.refigure si).line = w.line :=
  (Works.refigure_leads _ _ (by decide) .refl).line_eq (ps := [.dewater]) (by decide)

@[simp] theorem Works.requestPump_line (i : Nat) (w : Works) : (w.requestPump i).line = w.line :=
  (Works.requestPump_leads _ _ .refl).line_eq (ps := []) (by decide)

@[simp] theorem Works.keepOrAdoptPump_line (i : Nat) (w : Works) : (w.keepOrAdoptPump i).line = w.line :=
  (Works.keepOrAdoptPump_leads _ _ (by decide) .refl).line_eq (ps := [.dewater]) (by decide)

@[simp] theorem Works.failShed_line (i : Nat) (w : Works) : (w.failShed i).line = w.line :=
  (Works.failShed_leads _ _ .refl).line_eq (ps := []) (by decide)

@[simp] theorem Works.joinList_line (i : Nat) (w : Works) : (w.joinList i).line = w.line :=
  (Works.joinList_leads _ _ (by decide) .refl).line_eq (ps := [.dewater]) (by decide)

@[simp] theorem Works.advanceLead_line (si : Nat) (w : Works) : (w.advanceLead si).line = w.line :=
  (Works.advanceLead_leads _ _ (by decide) .refl).line_eq (ps := [.dewater]) (by decide)

@[simp] theorem Works.waitShed_line (i : Nat) (w : Works) : (w.waitShed i).line = w.line :=
  (Works.waitShed_leads _ _ (by decide) .refl).line_eq (ps := [.dewater, .active]) (by decide)

@[simp] theorem Works.abandonedUnexecuted_line (i : Nat) (w : Works) : (w.abandonedUnexecuted i).line = w.line :=
  (Works.abandonedUnexecuted_leads _ _ (by decide) .refl).line_eq (ps := [.dewater, .active]) (by decide)

@[simp] theorem Works.setRunning_line (i : Nat) (v : RunView) (w : Works) : (w.setRunning i v).line = w.line :=
  (Works.setRunning_leads _ _ _ (by decide) .refl).line_eq (ps := [.dewater]) (by decide)

@[simp] theorem Works.pumpViews_line (i : Nat) (img : List Byte) (w : Works) : (w.pumpViews i img).line = w.line :=
  (Works.pumpViews_leads _ _ _ (by decide) .refl).line_eq (ps := [.dewater]) (by decide)

@[simp] theorem Works.pumpHaltEnd_line (i : Nat) (w : Works) : (w.pumpHaltEnd i).line = w.line :=
  (Works.pumpHaltEnd_leads _ _ (by decide) .refl).line_eq (ps := [.dewater]) (by decide)

@[simp] theorem Works.preemptPump_line (i : Nat) (v : ClaimValue) (w : Works) : (w.preemptPump i v).line = w.line :=
  (Works.preemptPump_leads _ _ _ (by decide) .refl).line_eq (ps := [.active]) (by decide)

@[simp] theorem Works.judgeZoneSet_line (z : Nat) (w : Works) : (w.judgeZoneSet z).line = w.line :=
  (Works.judgeZoneSet_leads _ _ (by decide) .refl).line_eq (ps := [.active]) (by decide)

@[simp] theorem Works.judgeCurrent_line (z : Nat) (w : Works) : (w.judgeCurrent z).line = w.line :=
  (Works.judgeCurrent_leads _ _ (by decide) .refl).line_eq (ps := [.lights, .active]) (by decide)

@[simp] theorem Works.judgeMode_line (z : Nat) (w : Works) : (w.judgeMode z).line = w.line :=
  (Works.judgeMode_leads _ _ (by decide) .refl).line_eq (ps := [.lights, .budget]) (by decide)

@[simp] theorem Works.updChoices_line (ch : Nat) (f : StepTable → StepChoice → StepChoice) (w : Works) :
    (w.updChoices ch f).line = w.line :=
  (Works.updChoices_leads _ _ _ (by decide) .refl).line_eq (ps := [.lights]) (by decide)

@[simp] theorem Works.judgeDecider_line (w : Works) : w.judgeDecider.line = w.line :=
  (Works.judgeDecider_leads _ (by decide) .refl).line_eq (ps := [.lights]) (by decide)

@[simp] theorem Works.judgeDay_line (ch v : Nat) (w : Works) : (w.judgeDay ch v).line = w.line :=
  (Works.judgeDay_leads _ _ _ (by decide) .refl).line_eq (ps := [.lights]) (by decide)

@[simp] theorem Works.clearFault_line (c : Nat) (w : Works) : (w.clearFault c).line = w.line :=
  (Works.clearFault_leads _ _ (by decide) .refl).line_eq (ps := [.lights]) (by decide)

@[simp] theorem Works.setReported_line (c : Nat) (step : Option Nat) (w : Works) : (w.setReported c step).line = w.line :=
  (Works.setReported_leads _ _ _ (by decide) .refl).line_eq (ps := [.lights, .active]) (by decide)

@[simp] theorem Works.setEnded_line (c step : Nat) (w : Works) : (w.setEnded c step).line = w.line :=
  (Works.setEnded_leads _ _ _ (by decide) .refl).line_eq (ps := [.lights]) (by decide)

@[simp] theorem Works.adoptCircuit_line (c : Nat) (w : Works) : (w.adoptCircuit c).line = w.line :=
  (Works.adoptCircuit_leads _ _ (by decide) .refl).line_eq (ps := [.lights]) (by decide)

@[simp] theorem Works.takeReport_line (reports : List (Option Nat)) (c : Nat) (w : Works) :
    (w.takeReport reports c).line = w.line :=
  (Works.takeReport_leads _ _ _ (by decide) .refl).line_eq (ps := [.lights]) (by decide)

@[simp] theorem Works.panelReports_line (reports : List (Option Nat)) (w : Works) : (w.panelReports reports).line = w.line :=
  (Works.panelReports_leads _ _ (by decide) .refl).line_eq (ps := [.lights]) (by decide)

@[simp] theorem Works.setInterior_line (i : Interior) (w : Works) : (w.setInterior i).line = w.line :=
  (Works.setInterior_leads _ _ (by decide) .refl).line_eq (ps := [.portals]) (by decide)

@[simp] theorem Works.portalFault_line (n kind code : Nat) (w : Works) : (w.portalFault n kind code).line = w.line :=
  (Works.portalFault_leads _ _ _ _ .refl).line_eq (ps := []) (by decide)

@[simp] theorem Works.setGate_line (n : Nat) (s : GateState) (w : Works) : (w.setGate n s).line = w.line :=
  (Works.setGate_leads _ _ _ (by decide) .refl).line_eq (ps := [.portals]) (by decide)

@[simp] theorem Works.setBarrier_line (n : Nat) (s : BarrierState) (w : Works) : (w.setBarrier n s).line = w.line :=
  (Works.setBarrier_leads _ _ _ (by decide) .refl).line_eq (ps := [.portals]) (by decide)

@[simp] theorem Works.judgeClearDwell_line (w : Works) : w.judgeClearDwell.line = w.line :=
  (Works.judgeClearDwell_leads _ (by decide) .refl).line_eq (ps := [.portals]) (by decide)

@[simp] theorem Works.setClear_line (b : Bool) (cause : Nat) (w : Works) : (w.setClear b cause).line = w.line :=
  (Works.setClear_leads _ _ _ (by decide) .refl).line_eq (ps := [.portals]) (by decide)

@[simp] theorem Works.openEpisode_line (old new : Closure) (w : Works) : (w.openEpisode old new).line = w.line :=
  (Works.openEpisode_leads _ _ _ (by decide) .refl).line_eq (ps := [.portals]) (by decide)

@[simp] theorem Works.closeEpisode_line (w : Works) : w.closeEpisode.line = w.line :=
  (Works.closeEpisode_leads _ (by decide) .refl).line_eq (ps := [.portals]) (by decide)

@[simp] theorem Works.endReopen_line (n status detail second : Nat) (results : List Nat) (w : Works) :
    (w.endReopen n status detail second results).line = w.line :=
  (Works.endReopen_leads _ _ _ _ _ _ (by decide) .refl).line_eq (ps := [.active]) (by decide)

@[simp] theorem Works.reportView_line (n : Nat) (old new : Closure) (reopening : Bool) (w : Works) :
    (w.reportView n old new reopening).line = w.line :=
  (Works.reportView_leads _ _ _ _ _ (by decide) .refl).line_eq (ps := [.reports, .water]) (by decide)

@[simp] theorem Works.attemptsBefore_line (n : Nat) (c : Closure) (w : Works) : (w.attemptsBefore n c).line = w.line :=
  (Works.attemptsBefore_leads _ _ _ (by decide) .refl).line_eq (ps := [.portals]) (by decide)

@[simp] theorem Works.dropGateGrant_line (n : Nat) (w : Works) : (w.dropGateGrant n).line = w.line :=
  (Works.dropGateGrant_leads _ _ (by decide) .refl).line_eq (ps := [.portals]) (by decide)

@[simp] theorem Works.requestGate_line (n : Nat) (w : Works) : (w.requestGate n).line = w.line :=
  (Works.requestGate_leads _ _ (by decide) .refl).line_eq (ps := [.portals]) (by decide)

@[simp] theorem Works.clearStop_line (n : Nat) (w : Works) : (w.clearStop n).line = w.line :=
  (Works.clearStop_leads _ _ (by decide) .refl).line_eq (ps := [.portals]) (by decide)

@[simp] theorem Works.takeBarrier_line (n : Nat) (img : List Byte) (w : Works) : (w.takeBarrier n img).line = w.line :=
  (Works.takeBarrier_leads _ _ _ (by decide) .refl).line_eq (ps := [.portals]) (by decide)

@[simp] theorem Works.takeGate_line (n : Nat) (img : List Byte) (w : Works) : (w.takeGate n img).line = w.line :=
  (Works.takeGate_leads _ _ _ (by decide) .refl).line_eq (ps := [.portals]) (by decide)

@[simp] theorem Works.portalLost_line (n : Nat) (w : Works) : (w.portalLost n).line = w.line :=
  (Works.portalLost_leads _ _ (by decide) .refl).line_eq (ps := [.portals]) (by decide)

@[simp] theorem Works.recomputeDepth_line (w : Works) : w.recomputeDepth.line = w.line :=
  (Works.recomputeDepth_leads _ (by decide) .refl).line_eq (ps := [.water]) (by decide)

@[simp] theorem Works.judgeDwell_line (w : Works) : w.judgeDwell.line = w.line :=
  (Works.judgeDwell_leads _ (by decide) .refl).line_eq (ps := [.water]) (by decide)

@[simp] theorem Works.judgeStageOrders_line (w : Works) : w.judgeStageOrders.line = w.line :=
  (Works.judgeStageOrders_leads _ (by decide) .refl).line_eq (ps := [.active]) (by decide)

@[simp] theorem Works.recordSource_line (old : Source) (w : Works) : (w.recordSource old).line = w.line :=
  (Works.recordSource_leads _ _ .refl).line_eq (ps := []) (by decide)

@[simp] theorem Works.setSource_line (new : Source) (w : Works) : (w.setSource new).line = w.line :=
  (Works.setSource_leads _ _ (by decide) .refl).line_eq (ps := [.budget]) (by decide)

@[simp] theorem Works.voidGrants_line (served : List Nat) (w : Works) : (w.voidGrants served).line = w.line :=
  (Works.voidGrants_leads _ _ (by decide) .refl).line_eq (ps := [.voids]) (by decide)

@[simp] theorem Works.switchboardLost_line (w : Works) : w.switchboardLost.line = w.line :=
  (Works.switchboardLost_leads _ (by decide) .refl).line_eq (ps := [.budget]) (by decide)

@[simp] theorem Works.recordValidity_line (c : Nat) (old new : Validity) (value : Nat) (w : Works) :
    (w.recordValidity c old new value).line = w.line :=
  (Works.recordValidity_leads _ _ _ _ _ .refl).line_eq (ps := []) (by decide)

@[simp] theorem Works.recordThreshold_line (c v : Nat) (t : Threshold) (w : Works) : (w.recordThreshold c v t).line = w.line :=
  (Works.recordThreshold_leads _ _ _ _ .refl).line_eq (ps := []) (by decide)

@[simp] theorem Works.riseSample_line (c v : Nat) (w : Works) : (w.riseSample c v).line = w.line :=
  (Works.riseSample_leads _ _ _ (by decide) .refl).line_eq (ps := [.water, .channels]) (by decide)

@[simp] theorem Works.comparePartner_line (c : Nat) (w : Works) : (w.comparePartner c).line = w.line :=
  (Works.comparePartner_leads _ _ (by decide) .refl).line_eq (ps := [.water, .channels]) (by decide)

@[simp] theorem Works.reading_line (t : UnitType) (img : List Byte) (k : Nat) (kind : ChannelKind) (w : Works) :
    (w.reading t img k kind).2.line = w.line :=
  (Works.reading_leads _ _ _ _ _ (by decide) .refl).line_eq (ps := [.fresh]) (by decide)

@[simp] theorem Works.pollKeys_line (u : Nat) (t : UnitType) (img : List Byte) (w : Works) : (w.pollKeys u t img).line = w.line :=
  (Works.pollKeys_leads _ _ _ _ (by decide) .refl).line_eq (ps := [.claims]) (by decide)

@[simp] theorem Works.flagKeys_line (u : Nat) (w : Works) : (w.flagKeys u).line = w.line :=
  (Works.flagKeys_leads _ _ (by decide) .refl).line_eq (ps := [.claims]) (by decide)

@[simp] theorem Works.setClaims_line (cause : ClaimCause) (l : List NewClaim) (w : Works) : (w.setClaims cause l).line = w.line :=
  (Works.setClaims_leads _ _ _ (by decide) .refl).line_eq (ps := [.claims]) (by decide)

@[simp] theorem Works.forceClaim_line (old : List Claim) (cause : ClaimCause) (n : NewClaim) (w : Works) :
    (w.forceClaim old cause n).line = w.line :=
  (Works.forceClaim_leads _ _ _ _ (by decide) .refl).line_eq (ps := [.claims]) (by decide)

@[simp] theorem Works.recordUnit_line (u : Nat) (old : RosterState) (cause : UnitCause) (w : Works) :
    (w.recordUnit u old cause).line = w.line :=
  (Works.recordUnit_leads _ _ _ _ .refl).line_eq (ps := []) (by decide)

/-! ## The line itself (R139, R140) -/

@[simp] theorem Works.addRetry_stand (u : Nat) (b : Block) (w : Works) : (w.addRetry u b).line.stand = w.line.stand := by
  unfold Works.addRetry
  split
  · rfl
  · exact Works.updRoster_stand (fun r => by split <;> rfl) u w

@[simp] theorem Works.displace_stand (e : QEntry) (w : Works) : (w.displace e).line.stand = w.line.stand := by
  unfold Works.displace
  split <;> rfl

@[simp] theorem Works.refuse_stand (e : QEntry) (w : Works) : (w.refuse e).line.stand = w.line.stand := by
  have hreq : (each e.requesters (fun r v => (if r.fate = .live then v.refusedFull r else v).addRetry e.unit r.who.block)
      w).line.stand = w.line.stand := each_stand _ _ w fun r v => by simp
  unfold Works.refuse
  dsimp only
  split
  · rw [Works.displace_stand, hreq]
  · exact (Works.displace_stand e _).trans hreq

@[simp] theorem Works.joinNew_stand (e : QEntry) (w : Works) : (w.joinNew e).2.line.stand = w.line.stand := by
  unfold Works.joinNew
  split <;> simp

@[simp] theorem Works.joinHalt_stand (e : QEntry) (w : Works) : (w.joinHalt e).2.line.stand = w.line.stand := by
  have hleave : ∀ q : QEntry, (each q.requesters (fun r v => v.setLeaves r q.req.value) w).line.stand = w.line.stand :=
    fun q => each_stand _ _ w fun r v => by simp
  unfold Works.joinHalt
  split
  · rfl
  · split
    · simp
    · split
      · simp
      · exact (Works.refuse_stand _ _).trans (hleave _)

@[simp] theorem Works.enqueue_stand (e : QEntry) (w : Works) : (w.enqueue e).2.line.stand = w.line.stand := by
  unfold Works.enqueue
  split
  · split
    · exact each_stand _ _ w fun r v => by simp
    · simp
  · split <;> simp
  · simp
  · split <;> simp

@[simp] theorem Works.request_stand (r : Request) (u out : Nat) (who : ReqFor) (w : Works) :
    (w.request r u out who).2.line.stand = w.line.stand := by
  simp [Works.request]

/-! ## Dewatering -/

@[simp] theorem Works.haltPump_stand (i : Nat) (w : Works) : (w.haltPump i).line.stand = w.line.stand := by
  unfold Works.haltPump
  split <;> simp

@[simp] theorem Works.queueStart_stand (i : Nat) (w : Works) : (w.queueStart i).line.stand = w.line.stand := by
  unfold Works.queueStart
  split <;> simp

@[simp] theorem Works.abandonStart_stand (i : Nat) (w : Works) : (w.abandonStart i).line.stand = w.line.stand := by
  unfold Works.abandonStart
  split <;> simp

@[simp] theorem Works.dismiss_stand (i : Nat) (w : Works) : (w.dismiss i).line.stand = w.line.stand := by
  unfold Works.dismiss
  repeat' split
  all_goals simp

@[simp] theorem Works.completeAll_stand (p : Active → Bool) (f : Active → Works → Works) (w : Works)
    (hf : ∀ a v, (f a v).line.stand = v.line.stand) : (w.completeAll p f).line.stand = w.line.stand := each_stand _ _ w hf

theorem Works.serveOnce_stand {si : Nat} {w v : Works} (h : w.serveOnce si = some v) : v.line.stand = w.line.stand := by
  unfold Works.serveOnce at h
  dsimp only at h
  repeat' split at h
  all_goals cases h
  all_goals simp

theorem Works.callForDemand_line {si : Nat} {w v : Works} (h : w.callForDemand si = some v) : v.line = w.line := by
  unfold Works.callForDemand at h
  split at h
  · contradiction
  · split at h
    · obtain ⟨i, _, rfl⟩ := Option.map_eq_some_iff.mp h
      simp
    · contradiction

@[simp] theorem serveLoop_stand (si k : Nat) (w : Works) : (serveLoop si k w).line.stand = w.line.stand := by
  induction k generalizing w with
  | zero => rfl
  | succ k ih =>
    unfold serveLoop
    split
    · rename_i h
      exact (ih _).trans (Works.serveOnce_stand h)
    · split
      · rename_i h
        exact (ih _).trans (congrArg Line.stand (Works.callForDemand_line h))
      · rfl

@[simp] theorem Works.serve_stand (si : Nat) (w : Works) : (w.serve si).line.stand = w.line.stand := by
  unfold Works.serve
  split <;> simp

@[simp] theorem Works.serveAll_stand (w : Works) : w.serveAll.line.stand = w.line.stand := by
  simp [Works.serveAll]

@[simp] theorem Works.judgeDemand_stand (si : Nat) (w : Works) : (w.judgeDemand si).line.stand = w.line.stand := by
  simp [Works.judgeDemand]

@[simp] theorem Works.cutoutActive_stand (si : Nat) (w : Works) : (w.cutoutActive si).line.stand = w.line.stand := by
  unfold Works.cutoutActive
  split <;> simp

@[simp] theorem Works.dutyFromStage_stand (w : Works) : w.dutyFromStage.line.stand = w.line.stand := by
  refine each_stand _ _ w fun si v => ?_
  split
  · rfl
  · simp

@[simp] theorem Works.levelChanged_stand (c : Nat) (w : Works) : (w.levelChanged c).line.stand = w.line.stand := by
  simp [Works.levelChanged]

@[simp] theorem Works.takeFloat_stand (si : Nat) (high : Bool) (v : FloatState) (w : Works) :
    (w.takeFloat si high v).line.stand = w.line.stand := by
  unfold Works.takeFloat
  split <;> simp

@[simp] theorem Works.pumpStopped_stand (i : Nat) (w : Works) : (w.pumpStopped i).line.stand = w.line.stand := by
  unfold Works.pumpStopped
  repeat' split
  all_goals simp

@[simp] theorem Works.tripPump_stand (i : Nat) (r : TripReason) (w : Works) : (w.tripPump i r).line.stand = w.line.stand := by
  unfold Works.tripPump
  split <;> simp

@[simp] theorem Works.pumpItem_stand (i : Nat) (running overload : Bool) (w : Works) :
    (w.pumpItem i running overload).line.stand = w.line.stand := by
  unfold Works.pumpItem
  repeat' split
  all_goals simp

@[simp] theorem Works.setFloat_stand (si : Nat) (high : Bool) (v : FloatState) (w : Works) :
    (w.setFloat si high v).line.stand = w.line.stand := by
  unfold Works.setFloat
  split <;> simp

@[simp] theorem Works.floatItems_stand (u : Nat) (t : UnitType) (img : List Byte) (w : Works) :
    (w.floatItems u t img).line.stand = w.line.stand := by
  simp [Works.floatItems]

@[simp] theorem Works.floatsAhead_stand (u : Nat) (t : UnitType) (img : List Byte) (w : Works) :
    (w.floatsAhead u t img).line.stand = w.line.stand := by
  simp [Works.floatsAhead]

@[simp] theorem Works.dewaterArrival_stand (u : Nat) (t : UnitType) (img : List Byte) (w : Works) :
    (w.dewaterArrival u t img).line.stand = w.line.stand := by
  simp [Works.dewaterArrival]

@[simp] theorem Works.dewaterLost_stand (u : Nat) (w : Works) : (w.dewaterLost u).line.stand = w.line.stand := by
  simp [Works.dewaterLost]

@[simp] theorem Works.abandonedExecuted_stand (i : Nat) (w : Works) : (w.abandonedExecuted i).line.stand = w.line.stand := by
  unfold Works.abandonedExecuted
  repeat' split
  all_goals simp

@[simp] theorem Works.startPairEnd_stand (i : Nat) (f : Fate) (e : PairEnd) (w : Works) :
    (w.startPairEnd i f e).line.stand = w.line.stand := by
  unfold Works.startPairEnd
  repeat' split
  all_goals simp

@[simp] theorem Works.dewaterRetry_stand (u : Nat) (w : Works) : (w.dewaterRetry u).line.stand = w.line.stand := by
  refine each_stand _ _ w fun ip v => ?_
  dsimp only
  split
  · split
    · split <;> simp
    · simp
  · rfl

@[simp] theorem Works.pumpOutage_stand (i : Nat) (w : Works) : (w.pumpOutage i).2.line.stand = w.line.stand := by
  unfold Works.pumpOutage
  repeat' split
  all_goals simp

@[simp] theorem Works.uncommandPump_stand (i : Nat) (v : ClaimValue) (w : Works) :
    (w.uncommandPump i v).line.stand = w.line.stand := by
  unfold Works.uncommandPump
  split <;> simp

@[simp] theorem Works.settlePump_stand (i : Nat) (w : Works) : (w.settlePump i).line.stand = w.line.stand := by
  unfold Works.settlePump
  repeat' split
  all_goals simp

/-! ## Lighting -/

@[simp] theorem Works.judgeRequest_stand (c : Nat) (w : Works) : (w.judgeRequest c).line.stand = w.line.stand := by
  unfold Works.judgeRequest
  repeat' split
  all_goals simp

@[simp] theorem Works.queueSet_stand (c step : Nat) (w : Works) : (w.queueSet c step).line.stand = w.line.stand := by
  unfold Works.queueSet
  dsimp only
  repeat' split
  all_goals simp

@[simp] theorem Works.judgeSet_stand (c : Nat) (w : Works) : (w.judgeSet c).line.stand = w.line.stand := by
  unfold Works.judgeSet
  split <;> simp

@[simp] theorem Works.judgeWanted_stand (c : Nat) (w : Works) : (w.judgeWanted c).line.stand = w.line.stand := by
  unfold Works.judgeWanted
  repeat' split
  all_goals simp

@[simp] theorem Works.endHold_stand (c : Nat) (w : Works) : (w.endHold c).line.stand = w.line.stand := by
  unfold Works.endHold
  repeat' split
  all_goals simp

@[simp] theorem Works.judgeShrink_stand (c : Nat) (w : Works) : (w.judgeShrink c).line.stand = w.line.stand := by
  unfold Works.judgeShrink
  repeat' split
  all_goals simp

@[simp] theorem Works.judgeCircuit_stand (c : Nat) (w : Works) : (w.judgeCircuit c).line.stand = w.line.stand := by
  simp [Works.judgeCircuit]

@[simp] theorem Works.followTarget_stand (c : Nat) (w : Works) : (w.followTarget c).line.stand = w.line.stand := by
  simp [Works.followTarget]

@[simp] theorem Works.settleCircuit_stand (c : Nat) (w : Works) : (w.settleCircuit c).line.stand = w.line.stand := by
  simp [Works.settleCircuit]

@[simp] theorem Works.followCircuits_stand (settled : List Nat) (w : Works) :
    (w.followCircuits settled).line.stand = w.line.stand := by
  refine each_stand _ _ w fun c v => ?_
  split <;> simp

@[simp] theorem Works.retarget_stand (w : Works) : w.retarget.line.stand = w.line.stand := by
  simp [Works.retarget]

@[simp] theorem Works.judgeModes_stand (w : Works) : w.judgeModes.line.stand = w.line.stand := by
  simp [Works.judgeModes]

@[simp] theorem Works.luminanceValidity_stand (ch : Nat) (valid : Bool) (w : Works) :
    (w.luminanceValidity ch valid).line.stand = w.line.stand := by
  simp [Works.luminanceValidity]

@[simp] theorem Works.luminanceSample_stand (ch v : Nat) (w : Works) : (w.luminanceSample ch v).line.stand = w.line.stand := by
  simp [Works.luminanceSample]

@[simp] theorem Works.dropLampGrant_stand (c : Nat) (w : Works) : (w.dropLampGrant c).line.stand = w.line.stand := by
  unfold Works.dropLampGrant
  repeat' split
  all_goals simp

@[simp] theorem Works.markFault_stand (c : Nat) (f : LampFlag) (code : Nat) (w : Works) :
    (w.markFault c f code).line.stand = w.line.stand := by
  unfold Works.markFault
  split <;> simp

@[simp] theorem Works.faultCircuit_stand (c : Nat) (f : LampFlag) (code : Nat) (w : Works) :
    (w.faultCircuit c f code).line.stand = w.line.stand := by
  unfold Works.faultCircuit
  split <;> simp

@[simp] theorem Works.healCircuit_stand (c : Nat) (w : Works) : (w.healCircuit c).line.stand = w.line.stand := by
  unfold Works.healCircuit
  split <;> simp

@[simp] theorem Works.judgeLampFault_stand (c : Nat) (active : Bool) (w : Works) :
    (w.judgeLampFault c active).line.stand = w.line.stand := by
  unfold Works.judgeLampFault
  repeat' split
  all_goals simp

@[simp] theorem Works.lampSetEnd_stand (c step : Nat) (f : Fate) (e : ReqEnd) (w : Works) :
    (w.lampSetEnd c step f e).line.stand = w.line.stand := by
  unfold Works.lampSetEnd
  repeat' split
  all_goals simp

@[simp] theorem Works.settleFault_stand (img : Option (List Byte)) (c : Nat) (w : Works) :
    (w.settleFault img c).line.stand = w.line.stand := by
  unfold Works.settleFault
  dsimp only
  repeat' split
  all_goals simp

@[simp] theorem Works.lampItem_stand (img : List Byte) (c : Nat) (w : Works) : (w.lampItem img c).line.stand = w.line.stand := by
  unfold Works.lampItem
  dsimp only
  repeat' split
  all_goals simp

@[simp] theorem Works.lampArrival_stand (u : Nat) (img : List Byte) (w : Works) :
    (w.lampArrival u img).line.stand = w.line.stand := by
  simp [Works.lampArrival]

@[simp] theorem Works.lightingRetry_stand (u : Nat) (w : Works) : (w.lightingRetry u).line.stand = w.line.stand := by
  simp [Works.lightingRetry]

@[simp] theorem Works.lampDark_stand (c : Nat) (w : Works) : (w.lampDark c).line.stand = w.line.stand := by
  unfold Works.lampDark
  split <;> simp

@[simp] theorem Works.lampOutage_stand (c : Nat) (w : Works) : (w.lampOutage c).2.line.stand = w.line.stand := by
  unfold Works.lampOutage
  dsimp only
  repeat' split
  all_goals simp

@[simp] theorem Works.lampOutageQueued_stand (c : Nat) (w : Works) : (w.lampOutageQueued c).line.stand = w.line.stand := by
  simp [Works.lampOutageQueued]

@[simp] theorem Works.uncommandCircuit_stand (v : ClaimValue) (c : Nat) (w : Works) :
    (w.uncommandCircuit v c).line.stand = w.line.stand := by
  unfold Works.uncommandCircuit
  dsimp only
  repeat' split
  all_goals simp

@[simp] theorem Works.uncommandZone_stand (z : Nat) (v : ClaimValue) (w : Works) :
    (w.uncommandZone z v).line.stand = w.line.stand := by
  have hend := Works.completeAll_stand (fun a => decide (a.code = .zoneSet) && a.subject == z)
    (fun a w => w.complete a.slot Status.preempted v.code 0 []) w fun a u => by simp
  simp [Works.uncommandZone, hend]

@[simp] theorem Works.settleZone_stand (reports : List (Option Nat)) (img : Option (List Byte)) (z : Nat) (w : Works) :
    (w.settleZone reports img z).line.stand = w.line.stand := by
  simp [Works.settleZone]

/-! ## The portals -/

@[simp] theorem Works.changeClosure_stand (n : Nat) (c : Closure) (w : Works) :
    (w.changeClosure n c).line.stand = w.line.stand := by
  simp [Works.changeClosure]

@[simp] theorem Works.setAspect_stand (n : Nat) (a : Aspect) (w : Works) : (w.setAspect n a).line.stand = w.line.stand := by
  simp [Works.setAspect]

@[simp] theorem Works.haltBarrier_stand (n : Nat) (w : Works) : (w.haltBarrier n).line.stand = w.line.stand := by
  simp [Works.haltBarrier]

@[simp] theorem Works.haltGate_stand (n : Nat) (stop : Bool) (w : Works) : (w.haltGate n stop).line.stand = w.line.stand := by
  simp [Works.haltGate]

@[simp] theorem Works.queueBarrier_stand (n : Nat) (m : Motion) (w : Works) : (w.queueBarrier n m).line.stand = w.line.stand := by
  simp [Works.queueBarrier]

@[simp] theorem Works.queueGate_stand (n : Nat) (m : Motion) (w : Works) : (w.queueGate n m).line.stand = w.line.stand := by
  simp [Works.queueGate]

@[simp] theorem Works.haltMoving_stand (n : Nat) (m : Motion) (w : Works) : (w.haltMoving n m).line.stand = w.line.stand := by
  simp [Works.haltMoving]

@[simp] theorem Works.dropBarrierPair_stand (n : Nat) (w : Works) : (w.dropBarrierPair n).line.stand = w.line.stand := by
  simp [Works.dropBarrierPair]

@[simp] theorem Works.abandonBarrier_stand (n : Nat) (m : Motion) (w : Works) :
    (w.abandonBarrier n m).line.stand = w.line.stand := by
  simp [Works.abandonBarrier]

@[simp] theorem Works.moveBarrier_stand (n : Nat) (m : Motion) (w : Works) : (w.moveBarrier n m).line.stand = w.line.stand := by
  simp [Works.moveBarrier]

@[simp] theorem Works.beginStop_stand (n : Nat) (w : Works) : (w.beginStop n).line.stand = w.line.stand := by
  unfold Works.beginStop
  dsimp only
  repeat' split
  all_goals simp

@[simp] theorem Works.stopGate_stand (n : Nat) (w : Works) : (w.stopGate n).line.stand = w.line.stand := by
  simp [Works.stopGate]

@[simp] theorem Works.barringGo_stand (n : Nat) (w : Works) : (w.barringGo n).2.line.stand = w.line.stand := by
  unfold Works.barringGo
  dsimp only
  repeat' split
  all_goals simp

@[simp] theorem Works.workStep_stand (n : Nat) (w : Works) : (w.workStep n).2.line.stand = w.line.stand := by
  unfold Works.workStep
  dsimp only
  repeat' split
  all_goals simp

@[simp] theorem workLoop_stand (n k : Nat) (w : Works) : (workLoop n k w).line.stand = w.line.stand := by
  induction k generalizing w with
  | zero => rfl
  | succ k ih =>
    have hstep := Works.workStep_stand n w
    unfold workLoop
    split
    · rename_i h
      rwa [h] at hstep
    · rename_i h
      rw [h] at hstep
      exact (ih _).trans ((Works.changeClosure_stand n _ _).trans hstep)

@[simp] theorem Works.work_stand (n : Nat) (w : Works) : (w.work n).line.stand = w.line.stand := by
  simp [Works.work]

@[simp] theorem Works.enter_stand (n : Nat) (c : Closure) (w : Works) : (w.enter n c).line.stand = w.line.stand := by
  simp [Works.enter]

@[simp] theorem Works.endStop_stand (n : Nat) (w : Works) : (w.endStop n).line.stand = w.line.stand := by
  simp [Works.endStop]

@[simp] theorem Works.stall_stand (n : Nat) (r : StallReason) (detail : Nat) (w : Works) :
    (w.stall n r detail).line.stand = w.line.stand := by
  simp [Works.stall]

@[simp] theorem Works.shown_stand (n : Nat) (a : Aspect) (w : Works) : (w.shown n a).line.stand = w.line.stand := by
  unfold Works.shown
  dsimp only
  split
  · rfl
  · split
    · simp
    · split
      · simp
      · have hgo := Works.barringGo_stand n (w.updSignals n (fun s => { s with shown := .red }))
        split
        · rename_i h
          rw [h] at hgo
          simpa using hgo
        · rename_i h
          rw [h] at hgo
          simpa using hgo
      · simp

@[simp] theorem Works.signalSetEnd_stand (n value : Nat) (e : ReqEnd) (w : Works) :
    (w.signalSetEnd n value e).line.stand = w.line.stand := by
  cases e <;> simp [Works.signalSetEnd]

@[simp] theorem Works.signalsAgain_stand (n : Nat) (w : Works) : (w.signalsAgain n).line.stand = w.line.stand := by
  simp [Works.signalsAgain]

@[simp] theorem Works.shutBreach_stand (n : Nat) (w : Works) : (w.shutBreach n).line.stand = w.line.stand := by
  simp [Works.shutBreach]

@[simp] theorem Works.gateUnexecuted_stand (n : Nat) (w : Works) : (w.gateUnexecuted n).line.stand = w.line.stand := by
  unfold Works.gateUnexecuted
  dsimp only
  repeat' split
  all_goals simp

@[simp] theorem Works.gateExecutedAbandoned_stand (n : Nat) (m : Motion) (w : Works) :
    (w.gateExecutedAbandoned n m).line.stand = w.line.stand := by
  simp [Works.gateExecutedAbandoned]

@[simp] theorem Works.gateRefused_stand (n : Nat) (stalls : Option Nat) (w : Works) :
    (w.gateRefused n stalls).line.stand = w.line.stand := by
  unfold Works.gateRefused
  split <;> simp

@[simp] theorem Works.gateResume_stand (n : Nat) (w : Works) : (w.gateResume n).line.stand = w.line.stand := by
  unfold Works.gateResume
  dsimp only
  split <;> simp

@[simp] theorem Works.gatePairEnd_stand (n : Nat) (m : Motion) (f : Fate) (e : PairEnd) (w : Works) :
    (w.gatePairEnd n m f e).line.stand = w.line.stand := by
  unfold Works.gatePairEnd
  repeat' split
  all_goals simp

@[simp] theorem Works.gateHaltEnd_stand (n : Nat) (stop : Bool) (f : Fate) (w : Works) :
    (w.gateHaltEnd n stop f).line.stand = w.line.stand := by
  simp [Works.gateHaltEnd]

@[simp] theorem Works.barrierAgain_stand (n : Nat) (m : Motion) (w : Works) : (w.barrierAgain n m).line.stand = w.line.stand := by
  simp [Works.barrierAgain]

@[simp] theorem Works.barrierPairEnd_stand (n : Nat) (m : Motion) (f : Fate) (e : PairEnd) (w : Works) :
    (w.barrierPairEnd n m f e).line.stand = w.line.stand := by
  unfold Works.barrierPairEnd
  repeat' split
  all_goals simp

@[simp] theorem Works.judgeBarrier_stand (n : Nat) (old : BarrierState) (own : Bool) (w : Works) :
    (w.judgeBarrier n old own).line.stand = w.line.stand := by
  unfold Works.judgeBarrier
  dsimp only
  repeat' split
  all_goals simp

@[simp] theorem Works.gateArrived_stand (n : Nat) (w : Works) : (w.gateArrived n).line.stand = w.line.stand := by
  simp [Works.gateArrived]

@[simp] theorem Works.judgeGateAuto_stand (n : Nat) (old : GateState) (own : Bool) (w : Works) :
    (w.judgeGateAuto n old own).line.stand = w.line.stand := by
  unfold Works.judgeGateAuto
  dsimp only
  split <;> simp

@[simp] theorem Works.judgeGate_stand (n : Nat) (old : GateState) (own : Bool) (w : Works) :
    (w.judgeGate n old own).line.stand = w.line.stand := by
  unfold Works.judgeGate
  split <;> simp

@[simp] theorem Works.judgeObstruction_stand (n : Nat) (w : Works) : (w.judgeObstruction n).line.stand = w.line.stand := by
  simp [Works.judgeObstruction]

@[simp] theorem Works.portalArrival_stand (n : Nat) (img : List Byte) (w : Works) :
    (w.portalArrival n img).line.stand = w.line.stand := by
  simp [Works.portalArrival]

@[simp] theorem Works.portalRetry_stand (n : Nat) (w : Works) : (w.portalRetry n).line.stand = w.line.stand := by
  unfold Works.portalRetry
  dsimp only
  repeat' split
  all_goals simp

@[simp] theorem Works.vehicleStop_stand (n : Nat) (w : Works) : (w.vehicleStop n).line.stand = w.line.stand := by
  simp [Works.vehicleStop]

@[simp] theorem Works.vehiclesChanged_stand (above : Bool) (w : Works) : (w.vehiclesChanged above).line.stand = w.line.stand := by
  simp [Works.vehiclesChanged]

@[simp] theorem Works.gateOutage_stand (n : Nat) (w : Works) : (w.gateOutage n).2.line.stand = w.line.stand := by
  unfold Works.gateOutage
  dsimp only
  repeat' split
  all_goals simp

@[simp] theorem Works.beginSequence_stand (n : Nat) (w : Works) : (w.beginSequence n).line.stand = w.line.stand := by
  simp [Works.beginSequence]

@[simp] theorem Works.portalAlert_stand (n : Nat) (w : Works) : (w.portalAlert n).line.stand = w.line.stand := by
  unfold Works.portalAlert
  split <;> simp

@[simp] theorem Works.uncommandPortal_stand (n : Nat) (v : ClaimValue) (w : Works) :
    (w.uncommandPortal n v).line.stand = w.line.stand := by
  simp [Works.uncommandPortal]

@[simp] theorem Works.haltFound_stand (n : Nat) (w : Works) : (w.haltFound n).line.stand = w.line.stand := by
  simp [Works.haltFound]

@[simp] theorem Works.reconstruct_stand (n : Nat) (w : Works) : (w.reconstruct n).line.stand = w.line.stand := by
  simp [Works.reconstruct]

@[simp] theorem Works.settlePortal_stand (n : Nat) (img : Option (List Byte)) (w : Works) :
    (w.settlePortal n img).line.stand = w.line.stand := by
  unfold Works.settlePortal
  split <;> simp

/-! ## Water watch and the supply budget -/

@[simp] theorem Works.changeStage_stand (st : Stage) (cause : StageCause) (w : Works) :
    (w.changeStage st cause).line.stand = w.line.stand := by
  simp [Works.changeStage]

@[simp] theorem Works.closure_stand (w : Works) : w.closure.line.stand = w.line.stand := by
  unfold Works.closure
  dsimp only
  split <;> simp

@[simp] theorem Works.judgeStage_stand (old : Facts) (rise : Bool) (w : Works) :
    (w.judgeStage old rise).line.stand = w.line.stand := by
  unfold Works.judgeStage
  dsimp only
  repeat' split
  all_goals simp

@[simp] theorem Works.ownerAnswer_stand (l : Load) (w : Works) : (w.ownerAnswer l).2.line.stand = w.line.stand := by
  unfold Works.ownerAnswer
  split <;> simp

@[simp] theorem Works.answerEntry_stand (i : Nat) (w : Works) : (w.answerEntry i).line.stand = w.line.stand := by
  unfold Works.answerEntry
  split <;> simp

@[simp] theorem Works.tellQueued_stand (i : Nat) (w : Works) : (w.tellQueued i).line.stand = w.line.stand := by
  unfold Works.tellQueued
  repeat' split
  all_goals simp

@[simp] theorem Works.outage_stand (w : Works) : w.outage.line.stand = w.line.stand := by
  simp [Works.outage]

@[simp] theorem Works.transfer_stand (new : Source) (w : Works) : (w.transfer new).line.stand = w.line.stand := by
  simp [Works.transfer]

@[simp] theorem Works.changeSource_stand (last : Option Source) (new : Source) (w : Works) :
    (w.changeSource last new).line.stand = w.line.stand := by
  unfold Works.changeSource
  repeat' split
  all_goals simp

@[simp] theorem Works.switchboardArrival_stand (img : List Byte) (w : Works) :
    (w.switchboardArrival img).line.stand = w.line.stand := by
  unfold Works.switchboardArrival
  split <;> simp

@[simp] theorem Works.handOn_stand (c : Nat) (old : Channel) (facts : Facts) (rise : Bool) (w : Works) :
    (w.handOn c old facts rise).line.stand = w.line.stand := by
  unfold Works.handOn
  repeat' split
  all_goals simp

@[simp] theorem Works.sample_stand (c v : Nat) (w : Works) : (w.sample c v).line.stand = w.line.stand := by
  unfold Works.sample
  split <;> simp

@[simp] theorem Works.analogItem_stand (u : Nat) (t : UnitType) (img : List Byte) (k : Nat) (w : Works) :
    (w.analogItem u t img k).line.stand = w.line.stand := by
  unfold Works.analogItem
  dsimp only
  repeat' split
  all_goals simp

@[simp] theorem Works.analogArrival_stand (u : Nat) (t : UnitType) (img : List Byte) (w : Works) :
    (w.analogArrival u t img).line.stand = w.line.stand := by
  simp [Works.analogArrival]

@[simp] theorem Works.channelLost_stand (c : Nat) (w : Works) : (w.channelLost c).line.stand = w.line.stand := by
  unfold Works.channelLost
  split <;> simp

@[simp] theorem Works.channelsLost_stand (u : Nat) (w : Works) : (w.channelsLost u).line.stand = w.line.stand := by
  simp [Works.channelsLost]

/-! ## The claims, arrivals and the ends of requests -/

@[simp] theorem Works.handClaim_stand (images : Nat → Option (List Byte)) (reports : List (Option Nat)) (joined : Bool)
    (n : NewClaim) (w : Works) : (w.handClaim images reports joined n).line.stand = w.line.stand := by
  unfold Works.handClaim
  split
  · rfl
  · dsimp only
    split
    all_goals simp
    all_goals split <;> simp

@[simp] theorem Works.takeFloats_stand (images : Nat → Option (List Byte)) (w : Works) :
    (w.takeFloats images).line.stand = w.line.stand := by
  refine each_stand _ _ w fun r v => ?_
  split <;> simp

@[simp] theorem Works.tellLosses_stand (images : Nat → Option (List Byte)) (reports : List (Option Nat)) (joined : Bool)
    (gone : List NewClaim) (w : Works) : (w.tellLosses images reports joined gone).line.stand = w.line.stand := by
  simp [Works.tellLosses]

@[simp] theorem Works.tellSettlements_stand (images : Nat → Option (List Byte)) (reports : List (Option Nat)) (joined : Bool)
    (gone back : List NewClaim) (w : Works) : (w.tellSettlements images reports joined gone back).line.stand = w.line.stand := by
  simp [Works.tellSettlements]

@[simp] theorem Works.handClaims_stand (images : Nat → Option (List Byte)) (reports : List (Option Nat)) (joined : Bool)
    (l : List NewClaim) (w : Works) : (w.handClaims images reports joined l).line.stand = w.line.stand := by
  simp [Works.handClaims]

@[simp] theorem Works.claimsLost_stand (u : Nat) (w : Works) : (w.claimsLost u).line.stand = w.line.stand := by
  simp [Works.claimsLost]

@[simp] theorem Works.judgeKeys_stand (u : Nat) (images : Nat → Option (List Byte)) (w : Works) :
    (w.judgeKeys u images).line.stand = w.line.stand := by
  simp [Works.judgeKeys]

@[simp] theorem Works.reconcile_stand (units : List Nat) (cause : ClaimCause) (images : Nat → Option (List Byte)) (w : Works) :
    (w.reconcile units cause images).line.stand = w.line.stand := by
  simp [Works.reconcile]

@[simp] theorem Works.forceReconcile_stand (u : Nat) (cause : ClaimCause) (images : Nat → Option (List Byte)) (w : Works) :
    (w.forceReconcile u cause images).line.stand = w.line.stand := by
  unfold Works.forceReconcile
  dsimp only
  split <;> simp

@[simp] theorem Works.reportPair_stand (m : Motion) (e : PairEnd) (r : Requester) (w : Works) :
    (w.reportPair m e r).line.stand = w.line.stand := by
  unfold Works.reportPair
  split <;> simp

@[simp] theorem Works.reportReq_stand (value : Nat) (e : ReqEnd) (r : Requester) (w : Works) :
    (w.reportReq value e r).line.stand = w.line.stand := by
  unfold Works.reportReq
  split <;> simp

@[simp] theorem Works.reportEntry_stand (q : QEntry) (pair : PairEnd) (req : ReqEnd) (w : Works) :
    (w.reportEntry q pair req).line.stand = w.line.stand := by
  unfold Works.reportEntry
  split <;> simp

@[simp] theorem Works.unitGone_stand (u : Nat) (stale : Bool) (w : Works) : (w.unitGone u stale).line.stand = w.line.stand := by
  simp [Works.unitGone]

@[simp] theorem Works.removeRequests_stand (u : Nat) (w : Works) : (w.removeRequests u).line.stand = w.line.stand :=
  (Works.updRoster_stand (f := fun r => { r with retry := [], selection := .none }) (fun _ => rfl) u _).trans
    (each_stand _ (fun q v => v.reportEntry q .removed .removed) _ fun q v => Works.reportEntry_stand q _ _ v)

@[simp] theorem Works.setSelection_stand (u : Nat) (s : Selection) (w : Works) :
    (w.setSelection u s).line.stand = w.line.stand :=
  Works.updRoster_stand (f := fun r => { r with selection := s }) (fun _ => rfl) u w

@[simp] theorem Works.handInputs_stand (u : Nat) (t : UnitType) (img : List Byte) (w : Works) :
    (w.handInputs u t img).line.stand = w.line.stand := by
  unfold Works.handInputs
  repeat' split
  all_goals simp

@[simp] theorem Works.retryNotices_stand (u : Nat) (w : Works) : (w.retryNotices u).line.stand = w.line.stand := by
  unfold Works.retryNotices
  split
  · rfl
  · refine (each_stand _ _ _ fun b v => ?_).trans
      (Works.updRoster_stand (f := fun r => { r with retry := [] }) (fun _ => rfl) u w)
    split <;> simp

@[simp] theorem Works.deselect_stand (u : Nat) (w : Works) : (w.deselect u).line.stand = w.line.stand := by
  simp [Works.deselect]

@[simp] theorem Works.reportEnd_stand (k : ExKind) (u : Nat) (good : Option (Option Nat)) (w : Works) :
    (w.reportEnd k u good).line.stand = w.line.stand := by
  unfold Works.reportEnd
  cases k with
  | selectOf e =>
    dsimp only
    split
    · exact Works.setSelection_stand u .selected w
    · simp
    · simp
  | operateOf e =>
    dsimp only
    split <;> simp
  | _ => simp

@[simp] theorem Works.claimsResponse_stand (x : Exchange) (t : UnitType) (was : RosterState) (st : Status4)
    (img : Option (List Byte)) (w : Works) : (w.claimsResponse x t was st img).line.stand = w.line.stand := by
  unfold Works.claimsResponse
  split <;> simp

end Sys2Proof.Machine

namespace Sys2Proof.Machine

open Sys2Proof

/-! # The roster, and the claims of a unit that joins (R126, R134, R135) -/

/-! ## The entry of a unit -/

section Roster

variable {w v : Works} {u : Nat} {r : RosterEntry}

theorem Works.rosterEntry_updRoster {f : RosterEntry → RosterEntry} (hf : ∀ r, (f r).address = r.address) (u : Nat) (w : Works) :
    (w.updRoster u f).rosterEntry u = (w.rosterEntry u).map f := by
  change (w.line.roster.map fun r => if r.address = u then f r else r).find? _ = _
  have haddr : (fun r : RosterEntry => r.address == u) ∘ (fun r => if r.address = u then f r else r) =
      fun r => r.address == u := by
    funext r
    simp only [Function.comp_apply]
    split <;> simp [*]
  rw [List.find?_map, haddr]
  refine Option.map_congr fun r hr => if_pos ?_
  simpa using List.find?_some hr

theorem Works.rosterEntry_updRoster_of {f : RosterEntry → RosterEntry} (hf : ∀ r, (f r).address = r.address)
    (hr : w.rosterEntry u = some r) : (w.updRoster u f).rosterEntry u = some (f r) := by
  rw [Works.rosterEntry_updRoster hf, hr, Option.map_some]

theorem Works.rosterEntry_congr (h : v.line = w.line) (u : Nat) : v.rosterEntry u = w.rosterEntry u :=
  congrArg (fun l : Line => l.roster.find? fun r : RosterEntry => r.address == u) h

/-- What the blocks leave of the line names each unit. -/
theorem Line.stand_entry (l : Line) (u : Nat) :
    l.stand.2.find? (fun r => r.address == u) = (l.roster.find? fun r => r.address == u).map RosterEntry.polled :=
  List.find?_map ..

theorem Works.entry_of_stand (h : v.line.stand = w.line.stand) (hr : w.rosterEntry u = some r) :
    ∃ q, v.rosterEntry u = some q ∧ q.polled = r.polled := by
  have hv := v.line.stand_entry u
  rw [h, w.line.stand_entry u] at hv
  change (w.rosterEntry u).map _ = (v.rosterEntry u).map _ at hv
  rw [hr, Option.map_some, eq_comm, Option.map_eq_some_iff] at hv
  exact hv

theorem Works.exchange_of_stand (h : v.line.stand = w.line.stand) (hx : w.line.exchange = none) : v.line.exchange = none := by
  have hsome : v.line.exchange.isSome = w.line.exchange.isSome := congrArg Prod.fst h
  rwa [hx, Option.isSome_none, Option.isSome_eq_false_iff, Option.isNone_iff_eq_none] at hsome

end Roster

/-! ## An exchange that ends -/

/-- `v` comes from `w` by operations that leave station time and the station's record, and `r` is what the polls tell there of
unit `u`. -/
structure Works.Tells (w : Works) (u : Nat) (r : RosterEntry) (v : Works) : Prop where
  leads : Works.Leads Part.all w v
  entry : ∃ q, v.rosterEntry u = some q ∧ q.polled = r.polled

/-- The same, and the line is free. -/
structure Works.Frees (w : Works) (u : Nat) (r : RosterEntry) (v : Works) : Prop extends Works.Tells w u r v where
  free : v.line.exchange = none

section Ends

variable {w v t : Works} {u : Nat} {r : RosterEntry}

/-- Operations of the blocks keep what the polls tell. -/
theorem Works.Tells.keep (h : w.Tells u r v) (hl : Works.Leads Part.all v t) (hs : t.line.stand = v.line.stand) : w.Tells u r t := by
  obtain ⟨q, hq, hqr⟩ := h.entry
  obtain ⟨q', hq', hqq⟩ := Works.entry_of_stand hs hq
  exact ⟨h.leads.trans hl, q', hq', hqq.trans hqr⟩

theorem Works.Frees.keep (h : w.Frees u r v) (hl : Works.Leads Part.all v t) (hs : t.line.stand = v.line.stand) : w.Frees u r t :=
  ⟨h.toTells.keep hl hs, Works.exchange_of_stand hs h.free⟩

theorem Works.Tells.freeLine (h : w.Tells u r v) (k : ExKind) : w.Frees u r (v.freeLine k).2 :=
  ⟨⟨h.leads.trans (Works.freeLine_leads k v (by decide) .refl), h.entry⟩, rfl⟩

end Ends

/-! ## The claims of a unit that joins -/

section Claims

variable {w : Works} {c : Claim} {k : Nat} {cause : ClaimCause}

theorem posOf_subject {l : List Claim} (hn : (l.map Claim.subject).Nodup) (hc : l[k]? = some c) :
    posOf (fun d : Claim => decide (d.subject = c.subject)) l = some k := by
  induction l generalizing k with
  | nil => cases hc
  | cons d l ih =>
    rw [List.map_cons, List.nodup_cons] at hn
    cases k with
    | zero =>
      obtain rfl : d = c := by simpa using hc
      simp [posOf]
    | succ k =>
      have hne : d.subject ≠ c.subject := fun h => hn.1 (h ▸ List.mem_map_of_mem (List.mem_of_getElem? hc))
      simp [posOf, hne, ih hn.2 hc]

/-- A value set, with its record. -/
theorem Works.setClaim_eq (hn : (w.claims.map Claim.subject).Nodup) (hc : w.claims[k]? = some c) (v : ClaimValue)
    (slot : Option Nat) (cause : ClaimCause) (d : Nat) : w.setClaim c.subject v slot cause d =
      ({ w with claims := updAt (fun c => { c with value := v, slot := slot, changed := w.now }) k w.claims } : Works).record
        .claim k (some c.value.code) (some v.code) [cause.code, d, c.unit, w.unitStateCode c.unit] false := by
  simp only [Works.setClaim, posOf_subject hn hc, hc]
  rfl

theorem Works.setClaim_other {s : ClaimSubject} (hs : s ≠ c.subject) (hc : w.claims[k]? = some c) (v : ClaimValue)
    (slot : Option Nat) (cause : ClaimCause) (d : Nat) : (w.setClaim s v slot cause d).claims[k]? = some c := by
  unfold Works.setClaim
  split
  · exact hc
  · next j hj =>
    obtain ⟨b, hb, hbs⟩ := getElem?_of_posOf hj
    have hkj : k ≠ j := by
      rintro rfl
      obtain rfl : c = b := by simpa [hc] using hb
      exact hs (of_decide_eq_true hbs).symm
    simp only [hb]
    exact (getElem?_updAt_ne hkj).trans hc

theorem Works.setClaim_subjects (s : ClaimSubject) (v : ClaimValue) (slot : Option Nat) (cause : ClaimCause) (d : Nat) (w : Works) :
    (w.setClaim s v slot cause d).claims.map Claim.subject = w.claims.map Claim.subject := by
  have hupd (f : Claim → Claim) (hf : ∀ c, (f c).subject = c.subject) (j : Nat) (l : List Claim) :
      (updAt f j l).map Claim.subject = l.map Claim.subject := by
    induction l generalizing j with
    | nil => cases j <;> rfl
    | cons a l ih => cases j <;> simp [updAt, hf, ih]
  unfold Works.setClaim
  split
  · rfl
  · split
    · rfl
    · exact hupd (fun c => { c with value := v, slot := slot, changed := w.now }) (fun _ => rfl) _ _

@[simp] theorem Works.setClaim_line (s : ClaimSubject) (v : ClaimValue) (slot : Option Nat) (cause : ClaimCause) (d : Nat)
    (w : Works) : (w.setClaim s v slot cause d).line = w.line :=
  (Works.setClaim_leads _ _ _ _ _ _ (by decide) .refl).line_eq (ps := [.claims]) (by decide)

theorem Works.unitStateCode_congr {v : Works} (h : v.line = w.line) (u : Nat) : v.unitStateCode u = w.unitStateCode u := by
  simp only [Works.unitStateCode, Works.unitState, Works.rosterEntry_congr h]

/-- Values of other subjects leave a claim. -/
theorem Works.setClaims_other {l : List NewClaim} (hl : ∀ n ∈ l, n.subject ≠ c.subject) (hc : w.claims[k]? = some c) :
    (w.setClaims cause l).claims[k]? = some c :=
  each_induction (P := fun v : Works => v.claims[k]? = some c) hc fun n hn _ hv => Works.setClaim_other (hl n hn) hv _ _ _ _

/-- A claim has taken a value from `w` to `v`, and has its record. -/
def Works.takesValue (w v : Works) (k : Nat) (c : Claim) (x : ClaimValue) (cause : ClaimCause) : Prop :=
  v.claims[k]? = some { c with value := x, slot := none, changed := w.now } ∧
    v.recorded .claim k (some c.value.code) (some x.code) [cause.code, absent16, c.unit, w.unitStateCode c.unit] false

/-- Each subject of the list takes its value (R126, R128). -/
theorem Works.setClaims_takes {l : List NewClaim} {n : NewClaim} (hw : (w.claims.map Claim.subject).Nodup)
    (hl : (l.map NewClaim.subject).Nodup) (hn : n ∈ l) (hs : n.subject = c.subject) (hc : w.claims[k]? = some c) :
    w.takesValue (w.setClaims cause l) k c n.value cause := by
  induction l generalizing w with
  | nil => cases hn
  | cons m l ih =>
    rw [List.map_cons, List.nodup_cons] at hl
    have htail : w.setClaims cause (m :: l) = (w.setClaim m.subject m.value none cause absent16).setClaims cause l := rfl
    obtain rfl | hmem := List.mem_cons.mp hn
    · have hset := Works.setClaim_eq hw hc n.value none cause absent16
      rw [← hs] at hset
      rw [htail, hset]
      refine ⟨Works.setClaims_other (fun m hm h => hl.1 (hs.trans h.symm ▸ List.mem_map_of_mem hm)) ?_, ?_⟩
      · exact getElem?_updAt_self hc
      · exact (Works.setClaims_leads (ps := [.claims]) cause l _ (by decide) .refl).recorded (by decide)
          (Works.recorded_record ..)
    · have hne : m.subject ≠ c.subject := fun h => hl.1 (h.trans hs.symm ▸ List.mem_map_of_mem hmem)
      have htake := ih (w := w.setClaim m.subject m.value none cause absent16)
        (by rwa [Works.setClaim_subjects]) hl.2 hmem (Works.setClaim_other hne hc _ _ _ _)
      have hnow : (w.setClaim m.subject m.value none cause absent16).now = w.now :=
        (Works.setClaim_leads (ps := [.claims]) _ _ _ _ _ _ (by decide) .refl).now_eq
      rw [htail]
      simpa only [Works.takesValue, hnow, Works.unitStateCode_congr (Works.setClaim_line ..)] using htake

/-- The records that the handing of a change leaves alone: the claims, and no notice is taken back. -/
def Part.ofHanding : List Part := [.dewater, .portals, .lights, .active, .reports, .water, .budget, .line]

theorem Works.handClaims_only (images : Nat → Option (List Byte)) (reports : List (Option Nat)) (joined : Bool)
    (l : List NewClaim) (w : Works) : Works.Leads Part.ofHanding w (w.handClaims images reports joined l) :=
  Works.handClaims_leads _ _ _ _ _ (by decide) .refl

theorem Works.takesValue.handed {v : Works} {x : ClaimValue} (h : w.takesValue v k c x cause) {t : Works}
    (hc : t.claims = v.claims) (hr : ∀ {a b d}, v.recorded .claim k a b d false → t.recorded .claim k a b d false) :
    w.takesValue t k c x cause :=
  ⟨hc ▸ h.1, hr h.2⟩

/-- R126: the claims of the units reconciled take what their key views give, the others stand. -/
theorem Works.reconcile_claims (hw : (w.claims.map Claim.subject).Nodup) (hc : w.claims[k]? = some c) (units : List Nat)
    (cause : ClaimCause) (images : Nat → Option (List Byte)) :
    (c.unit ∉ units → (w.reconcile units cause images).claims[k]? = some c) ∧
    (c.unit ∈ units → w.takesValue (w.reconcile units cause images) k c c.joined.value cause) := by
  have hmem : c ∈ w.claims := List.mem_of_getElem? hc
  unfold Works.reconcile
  dsimp only
  split
  · next hnil =>
    refine ⟨fun _ => hc, fun hu => ?_⟩
    simp only [List.isEmpty_iff, List.map_eq_nil_iff, List.filter_eq_nil_iff] at hnil
    exact absurd (by simpa using hu) (hnil c hmem)
  · have hleads (l : List NewClaim) (v : Works) := Works.handClaims_only images (v.lampReports images) true l v
    rw [(hleads _ _).claims_eq (by decide)]
    refine ⟨fun hu => Works.setClaims_other (fun n hn hs => ?_) hc, fun hu => ?_⟩
    · obtain ⟨d, hd, rfl⟩ := List.mem_map.mp hn
      obtain ⟨hdw, hdu⟩ := List.mem_filter.mp hd
      obtain rfl : d = c := List.inj_on_of_nodup_map hw hdw hmem hs
      exact hu (by simpa using hdu)
    · refine (Works.setClaims_takes hw ?_ (List.mem_map_of_mem (List.mem_filter.mpr ⟨hmem, by simpa using hu⟩)) rfl hc).handed
        ((hleads _ _).claims_eq (by decide)) ((hleads _ _).recorded (by decide))
      rw [List.map_map]
      exact hw.sublist (List.filter_sublist.map _)

end Claims

end Sys2Proof.Machine

namespace Sys2Proof.Machine

open Sys2Proof

/-! # Good responses and misses (R134 to R136, Table 7-4) -/

/-! ## Records through the inputs of a response -/

section Inputs

variable {w : Works} {k : JournalKind} {n : Nat} {a b : Option Nat} {d : List Nat} {f : Bool}

/-- An outage takes back grant notices, and no record (log 12). -/
theorem Works.recorded_outage (h : w.recorded k n a b d f) : w.outage.recorded k n a b d f := by
  have hdark : w.darkened.recorded k n a b d f := (Works.setBudgetState_only _ _).recorded (by decide)
    ((Works.recordSource_leads (ps := []) _ _ .refl).recorded (by decide) h)
  obtain ⟨q, hq⟩ := w.outage_eq
  rw [hq]
  exact (tellAll_leads _ (w.outageAnswered.setQueue q)).recorded (by decide)
    (w.outageAnswered_leads.recorded (by decide) (Works.voidGrants_recorded (servedIn w.budget) hdark))

theorem Works.recorded_setSource (new : Source) (h : w.recorded k n a b d f) : (w.setSource new).recorded k n a b d f :=
  (Works.setSource_leads (ps := [.budget]) new w (by decide) .refl).recorded (by decide) h

theorem Works.recorded_transfer (new : Source) (h : w.recorded k n a b d f) : (w.transfer new).recorded k n a b d f := by
  unfold Works.transfer
  split
  · exact Works.recorded_outage h
  · exact Works.recorded_setSource new (Works.recorded_outage h)

theorem Works.recorded_changeSource (last : Option Source) (new : Source) (h : w.recorded k n a b d f) :
    (w.changeSource last new).recorded k n a b d f := by
  unfold Works.changeSource
  split
  · exact Works.recorded_transfer new h
  · exact Works.recorded_transfer new h
  · exact Works.recorded_setSource new h
  · split
    · split
      · exact Works.recorded_outage h
      · exact Works.recorded_setSource new h
    · split
      · exact Works.recorded_setSource new h
      · exact Works.recorded_transfer new h

theorem Works.recorded_switchboardArrival (img : List Byte) (h : w.recorded k n a b d f) :
    (w.switchboardArrival img).recorded k n a b d f := by
  unfold Works.switchboardArrival
  split
  · exact h
  · dsimp only
    split
    · exact (Works.recapacity_leads (ps := [.budget]) _ (by decide) .refl).recorded (by decide) h
    · exact Works.recorded_changeSource _ _ h

/-- The inputs of an image but for those of the switchboard. -/
def Works.handOthers (u : Nat) (t : UnitType) (img : List Byte) (w : Works) : Works :=
  let w := w.analogArrival u t img
  let w := match t with
    | .pumpRoom => w.dewaterArrival u t img
    | .sensor => w.floatItems u t img
    | _ => w
  match t with
  | .portal => each (w.portalsOn u) (fun n (w : Works) => w.portalArrival n img) w
  | .lamp => w.lampArrival u img
  | _ => w

theorem Works.handInputs_eq (u : Nat) (t : UnitType) (img : List Byte) (w : Works) : w.handInputs u t img =
    if (w.handOthers u t img).isSwitchboard u then (w.handOthers u t img).switchboardArrival img
    else w.handOthers u t img := rfl

theorem Works.handOthers_leads (u : Nat) (t : UnitType) (img : List Byte) (w : Works) :
    Works.Leads Part.kept w (w.handOthers u t img) := by
  have hanalog : Works.Leads Part.kept w (w.analogArrival u t img) := Works.analogArrival_leads _ _ _ _ (by decide) .refl
  unfold Works.handOthers
  cases t with
  | portal => exact each_leads _ _ _ (fun _ _ h => Works.portalArrival_leads _ _ _ (by decide) h) hanalog
  | lamp => exact Works.lampArrival_leads _ _ _ (by decide) hanalog
  | pumpRoom => exact Works.dewaterArrival_leads _ _ _ _ (by decide) hanalog
  | sensor => exact Works.floatItems_leads _ _ _ _ (by decide) hanalog
  | switchboard => exact hanalog

theorem Works.recorded_handInputs (u : Nat) (t : UnitType) (img : List Byte) (h : w.recorded k n a b d f) :
    (w.handInputs u t img).recorded k n a b d f := by
  have hothers := (w.handOthers_leads u t img).recorded (by decide) h
  rw [Works.handInputs_eq]
  split
  · exact Works.recorded_switchboardArrival img hothers
  · exact hothers

theorem Works.handInputs_claims (u : Nat) (t : UnitType) (img : List Byte) (w : Works) :
    (w.handInputs u t img).claims = w.claims :=
  (Works.handInputs_leads (ps := [.dewater, .portals, .lights, .active, .reports, .fresh, .water, .channels, .budget, .line, .voids])
    u t img w (by decide) .refl).claims_eq (by decide)

end Inputs

/-! ## The line error of a unit (R134) -/

section Errors

variable {w : Works} {x : Exchange} {r : RosterEntry}

theorem Works.lineError_entry (hr : w.rosterEntry x.unit = some r) (e : LineError) (st : RosterState) :
    (w.lineError x e st).rosterEntry x.unit = some { r with lastError := some e } := by
  have hset : (w.updRoster x.unit fun r => { r with lastError := some e }).rosterEntry x.unit = some { r with lastError := some e } :=
    Works.rosterEntry_updRoster_of (f := fun r => { r with lastError := some e }) (fun _ => rfl) hr
  unfold Works.lineError
  rw [hr]
  dsimp only
  split
  · exact hset
  · exact hset

theorem Works.lineError_recorded (hr : w.rosterEntry x.unit = some r) (hn : r.lastError = none) (e : LineError) (st : RosterState) :
    (w.lineError x e st).recorded .lineError x.unit none none
      [LineError.code (some e), LineError.unitCode (some e), x.cmd.code, st.code] false := by
  unfold Works.lineError
  rw [hr]
  dsimp only
  rw [hn]
  exact Works.recorded_record ..

theorem Works.lineError_only (x : Exchange) (e : LineError) (st : RosterState) (w : Works) :
    Works.Leads [.line] w (w.lineError x e st) := Works.lineError_leads x e st w (by decide) .refl

theorem Works.recordUnit_recorded (hr : w.rosterEntry x.unit = some r) (old : RosterState) (cause : UnitCause) :
    (w.recordUnit x.unit old cause).recorded .unit x.unit (some old.code) (some r.state.code)
      [r.type.code, r.missCount, LineError.code r.lastError, cause.code] (decide (r.state = .lost)) := by
  unfold Works.recordUnit
  rw [hr]
  exact Works.recorded_record ..

end Errors

/-! ## A good response (R136) -/

/-- A unit that answered well: PRESENT, heard of now. -/
def RosterEntry.answered (now : Nat) (r : RosterEntry) : RosterEntry :=
  { r with state := .present, missCount := 0, lastGood := some now }

/-- The roster at a good response of a unit in a given state, and its UNIT record where it was not in hand. -/
def Works.marked (u : Nat) (was : RosterState) (w : Works) : Works :=
  let v := w.updRoster u (fun r => { r with state := .present, missCount := 0, lastGood := some w.now })
  if was.inHand then v else v.recordUnit u was .goodResponse

/-- A good response up to the line: the roster, the claims, and the inputs of the image if there is one. -/
def Works.answered (x : Exchange) (r : RosterEntry) (st : Status4) (img : Option (List Byte)) (w : Works) : Works :=
  let w := (w.marked x.unit r.state).claimsResponse x r.type r.state st img
  match img with
  | some i => w.handInputs x.unit r.type i
  | none => w

/-- The line is free, and the end of what the exchange served is reported. -/
def Works.reported (x : Exchange) (good : Option (Option Nat)) (w : Works) : Works :=
  (w.freeLine x.kind).2.reportEnd (w.freeLine x.kind).1 x.unit good

section Good

variable {w : Works} {x : Exchange} {r q : RosterEntry} {st : Status4}

theorem Works.goodResponse_of_poll (hr : w.rosterEntry x.unit = some r) (hx : x.cmd = .poll) (he : st.error = false)
    (data : List Byte) : w.goodResponse x st data =
      ((w.answered x r st (some data)).reported x (some none)).retryNotices x.unit := by
  simp only [Works.goodResponse, hr, hx, he]
  rfl

theorem Works.goodResponse_of_fine (hr : w.rosterEntry x.unit = some r) (hx : x.cmd ≠ .poll) (he : st.error = false)
    (data : List Byte) : w.goodResponse x st data = (w.answered x r st none).reported x (some none) := by
  simp only [Works.goodResponse, hr, hx, he]
  rfl

theorem Works.goodResponse_of_error (hr : w.rosterEntry x.unit = some r) (hx : x.cmd ≠ .poll) (he : st.error = true) (b : Byte)
    (d : List Byte) : w.goodResponse x st (b :: d) =
      ((w.lineError x (.unitError b.toNat) .present).answered x r st none).reported x (some (some b.toNat)) := by
  simp only [Works.goodResponse, hr, hx, he, Works.errorCode]
  rfl

theorem Works.marked_leads (u : Nat) (was : RosterState) (w : Works) : Works.Leads [.line] w (w.marked u was) :=
  have hupd := Works.updRoster_leads u (fun r => { r with state := .present, missCount := 0, lastGood := some w.now }) w
    (ps := [.line]) (by decide) .refl
  ite_leads hupd (Works.recordUnit_leads _ _ _ _ hupd)

theorem Works.marked_entry (hr : w.rosterEntry x.unit = some q) (was : RosterState) :
    (w.marked x.unit was).rosterEntry x.unit = some (q.answered w.now) := by
  have hset : (w.updRoster x.unit (RosterEntry.answered w.now)).rosterEntry x.unit = some (q.answered w.now) :=
    Works.rosterEntry_updRoster_of (fun _ => rfl) hr
  unfold Works.marked
  dsimp only
  split
  · exact hset
  · exact (Works.rosterEntry_congr (Works.recordUnit_line ..) _).trans hset

theorem Works.marked_recorded (hr : w.rosterEntry x.unit = some q) {was : RosterState} (hw : was.inHand = false) :
    (w.marked x.unit was).recorded .unit x.unit (some was.code) (some 1) [q.type.code, 0, LineError.code q.lastError, 2] false := by
  unfold Works.marked
  dsimp only
  rw [hw]
  exact Works.recordUnit_recorded (r := q.answered w.now) (Works.rosterEntry_updRoster_of (fun _ => rfl) hr) was .goodResponse

theorem Works.answered_leads (x : Exchange) (r : RosterEntry) (st : Status4) (img : Option (List Byte)) (w : Works) :
    Works.Leads Part.all w (w.answered x r st img) := by
  have hclaims : Works.Leads Part.all w ((w.marked x.unit r.state).claimsResponse x r.type r.state st img) :=
    Works.claimsResponse_leads _ _ _ _ _ _ (by decide) ((Works.marked_leads _ _ w).mono (by decide))
  unfold Works.answered
  cases img with
  | none => exact hclaims
  | some i => exact Works.handInputs_leads _ _ _ _ (by decide) hclaims

/-- Without an image no notice is taken back. -/
theorem Works.answered_kept (x : Exchange) (r : RosterEntry) (st : Status4) (w : Works) :
    Works.Leads Part.kept w (w.answered x r st none) :=
  Works.claimsResponse_leads x r.type r.state st none _ (by decide) ((Works.marked_leads _ _ w).mono (by decide))

theorem Works.answered_stand (x : Exchange) (r : RosterEntry) (st : Status4) (img : Option (List Byte)) (w : Works) :
    (w.answered x r st img).line.stand = (w.marked x.unit r.state).line.stand := by
  unfold Works.answered
  cases img with
  | none => simp
  | some i => simp

/-- A good response leaves its unit PRESENT. -/
theorem Works.answered_tells (hr : w.rosterEntry x.unit = some q) (r : RosterEntry) (st : Status4) (img : Option (List Byte)) :
    w.Tells x.unit (q.answered w.now) (w.answered x r st img) := by
  obtain ⟨p, hp, hpq⟩ := Works.entry_of_stand (w.answered_stand x r st img) (Works.marked_entry hr r.state)
  exact ⟨w.answered_leads x r st img, p, hp, hpq⟩

theorem Works.reported_leads (x : Exchange) (good : Option (Option Nat)) (w : Works) :
    Works.Leads Part.ofHanding w (w.reported x good) :=
  Works.reportEnd_leads _ _ _ _ (by decide) (Works.freeLine_leads _ _ (by decide) .refl)

/-- The end of the exchange keeps what the polls tell, and frees the line. -/
theorem Works.Tells.reported {v : Works} {u : Nat} (h : w.Tells u r v) (x : Exchange) (good : Option (Option Nat)) :
    w.Frees u r (v.reported x good) :=
  (h.freeLine x.kind).keep (Works.reportEnd_leads _ _ _ _ (by decide) .refl) (Works.reportEnd_stand ..)

/-- The retry notices follow the end. -/
theorem Works.Frees.retried {v : Works} {u : Nat} (h : w.Frees u r v) (u' : Nat) : w.Frees u r (v.retryNotices u') :=
  h.keep (Works.retryNotices_leads _ _ (by decide) .refl) (Works.retryNotices_stand u' v)

end Good

/-! ## A miss (Table 7-4, R137) -/

/-- A miss has been told and counted. -/
def Works.noted (x : Exchange) (e : LineError) (r : RosterEntry) (w : Works) : Works :=
  (w.lineError x e r.afterMiss.state).updRoster x.unit RosterEntry.afterMiss

/-- A unit that was lost leaves its jobs and the line queue. -/
def Works.dropped (u : Nat) (r : RosterEntry) (w : Works) : Works :=
  if decide (r.afterMiss.state = .lost) && !decide (r.state = .lost) then
    ((w.recordUnit u r.state .misses).unitGone u true).removeRequests u
  else w

section Missed

variable {w : Works} {x : Exchange} {e : LineError} {r : RosterEntry}

theorem Works.missed_eq (hr : w.rosterEntry x.unit = some r) (e : LineError) :
    w.missed x e = ((w.noted x e r).dropped x.unit r).reported x none := by
  simp only [Works.missed, hr]
  rfl

theorem Works.noted_entry (hr : w.rosterEntry x.unit = some r) (e : LineError) :
    (w.noted x e r).rosterEntry x.unit = some ({ r with lastError := some e } : RosterEntry).afterMiss :=
  Works.rosterEntry_updRoster_of (f := RosterEntry.afterMiss)
    (fun r => by unfold RosterEntry.afterMiss; repeat' split
                 all_goals rfl) (Works.lineError_entry hr e _)

theorem Works.noted_leads (x : Exchange) (e : LineError) (r : RosterEntry) (w : Works) :
    Works.Leads Part.kept w (w.noted x e r) :=
  Works.updRoster_leads _ _ _ (by decide) ((Works.lineError_only x e _ w).mono (by decide))

theorem Works.dropped_leads (u : Nat) (r : RosterEntry) (w : Works) : Works.Leads Part.kept w (w.dropped u r) :=
  ite_leads (Works.removeRequests_leads _ _ (by decide) (Works.unitGone_leads _ _ _ (by decide)
    (Works.recordUnit_leads _ _ _ _ .refl))) .refl

theorem Works.dropped_stand (u : Nat) (r : RosterEntry) (w : Works) : (w.dropped u r).line.stand = w.line.stand := by
  simp [Works.dropped]

/-- A miss counts, and the line is free. -/
theorem Works.missed_frees (hr : w.rosterEntry x.unit = some r) (e : LineError) :
    w.Frees x.unit ({ r with lastError := some e } : RosterEntry).afterMiss (w.missed x e) := by
  have hnoted : w.Tells x.unit ({ r with lastError := some e } : RosterEntry).afterMiss (w.noted x e r) :=
    ⟨(w.noted_leads x e r).mono (by decide), _, Works.noted_entry hr e, rfl⟩
  rw [Works.missed_eq hr]
  exact (hnoted.keep ((Works.dropped_leads _ _ _).mono (by decide)) (Works.dropped_stand _ _ _)).reported x none

theorem RosterEntry.afterMiss_withError (r : RosterEntry) (e : Option LineError) :
    ({ r with lastError := e } : RosterEntry).afterMiss = { r.afterMiss with lastError := e } := by
  unfold RosterEntry.afterMiss
  dsimp only
  repeat' split
  all_goals rfl

theorem RosterEntry.afterMiss_type (r : RosterEntry) : r.afterMiss.type = r.type := by
  unfold RosterEntry.afterMiss
  repeat' split
  all_goals rfl

theorem Works.missed_leads_noted (hr : w.rosterEntry x.unit = some r) (e : LineError) :
    Works.Leads Part.kept (w.noted x e r) (w.missed x e) := by
  rw [Works.missed_eq hr]
  exact (Works.dropped_leads _ _ _).trans ((Works.reported_leads _ _ _).mono (by decide))

/-- The first miss leaves a LINE_ERROR record. -/
theorem Works.missed_errorRecord (hr : w.rosterEntry x.unit = some r) (hn : r.lastError = none) (e : LineError) :
    (w.missed x e).recorded .lineError x.unit none none
      [LineError.code (some e), LineError.unitCode (some e), x.cmd.code, r.afterMiss.state.code] false :=
  (Works.missed_leads_noted hr e).recorded (by decide) (Works.lineError_recorded hr hn e _)

/-- A unit that a miss loses has its UNIT record. -/
theorem Works.missed_unitRecord (hr : w.rosterEntry x.unit = some r) (hl : r.afterMiss.state = .lost) (hs : r.state ≠ .lost)
    (e : LineError) : (w.missed x e).recorded .unit x.unit (some r.state.code) (some 3)
      [r.type.code, r.afterMiss.missCount, LineError.code (some e), 1] true := by
  have hrec := Works.recordUnit_recorded (Works.noted_entry hr e) r.state .misses
  rw [RosterEntry.afterMiss_withError] at hrec
  simp only [RosterEntry.afterMiss_type, hl] at hrec
  rw [Works.missed_eq hr, Works.dropped, if_pos (by simp [hl, hs])]
  exact (Works.reported_leads x none _).recorded (by decide) ((Works.removeRequests_leads (ps := Part.kept) _ _ (by decide)
    (Works.unitGone_leads _ _ _ (by decide) .refl)).recorded (by decide) hrec)

end Missed

/-! ## A response of the roll call (R144) -/

/-- A unit that the roll call heard. -/
def RosterEntry.heardWith (now : Nat) (img : List Byte) (r : RosterEntry) : RosterEntry :=
  { r with heard := true, missCount := 0, lastGood := some now, held := some img }

theorem Works.rollGood_frees {w : Works} {x : Exchange} {r : RosterEntry} {st : Status4} (hr : w.rosterEntry x.unit = some r)
    (he : st.error = false) (data : List Byte) :
    w.Frees x.unit (r.heardWith w.now data) (w.rollGood x st data) := by
  have hset : w.Tells x.unit (r.heardWith w.now data) (w.updRoster x.unit (RosterEntry.heardWith w.now data)) :=
    ⟨Works.updRoster_leads _ _ _ (by decide) .refl, _, Works.rosterEntry_updRoster_of (fun _ => rfl) hr, rfl⟩
  have heq : w.rollGood x st data =
      (let v := ((w.updRoster x.unit (RosterEntry.heardWith w.now data)).pollKeys x.unit r.type data).analogArrival x.unit r.type data
       ((if v.isSwitchboard x.unit then v.switchboardArrival data else v).freeLine x.kind).2) := by
    simp only [Works.rollGood, hr, he]
    rfl
  rw [heq]
  refine Works.Tells.freeLine (hset.keep ?_ (by simp)) x.kind
  have hanalog {v : Works} : Works.Leads Part.all v ((v.pollKeys x.unit r.type data).analogArrival x.unit r.type data) :=
    Works.analogArrival_leads _ _ _ _ (by decide) (Works.pollKeys_leads _ _ _ _ (by decide) .refl)
  exact ite_leads (Works.switchboardArrival_leads _ _ (by decide) hanalog) hanalog

end Sys2Proof.Machine

namespace Sys2Proof.Machine

open Sys2Proof

/-! # Frames that end an exchange (R134, Table 7-4) -/

section Frames

variable {w : Works} {x : Exchange} {r : RosterEntry} {f : List Byte} {e : LineError}

theorem exec_responseFrameComplete (s : State) :
    exec .responseFrameComplete s = .next (s.ended s.works.responseComplete) := rfl

theorem exec_responseWindowExpiry (s : State) :
    exec .responseWindowExpiry s = .next (s.ended s.works.windowExpired) := rfl

theorem Works.responseComplete_eq (hx : w.line.exchange = some x) (ha : x.awaiting = true)
    (hf : frameComplete w.line.rx.frame = true) :
    w.responseComplete = w.endExchange x (w.judgeFrame x w.line.rx.frame) := by
  simp [Works.responseComplete, hx, ha, hf]

theorem Works.unitType_of_entry (hr : w.rosterEntry x.unit = some r) : w.unitType x.unit = r.type := by
  simp [Works.unitType, hr]

/-- A right frame. -/
theorem Works.judgeFrame_right (hc : checkRight f = true) (hu : imgByte f 2 = x.unit) (hk : imgByte f 3 = x.cmd.code)
    (hr : w.rosterEntry x.unit = some r) (hl : x.cmd = .poll → imgByte f 4 = r.type.imageLength) :
    w.judgeFrame x f = .good (statusOf (imgByte f 1)) (frameData f) := by
  unfold Works.judgeFrame
  rw [hc, hu, hk, Works.unitType_of_entry hr]
  by_cases hp : x.cmd = .poll
  · simp [hl hp]
  · simp [hp]

theorem Works.endExchange_good (hd : x.discard = false) (hb : x.kind ≠ .broadcast) (st : Status4) (data : List Byte) :
    w.endExchange x (.good st data) = if x.kind = .rollPoll then w.rollGood x st data else w.goodResponse x st data := by
  obtain ⟨kind, unit, cmd, frame, awaiting, start, discard⟩ := x
  obtain rfl : discard = false := hd
  cases kind with
  | broadcast => exact absurd rfl hb
  | _ => rfl

/-- A right frame ends the exchange well. -/
theorem Works.responseComplete_right (hx : w.line.exchange = some x) (ha : x.awaiting = true) (hd : x.discard = false)
    (hf : w.line.rx.frame = f) (hfc : frameComplete f = true) (hc : checkRight f = true) (hu : imgByte f 2 = x.unit)
    (hk : imgByte f 3 = x.cmd.code) (hr : w.rosterEntry x.unit = some r)
    (hl : x.cmd = .poll → imgByte f 4 = r.type.imageLength) (hb : x.kind ≠ .broadcast) :
    w.responseComplete = if x.kind = .rollPoll then w.rollGood x (statusOf (imgByte f 1)) (frameData f)
      else w.goodResponse x (statusOf (imgByte f 1)) (frameData f) := by
  rw [Works.responseComplete_eq hx ha (hf ▸ hfc), hf, Works.judgeFrame_right hc hu hk hr hl, Works.endExchange_good hd hb]

/-- Wrong frames, by Table 7-4. -/
theorem Works.judgeFrame_miss (hr : w.rosterEntry x.unit = some r)
    (h : checkRight f = false ∧ e = .check ∨
      checkRight f = true ∧ (imgByte f 2 ≠ x.unit ∨ imgByte f 3 ≠ x.cmd.code) ∧ e = .wrongAddress ∨
      checkRight f = true ∧ imgByte f 2 = x.unit ∧ imgByte f 3 = x.cmd.code ∧ x.cmd = .poll ∧
        imgByte f 4 ≠ r.type.imageLength ∧ e = .check) : w.judgeFrame x f = .miss e := by
  unfold Works.judgeFrame
  rw [Works.unitType_of_entry hr]
  obtain ⟨hc, rfl⟩ | ⟨hc, hother, rfl⟩ | ⟨hc, hu, hk, hp, hl, rfl⟩ := h
  · simp [hc]
  · rw [hc, if_neg (by simp), if_pos]
    obtain h | h := hother <;> simp [h]
  · rw [hp] at hk
    simp [hc, hu, hk, hp, hl]

theorem Works.endExchange_missed (hd : x.discard = false) (hk : x.kind = .poll ∨ ∃ q, x.kind = .single q) (e : LineError) :
    w.endExchange x (.miss e) = w.missed x e := by
  obtain ⟨kind, unit, cmd, frame, awaiting, start, discard⟩ := x
  obtain rfl : discard = false := hd
  obtain rfl | ⟨q, rfl⟩ := hk <;> rfl

/-- A miss of either kind of event. -/
theorem exec_missed {s : State} {i : Instr} (hx : s.works.line.exchange = some x) (ha : x.awaiting = true)
    (hd : x.discard = false) (hk : x.kind = .poll ∨ ∃ q, x.kind = .single q) (hr : s.works.rosterEntry x.unit = some r)
    (hm : s.works.missedBy x r i e) : exec i s = .next (s.ended (s.works.missed x e)) ∧ LineError.unitCode (some e) = 0 := by
  obtain ⟨rfl, hf, hwin, rfl⟩ | ⟨rfl, hf, hjudge⟩ := hm
  · refine ⟨?_, by split <;> rfl⟩
    rw [exec_responseWindowExpiry, ← Works.endExchange_missed hd hk]
    simp [Works.windowExpired, hx, ha, hf, elapsed, hwin]
  · refine ⟨?_, by obtain ⟨_, rfl⟩ | ⟨_, _, rfl⟩ | ⟨_, _, _, _, _, rfl⟩ := hjudge <;> rfl⟩
    rw [exec_responseFrameComplete, Works.responseComplete_eq hx ha hf, Works.judgeFrame_miss hr hjudge,
      Works.endExchange_missed hd hk]

/-- A frame whose exchange a LOAD SITE has overtaken only frees the line (R145). -/
theorem Works.responseComplete_discarded (hx : w.line.exchange = some x) (ha : x.awaiting = true) (hd : x.discard = true)
    (hf : frameComplete w.line.rx.frame = true) :
    w.responseComplete = w.setLine { w.line with exchange := none, rx := { w.line.rx with frame := [] } } := by
  rw [Works.responseComplete_eq hx ha hf]
  unfold Works.endExchange
  rw [if_pos hd]
  rfl

end Frames

/-! # The events that end an exchange -/

section Events

/-- What the obligation asks of an exchange's end. -/
theorem Works.Frees.facts {w v : Works} {u : Nat} {r : RosterEntry} (h : w.Frees u r v) :
    v.now = w.now ∧ v.station = w.station ∧ v.line.exchange = none ∧ ∃ q, v.rosterEntry u = some q ∧ q.polled = r.polled :=
  ⟨h.leads.now_eq, h.leads.station_eq, h.free, h.entry⟩

theorem RosterEntry.polled_eq_iff {q r : RosterEntry} : q.polled = r.polled ↔ q.address = r.address ∧ q.type = r.type ∧
    q.state = r.state ∧ q.missCount = r.missCount ∧ q.missLimit = r.missLimit ∧ q.lastGood = r.lastGood ∧
    q.lastError = r.lastError ∧ q.heard = r.heard ∧ q.held = r.held := by
  simp [RosterEntry.polled]

variable {s : State} {x : Exchange} {r : RosterEntry} {f : List Byte}

theorem exec_rollPollHeard (hx : s.works.line.exchange = some x) (ha : x.awaiting = true) (hd : x.discard = false)
    (hkind : x.kind = .rollPoll) (hcmd : x.cmd = .poll) (hf : s.works.line.rx.frame = f) (hfc : frameComplete f = true)
    (hc : checkRight f = true) (hu : imgByte f 2 = x.unit) (hk : imgByte f 3 = 0x10) (hr : s.works.rosterEntry x.unit = some r)
    (hl : imgByte f 4 = r.type.imageLength) (he : (statusOf (imgByte f 1)).error = false) :
    ∃ v q, exec .responseFrameComplete s = .next (s.ended v) ∧ v.now = s.works.now ∧ v.station = s.works.station ∧
      v.line.exchange = none ∧ v.rosterEntry x.unit = some q ∧ q.heard = true ∧ q.missCount = 0 ∧
      q.lastGood = some s.works.now ∧ q.held = some (frameData f) ∧ q.state = r.state := by
  obtain ⟨hnow, hst, hfree, q, hq, hqr⟩ := (Works.rollGood_frees hr he (frameData f)).facts
  obtain ⟨-, -, hstate, hmiss, -, hgood, -, hheard, hheld⟩ := RosterEntry.polled_eq_iff.mp hqr
  refine ⟨_, q, ?_, hnow, hst, hfree, hq, hheard, hmiss, hgood, hheld, hstate⟩
  rw [exec_responseFrameComplete, Works.responseComplete_right hx ha hd hf hfc hc hu (by rw [hk, hcmd]; rfl) hr (fun _ => hl)
    (by simp [hkind]), if_pos hkind]

/-- A right response to a request that is no POLL, with or without ERROR. -/
theorem exec_answered {e : QEntry} (hx : s.works.line.exchange = some x) (ha : x.awaiting = true) (hd : x.discard = false)
    (hkind : x.kind = .single e) (hcmd : x.cmd ≠ .poll) (hf : s.works.line.rx.frame = f) (hfc : frameComplete f = true)
    (hc : checkRight f = true) (hu : imgByte f 2 = x.unit) (hk : imgByte f 3 = x.cmd.code)
    (hr : s.works.rosterEntry x.unit = some r) : exec .responseFrameComplete s =
      .next (s.ended (s.works.goodResponse x (statusOf (imgByte f 1)) (frameData f))) := by
  rw [exec_responseFrameComplete, Works.responseComplete_right hx ha hd hf hfc hc hu hk hr (fun h => absurd h hcmd)
    (by simp [hkind]), if_neg (by simp [hkind])]

theorem exec_setAnswered {e : QEntry} (hx : s.works.line.exchange = some x) (ha : x.awaiting = true) (hd : x.discard = false)
    (hkind : x.kind = .single e) (hcmd : x.cmd = .set) (hf : s.works.line.rx.frame = f) (hfc : frameComplete f = true)
    (hc : checkRight f = true) (hu : imgByte f 2 = x.unit) (hk : imgByte f 3 = 0x11) (hr : s.works.rosterEntry x.unit = some r)
    (he : (statusOf (imgByte f 1)).error = false) :
    ∃ v q, exec .responseFrameComplete s = .next (s.ended v) ∧ v.now = s.works.now ∧ v.station = s.works.station ∧
      v.line.exchange = none ∧ v.rosterEntry x.unit = some q ∧ q.state = .present ∧ q.missCount = 0 ∧
      q.lastGood = some s.works.now := by
  have hcmd' : x.cmd ≠ .poll := by simp [hcmd]
  obtain ⟨hnow, hst, hfree, q, hq, hqr⟩ :=
    ((Works.answered_tells hr r (statusOf (imgByte f 1)) none).reported x (some none)).facts
  obtain ⟨-, -, hstate, hmiss, -, hgood, -⟩ := RosterEntry.polled_eq_iff.mp hqr
  refine ⟨_, q, ?_, hnow, hst, hfree, hq, hstate, hmiss, hgood⟩
  rw [exec_answered hx ha hd hkind hcmd' hf hfc hc hu (by rw [hk, hcmd]; rfl) hr, Works.goodResponse_of_fine hr hcmd' he]

theorem exec_errorAnswered {e : QEntry} {d : List Byte} {b : Byte} (hx : s.works.line.exchange = some x) (ha : x.awaiting = true)
    (hd : x.discard = false) (hkind : x.kind = .single e) (hcmd : x.cmd ≠ .poll) (hf : s.works.line.rx.frame = f)
    (hfc : frameComplete f = true) (hc : checkRight f = true) (hu : imgByte f 2 = x.unit) (hk : imgByte f 3 = x.cmd.code)
    (hr : s.works.rosterEntry x.unit = some r) (he : (statusOf (imgByte f 1)).error = true) (hdata : frameData f = b :: d) :
    ∃ v q, exec .responseFrameComplete s = .next (s.ended v) ∧ v.now = s.works.now ∧ v.station = s.works.station ∧
      v.line.exchange = none ∧ v.rosterEntry x.unit = some q ∧ q.state = .present ∧ q.missCount = 0 ∧
      q.lastGood = some s.works.now ∧ q.lastError = some (.unitError b.toNat) ∧
      (r.lastError = none → v.recorded .lineError x.unit none none
        [LineError.code (some (.unitError b.toNat)), b.toNat, x.cmd.code, 1] false) := by
  have herr := Works.lineError_only x (.unitError b.toNat) .present s.works
  obtain ⟨hnow, hst, hfree, q, hq, hqr⟩ := ((Works.answered_tells (Works.lineError_entry hr (.unitError b.toNat) .present) r
    (statusOf (imgByte f 1)) none).reported x (some (some b.toNat))).facts
  obtain ⟨-, -, hstate, hmiss, -, hgood, hlast, -⟩ := RosterEntry.polled_eq_iff.mp hqr
  refine ⟨_, q, ?_, hnow.trans herr.now_eq, hst.trans herr.station_eq, hfree, hq, hstate, hmiss,
    hgood.trans (congrArg some herr.now_eq), hlast, fun hnone => ?_⟩
  · rw [exec_answered hx ha hd hkind hcmd hf hfc hc hu hk hr, hdata, Works.goodResponse_of_error hr hcmd he]
  · exact (Works.reported_leads _ _ _).recorded (by decide)
      ((Works.answered_kept _ _ _ _).recorded (by decide) (Works.lineError_recorded hr hnone _ _))

theorem RosterEntry.afterMiss_present (h : r.state = .present) :
    (1 < r.missLimit → r.afterMiss.state = .suspect ∧ r.afterMiss.missCount = 1) ∧
    (r.missLimit = 1 → r.afterMiss.state = .lost ∧ r.afterMiss.missCount = 1) := by
  unfold RosterEntry.afterMiss
  rw [h]
  dsimp only
  refine ⟨fun hl => ?_, fun hl => ?_⟩
  · rw [if_pos hl]
    exact ⟨rfl, rfl⟩
  · rw [if_neg (by omega)]
    exact ⟨rfl, rfl⟩

theorem RosterEntry.afterMiss_counting (h : r.state = .suspect ∨ r.state = .unseen) :
    (r.missCount + 1 < r.missLimit → r.afterMiss.state = r.state ∧ r.afterMiss.missCount = r.missCount + 1) ∧
    (r.missCount + 1 = r.missLimit → r.afterMiss.state = .lost ∧ r.afterMiss.missCount = r.missLimit) := by
  unfold RosterEntry.afterMiss
  obtain h | h := h <;> rw [h] <;> dsimp only <;>
    exact ⟨fun hl => by rw [if_pos hl]; exact ⟨rfl, rfl⟩, fun hl => by rw [if_neg (by omega)]; exact ⟨rfl, rfl⟩⟩

theorem RosterEntry.afterMiss_lost (h : r.state = .lost) : r.afterMiss = r := by
  simp [RosterEntry.afterMiss, h]

theorem exec_missCounted {i : Instr} {k : LineError} (hx : s.works.line.exchange = some x) (ha : x.awaiting = true)
    (hd : x.discard = false) (hkind : x.kind = .poll ∨ ∃ e, x.kind = .single e) (hr : s.works.rosterEntry x.unit = some r)
    (hm : s.works.missedBy x r i k) :
    ∃ v q, exec i s = .next (s.ended v) ∧ v.now = s.works.now ∧ v.station = s.works.station ∧
      v.line.exchange = none ∧ v.rosterEntry x.unit = some q ∧ q.lastError = some k ∧
      (r.state = .present → 1 < r.missLimit → q.state = .suspect ∧ q.missCount = 1) ∧
      (r.state = .present → r.missLimit = 1 → q.state = .lost ∧ q.missCount = 1) ∧
      ((r.state = .suspect ∨ r.state = .unseen) → r.missCount + 1 < r.missLimit →
        q.state = r.state ∧ q.missCount = r.missCount + 1) ∧
      ((r.state = .suspect ∨ r.state = .unseen) → r.missCount + 1 = r.missLimit →
        q.state = .lost ∧ q.missCount = r.missLimit) ∧
      (r.state = .lost → q.state = .lost ∧ q.missCount = r.missCount) ∧
      (r.lastError = none → v.recorded .lineError x.unit none none
        [LineError.code (some k), 0, x.cmd.code, q.state.code] false) ∧
      (q.state = .lost → r.state ≠ .lost → v.recorded .unit x.unit (some r.state.code) (some 3)
        [r.type.code, q.missCount, LineError.code (some k), 1] true) := by
  obtain ⟨hexec, hcode⟩ := exec_missed hx ha hd hkind hr hm
  obtain ⟨hnow, hst, hfree, q, hq, hqr⟩ := (Works.missed_frees hr k).facts
  rw [RosterEntry.afterMiss_withError] at hqr
  obtain ⟨-, -, hstate, hmiss, -, -, hlast, -⟩ := RosterEntry.polled_eq_iff.mp hqr
  dsimp only at hstate hmiss
  refine ⟨_, q, hexec, hnow, hst, hfree, hq, hlast, ?_⟩
  rw [hstate, hmiss]
  refine ⟨fun h => (RosterEntry.afterMiss_present h).1, fun h => (RosterEntry.afterMiss_present h).2,
    fun h => (RosterEntry.afterMiss_counting h).1, fun h => (RosterEntry.afterMiss_counting h).2, fun h => ?_,
    fun hnone => hcode ▸ Works.missed_errorRecord hr hnone k, fun hl hs => Works.missed_unitRecord hr hl hs k⟩
  rw [RosterEntry.afterMiss_lost h]
  exact ⟨h, rfl⟩

/-- A right POLL response outside the roll call. -/
theorem exec_polled (hx : s.works.line.exchange = some x) (ha : x.awaiting = true) (hd : x.discard = false)
    (hkind : x.kind = .poll) (hcmd : x.cmd = .poll) (hf : s.works.line.rx.frame = f) (hfc : frameComplete f = true)
    (hc : checkRight f = true) (hu : imgByte f 2 = x.unit) (hk : imgByte f 3 = 0x10) (hr : s.works.rosterEntry x.unit = some r)
    (hl : imgByte f 4 = r.type.imageLength) (he : (statusOf (imgByte f 1)).error = false) :
    exec .responseFrameComplete s = .next (s.ended
      (((s.works.answered x r (statusOf (imgByte f 1)) (some (frameData f))).reported x (some none)).retryNotices x.unit)) := by
  rw [exec_responseFrameComplete, Works.responseComplete_right hx ha hd hf hfc hc hu (by rw [hk, hcmd]; rfl) hr (fun _ => hl)
    (by simp [hkind]), if_neg (by simp [hkind]), Works.goodResponse_of_poll hr hcmd he]

end Events

/-! # The join of a unit (R126, R136) -/

section Join

variable {w : Works} {x : Exchange} {r : RosterEntry} {st : Status4} {data : List Byte} {k : Nat} {c : Claim}

/-- The key view that a POLL image gives a claim. -/
def Claim.viewed (u : Nat) (t : UnitType) (img : List Byte) (c : Claim) : Claim :=
  if c.unit = u then { c with keyView := if t.keyPanel img c.key then .panel else .normal } else c

theorem Works.pollKeys_claims (u : Nat) (t : UnitType) (img : List Byte) (w : Works) :
    (w.pollKeys u t img).claims = w.claims.map (Claim.viewed u t img) := rfl

theorem Claim.viewed_unit (u : Nat) (t : UnitType) (img : List Byte) (c : Claim) : (c.viewed u t img).unit = c.unit := by
  unfold Claim.viewed
  split <;> rfl

theorem Claim.viewed_subject (u : Nat) (t : UnitType) (img : List Byte) (c : Claim) : (c.viewed u t img).subject = c.subject := by
  unfold Claim.viewed
  split <;> rfl

/-- The POLL response of a unit not in hand joins it. -/
theorem Works.claimsResponse_joins {was : RosterState} (hw : was.inHand = false) (t : UnitType) (st : Status4) (img : List Byte) :
    w.claimsResponse x t was st (some img) =
      (w.pollKeys x.unit t img).reconcile [x.unit] .unitJoined (fun v => if v = x.unit then some img else none) := by
  simp only [Works.claimsResponse, hw]
  rfl

/-- The rest of the event, after the claims. -/
theorem Works.recorded_answered {K : JournalKind} {n : Nat} {a b : Option Nat} {d : List Nat} {g : Bool}
    (h : ((w.marked x.unit r.state).claimsResponse x r.type r.state st (some data)).recorded K n a b d g) :
    (((w.answered x r st (some data)).reported x (some none)).retryNotices x.unit).recorded K n a b d g :=
  (Works.retryNotices_leads (ps := Part.kept) _ _ (by decide) .refl).recorded (by decide)
    ((Works.reported_leads x _ _).recorded (by decide) (Works.recorded_handInputs x.unit r.type data h))

theorem Works.claims_answered :
    (((w.answered x r st (some data)).reported x (some none)).retryNotices x.unit).claims =
      ((w.marked x.unit r.state).claimsResponse x r.type r.state st (some data)).claims :=
  ((Works.retryNotices_leads (ps := Part.ofHanding) _ _ (by decide) .refl).claims_eq (by decide)).trans
    (((Works.reported_leads x _ _).claims_eq (by decide)).trans (Works.handInputs_claims ..))

/-- R126: what a join does to a claim. -/
theorem Works.joined_claims (hr : w.rosterEntry x.unit = some r) (hj : r.state.inHand = false)
    (hn : (w.claims.map Claim.subject).Nodup) (hc : w.claims[k]? = some c) (st : Status4) (data : List Byte) {v : Works}
    (hv : v = (w.marked x.unit r.state).claimsResponse x r.type r.state st (some data)) :
    (c.unit ≠ x.unit → v.claims[k]? = some c) ∧
    (c.unit = x.unit → ∃ y z, y = (if r.type.keyPanel data c.key then KeyView.panel else .normal) ∧
      z = (if r.type.keyPanel data c.key then ClaimValue.panel else .auto) ∧
      v.claims[k]? = some { c with keyView := y, value := z, slot := none, changed := w.now } ∧
      v.recorded .claim k (some c.value.code) (some z.code) [ClaimCause.code .unitJoined, absent16, c.unit, 1] false) := by
  have hmarked := w.marked_leads x.unit r.state
  have hclaims : ((w.marked x.unit r.state).pollKeys x.unit r.type data).claims = w.claims.map (Claim.viewed x.unit r.type data) := by
    rw [Works.pollKeys_claims, hmarked.claims_eq (by decide)]
  have hsubjects : (((w.marked x.unit r.state).pollKeys x.unit r.type data).claims.map Claim.subject).Nodup := by
    rw [hclaims, List.map_map]
    rwa [show Claim.subject ∘ Claim.viewed x.unit r.type data = Claim.subject from funext (Claim.viewed_subject _ _ _)]
  have hk : ((w.marked x.unit r.state).pollKeys x.unit r.type data).claims[k]? = some (c.viewed x.unit r.type data) := by
    rw [hclaims, List.getElem?_map, hc, Option.map_some]
  have hcode (hu : c.unit = x.unit) : ((w.marked x.unit r.state).pollKeys x.unit r.type data).unitStateCode c.unit = 1 := by
    rw [hu, Works.unitStateCode_congr (Works.pollKeys_line ..), Works.unitStateCode, Works.unitState, Works.marked_entry hr]
    rfl
  obtain ⟨hother, hself⟩ := Works.reconcile_claims hsubjects hk [x.unit] .unitJoined
    (fun v => if v = x.unit then some data else none)
  rw [← Works.claimsResponse_joins hj r.type st data, ← hv, Claim.viewed_unit, List.mem_singleton] at hother hself
  refine ⟨fun hu => ?_, fun hu => ⟨_, _, rfl, rfl, ?_⟩⟩
  · rw [hother hu, Claim.viewed, if_neg hu]
  · obtain ⟨hset, hrec⟩ := hself hu
    rw [Claim.viewed, if_pos hu] at hset hrec
    dsimp only at hrec
    rw [hcode hu] at hrec
    have hnow : ((w.marked x.unit r.state).pollKeys x.unit r.type data).now = w.now := hmarked.now_eq
    rw [hnow] at hset
    by_cases hp : r.type.keyPanel data c.key = true
    · simp only [Claim.joined, hp, if_true] at hset hrec ⊢
      exact ⟨hset, hrec⟩
    · simp only [Claim.joined, hp, if_false, reduceCtorEq] at hset hrec ⊢
      exact ⟨hset, hrec⟩

theorem exec_joined {s : State} {f : List Byte} (hx : s.works.line.exchange = some x) (ha : x.awaiting = true)
    (hd : x.discard = false) (hkind : x.kind = .poll) (hcmd : x.cmd = .poll) (hf : s.works.line.rx.frame = f)
    (hfc : frameComplete f = true) (hc : checkRight f = true) (hu : imgByte f 2 = x.unit) (hk : imgByte f 3 = 0x10)
    (hr : s.works.rosterEntry x.unit = some r) (hj : r.state = .unseen ∨ r.state = .lost)
    (hl : imgByte f 4 = r.type.imageLength) (he : (statusOf (imgByte f 1)).error = false)
    (hn : (s.works.claims.map Claim.subject).Nodup) :
    ∃ v q, exec .responseFrameComplete s = .next (s.ended v) ∧ v.now = s.works.now ∧ v.station = s.works.station ∧
      v.line.exchange = none ∧ v.rosterEntry x.unit = some q ∧ q.state = .present ∧ q.missCount = 0 ∧
      q.lastGood = some s.works.now ∧ q.lastError = r.lastError ∧
      v.recorded .unit x.unit (some r.state.code) (some 1) [r.type.code, 0, LineError.code r.lastError, 2] false ∧
      ∀ (k : Nat) (c : Claim), s.works.claims[k]? = some c →
        (c.unit ≠ x.unit → v.claims[k]? = some c) ∧
        (c.unit = x.unit → ∃ y z, y = (if r.type.keyPanel (frameData f) c.key then KeyView.panel else .normal) ∧
          z = (if r.type.keyPanel (frameData f) c.key then ClaimValue.panel else .auto) ∧
          v.claims[k]? = some { c with keyView := y, value := z, slot := none, changed := s.works.now } ∧
          v.recorded .claim k (some c.value.code) (some z.code) [ClaimCause.code .unitJoined, absent16, c.unit, 1]
            false) := by
  have hjoin : r.state.inHand = false := by obtain h | h := hj <;> rw [h] <;> rfl
  obtain ⟨hnow, hst, hfree, q, hq, hqr⟩ := (((Works.answered_tells hr r (statusOf (imgByte f 1))
    (some (frameData f))).reported x (some none)).retried x.unit).facts
  obtain ⟨-, -, hstate, hmiss, -, hgood, hlast, -⟩ := RosterEntry.polled_eq_iff.mp hqr
  refine ⟨_, q, exec_polled hx ha hd hkind hcmd hf hfc hc hu hk hr hl he, hnow, hst, hfree, hq, hstate, hmiss, hgood, hlast,
    ?_, fun k c hkc => ?_⟩
  · exact Works.recorded_answered ((Works.claimsResponse_leads (ps := Part.kept) _ _ _ _ _ _ (by decide) .refl).recorded
      (by decide) (Works.marked_recorded hr hjoin))
  · obtain ⟨hother, hself⟩ := Works.joined_claims hr hjoin hn hkc (statusOf (imgByte f 1)) (frameData f) rfl
    rw [Works.claims_answered]
    refine ⟨hother, fun hcu => ?_⟩
    obtain ⟨y, z, hy, hz, hset, hrec⟩ := hself hcu
    exact ⟨y, z, hy, hz, hset, Works.recorded_answered hrec⟩

/-- R136: the hand-on of a response of a unit in hand whose keys change nothing. -/
theorem exec_handedOn {s : State} {f : List Byte} (hx : s.works.line.exchange = some x) (ha : x.awaiting = true)
    (hd : x.discard = false) (hkind : x.kind = .poll) (hcmd : x.cmd = .poll) (hf : s.works.line.rx.frame = f)
    (hfc : frameComplete f = true) (hc : checkRight f = true) (hu : imgByte f 2 = x.unit) (hk : imgByte f 3 = 0x10)
    (hr : s.works.rosterEntry x.unit = some r) (hj : r.state.inHand = true) (hl : imgByte f 4 = r.type.imageLength)
    (hst : statusOf (imgByte f 1) = { error := false, isLocal := false, panel := false, restarted := false })
    (hw : w = (s.works.updRoster x.unit
      (fun r => { r with state := .present, missCount := 0, lastGood := some s.works.now })).pollKeys x.unit r.type (frameData f))
    (hkeys : w.keyChanges x.unit = []) :
    ∃ k v, (k, v) = (w.handInputs x.unit r.type (frameData f)).freeLine .poll ∧
      exec .responseFrameComplete s = .next (s.ended ((v.reportEnd k x.unit (some none)).retryNotices x.unit)) := by
  refine ⟨_, _, rfl, ?_⟩
  have hanswered : s.works.answered x r (statusOf (imgByte f 1)) (some (frameData f)) = w.handInputs x.unit r.type (frameData f) := by
    have hclaims : (s.works.marked x.unit r.state).claimsResponse x r.type r.state (statusOf (imgByte f 1)) (some (frameData f)) =
        w.judgeKeys x.unit (fun v => if v = x.unit then some (frameData f) else none) := by
      simp only [Works.marked, hj, if_true, Works.claimsResponse, hst, ← hw]
      rfl
    rw [Works.answered, hclaims, Works.judgeKeys, hkeys]
    rfl
  rw [exec_polled hx ha hd hkind hcmd hf hfc hc hu hk hr hl (by rw [hst]), hanswered, Works.reported, hkind]
  rfl

end Join

end Sys2Proof.Machine

namespace Sys2Proof.Machine

open Sys2Proof

/-! # The arbiter's choices of pairs (R82, R141, R142) -/

section Choices

variable {w v : Works} {e : QEntry} {rest : List QEntry} {m : Motion}

theorem Works.choose_head (h : w.stageRuns = true) (hs : w.line.selected = none) (hq : w.line.queue = e :: rest) :
    w.choose = some (w.sendHead e rest).2 := by
  obtain h | h := Works.stageRuns_iff.mp h <;> simp only [Works.choose, h, hs, hq]

theorem Works.choose_selected (h : w.stageRuns = true) (hs : w.line.selected = some e) : w.choose =
    some (((w.setLine { w.line with selected := none }).setSelection e.unit .operating).startExchange (.operateOf e)
      e.unit .operate e.params) := by
  obtain h | h := Works.stageRuns_iff.mp h <;> simp only [Works.choose, h, hs]

theorem Works.setSelection_selectionOf (u : Nat) (x : Selection) (w : Works) :
    (w.setSelection u x).selectionOf u (w.rosterEntry u) x :=
  Works.rosterEntry_updRoster (f := fun r => { r with selection := x }) (fun _ => rfl) u w

theorem QEntry.params_of_pair (h : e.req = .pair m) : e.params = [e.output, m.code] := by
  rw [QEntry.params, h]

/-- The condition that a requester puts on its pair. -/
def Works.allows (w : Works) (m : Motion) (r : Requester) : Prop :=
  ∀ n, (m = .deploy → r.who = .gatePair n → (w.portal n).barrier.state = .down) ∧
    (m = .raise → r.who = .barrierPair n → (w.portal n).gate.state = .stowed)

theorem Works.interlockHolds_iff (h : e.req = .pair m) : w.interlockHolds e = true ↔ ∀ r ∈ e.requesters, w.allows m r := by
  unfold Works.interlockHolds
  rw [List.all_eq_true]
  refine forall₂_congr fun r _ => ?_
  rw [h, Works.allows]
  cases m with
  | deploy => cases r.who <;> simp
  | raise => cases r.who <;> simp
  | _ => simp

theorem Works.sendHead_of_pair (hr : e.req = .pair m) (rest : List QEntry) : (w.sendHead e rest).2 =
    if w.interlockHolds e then
      ((w.setLineQueue rest).setSelection e.unit .selecting).startExchange (.selectOf e) e.unit .select e.params
    else (w.setLineQueue rest).reportEntry e .withheld .removed := by
  unfold Works.sendHead
  dsimp only
  rw [hr]
  dsimp only
  rw [show (w.setLineQueue rest).interlockHolds e = w.interlockHolds e from rfl]
  split <;> rfl

theorem Works.choose_select (hs : w.stageRuns = true) (hsel : w.line.selected = none) (hq : w.line.queue = e :: rest)
    (hr : e.req = .pair m) (hi : w.interlockHolds e = true) :
    ∃ v, w.choose = some v ∧ v.line.queue = rest ∧ v.selectionOf e.unit (w.rosterEntry e.unit) .selecting ∧
      v.line.sends (.selectOf e) e.unit .select [e.output, m.code] := by
  refine ⟨_, Works.choose_head hs hsel hq, ?_⟩
  rw [Works.sendHead_of_pair hr, if_pos hi, QEntry.params_of_pair hr]
  exact ⟨rfl, Works.setSelection_selectionOf e.unit .selecting (w.setLineQueue rest), rfl⟩

theorem Works.choose_operate (hs : w.stageRuns = true) (hsel : w.line.selected = some e) (hr : e.req = .pair m) :
    ∃ v, w.choose = some v ∧ v.line.queue = w.line.queue ∧ v.line.selected = none ∧
      v.selectionOf e.unit (w.rosterEntry e.unit) .operating ∧
      v.line.sends (.operateOf e) e.unit .operate [e.output, m.code] := by
  refine ⟨_, Works.choose_selected hs hsel, ?_⟩
  rw [QEntry.params_of_pair hr]
  exact ⟨rfl, rfl, Works.setSelection_selectionOf e.unit .operating (w.setLine { w.line with selected := none }), rfl⟩

/-- A DEPLOY that is withheld gives the grant back. -/
theorem Works.reportEntry_withheld_releases {r : Requester} {n : Nat} (hr : e.req = .pair m) (hreq : e.requesters = [r])
    (hlive : r.fate = .live) (hwho : r.who = .gatePair n) (hg : (w.portal n).gate.grant = .granted) :
    (w.reportEntry e .withheld .removed).handed (.loadRelease (w.gateEntry n)) := by
  have heq : w.reportEntry e .withheld .removed = w.gateRefused n none := by
    simp [Works.reportEntry, hr, hreq, each, Works.reportPair, hwho, Works.gatePairEnd, hlive]
  rw [heq, Works.gateRefused]
  exact (Works.work_leads (ps := Part.kept) _ _ (by decide) (Works.updGate_leads _ _ _ (by decide) .refl)).handed (by decide)
    (Works.dropGateGrant_releases hg)

theorem Works.choose_withheld {r : Requester} {n : Nat} (hs : w.stageRuns = true) (hsel : w.line.selected = none)
    (hq : w.line.queue = e :: rest) (hx : w.line.exchange = none) (hr : e.req = .pair m) (hmem : r ∈ e.requesters)
    (hno : m = .deploy ∧ r.who = .gatePair n ∧ (w.portal n).barrier.state ≠ .down ∨
      m = .raise ∧ r.who = .barrierPair n ∧ (w.portal n).gate.state ≠ .stowed)
    (hv : v = (w.setLineQueue rest).reportEntry e .withheld .removed) :
    w.choose = some v ∧ v.line.exchange = none ∧
      (e.requesters = [r] → r.fate = .live → r.who = .gatePair n → (w.portal n).gate.grant = .granted →
        v.handed (.loadRelease (w.gateEntry n))) := by
  subst hv
  have hi : ¬ w.interlockHolds e = true := by
    rw [Works.interlockHolds_iff hr]
    intro h
    obtain ⟨hdeploy, hraise⟩ := h r hmem n
    obtain ⟨hm, hwho, hst⟩ | ⟨hm, hwho, hst⟩ := hno
    · exact hst (hdeploy hm hwho)
    · exact hst (hraise hm hwho)
  refine ⟨?_, Works.exchange_of_stand (Works.reportEntry_stand ..) hx,
    fun hreq hlive hwho hg => Works.reportEntry_withheld_releases (w := w.setLineQueue rest) hr hreq hlive hwho hg⟩
  rw [Works.choose_head hs hsel hq, Works.sendHead_of_pair hr, if_neg hi]

/-- A SELECT that the head of the queue puts on the line is that of a pair whose condition holds. -/
theorem Works.sendHead_select {x : Exchange} (hn : w.line.exchange = none) (hx : (w.sendHead e rest).2.line.exchange = some x)
    (hc : x.cmd = .select) :
    ∃ m, e.req = .pair m ∧ x.kind = .selectOf e ∧ x.unit = e.unit ∧ ∀ r ∈ e.requesters, w.allows m r := by
  cases hr : e.req with
  | pair m =>
    rw [Works.sendHead_of_pair hr] at hx
    by_cases hi : w.interlockHolds e = true
    · rw [if_pos hi] at hx
      obtain rfl := Option.some.inj hx
      exact ⟨m, rfl, rfl, rfl, (Works.interlockHolds_iff hr).mp hi⟩
    · rw [if_neg hi, Works.exchange_of_stand (w := w.setLineQueue rest) (Works.reportEntry_stand ..) hn] at hx
      cases hx
  | _ =>
    simp only [Works.sendHead, hr] at hx
    obtain rfl := Option.some.inj hx
    simp [Request.cmd] at hc

theorem Works.choose_selects {x : Exchange} (hn : w.line.exchange = none) (hv : w.choose = some v)
    (hx : v.line.exchange = some x) (hc : x.cmd = .select) :
    ∃ e rest m, w.line.queue = e :: rest ∧ e.req = .pair m ∧ x.kind = .selectOf e ∧ x.unit = e.unit ∧
      ∀ r ∈ e.requesters, w.allows m r := by
  have hother {k : ExKind} {u : Nat} {c : LineCmd} {ps : List Nat} {t : Works} (hne : c ≠ .select)
      (h : (t.startExchange k u c ps).line.exchange = some x) : False := by
    obtain rfl := Option.some.inj h
    exact hne hc
  unfold Works.choose at hv
  split at hv
  · cases hv
  · cases hv
  · split at hv
    · cases hv
      exact (hother (by decide) hx).elim
    · split at hv
      · cases hv
        exact (hother (by decide) hx).elim
      · cases hv
  · split at hv
    · cases hv
      exact (hother (by decide) hx).elim
    · split at hv
      · next e rest hq =>
        cases hv
        obtain ⟨m, hm⟩ := Works.sendHead_select hn hx hc
        exact ⟨e, rest, m, hq, hm⟩
      · split at hv
        · cases hv
          exact (hother (by decide) hx).elim
        · cases hv

/-- A DESELECT takes a place of its own where none waits for the unit (R142). -/
theorem Works.deselect_joins {u : Nat} (hu : (w.unitState u).inHand = true) (hroom : w.lineRoom)
    (hnone : ∀ q ∈ w.line.queue, q.req.isDeselect = true → q.unit ≠ u) :
    (w.deselect u).line.queue = joinLine (w.asking .deselect u 0 .lineItself) w.line.queue := by
  have hany : ¬ (w.line.queue.any fun q => q.req.isDeselect && q.unit == u) = true := by
    simpa using hnone
  unfold Works.deselect
  rw [if_pos hu, Works.request, Works.enqueue]
  dsimp only
  rw [if_neg hany, Works.joinNew, if_pos hroom]
  rfl

end Choices

/-! # The obligation -/

/-- Settles O50: the ends of exchanges by what the blocks leave of the line (`Line.stand`), the claims of a join by
`Works.joined_claims`, and the arbiter's pairs by the interlock. -/
theorem exchangeEnds : Obligations.ExchangeEnds := by
  unfold Obligations.ExchangeEnds
  refine ⟨?_, ?_, ?_, ?_, ?_, ?_, ?_, ?_, ?_, ?_, ?_, ?_, ?_, ?_, ?_, ?_⟩
  · intro x s hx ha hd hf
    rw [exec_responseFrameComplete, Works.responseComplete_discarded hx ha hd hf]
  · intro x r f s hx ha hd hkind hcmd hf hfc hc hu hk hr hl he
    exact exec_rollPollHeard hx ha hd hkind hcmd hf hfc hc hu hk hr hl he
  · intro x e r f s hx ha hd hkind hcmd hf hfc hc hu hk hr he
    exact exec_setAnswered hx ha hd hkind hcmd hf hfc hc hu hk hr he
  · intro x e r f d b s hx ha hd hkind hcmd hf hfc hc hu hk hr he hdata
    exact exec_errorAnswered hx ha hd hkind hcmd hf hfc hc hu hk hr he hdata
  · intro w e u c
    exact ⟨rfl, rfl, rfl⟩
  · intro x r i k s hx ha hd hkind hr hm
    exact exec_missCounted hx ha hd hkind hr hm
  · intro x r f s hx ha hd hkind hcmd hf hfc hc hu hk hr hj hl he hn
    exact exec_joined hx ha hd hkind hcmd hf hfc hc hu hk hr hj hl he hn
  · intro x r f s w hx ha hd hkind hcmd hf hfc hc hu hk hr hj hl hst hw hkeys
    exact exec_handedOn hx ha hd hkind hcmd hf hfc hc hu hk hr hj hl hst hw hkeys
  · intro w e rest m hs hsel hq hr hi
    exact Works.choose_select hs hsel hq hr hi
  · intro w e m hr
    exact Works.interlockHolds_iff hr
  · intro w v e rest m r n hs hsel hq hx hr hmem hno hv
    exact Works.choose_withheld hs hsel hq hx hr hmem hno hv
  · intro w v x hn hv hx hc
    exact Works.choose_selects hn hv hx hc
  · intro w e u
    rfl
  · intro w e m hs hsel hr
    exact Works.choose_operate hs hsel hr
  · intro w e u c
    exact ⟨rfl, rfl, rfl, rfl, rfl⟩
  · intro w u hu hroom hnone
    exact Works.deselect_joins hu hroom hnone

end Sys2Proof.Machine

namespace Sys2Proof.Machine

open Sys2Proof

/-! # Lighting: what a request at the line queue and the driving of the circuits leave of the zones (R106 to R109) -/

/-! ## Lists worked through in order -/

section Lists

variable {α β γ : Type}

/-- Where each element is worked on once, and the others do not touch what `p` shows of it: the works before and after its own
turn. -/
theorem each_turn {f : α → β → β} {l : List α} {a : α} (hl : l.Nodup) (ha : a ∈ l) (p : β → γ)
    (hf : ∀ b v, b ≠ a → p (f b v) = p v) (v : β) : ∃ l1 l2, each l f v = each l2 f (f a (each l1 f v)) ∧
      p (each l1 f v) = p v ∧ p (each l f v) = p (f a (each l1 f v)) := by
  obtain ⟨l1, l2, rfl⟩ := List.append_of_mem ha
  have hnot : a ∉ l1 ++ l2 := (List.nodup_middle.mp hl).notMem
  rw [List.mem_append, not_or] at hnot
  have hkeep (m : List α) (hm : a ∉ m) (u : β) : p (each m f u) = p u :=
    each_induction (P := fun u' => p u' = p u) rfl fun b hb u' h => (hf b u' fun e => hm (e ▸ hb)).trans h
  have happ : each (l1 ++ a :: l2) f v = each l2 f (f a (each l1 f v)) := by simp [each]
  exact ⟨l1, l2, happ, hkeep l1 hnot.1 v, by rw [happ]; exact hkeep l2 hnot.2 _⟩

theorem getElem?_indexed (n i : Nat) (l : List α) : (indexed n l)[i]? = l[i]?.map (fun x => (n + i, x)) := by
  induction l generalizing n i with
  | nil => simp [indexed]
  | cons x l ih =>
    cases i with
    | zero => simp [indexed]
    | succ i => simp [indexed, ih, Nat.add_assoc, Nat.add_comm 1]

end Lists

/-! ## Requests at the line queue -/

/-- The zones, the day decision, and the zone of every circuit. -/
def Lights.plan (l : Lights) : List Zone × Day × List Nat := (l.zones, l.day, l.circuits.map Circuit.zone)

section Plan

variable {w v : Works} {c : Nat} {x : Circuit}

theorem Works.zones_of_plan (h : v.lights.plan = w.lights.plan) : v.lights.zones = w.lights.zones := congrArg Prod.fst h

theorem Works.day_of_plan (h : v.lights.plan = w.lights.plan) : v.lights.day = w.lights.day :=
  congrArg (fun p => p.2.1) h

theorem Works.circuit_of_plan (h : v.lights.plan = w.lights.plan) (hx : w.lights.circuits[c]? = some x) :
    ∃ y, v.lights.circuits[c]? = some y ∧ y.zone = x.zone := by
  have hp : v.lights.circuits.map Circuit.zone = w.lights.circuits.map Circuit.zone := congrArg (fun p => p.2.2) h
  have hz : (v.lights.circuits.map Circuit.zone)[c]? = some x.zone := by rw [hp, List.getElem?_map, hx, Option.map_some]
  rw [List.getElem?_map] at hz
  exact Option.map_eq_some_iff.mp hz

theorem Works.Leads.plan_eq {ps : List Part} (h : Works.Leads ps w v) (hp : Part.lights ∉ ps) :
    v.lights.plan = w.lights.plan := by
  rw [h.lights_eq hp]

@[simp] theorem ite_plan {p : Prop} [Decidable p] (w v : Works) :
    (if p then w else v).lights.plan = if p then w.lights.plan else v.lights.plan :=
  apply_ite (fun w : Works => w.lights.plan) p w v

@[simp] theorem each_plan {α : Type} (l : List α) (f : α → Works → Works) (w : Works)
    (hf : ∀ a v, (f a v).lights.plan = v.lights.plan) : (each l f w).lights.plan = w.lights.plan :=
  each_induction (P := fun v => v.lights.plan = w.lights.plan) rfl fun a _ v h => (hf a v).trans h

@[simp] theorem Works.updCircuit_plan (c : Nat) (f : Circuit → Circuit) (w : Works) (hf : ∀ x, (f x).zone = x.zone) :
    (w.updCircuit c f).lights.plan = w.lights.plan := by
  simp only [Lights.plan, Works.updCircuit, map_updAt Circuit.zone f c _ hf]

@[simp] theorem Works.updPortal_lights (n : Nat) (f : Portal → Portal) (w : Works) : (w.updPortal n f).lights = w.lights :=
  Works.setPortal_lights n _ w

@[simp] theorem Works.setLeaves_plan (r : Requester) (n : Nat) (w : Works) : (w.setLeaves r n).lights.plan = w.lights.plan := by
  unfold Works.setLeaves
  split
  · simp
  · rfl

@[simp] theorem Works.refuse_plan (e : QEntry) (w : Works) : (w.refuse e).lights.plan = w.lights.plan :=
  (Works.refuse_leads (ps := [.dewater, .portals, .line]) e w (by decide) .refl).plan_eq (by decide)

@[simp] theorem Works.joinNew_plan (e : QEntry) (w : Works) : (w.joinNew e).2.lights.plan = w.lights.plan := by
  unfold Works.joinNew
  split <;> simp

theorem Works.leavesAll_plan (q : QEntry) (n : Nat) (w : Works) :
    (each q.requesters (fun r v => v.setLeaves r n) w).lights.plan = w.lights.plan :=
  each_plan _ _ w fun r v => Works.setLeaves_plan r n v

@[simp] theorem Works.joinHalt_plan (e : QEntry) (w : Works) : (w.joinHalt e).2.lights.plan = w.lights.plan := by
  unfold Works.joinHalt
  split
  · rfl
  · split
    · exact Works.refuse_plan e w
    · next last _ =>
      split
      · exact Works.refuse_plan e w
      · exact (Works.refuse_plan last _).trans (Works.leavesAll_plan last _ w)

@[simp] theorem Works.enqueue_plan (e : QEntry) (w : Works) : (w.enqueue e).2.lights.plan = w.lights.plan := by
  unfold Works.enqueue
  split
  · split
    · next old _ => exact Works.leavesAll_plan old _ w
    · exact Works.joinNew_plan e w
  · split
    · rfl
    · exact Works.joinHalt_plan e w
  · exact Works.joinNew_plan e w
  · split
    · rfl
    · exact Works.joinNew_plan e w

/-- A request at the line queue may take a step from a SET list, and no more (R139, R140). -/
@[simp] theorem Works.request_plan (r : Request) (u out : Nat) (who : ReqFor) (w : Works) :
    (w.request r u out who).2.lights.plan = w.lights.plan := Works.enqueue_plan _ w

end Plan

/-! ## The driving of the circuits (R107 to R109) -/

section Driving

@[simp] theorem Works.judgeRequest_plan (c : Nat) (w : Works) : (w.judgeRequest c).lights.plan = w.lights.plan := by
  unfold Works.judgeRequest
  repeat' split
  all_goals simp

@[simp] theorem Works.queueSet_plan (c step : Nat) (w : Works) : (w.queueSet c step).lights.plan = w.lights.plan := by
  unfold Works.queueSet
  dsimp only
  repeat' split
  all_goals simp

@[simp] theorem Works.judgeSet_plan (c : Nat) (w : Works) : (w.judgeSet c).lights.plan = w.lights.plan := by
  unfold Works.judgeSet
  split <;> simp

@[simp] theorem Works.judgeWanted_plan (c : Nat) (w : Works) : (w.judgeWanted c).lights.plan = w.lights.plan := by
  unfold Works.judgeWanted
  repeat' split
  all_goals simp

@[simp] theorem Works.endHold_plan (c : Nat) (w : Works) : (w.endHold c).lights.plan = w.lights.plan := by
  unfold Works.endHold
  repeat' split
  all_goals simp

@[simp] theorem Works.judgeShrink_plan (c : Nat) (w : Works) : (w.judgeShrink c).lights.plan = w.lights.plan := by
  unfold Works.judgeShrink
  repeat' split
  all_goals simp

@[simp] theorem Works.judgeCircuit_plan (c : Nat) (w : Works) : (w.judgeCircuit c).lights.plan = w.lights.plan := by
  simp [Works.judgeCircuit]

@[simp] theorem Works.settleCircuit_plan (c : Nat) (w : Works) : (w.settleCircuit c).lights.plan = w.lights.plan := by
  simp [Works.settleCircuit]

@[simp] theorem Works.followTarget_plan (c : Nat) (w : Works) : (w.followTarget c).lights.plan = w.lights.plan := by
  simp [Works.followTarget]

@[simp] theorem Works.followCircuits_plan (settled : List Nat) (w : Works) :
    (w.followCircuits settled).lights.plan = w.lights.plan := by
  refine each_plan _ _ w fun c v => ?_
  split <;> simp

@[simp] theorem Works.judgeZoneSet_lights (z : Nat) (w : Works) : (w.judgeZoneSet z).lights = w.lights :=
  (Works.judgeZoneSet_leads (ps := [.active]) z w (by decide) .refl).lights_eq (by decide)

end Driving

/-! ## One circuit, one zone -/

section Records

variable {w : Works} {c i z : Nat} {x : Circuit} {q : Zone}

@[simp] theorem Works.updCircuit_circuits (c : Nat) (f : Circuit → Circuit) (w : Works) :
    (w.updCircuit c f).lights.circuits = updAt f c w.lights.circuits := rfl

@[simp] theorem Works.updCircuit_zones (c : Nat) (f : Circuit → Circuit) (w : Works) :
    (w.updCircuit c f).lights.zones = w.lights.zones := rfl

@[simp] theorem Works.updZone_circuits (z : Nat) (f : Zone → Zone) (w : Works) :
    (w.updZone z f).lights.circuits = w.lights.circuits := rfl

theorem Works.updCircuit_self (f : Circuit → Circuit) (hx : w.lights.circuits[c]? = some x) :
    (w.updCircuit c f).lights.circuits[c]? = some (f x) := getElem?_updAt_self hx

theorem Works.updCircuit_other (f : Circuit → Circuit) (h : i ≠ c) (w : Works) :
    (w.updCircuit c f).lights.circuits[i]? = w.lights.circuits[i]? := getElem?_updAt_ne h

theorem Works.updZone_self (f : Zone → Zone) (hq : w.lights.zones[z]? = some q) :
    (w.updZone z f).lights.zones[z]? = some (f q) := getElem?_updAt_self hq

theorem Works.updZone_other (f : Zone → Zone) (h : i ≠ z) (w : Works) :
    (w.updZone z f).lights.zones[i]? = w.lights.zones[i]? := getElem?_updAt_ne h

end Records

end Sys2Proof.Machine

namespace Sys2Proof.Machine

open Sys2Proof

/-! # The grant and the shed request of a circuit (R107, R108, R112) -/

/-! ## The steps of a circuit (R107, R109) -/

section Steps

variable {x : Circuit}

theorem highestStep_of_le {power : List Nat} {limit : Nat} {k : Nat} (h : power.getD k 0 ≤ limit) :
    highestStep power limit k = k := by
  cases k with
  | zero => rfl
  | succ k => exact if_pos h

theorem le_foldl_max (l : List Nat) (n : Nat) : n ≤ l.foldl max n := by
  induction l generalizing n with
  | nil => exact Nat.le_refl n
  | cons m l ih => exact Nat.le_trans (Nat.le_max_left n m) (ih _)

theorem Circuit.drive_le_covered (x : Circuit) : x.drive ≤ x.covered :=
  Nat.le_trans (Nat.le_max_right _ _) (le_foldl_max _ _)

/-- A SET of the drive step covers no further step. -/
theorem Circuit.covered_setDrive (x : Circuit) :
    ({ x with setList := x.setList ++ [x.drive] } : Circuit).covered = x.covered := by
  have h : ({ x with setList := x.setList ++ [x.drive] } : Circuit).covered = max x.covered x.drive := by
    change (x.setList ++ [x.drive]).foldl max (max (x.reported.getD 0) x.drive) = _
    rw [List.foldl_append]
    rfl
  rw [h, max_eq_left x.drive_le_covered]

end Steps

/-! ## A SET that joins the line, and a grant that stands -/

section Driving

variable {w v : Works} {c g : Nat} {x : Circuit} {z : Zone}

/-- An event that only drives circuits. -/
theorem Works.Leads.keepsLights (h : Works.Leads [.dewater, .portals, .lights, .line] w v) : w.keepsLights v :=
  ⟨h.keepsAll (by decide) (by decide), h.water_eq (by decide), h.budget_eq (by decide), h.claims_eq (by decide),
    h.reports_eq (by decide), h.fresh_eq (by decide)⟩

/-- Who has the zone of a circuit in hand, and its zone record, depend on the zone alone. -/
theorem Works.commandsCircuit_congr {y : Circuit} (hc : v.claims = w.claims) (hz : y.zone = x.zone) :
    v.commandsCircuit y = w.commandsCircuit x := by
  rw [Works.commandsCircuit, Works.commandsCircuit, hz, Works.claimOf_congr hc]

theorem Works.zoneOf_congr {y : Circuit} (hl : v.lights.zones = w.lights.zones) (hz : y.zone = x.zone) :
    v.zoneOf y = w.zoneOf x := by
  rw [Works.zoneOf, Works.zoneOf, hz, hl]

/-- The SET of a step as the newest of a circuit's SETs, in its place in the line queue. -/
def Works.setJoined (c step : Nat) (x : Circuit) (z : Zone) (w : Works) : Works :=
  (w.setLineQueue (joinLine (w.asking (.set step) z.unit x.output (.lampSet c)) w.line.queue)).updCircuit c
    (fun x => { x with setList := x.setList ++ [step] })

theorem Works.queueSet_of_room (hx : w.lights.circuits[c]? = some x) (hz : w.zoneOf x = some z) (hr : w.lineRoom)
    (hn : w.noSetWaits z.unit x.output) (step : Nat) : w.queueSet c step = w.setJoined c step x z := by
  have hfind : w.line.queue.find? (fun e => e.req.isSet &&
      sameOutput (w.asking (.set step) z.unit x.output (.lampSet c)) e) = none := by
    refine List.find?_eq_none.mpr fun e he hs => ?_
    rw [Bool.and_eq_true, sameOutput, Bool.and_eq_true, beq_iff_eq, beq_iff_eq] at hs
    obtain ⟨hset, hu, ho⟩ := hs
    exact (hn e he hset).elim (fun h => h hu) fun h => h ho
  have hjoin : w.request (.set step) z.unit x.output (.lampSet c) =
      (true, w.setLineQueue (joinLine (w.asking (.set step) z.unit x.output (.lampSet c)) w.line.queue)) := by
    change (match w.line.queue.find? (fun e => e.req.isSet &&
      sameOutput (w.asking (.set step) z.unit x.output (.lampSet c)) e) with
      | some old => _
      | none => w.joinNew (w.asking (.set step) z.unit x.output (.lampSet c))) = _
    rw [hfind]
    exact if_pos hr
  simp only [Works.queueSet, hx, hz, hjoin]
  rfl

/-- The SET condition of R108 met. -/
theorem Works.judgeSet_joins (hx : w.lights.circuits[c]? = some x) (hz : w.zoneOf x = some z) (hh : x.healthy = true)
    (hc : w.commandsCircuit x = true) (hr : w.lineRoom) (hn : w.noSetWaits z.unit x.output)
    (hl : (x.setList.getLast?.orElse (fun _ => x.reported)) ≠ some x.drive) :
    w.judgeSet c = w.setJoined c x.drive x z := by
  rw [← Works.queueSet_of_room hx hz hr hn]
  cases hlast : x.setList.getLast?
  all_goals
    rw [hlast] at hl
    simp only [Works.judgeSet, hx, hh, hc, hlast]
    exact if_pos (by simpa using hl)

/-- What may be drawn is within the covered step: nothing is to be given back (R109). -/
theorem Works.judgeShrink_of_covered (hx : w.lights.circuits[c]? = some x) (hg : x.grant = some g)
    (hc : w.commandsCircuit x = true) (hp : x.granted ≤ x.powerAt x.covered) : w.judgeShrink c = w := by
  have hto : w.shrinkTo x = x.powerAt x.covered := by
    rcases (ClaimValue.commands_iff _).mp hc with h | h <;> simp only [Works.shrinkTo, h]
  simp only [Works.judgeShrink, hx, hg]
  rw [hto, if_neg (Nat.not_lt.mpr hp)]

theorem Works.setJoined_self (hx : w.lights.circuits[c]? = some x) (step : Nat) (z : Zone) :
    (w.setJoined c step x z).lights.circuits[c]? = some { x with setList := x.setList ++ [step] } :=
  Works.updCircuit_self (w := w.setLineQueue _) _ hx

theorem Works.setJoined_circuits (hx : w.lights.circuits[c]? = some x) (step : Nat) (z : Zone) :
    (w.setJoined c step x z).lights.circuits =
      updAt (fun _ => { x with setList := x.setList ++ [step] }) c w.lights.circuits :=
  updAt_eq_replace _ hx

/-- A circuit whose drive step is to be SET and whose grant is within its covered step: the SET joins the line, the grant
stands. -/
theorem Works.judgeSet_judgeShrink (hx : w.lights.circuits[c]? = some x) (hg : x.grant = some g) (hz : w.zoneOf x = some z)
    (hh : x.healthy = true) (hc : w.commandsCircuit x = true) (hr : w.lineRoom) (hn : w.noSetWaits z.unit x.output)
    (hl : (x.setList.getLast?.orElse (fun _ => x.reported)) ≠ some x.drive) (hp : x.granted ≤ x.powerAt x.covered) :
    (w.judgeSet c).judgeShrink c = w.setJoined c x.drive x z := by
  rw [Works.judgeSet_joins hx hz hh hc hr hn hl]
  refine Works.judgeShrink_of_covered (Works.setJoined_self hx _ z) hg ?_ ?_
  · rw [← hc]
    exact Works.commandsCircuit_congr rfl rfl
  · rw [Circuit.covered_setDrive]
    exact hp

end Driving

/-! ## The grant notice (R107) -/

section Grant

variable {w : Works} {c g power : Nat} {x y : Circuit} {z : Zone}

theorem exec_lampGrantNotice (c power : Nat) (s : State) :
    exec (.lampGrantNotice c power) s = .next (s.ended (s.works.lampGranted c power)) := rfl

/-- The works with the grant taken. -/
def Works.grantTaken (c power : Nat) (w : Works) : Works :=
  w.updCircuit c (fun x => { x with granted := power, request := none })

theorem Works.lampGranted_back (hx : w.lights.circuits[c]? = some x) (hg : x.grant = some g)
    (h : x.healthy = false ∨ w.commandsCircuit x = false) :
    w.lampGranted c power = (w.grantTaken c 0).send (.loadRelease g) := by
  simp only [Works.lampGranted, hx, hg]
  exact if_neg (by rcases h with h | h <;> simp [h])

theorem Works.lampGranted_taken (hx : w.lights.circuits[c]? = some x) (hg : x.grant = some g) (hh : x.healthy = true)
    (hc : w.commandsCircuit x = true) : w.lampGranted c power = ((w.grantTaken c power).judgeSet c).judgeShrink c := by
  simp only [Works.lampGranted, hx, hg]
  exact if_pos (by simp [hh, hc])

theorem Works.grantTaken_circuits (hx : w.lights.circuits[c]? = some x) (power : Nat) :
    (w.grantTaken c power).lights.circuits =
      updAt (fun _ => { x with granted := power, request := none }) c w.lights.circuits := updAt_eq_replace _ hx

/-- A grant that is taken and leads to a SET. -/
theorem Works.lampGranted_sets (hx : w.lights.circuits[c]? = some x) (hg : x.grant = some g) (hz : w.zoneOf x = some z)
    (hh : x.healthy = true) (hc : w.commandsCircuit x = true) (hy : y = { x with granted := power, request := none })
    (hp : power ≤ y.powerAt y.covered) (hr : w.lineRoom) (hn : w.noSetWaits z.unit x.output)
    (hl : (y.setList.getLast?.orElse (fun _ => y.reported)) ≠ some y.drive) :
    w.lampGranted c power = (w.grantTaken c power).setJoined c y.drive y z := by
  have hself : (w.grantTaken c power).lights.circuits[c]? = some y := hy ▸ Works.updCircuit_self _ hx
  have hzone : y.zone = x.zone := by rw [hy]
  rw [Works.lampGranted_taken hx hg hh hc]
  refine Works.judgeSet_judgeShrink (g := g) hself (by rw [hy]; exact hg) ?_ (by rw [hy]; exact hh) ?_ hr
    (by rw [hy]; exact hn) hl (by rw [hy] at hp ⊢; exact hp)
  · rw [← hz]
    exact Works.zoneOf_congr rfl hzone
  · rw [← hc]
    exact Works.commandsCircuit_congr rfl hzone

end Grant

/-- Settles O46: the grant is taken or given back, and the SET that follows joins the line. -/
theorem lampGrantNotice : Obligations.LampGrantNotice := by
  unfold Obligations.LampGrantNotice
  intro c power g x z s hx hg hz
  rw [exec_lampGrantNotice]
  have hkeeps : s.works.keepsLights (s.works.lampGranted c power) :=
    (Works.lampGranted_leads c power _ (by decide) .refl).keepsLights
  refine ⟨fun h => ⟨_, rfl, hkeeps, ?_⟩, fun y hh hc hy hp hr hn hl => ⟨_, rfl, hkeeps, ?_⟩⟩
  · rw [Works.lampGranted_back hx hg h]
    exact ⟨rfl, rfl, Works.grantTaken_circuits hx 0⟩
  · rw [Works.lampGranted_sets hx hg hz hh hc hy hp hr hn hl]
    have hself : (s.works.grantTaken c power).lights.circuits[c]? = some y := hy ▸ Works.updCircuit_self _ hx
    refine ⟨rfl, rfl, ?_, by rw [hy]; rfl⟩
    rw [Works.setJoined_circuits hself, Works.grantTaken_circuits hx, updAt_updAt]

/-! ## The shed request (R112) -/

section Shed

variable {w : Works} {c g r m : Nat} {x : Circuit} {z : Zone}

theorem exec_lampShedRequest (c : Nat) (s : State) :
    exec (.lampShedRequest c) s = .next (s.ended (s.works.lampShed c)) := rfl

theorem Works.lampShed_fails (hx : w.lights.circuits[c]? = some x) (hg : x.grant = some g)
    (h : x.healthy = false ∨ w.commandsCircuit x = false) : w.lampShed c = w.send (.shedFailure g) := by
  simp only [Works.lampShed, hx, hg]
  exact if_neg (by rcases h with h | h <;> simp [h])

/-- The works with the shed hold set. -/
def Works.heldBack (c : Nat) (w : Works) : Works := w.updCircuit c (fun x => { x with shedHold := true })

theorem Works.lampShed_holds (hx : w.lights.circuits[c]? = some x) (hg : x.grant = some g) (hh : x.healthy = true)
    (hc : w.commandsCircuit x = true) : w.lampShed c = ((w.heldBack c).endHold c).settleCircuit c := by
  simp only [Works.lampShed, hx, hg]
  exact if_pos (by simp [hh, hc])

/-- A hold goes on while more is granted than the minimum safe step draws (R112). -/
theorem Works.endHold_of_more (hx : w.lights.circuits[c]? = some x) (hz : w.zoneOf x = some z) (hm : z.minSafe = some m)
    (hp : x.powerAt m < x.granted) : w.endHold c = w := by
  simp only [Works.endHold, hx, hz]
  exact if_neg (by simp [hm, hp])

/-- A circuit without a request that is granted what it wants asks for nothing (R107). -/
theorem Works.judgeRequest_of_granted (hx : w.lights.circuits[c]? = some x) (hr : x.request = none)
    (hp : x.powerAt x.wanted ≤ x.granted) : w.judgeRequest c = w := by
  cases hg : x.grant with
  | none => simp only [Works.judgeRequest, hx, hg]
  | some g =>
    simp only [Works.judgeRequest, hx, hg]
    exact if_neg (by simp [hr, hp])

/-- A wanted step that comes down within the grant (R107). -/
theorem Works.judgeWanted_down (hx : w.lights.circuits[c]? = some x) (hz : w.zoneOf x = some z) (hh : x.healthy = true)
    (hr : x.request = none) (hw : x.wantedIn z = m) (hp : x.powerAt m ≤ x.granted) :
    (w.judgeWanted c).judgeRequest c = w.updCircuit c (fun x => { x with wanted := m }) := by
  have hself : (w.updCircuit c (fun x => { x with wanted := m })).lights.circuits[c]? = some { x with wanted := m } :=
    Works.updCircuit_self _ hx
  have hsame : (w.updCircuit c (fun x => { x with wanted := m })).judgeRequest c =
      w.updCircuit c (fun x => { x with wanted := m }) :=
    Works.judgeRequest_of_granted hself hr hp
  by_cases h : m = x.wanted
  · have hid : w.updCircuit c (fun x => { x with wanted := m }) = w := by
      rw [Works.updCircuit, updAt_eq_self fun y hy => by rw [hx] at hy; cases hy; rw [h]]
    have hkeep : w.judgeWanted c = w := by
      simp only [Works.judgeWanted, hx, hz, hw]
      exact if_neg (by simp [h])
    rw [hkeep]
    rw [hid] at hsame ⊢
    exact hsame
  · have hmove : w.judgeWanted c = (w.updCircuit c (fun x => { x with wanted := m })).judgeRequest c := by
      simp only [Works.judgeWanted, hx, hz, hw]
      exact if_pos (by simp [hh, h])
    rw [hmove, hsame, hsame]

/-- A lit circuit above its minimum safe step is held to that step, with a SET of it. -/
theorem Works.lampShed_sets (hx : w.lights.circuits[c]? = some x) (hg : x.grant = some g) (hz : w.zoneOf x = some z)
    (hh : x.healthy = true) (hc : w.commandsCircuit x = true) (hm : z.minSafe = some m) (hr : x.reported = some r)
    (hs : x.setList = []) (hq : x.request = none) (hmr : m < r) (hmt : m ≤ z.target) (hgr : x.granted = x.powerAt r)
    (hp : x.powerAt m < x.granted) (hroom : w.lineRoom) (hn : w.noSetWaits z.unit x.output) :
    w.lampShed c = ((w.heldBack c).updCircuit c (fun x => { x with wanted := m })).setJoined c m x z := by
  have hheld : (w.heldBack c).lights.circuits[c]? = some { x with shedHold := true } := Works.updCircuit_self _ hx
  have hzone : (w.heldBack c).zoneOf { x with shedHold := true } = some z := hz ▸ Works.zoneOf_congr rfl rfl
  have hself : ((w.heldBack c).updCircuit c (fun x => { x with wanted := m })).lights.circuits[c]? =
      some { x with shedHold := true, wanted := m } := Works.updCircuit_self _ hheld
  have hdrive : ({ x with shedHold := true, wanted := m } : Circuit).drive = m := by
    simp only [Circuit.drive, hg]
    exact highestStep_of_le (Nat.le_of_lt hp)
  have hcov : ({ x with shedHold := true, wanted := m } : Circuit).covered = r := by
    rw [Circuit.covered, hdrive]
    change x.setList.foldl max (max (x.reported.getD 0) m) = r
    rw [hs, hr]
    exact max_eq_left (Nat.le_of_lt hmr)
  rw [Works.lampShed_holds hx hg hh hc, Works.endHold_of_more hheld hzone hm hp, Works.settleCircuit,
    Works.judgeWanted_down hheld hzone hh hq (by simp [Circuit.wantedIn, hm, hmt]) (Nat.le_of_lt hp),
    Works.judgeSet_judgeShrink (g := g) (z := z) hself hg (hz ▸ Works.zoneOf_congr rfl rfl) hh
      (hc ▸ Works.commandsCircuit_congr rfl rfl) hroom hn ?_ ?_, hdrive]
  · rfl
  · rw [hdrive]
    simp [hs, hr, Nat.ne_of_gt hmr]
  · rw [hcov]
    exact Nat.le_of_eq hgr

end Shed

end Sys2Proof.Machine

namespace Sys2Proof.Machine

open Sys2Proof

/-! # A zone that loses its claim, and its settlement (R113) -/

/-! ## The circuits of a zone, one after another -/

section Circuits

variable {w v : Works} {i z : Nat} {x : Circuit} {f : Nat → Works → Works}

theorem Works.mem_circuitsOf : i ∈ w.circuitsOf z ↔ ∃ x, w.lights.circuits[i]? = some x ∧ x.zone = z := by
  unfold Works.circuitsOf
  rw [List.mem_map]
  refine ⟨fun ⟨⟨j, x⟩, hm, hj⟩ => ?_, fun ⟨x, hx, hz⟩ => ?_⟩
  · obtain ⟨hm, hz⟩ := List.mem_filter.mp hm
    obtain rfl : j = i := hj
    exact ⟨x, mem_indexed_zero.mp hm, by simpa using hz⟩
  · exact ⟨(i, x), List.mem_filter.mpr ⟨mem_indexed_zero.mpr hx, by simp [hz]⟩, rfl⟩

theorem Works.circuitsOf_nodup (w : Works) (z : Nat) : (w.circuitsOf z).Nodup := by
  have h : (w.circuitsOf z).Pairwise (· < ·) := List.pairwise_map.mpr ((indexed_ascends 0 w.lights.circuits).filter _)
  exact h.imp fun h => Nat.ne_of_lt h

/-- A circuit of the zone has its turn as the others leave it. -/
theorem Works.each_circuitOf (hf : ∀ c v, c ≠ i → (f c v).lights.circuits[i]? = v.lights.circuits[i]?)
    (hx : w.lights.circuits[i]? = some x) (hz : x.zone = z) : ∃ l1 l2,
      each (w.circuitsOf z) f w = each l2 f (f i (each l1 f w)) ∧ (each l1 f w).lights.circuits[i]? = some x ∧
      (each (w.circuitsOf z) f w).lights.circuits[i]? = (f i (each l1 f w)).lights.circuits[i]? := by
  obtain ⟨l1, l2, heach, h1, h2⟩ := each_turn (w.circuitsOf_nodup z) (Works.mem_circuitsOf.mpr ⟨x, hx, hz⟩)
    (fun v : Works => v.lights.circuits[i]?) hf w
  exact ⟨l1, l2, heach, h1.trans hx, h2⟩

/-- A circuit of another zone is left alone. -/
theorem Works.each_circuitOf_other (hf : ∀ c v, c ≠ i → (f c v).lights.circuits[i]? = v.lights.circuits[i]?)
    (hx : w.lights.circuits[i]? = some x) (hz : x.zone ≠ z) :
    (each (w.circuitsOf z) f w).lights.circuits[i]? = some x := by
  refine each_induction (P := fun v : Works => v.lights.circuits[i]? = some x) hx fun c hc v hv => ?_
  obtain ⟨y, hy, hyz⟩ := Works.mem_circuitsOf.mp hc
  have hne : c ≠ i := by
    rintro rfl
    obtain rfl : y = x := Option.some.inj (hy.symm.trans hx)
    exact hz hyz
  exact (hf c v hne).trans hv

end Circuits

/-! ## The current step (R109) -/

section Current

variable {w : Works} {z : Nat} {q : Zone}

@[simp] theorem Works.judgeCurrent_circuits (z : Nat) (w : Works) : (w.judgeCurrent z).lights.circuits = w.lights.circuits := by
  unfold Works.judgeCurrent
  split
  · rfl
  · dsimp only
    split
    · rfl
    · rw [Works.judgeZoneSet_lights]
      rfl

theorem Works.judgeCurrent_zone (hq : w.lights.zones[z]? = some q) :
    ∃ y, (w.judgeCurrent z).lights.zones[z]? = some { q with current := y } := by
  simp only [Works.judgeCurrent, hq]
  split
  · exact ⟨q.current, hq⟩
  · refine ⟨currentStep (w.zoneCircuits z) q.current, ?_⟩
    rw [Works.judgeZoneSet_lights]
    exact Works.updZone_self _ hq

theorem Works.judgeCurrent_only (z : Nat) (w : Works) : Works.Leads [.lights, .active] w (w.judgeCurrent z) :=
  Works.judgeCurrent_leads z w (by decide) .refl

end Current

/-! ## The ACTIVE ZONE SET (R113, R115, R116) -/

section ZoneSet

variable {w : Works} {z : Nat} {a : Active}

/-- The ACTIVE ZONE SET of a zone completed. -/
def Works.endZoneSet (z status detail second : Nat) (w : Works) : Works :=
  w.completeAll (fun a => decide (a.code = .zoneSet) && a.subject == z)
    (fun a w => w.complete a.slot status detail second [])

theorem Works.endZoneSet_only (z st d d2 : Nat) (w : Works) : Works.Leads [.active] w (w.endZoneSet z st d d2) :=
  each_leads _ _ _ (fun _ _ h => Works.complete_leads _ _ _ _ _ _ (by decide) h) .refl

theorem Works.endZoneSet_completed (ha : a ∈ w.active) (hc : a.code = .zoneSet) (hs : a.subject = z) (st d d2 : Nat) :
    (w.endZoneSet z st d d2).completed a.slot st d d2 :=
  Works.completeAll_completed ha (by simp [hc, hs]) (fun _ _ => Works.complete_only _ _ _ _ _ _) fun _ => rfl

end ZoneSet

/-! ## PANEL and LOCAL -/

section Uncommand

variable {w v : Works} {z i g : Nat} {c : ClaimValue} {x : Circuit} {q : Zone} {a : Active} {e : Grant}

/-- A circuit out of the controller's hands. -/
def Circuit.uncommanded (c : ClaimValue) (x : Circuit) : Circuit :=
  { x with setList := [], request := none, shedHold := false, reported := if c = .away then none else x.reported }

/-- What a circuit tells the budget as it leaves the controller's hands. -/
def Works.tellLoss (g : Nat) (asks : Bool) (w : Works) : Works :=
  let w := match w.budget.grants[g]? with
    | some e => if e.mark = ShedMark.asked then w.send (.shedFailure g) else w
    | none => w
  if asks then w.send (.loadWithdrawal g) else w

theorem Works.tellLoss_only (g : Nat) (b : Bool) (w : Works) : Works.Leads [] w (w.tellLoss g b) := by
  have hfail : Works.Leads [] w (match w.budget.grants[g]? with
      | some e => if e.mark = ShedMark.asked then w.send (.shedFailure g) else w
      | none => w) := by
    split
    · exact ite_leads (Works.send_leads _ _ .refl) .refl
    · exact .refl
  exact ite_leads (Works.send_leads _ _ hfail) hfail

theorem Works.uncommandCircuit_told (hx : w.lights.circuits[i]? = some x) (hg : x.grant = some g) (c : ClaimValue) :
    w.uncommandCircuit c i = ((w.giveUp (.lampSet i) .disregarded).tellLoss g x.request.isSome).updCircuit i
      (Circuit.uncommanded c) := by
  simp only [Works.uncommandCircuit, hx, hg]
  rfl

theorem Works.uncommandCircuit_free (hx : w.lights.circuits[i]? = some x) (hg : x.grant = none) (c : ClaimValue) :
    w.uncommandCircuit c i = (w.giveUp (.lampSet i) .disregarded).updCircuit i (Circuit.uncommanded c) := by
  simp only [Works.uncommandCircuit, hx, hg]
  rfl

theorem Works.uncommandCircuit_of_none (hx : w.lights.circuits[i]? = none) (c : ClaimValue) : w.uncommandCircuit c i = w := by
  simp only [Works.uncommandCircuit, hx]

/-- Only the circuit itself changes, and of the line queue only who still wants a request. -/
theorem Works.uncommandCircuit_spec (c : ClaimValue) (i : Nat) (w : Works) :
    (w.uncommandCircuit c i).lights.circuits = updAt (Circuit.uncommanded c) i w.lights.circuits ∧
    (w.uncommandCircuit c i).lights.zones = w.lights.zones ∧
    (w.uncommandCircuit c i).line.queue.map (fun e => (e.req, e.unit, e.output)) =
      w.line.queue.map (fun e => (e.req, e.unit, e.output)) := by
  have hgive : (w.giveUp (.lampSet i) .disregarded).line.queue.map (fun e => (e.req, e.unit, e.output)) =
      w.line.queue.map (fun e => (e.req, e.unit, e.output)) := by
    change (w.line.queue.map (QEntry.give (.lampSet i) .disregarded)).map _ = _
    rw [List.map_map]
    rfl
  cases hx : w.lights.circuits[i]? with
  | none =>
    rw [Works.uncommandCircuit_of_none hx, updAt_eq_self (by simp [hx])]
    exact ⟨rfl, rfl, rfl⟩
  | some x =>
    cases hg : x.grant with
    | none =>
      rw [Works.uncommandCircuit_free hx hg]
      exact ⟨rfl, rfl, hgive⟩
    | some g =>
      have htell := (w.giveUp (.lampSet i) .disregarded).tellLoss_only g x.request.isSome
      rw [Works.uncommandCircuit_told hx hg, Works.updCircuit_circuits, Works.updCircuit_zones, Works.updCircuit_line,
        htell.lights_eq (by decide), htell.line_eq (by decide)]
      exact ⟨rfl, rfl, hgive⟩

theorem Works.uncommandCircuit_other {j : Nat} (c : ClaimValue) (h : j ≠ i) (w : Works) :
    (w.uncommandCircuit c j).lights.circuits[i]? = w.lights.circuits[i]? := by
  rw [(Works.uncommandCircuit_spec c j w).1]
  exact getElem?_updAt_ne h.symm

theorem Works.uncommandCircuit_self (hx : w.lights.circuits[i]? = some x) (c : ClaimValue) :
    (w.uncommandCircuit c i).lights.circuits[i]? = some (x.uncommanded c) := by
  rw [(Works.uncommandCircuit_spec c i w).1]
  exact getElem?_updAt_self hx

theorem Works.uncommandCircuit_only (c : ClaimValue) (i : Nat) (w : Works) :
    Works.Leads [.dewater, .portals, .lights, .line] w (w.uncommandCircuit c i) :=
  Works.uncommandCircuit_leads c i w (by decide) .refl

theorem Works.uncommandCircuit_withdraws (hx : w.lights.circuits[i]? = some x) (hg : x.grant = some g)
    (hr : x.request.isSome = true) (c : ClaimValue) : (w.uncommandCircuit c i).handed (.loadWithdrawal g) := by
  rw [Works.uncommandCircuit_told hx hg, hr]
  exact Works.handed_send _ _

theorem Works.uncommandCircuit_fails (hx : w.lights.circuits[i]? = some x) (hg : x.grant = some g)
    (he : w.budget.grants[g]? = some e) (hm : e.mark = .asked) (c : ClaimValue) :
    (w.uncommandCircuit c i).handed (.shedFailure g) := by
  have he' : (w.giveUp (.lampSet i) .disregarded).budget.grants[g]? = some e := he
  rw [Works.uncommandCircuit_told hx hg]
  simp only [Works.tellLoss, he', if_pos hm]
  exact (ite_leads (Works.send_leads _ _ .refl) .refl : Works.Leads [] _ _).handed (by decide) (Works.handed_send _ _)

/-- The circuits of a zone out of the controller's hands. -/
def Works.uncommandCircuits (z : Nat) (c : ClaimValue) (w : Works) : Works :=
  each (w.circuitsOf z) (Works.uncommandCircuit c) w

/-- The ordered step given up, and the current step judged. -/
def Works.dropOrdered (z : Nat) (w : Works) : Works := (w.updZone z (fun x => { x with ordered := none })).judgeCurrent z

theorem Works.uncommandZone_eq (z : Nat) (c : ClaimValue) (w : Works) :
    w.uncommandZone z c = ((w.endZoneSet z 9 c.code 0).uncommandCircuits z c).dropOrdered z := rfl

theorem Works.uncommandCircuits_only (z : Nat) (c : ClaimValue) (w : Works) :
    Works.Leads [.dewater, .portals, .lights, .line] w (w.uncommandCircuits z c) :=
  each_leads _ _ _ (fun i v h => h.trans (v.uncommandCircuit_only c i)) .refl

theorem Works.dropOrdered_only (z : Nat) (w : Works) : Works.Leads [.lights, .active] w (w.dropOrdered z) :=
  Works.judgeCurrent_leads _ _ (by decide) (Works.updZone_leads _ _ _ (by decide) .refl)

@[simp] theorem Works.dropOrdered_circuits (z : Nat) (w : Works) : (w.dropOrdered z).lights.circuits = w.lights.circuits := by
  rw [Works.dropOrdered, Works.judgeCurrent_circuits, Works.updZone_circuits]

theorem Works.uncommandCircuits_rest (z : Nat) (c : ClaimValue) (w : Works) :
    (w.uncommandCircuits z c).lights.zones = w.lights.zones ∧
    (w.uncommandCircuits z c).line.queue.map (fun e => (e.req, e.unit, e.output)) =
      w.line.queue.map (fun e => (e.req, e.unit, e.output)) :=
  each_induction (P := fun v : Works => v.lights.zones = w.lights.zones ∧
    v.line.queue.map (fun e => (e.req, e.unit, e.output)) = w.line.queue.map (fun e => (e.req, e.unit, e.output)))
    ⟨rfl, rfl⟩ fun i _ v ⟨hz, hq⟩ =>
      ⟨(Works.uncommandCircuit_spec c i v).2.1.trans hz, (Works.uncommandCircuit_spec c i v).2.2.trans hq⟩

/-- A circuit of the zone gives up its SETs, its request and its shed mark. -/
theorem Works.uncommandCircuits_self (hx : w.lights.circuits[i]? = some x) (hz : x.zone = z) (c : ClaimValue) :
    (w.uncommandCircuits z c).lights.circuits[i]? = some (x.uncommanded c) ∧
    (∀ g, x.grant = some g → x.request.isSome = true → (w.uncommandCircuits z c).handed (.loadWithdrawal g)) ∧
    ∀ g e, x.grant = some g → w.budget.grants[g]? = some e → e.mark = .asked →
      (w.uncommandCircuits z c).handed (.shedFailure g) := by
  obtain ⟨l1, l2, heach, h1, h2⟩ := Works.each_circuitOf (f := Works.uncommandCircuit c)
    (fun j v h => Works.uncommandCircuit_other c h v) hx hz
  have hleads (l : List Nat) (v : Works) :
      Works.Leads [.dewater, .portals, .lights, .line] v (each l (Works.uncommandCircuit c) v) :=
    each_leads _ _ _ (fun j v h => h.trans (v.uncommandCircuit_only c j)) .refl
  rw [Works.uncommandCircuits, h2, heach]
  refine ⟨Works.uncommandCircuit_self h1 c, fun g hg hr => ?_, fun g e hg he hm => ?_⟩
  · exact (hleads l2 _).handed (by decide) (Works.uncommandCircuit_withdraws h1 hg hr c)
  · refine (hleads l2 _).handed (by decide) (Works.uncommandCircuit_fails (e := e) h1 hg ?_ hm c)
    rw [(hleads l1 w).budget_eq (by decide)]
    exact he

/-- A zone whose claim becomes PANEL or LOCAL (R113). -/
theorem uncommandZone_gives_up (w v : Works) (z : Nat) (c : ClaimValue) (q : Zone) (hq : w.lights.zones[z]? = some q)
    (hv : v = w.uncommandZone z c) :
    v.line.queue.map (fun e => (e.req, e.unit, e.output)) = w.line.queue.map (fun e => (e.req, e.unit, e.output)) ∧
    (∀ a ∈ w.active, a.code = .zoneSet → a.subject = z → v.completed a.slot 9 c.code 0) ∧
    (∃ y, v.lights.zones[z]? = some { q with ordered := none, current := y }) ∧
    ∀ (i : Nat) (x : Circuit), w.lights.circuits[i]? = some x →
      (x.zone ≠ z → v.lights.circuits[i]? = some x) ∧
      (x.zone = z → v.lights.circuits[i]? = some (x.uncommanded c) ∧
        (∀ g, x.grant = some g → x.request.isSome = true → v.handed (.loadWithdrawal g)) ∧
        ∀ g e, x.grant = some g → w.budget.grants[g]? = some e → e.mark = .asked → v.handed (.shedFailure g)) := by
  subst hv
  have hpre := w.endZoneSet_only z 9 c.code 0
  have hdrop := ((w.endZoneSet z 9 c.code 0).uncommandCircuits z c).dropOrdered_only z
  obtain ⟨hzones, hqueue⟩ := (w.endZoneSet z 9 c.code 0).uncommandCircuits_rest z c
  rw [Works.uncommandZone_eq]
  refine ⟨?_, fun a ha hc hs => ?_, ?_, fun i x hx => ?_⟩
  · rw [hdrop.line_eq (by decide), hqueue, hpre.line_eq (by decide)]
  · exact hdrop.completed (by decide) ((Works.uncommandCircuits_only z c _).completed (by decide)
      (Works.endZoneSet_completed ha hc hs 9 c.code 0))
  · refine Works.judgeCurrent_zone (q := { q with ordered := none }) (Works.updZone_self (q := q) _ ?_)
    rw [hzones, hpre.lights_eq (by decide), hq]
  · have hx' : (w.endZoneSet z 9 c.code 0).lights.circuits[i]? = some x := by rw [hpre.lights_eq (by decide), hx]
    rw [Works.dropOrdered_circuits]
    refine ⟨Works.each_circuitOf_other (fun j v h => Works.uncommandCircuit_other c h v) hx', fun hz => ?_⟩
    obtain ⟨hself, hwithdraw, hfail⟩ := Works.uncommandCircuits_self hx' hz c
    rw [hpre.budget_eq (by decide)] at hfail
    exact ⟨hself, fun g hg hr => hdrop.handed (by decide) (hwithdraw g hg hr),
      fun g e hg he hm => hdrop.handed (by decide) (hfail g e hg he hm)⟩

end Uncommand

end Sys2Proof.Machine

namespace Sys2Proof.Machine

open Sys2Proof

/-! # The settlement of a zone (R113), and the circuits in index order (R107) -/

/-! ## The reported step and the adoption -/

section Reports

variable {w : Works} {i j g : Nat} {x : Circuit} {reports : List (Option Nat)}

theorem Works.takeReport_other (h : j ≠ i) (w : Works) :
    (w.takeReport reports j).lights.circuits[i]? = w.lights.circuits[i]? := Works.updCircuit_other _ h.symm w

theorem Works.takeReport_self (hx : w.lights.circuits[i]? = some x) {r : Nat} (hr : reports[i]? = some (some r)) :
    (w.takeReport reports i).lights.circuits[i]? = some { x with reported := some r } := by
  rw [Works.takeReport, Works.updCircuit_self _ hx, List.getD_eq_getElem?_getD, hr]
  rfl

/-- A healthy circuit granted at least what its reported step draws. -/
def Circuit.adopted (x : Circuit) : Circuit :=
  { x with granted := if x.healthy = true then max x.granted (x.powerAt (x.reported.getD 0)) else x.granted }

theorem Works.adoptCircuit_more (hx : w.lights.circuits[i]? = some x) (hg : x.grant = some g) (hh : x.healthy = true)
    (hp : x.granted < x.powerAt (x.reported.getD 0)) :
    w.adoptCircuit i = (w.updCircuit i (fun y => { y with granted := x.powerAt (x.reported.getD 0) })).send
      (.adoptionNotice g (x.powerAt (x.reported.getD 0))) := by
  simp only [Works.adoptCircuit, hx, hg]
  exact if_pos (by simp [hh, hp])

theorem Works.adoptCircuit_kept (hx : w.lights.circuits[i]? = some x)
    (h : x.grant = none ∨ x.healthy = false ∨ x.powerAt (x.reported.getD 0) ≤ x.granted) : w.adoptCircuit i = w := by
  cases hg : x.grant with
  | none => simp only [Works.adoptCircuit, hx, hg]
  | some g =>
    simp only [Works.adoptCircuit, hx, hg]
    refine if_neg ?_
    rcases h with h | h | h
    · rw [hg] at h
      cases h
    · simp [h]
    · simp [h]

theorem Works.adoptCircuit_other (h : j ≠ i) (w : Works) :
    (w.adoptCircuit j).lights.circuits[i]? = w.lights.circuits[i]? := by
  cases hx : w.lights.circuits[j]? with
  | none => simp only [Works.adoptCircuit, hx]
  | some x =>
    cases hg : x.grant with
    | none => rw [Works.adoptCircuit_kept hx (.inl hg)]
    | some g =>
      simp only [Works.adoptCircuit, hx, hg]
      split
      · exact Works.updCircuit_other _ h.symm w
      · rfl

theorem Works.adoptCircuit_self (hx : w.lights.circuits[i]? = some x) (hg : x.grant = some g) :
    (w.adoptCircuit i).lights.circuits[i]? = some x.adopted := by
  by_cases hm : x.healthy = true ∧ x.granted < x.powerAt (x.reported.getD 0)
  · rw [Works.adoptCircuit_more hx hg hm.1 hm.2]
    refine (Works.updCircuit_self _ hx).trans ?_
    rw [Circuit.adopted, if_pos hm.1, max_eq_right (Nat.le_of_lt hm.2)]
  · rw [Works.adoptCircuit_kept hx (.inr (by simpa [imp_iff_not_or] using hm)), hx, Circuit.adopted]
    split
    · next hh => rw [max_eq_left (Nat.not_lt.mp fun hp => hm ⟨hh, hp⟩)]
    · rfl

theorem Works.adoptCircuit_handed (hx : w.lights.circuits[i]? = some x) (hg : x.grant = some g) (hh : x.healthy = true)
    (hp : x.granted < x.powerAt (x.reported.getD 0)) :
    (w.adoptCircuit i).handed (.adoptionNotice g (x.powerAt (x.reported.getD 0))) := by
  rw [Works.adoptCircuit_more hx hg hh hp]
  exact Works.handed_send _ _

theorem Works.adoptCircuit_only (i : Nat) (w : Works) : Works.Leads [.lights] w (w.adoptCircuit i) :=
  Works.adoptCircuit_leads i w (by decide) .refl

end Reports

/-! ## The fault flag (R110) -/

section Fault

variable {w : Works} {i j : Nat} {x : Circuit} {f : LampFlag} {img : Option (List Byte)}

theorem Circuit.healthy_iff (x : Circuit) : x.healthy = true ↔ x.fault = .clear := decide_eq_true_iff

/-- What a circuit that gives its grant back tells the budget. -/
def Works.returned (g : Nat) (x : Circuit) (w : Works) : Works :=
  let w := if x.request.isSome then w.send (.loadWithdrawal g) else w
  if 0 < x.granted then w.send (.loadRelease g) else w

theorem Works.returned_lights (g : Nat) (x : Circuit) (w : Works) : (w.returned g x).lights = w.lights := by
  have hask : Works.Leads [] w (if x.request.isSome then w.send (.loadWithdrawal g) else w) :=
    ite_leads (Works.send_leads _ _ .refl) .refl
  exact (ite_leads (Works.send_leads _ _ hask) hask).lights_eq (by decide)

theorem Works.dropLampGrant_held {g : Nat} (hx : w.lights.circuits[i]? = some x) (hg : x.grant = some g) : w.dropLampGrant i =
    (w.returned g x).updCircuit i (fun x => { x with granted := 0, request := none, shedHold := false }) := by
  simp only [Works.dropLampGrant, hx, hg]
  rfl

theorem Works.dropLampGrant_free (hx : w.lights.circuits[i]? = some x) (hg : x.grant = none) : w.dropLampGrant i = w := by
  simp only [Works.dropLampGrant, hx, hg]

theorem Works.dropLampGrant_other (h : j ≠ i) (w : Works) :
    (w.dropLampGrant j).lights.circuits[i]? = w.lights.circuits[i]? := by
  cases hx : w.lights.circuits[j]? with
  | none => simp only [Works.dropLampGrant, hx]
  | some x =>
    cases hg : x.grant with
    | none => rw [Works.dropLampGrant_free hx hg]
    | some g => rw [Works.dropLampGrant_held hx hg, Works.updCircuit_other _ h.symm, Works.returned_lights]

/-- A circuit that gives its grant back keeps what it reports and its SETs. -/
theorem Works.dropLampGrant_self (hx : w.lights.circuits[i]? = some x) : ∃ n r b,
    (w.dropLampGrant i).lights.circuits[i]? = some { x with granted := n, request := r, shedHold := b } := by
  cases hg : x.grant with
  | none => exact ⟨x.granted, x.request, x.shedHold, by rw [Works.dropLampGrant_free hx hg, hx, ← hg]⟩
  | some g =>
    have hreturned : (w.returned g x).lights.circuits[i]? = some x := by rw [Works.returned_lights, hx]
    exact ⟨0, none, false, by rw [Works.dropLampGrant_held hx hg, Works.updCircuit_self _ hreturned, hg]⟩

theorem Works.markFault_other (h : j ≠ i) (f : LampFlag) (n : Nat) (w : Works) :
    (w.markFault j f n).lights.circuits[i]? = w.lights.circuits[i]? := by
  unfold Works.markFault
  split
  · rfl
  · split
    · rfl
    · exact (Works.updCircuit_other _ h.symm _).trans (Works.dropLampGrant_other h w)

theorem Works.markFault_self (hx : w.lights.circuits[i]? = some x) (h : x.fault ≠ f) (n : Nat) : ∃ y,
    (w.markFault i f n).lights.circuits[i]? = some y ∧ y.fault = f ∧ y.reported = x.reported ∧ y.setList = x.setList := by
  obtain ⟨m, r, b, hd⟩ := Works.dropLampGrant_self hx
  refine ⟨{ x with granted := m, request := r, shedHold := false, fault := f }, ?_, rfl, rfl, rfl⟩
  simp only [Works.markFault, hx, if_neg h]
  exact Works.updCircuit_self _ hd

theorem Works.clearFault_other (h : j ≠ i) (w : Works) :
    (w.clearFault j).lights.circuits[i]? = w.lights.circuits[i]? := by
  unfold Works.clearFault
  split
  · rfl
  · split
    · rfl
    · exact Works.updCircuit_other _ h.symm w

theorem Works.clearFault_self (hx : w.lights.circuits[i]? = some x) :
    (w.clearFault i).lights.circuits[i]? = some { x with fault := .clear } := by
  simp only [Works.clearFault, hx]
  split
  · next hh => rw [hx, ← x.healthy_iff.mp hh]
  · exact Works.updCircuit_self _ hx

/-- The flag that a settlement gives: REFUSED is cleared, and a response judges the lamp fault (R113 step 3). -/
def Circuit.settledFault (img : Option (List Byte)) (x : Circuit) : LampFlag :=
  match img with
  | some b => if bitAt (imgByte b 8) x.output = true then .lamp else .clear
  | none => if x.fault = .refused then .clear else x.fault

/-- The circuit with REFUSED cleared. -/
def Circuit.unrefused (x : Circuit) : Circuit := { x with fault := if x.fault = .refused then .clear else x.fault }

/-- REFUSED is cleared. -/
def Works.clearRefused (i : Nat) (x : Circuit) (w : Works) : Works := if x.fault = .refused then w.clearFault i else w

theorem Works.clearRefused_self (hx : w.lights.circuits[i]? = some x) : (w.clearRefused i x).lights.circuits[i]? =
    some x.unrefused := by
  unfold Works.clearRefused Circuit.unrefused
  split
  · exact Works.clearFault_self hx
  · exact hx

theorem Works.settleFault_of_none (hx : w.lights.circuits[i]? = some x) : w.settleFault none i = w.clearRefused i x := by
  simp only [Works.settleFault, hx]
  rfl

theorem Works.settleFault_of_some (hx : w.lights.circuits[i]? = some x) (b : List Byte) : w.settleFault (some b) i =
    if (x.unrefused.healthy && bitAt (imgByte b 8) x.output) = true then (w.clearRefused i x).markFault i .lamp 0
    else if (decide (x.unrefused.fault = .lamp) && !bitAt (imgByte b 8) x.output) = true then (w.clearRefused i x).clearFault i
    else w.clearRefused i x := by
  have hy := Works.clearRefused_self hx
  rw [Works.clearRefused] at hy
  simp only [Works.settleFault, hx, hy]
  rfl

theorem Works.settleFault_other (h : j ≠ i) (w : Works) :
    (w.settleFault img j).lights.circuits[i]? = w.lights.circuits[i]? := by
  cases hx : w.lights.circuits[j]? with
  | none => simp only [Works.settleFault, hx]
  | some x =>
    have hclear : (w.clearRefused j x).lights.circuits[i]? = w.lights.circuits[i]? := by
      unfold Works.clearRefused
      split
      · exact Works.clearFault_other h w
      · rfl
    cases img with
    | none => rw [Works.settleFault_of_none hx, hclear]
    | some b =>
      rw [Works.settleFault_of_some hx]
      split
      · exact (Works.markFault_other h _ _ _).trans hclear
      · split
        · exact (Works.clearFault_other h _).trans hclear
        · exact hclear

/-- A settlement leaves the circuit the flag of R113, and its grant unless it faults. -/
theorem Works.settleFault_self (hx : w.lights.circuits[i]? = some x) : ∃ y,
    (w.settleFault img i).lights.circuits[i]? = some y ∧ y.fault = x.settledFault img ∧ y.reported = x.reported ∧
      y.setList = x.setList ∧ (y.healthy = true → y.granted = x.granted) := by
  have hclear := Works.clearRefused_self hx
  cases img with
  | none =>
    rw [Works.settleFault_of_none hx]
    exact ⟨_, hclear, rfl, rfl, rfl, fun _ => rfl⟩
  | some b =>
    rw [Works.settleFault_of_some hx]
    cases hb : bitAt (imgByte b 8) x.output
    · have hset : x.settledFault (some b) = .clear := if_neg (by simp [hb])
      rw [if_neg (by simp)]
      split
      · exact ⟨_, Works.clearFault_self hclear, hset.symm, rfl, rfl, fun _ => rfl⟩
      · next hl =>
        refine ⟨_, hclear, ?_, rfl, rfl, fun _ => rfl⟩
        rw [hset]
        cases hf : x.fault <;> simp [hf, Circuit.unrefused] at hl ⊢
    · have hset : x.settledFault (some b) = .lamp := if_pos hb
      split
      · next hh =>
        obtain ⟨hh, -⟩ := (Bool.and_eq_true ..).mp hh
        have hdark : x.unrefused.fault ≠ .lamp := by rw [(Circuit.healthy_iff _).mp hh]; decide
        obtain ⟨y, hy, hf, hr, hs⟩ := Works.markFault_self hclear hdark 0
        refine ⟨y, hy, hf.trans hset.symm, hr, hs, fun hyh => ?_⟩
        rw [Circuit.healthy_iff, hf] at hyh
        cases hyh
      · next hh =>
        rw [if_neg (by simp)]
        refine ⟨_, hclear, ?_, rfl, rfl, fun _ => rfl⟩
        rw [hset]
        cases hf : x.fault <;> simp [hf, Circuit.healthy, Circuit.unrefused] at hh ⊢

theorem Works.settleFault_only (img : Option (List Byte)) (i : Nat) (w : Works) :
    Works.Leads [.dewater, .portals, .lights, .line] w (w.settleFault img i) :=
  Works.settleFault_leads img i w (by decide) .refl

end Fault

/-! ## The zone -/

section Settle

variable {w : Works} {i z : Nat} {x : Circuit} {reports : List (Option Nat)}

/-- The reported steps taken, over all circuits of a zone. -/
def Works.takeReports (reports : List (Option Nat)) (z : Nat) (w : Works) : Works :=
  each (w.circuitsOf z) (Works.takeReport reports) w

/-- What the circuits of a zone draw adopted. -/
def Works.adoptCircuits (z : Nat) (w : Works) : Works := each (w.circuitsOf z) Works.adoptCircuit w

/-- The fault flags of a zone's circuits judged. -/
def Works.settleFaults (img : Option (List Byte)) (z : Nat) (w : Works) : Works :=
  each (w.circuitsOf z) (Works.settleFault img) w

theorem Works.settleZone_eq (reports : List (Option Nat)) (img : Option (List Byte)) (z : Nat) (w : Works) :
    w.settleZone reports img z = (((w.takeReports reports z).adoptCircuits z).settleFaults img z).judgeCurrent z := rfl

theorem Works.takeReports_self (hx : w.lights.circuits[i]? = some x) (hz : x.zone = z) {r : Nat}
    (hr : reports[i]? = some (some r)) :
    (w.takeReports reports z).lights.circuits[i]? = some { x with reported := some r } := by
  obtain ⟨l1, l2, -, h1, h2⟩ := Works.each_circuitOf (f := Works.takeReport reports)
    (fun _ v h => Works.takeReport_other h v) hx hz
  exact h2.trans (Works.takeReport_self h1 hr)

theorem Works.adoptCircuits_self (hx : w.lights.circuits[i]? = some x) (hz : x.zone = z) {g : Nat} (hg : x.grant = some g) :
    (w.adoptCircuits z).lights.circuits[i]? = some x.adopted ∧
    (x.healthy = true → x.granted < x.powerAt (x.reported.getD 0) →
      (w.adoptCircuits z).handed (.adoptionNotice g (x.powerAt (x.reported.getD 0)))) := by
  obtain ⟨l1, l2, heach, h1, h2⟩ := Works.each_circuitOf (f := Works.adoptCircuit)
    (fun _ v h => Works.adoptCircuit_other h v) hx hz
  refine ⟨h2.trans (Works.adoptCircuit_self h1 hg), fun hh hp => ?_⟩
  rw [Works.adoptCircuits, heach]
  exact (each_leads (ps := [.lights]) l2 _ _ (fun c v h => h.trans (v.adoptCircuit_only c)) .refl).handed (by decide)
    (Works.adoptCircuit_handed h1 hg hh hp)

theorem Works.settleFaults_self {img : Option (List Byte)} (hx : w.lights.circuits[i]? = some x) (hz : x.zone = z) : ∃ y,
    (w.settleFaults img z).lights.circuits[i]? = some y ∧ y.fault = x.settledFault img ∧ y.reported = x.reported ∧
      y.setList = x.setList ∧ (y.healthy = true → y.granted = x.granted) := by
  obtain ⟨l1, l2, -, h1, h2⟩ := Works.each_circuitOf (f := Works.settleFault img)
    (fun _ v h => Works.settleFault_other h v) hx hz
  obtain ⟨y, hy, hrest⟩ := Works.settleFault_self (img := img) h1
  exact ⟨y, h2.trans hy, hrest⟩

theorem Works.settleFaults_only (img : Option (List Byte)) (z : Nat) (w : Works) :
    Works.Leads [.dewater, .portals, .lights, .line] w (w.settleFaults img z) :=
  each_leads _ _ _ (fun c v h => h.trans (v.settleFault_only img c)) .refl

/-- The settlement of a zone (R113). -/
theorem settleZone_settles (w v : Works) (reports : List (Option Nat)) (img : Option (List Byte)) (z i g r : Nat) (x : Circuit)
    (hx : w.lights.circuits[i]? = some x) (hz : x.zone = z) (hg : x.grant = some g) (hr : reports[i]? = some (some r))
    (hv : v = w.settleZone reports img z) :
    ∃ y, v.lights.circuits[i]? = some y ∧ y.reported = some r ∧ y.setList = x.setList ∧
      (x.healthy = true → x.granted < x.powerAt r → v.handed (.adoptionNotice g (x.powerAt r))) ∧
      (∀ b, img = some b → y.fault = (if bitAt (imgByte b 8) x.output = true then .lamp else .clear)) ∧
      (img = none → y.fault = (if x.fault = .refused then .clear else x.fault)) ∧
      (y.healthy = true → y.granted = if x.healthy = true then max x.granted (x.powerAt r) else x.granted) := by
  subst hv
  obtain ⟨hadopt, hnotice⟩ := Works.adoptCircuits_self (g := g) (Works.takeReports_self hx hz hr) hz hg
  obtain ⟨y, hy, hf, hrep, hset, hgr⟩ := Works.settleFaults_self (img := img) hadopt hz
  rw [Works.settleZone_eq]
  refine ⟨y, by rw [Works.judgeCurrent_circuits, hy], hrep, hset, fun hh hp => ?_, fun b hb => ?_, fun hn => ?_, hgr⟩
  · exact (Works.judgeCurrent_only z _).handed (by decide) ((Works.settleFaults_only img z _).handed (by decide) (hnotice hh hp))
  · subst hb
    exact hf
  · subst hn
    exact hf

end Settle

/-! ## One pass in index order -/

section Follow

/-- A circuit followed once the targets are computed: judged anew in a settled zone, elsewhere where its wanted step moves. -/
def Works.followOne (zones : List Nat) (c z : Nat) (w : Works) : Works :=
  if zones.contains z then w.settleCircuit c else w.followTarget c

/-- As the circuits are followed no circuit changes its zone, so the pass may read the zones beforehand. -/
theorem foldl_followOne (zones : List Nat) (l : List Circuit) (n : Nat) (w : Works)
    (hl : ∀ (j : Nat) (x : Circuit), l[j]? = some x → ∃ y, w.lights.circuits[n + j]? = some y ∧ y.zone = x.zone) :
    (List.range' n l.length).foldl (fun u c => match u.lights.circuits[c]? with
      | some x => u.followOne zones c x.zone
      | none => u) w = (indexed n l).foldl (fun u x => u.followOne zones x.1 x.2.zone) w := by
  induction l generalizing n w with
  | nil => rfl
  | cons x l ih =>
    obtain ⟨y, hy, hyz⟩ := hl 0 x rfl
    have hplan : (w.followOne zones n x.zone).lights.plan = w.lights.plan := by simp [Works.followOne]
    rw [List.length_cons, List.range'_succ, indexed, List.foldl_cons, List.foldl_cons, ← hyz]
    rw [Nat.add_zero] at hy
    simp only [hy]
    refine ih (n + 1) _ fun j q hq => ?_
    obtain ⟨p, hp, hpz⟩ := hl (j + 1) q hq
    obtain ⟨p', hp', hpz'⟩ := Works.circuit_of_plan (hyz ▸ hplan) hp
    exact ⟨p', by rw [Nat.add_right_comm]; exact hp', hpz'.trans hpz⟩

theorem Works.followCircuits_eq (w : Works) (zones : List Nat) : w.followCircuits zones =
    (indexed 0 w.lights.circuits).foldl (fun u x => u.followOne zones x.1 x.2.zone) w := by
  rw [← foldl_followOne zones w.lights.circuits 0 w fun j x hx => ⟨x, by rw [Nat.zero_add]; exact hx, rfl⟩,
    ← List.range_eq_range']
  rfl

end Follow

/-- Settles O47: the shed request, the loss of a claim, the settlement and the pass over the circuits, each by its operations in
order. -/
theorem lampShedRequest : Obligations.LampShedRequest := by
  unfold Obligations.LampShedRequest
  refine ⟨fun c g x z s hx hg hz => ⟨fun h => ?_, fun r m hh hc hm hr hs hq hmr hmt hgr hp hroom hn => ⟨_, rfl, ?_, ?_⟩⟩,
    uncommandZone_gives_up, settleZone_settles, Works.followCircuits_eq⟩
  · rw [exec_lampShedRequest, Works.lampShed_fails hx hg h]
  · exact (Works.lampShed_leads c _ (by decide) .refl).keepsLights
  · have hself : ((s.works.heldBack c).updCircuit c (fun x => { x with wanted := m })).lights.circuits[c]? =
        some { x with shedHold := true, wanted := m } := Works.updCircuit_self _ (Works.updCircuit_self _ hx)
    rw [Works.lampShed_sets hx hg hz hh hc hm hr hs hq hmr hmt hgr hp hroom hn]
    refine ⟨rfl, rfl, ?_, rfl⟩
    refine (updAt_updAt _ _ _ _).trans ((updAt_updAt _ _ _ _).trans ((updAt_eq_replace _ hx).trans ?_))
    simp [hs]

end Sys2Proof.Machine

namespace Sys2Proof.Machine

open Sys2Proof

/-! # Target steps and selections (R102, R104, R106) -/

/-! ## Target steps (Table 5-4) -/

section Targets

variable {l : Lights} {z thr int : Nat} {x : Zone}

theorem Lights.targets_getElem? (hx : l.zones[z]? = some x) : l.targets[z]? = some (
    if z = 1 ∨ z = 3 then x.transitionTarget ((l.zones.map (fun z => z.ownTarget l.day.isDay)).getD (z - 1) 0)
      ((l.zones.map (fun z => z.ownTarget l.day.isDay)).getD 4 0)
    else x.ownTarget l.day.isDay) := by
  have hown : (l.zones.map (fun z => z.ownTarget l.day.isDay)).getD z 0 = x.ownTarget l.day.isDay := by
    simp [hx]
  simp only [Lights.targets, List.getElem?_map, getElem?_indexed, hx, Option.map_some, Nat.zero_add, hown]

/-- A threshold zone, INTERIOR or EGRESS. -/
theorem Lights.targets_own (hx : l.zones[z]? = some x) (h1 : z ≠ 1) (h3 : z ≠ 3) :
    l.targets[z]? = some (x.ownTarget l.day.isDay) := by
  rw [Lights.targets_getElem? hx, if_neg (by simp [h1, h3])]

/-- A transition zone, by the targets of its threshold zone and of INTERIOR. -/
theorem Lights.targets_transition (hx : l.zones[z]? = some x) (hz : z = 1 ∨ z = 3) (ht : l.targets[z - 1]? = some thr)
    (hi : l.targets[4]? = some int) : l.targets[z]? = some (x.transitionTarget thr int) := by
  have hown {j n : Nat} (hj : l.targets[j]? = some n) (h1 : j ≠ 1) (h3 : j ≠ 3) :
      (l.zones.map (fun z => z.ownTarget l.day.isDay)).getD j 0 = n := by
    cases hq : l.zones[j]? with
    | none => simp [Lights.targets, getElem?_indexed, hq] at hj
    | some q =>
      rw [Lights.targets_own hq h1 h3, Option.some.injEq] at hj
      simp [hq, hj]
  rw [Lights.targets_getElem? hx, if_pos hz, hown ht (by omega) (by omega), hown hi (by decide) (by decide)]

theorem Zone.ownTarget_ordered {k : Nat} (h : x.ordered = some k) (d : Bool) : x.ownTarget d = k := by
  simp [Zone.ownTarget, h]

theorem Zone.transitionTarget_le (x : Zone) (thr int : Nat) : x.transitionTarget thr int ≤ thr := by
  unfold Zone.transitionTarget
  split
  · exact Nat.min_le_right _ _
  · split <;> exact Nat.min_le_right _ _

end Targets

/-! ## The targets computed again (R106) -/

section Retarget

variable {w : Works} {z : Nat} {x : Zone}

/-- The zone records without their targets. -/
def Lights.untargeted (l : Lights) : List Zone := l.zones.map (fun z => { z with target := 0 })

theorem Works.setTargets_zone (hx : w.lights.zones[z]? = some x) :
    w.setTargets.lights.zones[z]? = some { x with target := w.lights.targets.getD z 0 } := by
  simp [Works.setTargets, getElem?_indexed, hx]

theorem Works.setTargets_untargeted (w : Works) : w.setTargets.lights.untargeted = w.lights.untargeted := by
  refine List.ext_getElem? fun i => ?_
  simp only [Lights.untargeted, Works.setTargets, List.getElem?_map, getElem?_indexed, Option.map_map]
  rfl

/-- The targets are read from the rest of the zone records and the day decision. -/
theorem Lights.targets_congr {l m : Lights} (hz : l.untargeted = m.untargeted) (hd : l.day = m.day) : l.targets = m.targets := by
  have htargets (k : Lights) : k.targets = { k with zones := k.untargeted }.targets := by
    have hown : k.untargeted.map (fun z => z.ownTarget k.day.isDay) = k.zones.map (fun z => z.ownTarget k.day.isDay) := by
      rw [Lights.untargeted, List.map_map]
      rfl
    refine List.ext_getElem? fun i => ?_
    simp only [Lights.targets, hown]
    simp only [Lights.untargeted, List.getElem?_map, getElem?_indexed, Option.map_map]
    rfl
  rw [htargets l, htargets m, Lights.targets, Lights.targets, hz, hd]

/-- What follows the targets changes neither a zone record nor the day decision. -/
theorem Works.retarget_plan (w : Works) : w.retarget.lights.plan = w.setTargets.lights.plan := by
  have hjudge : (each w.movedTargets Works.judgeZoneSet (w.setTargets.followCircuits [])).lights.plan =
      (w.setTargets.followCircuits []).lights.plan := each_plan _ _ _ fun z v => by rw [Works.judgeZoneSet_lights]
  exact hjudge.trans (Works.followCircuits_plan _ _)

theorem Works.retarget_zones (w : Works) : w.retarget.lights.zones = w.setTargets.lights.zones :=
  Works.zones_of_plan w.retarget_plan

@[simp] theorem Works.retarget_day (w : Works) : w.retarget.lights.day = w.lights.day :=
  (Works.day_of_plan w.retarget_plan).trans w.setTargets_day

/-- Each zone has the target that Table 5-4 gives, and is otherwise as it was. -/
theorem Works.retarget_zone (hx : w.lights.zones[z]? = some x) : ∃ n,
    w.retarget.lights.zones[z]? = some { x with target := n } ∧ w.retarget.lights.targets[z]? = some n := by
  have htargets : w.retarget.lights.targets = w.lights.targets := by
    refine Lights.targets_congr ?_ w.retarget_day
    rw [Lights.untargeted, Works.retarget_zones]
    exact w.setTargets_untargeted
  refine ⟨w.lights.targets.getD z 0, ?_, ?_⟩
  · rw [Works.retarget_zones, Works.setTargets_zone hx]
  · rw [htargets, List.getD_eq_getElem?_getD, Lights.targets_getElem? hx]
    rfl

end Retarget

/-! ## The selection of a threshold zone (R102) -/

section Selection

variable {t : StepTable} {c : StepChoice} {v n b : Nat}

/-- A sample above the selected step. -/
theorem StepChoice.next_up (h : c.selected < upIndex t v) (hn : n = if c.dir = RunDir.up then c.count + 1 else 1)
    (hb : b = if c.dir = RunDir.up then min c.bound (upIndex t v) else upIndex t v) :
    c.next t v = if t.qualify ≤ n then { selected := b, dir := .none, count := 0, bound := b }
      else { selected := c.selected, dir := .up, count := n, bound := b } := by
  subst hn hb
  simp only [StepChoice.next, if_pos h]
  by_cases hd : c.dir = RunDir.up
  · simp only [hd, if_true, StepChoice.settle]
  · simp only [if_neg hd, StepChoice.settle]

/-- A sample below the selected step. -/
theorem StepChoice.next_down (hu : upIndex t v ≤ c.selected) (h : downIndex t v < c.selected)
    (hn : n = if c.dir = RunDir.down then c.count + 1 else 1)
    (hb : b = if c.dir = RunDir.down then max c.bound (downIndex t v) else downIndex t v) :
    c.next t v = if t.qualify ≤ n then { selected := b, dir := .none, count := 0, bound := b }
      else { selected := c.selected, dir := .down, count := n, bound := b } := by
  subst hn hb
  simp only [StepChoice.next, if_neg (Nat.not_lt.mpr hu), if_pos h]
  by_cases hd : c.dir = RunDir.down
  · simp only [hd, if_true, StepChoice.settle]
  · simp only [if_neg hd, StepChoice.settle]

/-- A sample within the band of the selected step ends a run. -/
theorem StepChoice.next_stays (hu : upIndex t v ≤ c.selected) (hd : c.selected ≤ downIndex t v) :
    c.next t v = { c with dir := .none, count := 0 } := by
  simp only [StepChoice.next, if_neg (Nat.not_lt.mpr hu), if_neg (Nat.not_lt.mpr hd)]

end Selection

/-! ## Selections and the day decision at a luminance channel (R102 to R104) -/

section Luminance

variable {w v u : Works} {ch n z : Nat} {y : Zone} {t : StepTable} {c : StepChoice} {f : StepTable → StepChoice → StepChoice}

/-- A threshold zone follows the channel by its own selection. -/
theorem Works.updChoices_zone (hy : w.lights.zones[z]? = some y) (ht : y.table = some t) (hc : y.choice = some c)
    (hch : t.channel = ch) : (w.updChoices ch f).lights.zones[z]? = some { y with choice := some (f t c) } := by
  simp [Works.updChoices, hy, ht, hc, hch]

@[simp] theorem Works.updChoices_day (ch : Nat) (f : StepTable → StepChoice → StepChoice) (w : Works) :
    (w.updChoices ch f).lights.day = w.lights.day := rfl

theorem Works.judgeDecider_day (w : Works) : w.judgeDecider.lights.day = if w.lights.day.decider = w.dayDecider then w.lights.day
    else { w.lights.day with state := w.lights.day.state.settled, decider := w.dayDecider } := by
  unfold Works.judgeDecider
  dsimp only
  split <;> rfl

@[simp] theorem Works.judgeDecider_zones (w : Works) : w.judgeDecider.lights.zones = w.lights.zones := by
  unfold Works.judgeDecider
  dsimp only
  split <;> rfl

theorem Works.judgeDay_idle (h : w.lights.day.decider ≠ some ch) : w.judgeDay ch n = w := if_neg h

/-- The day decision as it stands after a sample of its channel. -/
theorem Works.judgeDay_day (h : w.lights.day.decider = some ch) : (w.judgeDay ch n).lights.day = { w.lights.day with
    state := upStep w.lights.day.boundary w.lights.day.hysteresis w.lights.day.qualify w.lights.day.state n } := by
  simp only [Works.judgeDay, if_pos h]
  split <;> rfl

theorem Works.judgeDay_recorded (h : w.lights.day.decider = some ch)
    (hs : (upStep w.lights.day.boundary w.lights.day.hysteresis w.lights.day.qualify w.lights.day.state n).settled ≠
      w.lights.day.state.settled) :
    (w.judgeDay ch n).recorded .daylight 4 (some (flag w.lights.day.isDay)) (some (flag (!w.lights.day.isDay))) [ch, n]
      false := by
  simp only [Works.judgeDay, if_pos h, if_neg hs]
  exact Works.recorded_record _ _ _ _ _ _ _

@[simp] theorem Works.judgeDay_zones (ch n : Nat) (w : Works) : (w.judgeDay ch n).lights.zones = w.lights.zones := by
  unfold Works.judgeDay
  dsimp only
  repeat' split
  all_goals rfl

/-- A channel while it is VALID. -/
def Works.ifValid (ch : Nat) (w : Works) : Option Nat :=
  if w.water.channels[ch]?.map Channel.validity = some .valid then some ch else none

theorem Works.validLuminance_eq (z : Nat) (w : Works) :
    w.validLuminance z = ((w.lights.zones.map Zone.table)[z]?.bind id).bind (fun t => w.ifValid t.channel) := by
  unfold Works.validLuminance
  rw [List.getElem?_map]
  cases w.lights.zones[z]? with
  | none => rfl
  | some x =>
    cases hx : x.table with
    | none => simp [hx]
    | some t => cases hc : w.water.channels[t.channel]? <;> simp [Works.ifValid, hx, hc]

/-- The deciding channel depends on the step tables and the channel table. -/
theorem Works.dayDecider_congr (hz : v.lights.zones.map Zone.table = w.lights.zones.map Zone.table)
    (hc : v.water.channels = w.water.channels) : v.dayDecider = w.dayDecider := by
  have hvalid (z : Nat) : v.validLuminance z = w.validLuminance z := by
    simp only [Works.validLuminance_eq, Works.ifValid, hz, hc]
  rw [Works.dayDecider, Works.dayDecider, hvalid, hvalid]

/-- The threshold zone NORTH decides while its channel is VALID, then the threshold zone SOUTH (R104). -/
theorem dayDecider_north_first (w : Works) (x y : Zone) (t u : StepTable) (c e : Channel) (hx : w.lights.zones[0]? = some x)
    (ht : x.table = some t) (hc : w.water.channels[t.channel]? = some c) (hy : w.lights.zones[2]? = some y)
    (hu : y.table = some u) (he : w.water.channels[u.channel]? = some e) : w.dayDecider =
      if c.validity = .valid then some t.channel else if e.validity = .valid then some u.channel else none := by
  have hnorth : w.validLuminance 0 = if c.validity = .valid then some t.channel else none := by
    simp [Works.validLuminance, hx, ht, hc]
  have hsouth : w.validLuminance 2 = if e.validity = .valid then some u.channel else none := by
    simp [Works.validLuminance, hy, hu, he]
  rw [Works.dayDecider, hnorth, hsouth]
  by_cases hv : c.validity = .valid
  · rw [if_pos hv, if_pos hv]
  · rw [if_neg hv, if_neg hv]

@[simp] theorem Works.updChoices_tables (ch : Nat) (f : StepTable → StepChoice → StepChoice) (w : Works) :
    (w.updChoices ch f).lights.zones.map Zone.table = w.lights.zones.map Zone.table := by
  change (w.lights.zones.map _).map _ = _
  rw [List.map_map]
  refine List.map_congr_left fun z _ => ?_
  rw [Function.comp_apply]
  repeat' split
  all_goals rfl

@[simp] theorem Works.retarget_tables (w : Works) : w.retarget.lights.zones.map Zone.table = w.lights.zones.map Zone.table := by
  have h : w.retarget.lights.untargeted = w.lights.untargeted := by
    rw [Lights.untargeted, Works.retarget_zones]
    exact w.setTargets_untargeted
  have htable (l : Lights) : l.zones.map Zone.table = l.untargeted.map Zone.table := by
    rw [Lights.untargeted, List.map_map]
    rfl
  rw [htable, htable, h]

/-- The records that an event at a luminance channel changes. -/
def Part.ofLuminance : List Part := [.dewater, .portals, .lights, .active, .line]

theorem Works.luminanceValidity_only (ch : Nat) (b : Bool) (w : Works) :
    Works.Leads Part.ofLuminance w (w.luminanceValidity ch b) :=
  Works.luminanceValidity_leads ch b w (by decide) .refl

theorem Works.luminanceSample_only (ch n : Nat) (w : Works) : Works.Leads Part.ofLuminance w (w.luminanceSample ch n) :=
  Works.luminanceSample_leads ch n w (by decide) .refl

@[simp] theorem Works.luminanceValidity_decider (ch : Nat) (b : Bool) (w : Works) :
    (w.luminanceValidity ch b).dayDecider = w.dayDecider := by
  refine Works.dayDecider_congr ?_ ((w.luminanceValidity_only ch b).channels_eq (by decide))
  unfold Works.luminanceValidity
  split <;> simp

@[simp] theorem Works.luminanceSample_decider (ch n : Nat) (w : Works) : (w.luminanceSample ch n).dayDecider = w.dayDecider := by
  refine Works.dayDecider_congr ?_ ((w.luminanceSample_only ch n).channels_eq (by decide))
  simp [Works.luminanceSample]

/-- The day decision with its deciding channel judged (R104). -/
def Day.judged (n : Option Nat) (d : Day) : Day :=
  if d.decider = n then d else { d with state := d.state.settled, decider := n }

/-- A change of validity judges the deciding channel. -/
theorem Works.luminanceValidity_day (ch : Nat) (b : Bool) (w : Works) :
    (w.luminanceValidity ch b).lights.day = w.lights.day.judged w.dayDecider := by
  have hchoice : (w.updChoices ch (fun _ c => c.full)).dayDecider = w.dayDecider :=
    Works.dayDecider_congr (Works.updChoices_tables _ _ _) rfl
  rw [Works.luminanceValidity, Works.retarget_day]
  split
  · exact w.judgeDecider_day
  · rw [Works.judgeDecider_day, hchoice]
    rfl

/-- A channel that is no longer VALID selects step 7 (R103). -/
theorem Works.luminanceValidity_full (hy : w.lights.zones[z]? = some y) (ht : y.table = some t) (hc : y.choice = some c)
    (hch : t.channel = ch) : ∃ q, (w.luminanceValidity ch false).lights.zones[z]? = some q ∧
      (w.luminanceValidity ch false).lights.targets[z]? = some q.target ∧ q.choice = some c.full := by
  obtain ⟨n, hn, htarget⟩ := Works.retarget_zone (w := (w.updChoices ch (fun _ c => c.full)).judgeDecider) (z := z)
    (by rw [Works.judgeDecider_zones, Works.updChoices_zone hy ht hc hch])
  exact ⟨_, hn, htarget, rfl⟩

/-- A channel that becomes VALID leaves its zones their selections. -/
theorem Works.luminanceValidity_valid (hy : w.lights.zones[z]? = some y) (ch : Nat) :
    ∃ n, (w.luminanceValidity ch true).lights.zones[z]? = some { y with target := n } := by
  obtain ⟨n, hn, -⟩ := Works.retarget_zone (w := w.judgeDecider) (z := z) (by rw [Works.judgeDecider_zones, hy])
  exact ⟨n, hn⟩

/-- A VALID sample moves the selection (R102). -/
theorem Works.luminanceSample_zone (hy : w.lights.zones[z]? = some y) (ht : y.table = some t) (hc : y.choice = some c)
    (hch : t.channel = ch) (n : Nat) : ∃ q, (w.luminanceSample ch n).lights.zones[z]? = some q ∧
      q.choice = some (c.next t n) ∧ (w.luminanceSample ch n).lights.targets[z]? = some q.target := by
  obtain ⟨m, hm, htarget⟩ := Works.retarget_zone (w := (w.updChoices ch (fun t c => c.next t n)).judgeDay ch n) (z := z)
    (by rw [Works.judgeDay_zones, Works.updChoices_zone hy ht hc hch])
  exact ⟨_, hm, rfl, htarget⟩

/-- A VALID sample of another channel leaves the day decision. -/
theorem Works.luminanceSample_day_idle (h : w.lights.day.decider ≠ some ch) (n : Nat) :
    (w.luminanceSample ch n).lights.day = w.lights.day := by
  rw [Works.luminanceSample, Works.retarget_day, Works.judgeDay_idle (by rwa [Works.updChoices_day]), Works.updChoices_day]

/-- A VALID sample of the deciding channel (R104). -/
theorem Works.luminanceSample_day {st : ThState} (h : w.lights.day.decider = some ch)
    (hst : st = upStep w.lights.day.boundary w.lights.day.hysteresis w.lights.day.qualify w.lights.day.state n) :
    (w.luminanceSample ch n).lights.day = { w.lights.day with state := st } ∧
    (st.settled ≠ w.lights.day.state.settled → (w.luminanceSample ch n).recorded .daylight 4 (some (flag w.lights.day.isDay))
      (some (flag (!w.lights.day.isDay))) [ch, n] false) := by
  subst hst
  have hdec : (w.updChoices ch (fun t c => c.next t n)).lights.day.decider = some ch := h
  refine ⟨?_, fun hs => ?_⟩
  · rw [Works.luminanceSample, Works.retarget_day, Works.judgeDay_day hdec]
    rfl
  · exact (Works.retarget_leads (ps := Part.ofLuminance) _ (by decide) .refl).recorded (by decide)
      (Works.judgeDay_recorded hdec hs)

end Luminance

end Sys2Proof.Machine

namespace Sys2Proof.Machine

open Sys2Proof

/-! # What dewatering and the portals leave of lighting at a change of stage (R13)

Their requests may take a step from a SET list, so only the zones, the day decision and the zones of the circuits stand. -/

/-! ## Dewatering -/

section Dewatering

@[simp] theorem Works.haltPump_plan (i : Nat) (w : Works) : (w.haltPump i).lights.plan = w.lights.plan := by
  unfold Works.haltPump
  split <;> simp

@[simp] theorem Works.leaveList_lights (i : Nat) (w : Works) : (w.leaveList i).lights = w.lights :=
  (Works.leaveList_leads (ps := [.dewater]) i w (by decide) .refl).lights_eq (by decide)

@[simp] theorem Works.movePump_lights (i : Nat) (f : Pump → Pump) (w : Works) : (w.movePump i f).lights = w.lights :=
  (Works.movePump_leads (ps := [.dewater, .active]) i f w (by decide) .refl).lights_eq (by decide)

@[simp] theorem Works.dropPumpGrant_lights (i : Nat) (w : Works) : (w.dropPumpGrant i).lights = w.lights :=
  (Works.dropPumpGrant_leads (ps := [.dewater]) i w (by decide) .refl).lights_eq (by decide)

@[simp] theorem Works.abandonStart_lights (i : Nat) (w : Works) : (w.abandonStart i).lights = w.lights :=
  (Works.abandonStart_leads (ps := [.dewater, .active, .line]) i w (by decide) .refl).lights_eq (by decide)

@[simp] theorem Works.callPump_lights (i : Nat) (w : Works) : (w.callPump i).lights = w.lights :=
  (Works.callPump_leads (ps := [.dewater, .active]) i w (by decide) .refl).lights_eq (by decide)

@[simp] theorem Works.refigure_lights (si : Nat) (w : Works) : (w.refigure si).lights = w.lights :=
  (Works.refigure_leads (ps := [.dewater]) si w (by decide) .refl).lights_eq (by decide)

@[simp] theorem Works.dismiss_plan (i : Nat) (w : Works) : (w.dismiss i).lights.plan = w.lights.plan := by
  unfold Works.dismiss
  repeat' split
  all_goals simp

theorem Works.Serves.plan {w v : Works} (h : w.Serves v) : v.lights.plan = w.lights.plan := by
  induction h with
  | refl => rfl
  | dismiss j v _ _ ih => exact (Works.dismiss_plan j v).trans ih
  | call j v q _ _ _ ih => exact (congrArg Lights.plan (Works.callPump_lights j v)).trans ih

@[simp] theorem Works.serve_plan (si : Nat) (w : Works) : (w.serve si).lights.plan = w.lights.plan :=
  (Works.serve_serves si w).plan

@[simp] theorem Works.dutyFromStage_plan (w : Works) : w.dutyFromStage.lights.plan = w.lights.plan := by
  refine each_plan _ _ w fun si v => ?_
  repeat' split
  all_goals simp [Works.judgeDemand]

end Dewatering

/-! ## The portals -/

section Portals

@[simp] theorem Works.endReopen_lights (n st d d2 : Nat) (r : List Nat) (w : Works) :
    (w.endReopen n st d d2 r).lights = w.lights :=
  (Works.endReopen_leads (ps := [.active]) n st d d2 r w (by decide) .refl).lights_eq (by decide)

@[simp] theorem Works.reportView_lights (n : Nat) (old new : Closure) (b : Bool) (w : Works) :
    (w.reportView n old new b).lights = w.lights :=
  (Works.reportView_leads (ps := [.reports, .water]) n old new b w (by decide) .refl).lights_eq (by decide)

@[simp] theorem Works.attemptsBefore_lights (n : Nat) (c : Closure) (w : Works) : (w.attemptsBefore n c).lights = w.lights :=
  (Works.attemptsBefore_leads (ps := [.portals]) n c w (by decide) .refl).lights_eq (by decide)

@[simp] theorem Works.openEpisode_lights (old new : Closure) (w : Works) : (w.openEpisode old new).lights = w.lights :=
  (Works.openEpisode_leads (ps := [.portals]) old new w (by decide) .refl).lights_eq (by decide)

@[simp] theorem Works.closeEpisode_lights (w : Works) : w.closeEpisode.lights = w.lights :=
  (Works.closeEpisode_leads (ps := [.portals]) w (by decide) .refl).lights_eq (by decide)

@[simp] theorem Works.requestGate_lights (n : Nat) (w : Works) : (w.requestGate n).lights = w.lights :=
  (Works.requestGate_leads (ps := [.portals]) n w (by decide) .refl).lights_eq (by decide)

@[simp] theorem Works.dropGateGrant_lights (n : Nat) (w : Works) : (w.dropGateGrant n).lights = w.lights :=
  (Works.dropGateGrant_leads (ps := [.portals]) n w (by decide) .refl).lights_eq (by decide)

@[simp] theorem Works.dropBarrierPair_lights (n : Nat) (w : Works) : (w.dropBarrierPair n).lights = w.lights :=
  (Works.dropBarrierPair_leads (ps := [.portals, .line]) n w (by decide) .refl).lights_eq (by decide)

@[simp] theorem Works.clearStop_lights (n : Nat) (w : Works) : (w.clearStop n).lights = w.lights :=
  (Works.clearStop_leads (ps := [.portals]) n w (by decide) .refl).lights_eq (by decide)

@[simp] theorem Works.portalFault_lights (n k c : Nat) (w : Works) : (w.portalFault n k c).lights = w.lights := rfl

@[simp] theorem Works.changeClosure_plan (n : Nat) (c : Closure) (w : Works) :
    (w.changeClosure n c).lights.plan = w.lights.plan := by
  unfold Works.changeClosure
  split
  · rfl
  · dsimp only
    split <;> simp

@[simp] theorem Works.setAspect_plan (n : Nat) (a : Aspect) (w : Works) : (w.setAspect n a).lights.plan = w.lights.plan := by
  simp [Works.setAspect]

@[simp] theorem Works.haltBarrier_plan (n : Nat) (w : Works) : (w.haltBarrier n).lights.plan = w.lights.plan := by
  simp [Works.haltBarrier]

@[simp] theorem Works.haltGate_plan (n : Nat) (stop : Bool) (w : Works) : (w.haltGate n stop).lights.plan = w.lights.plan := by
  simp [Works.haltGate]

@[simp] theorem Works.queueBarrier_plan (n : Nat) (m : Motion) (w : Works) :
    (w.queueBarrier n m).lights.plan = w.lights.plan := by
  simp [Works.queueBarrier]

@[simp] theorem Works.abandonBarrier_plan (n : Nat) (m : Motion) (w : Works) :
    (w.abandonBarrier n m).lights.plan = w.lights.plan := by
  simp [Works.abandonBarrier, Works.haltMoving]

@[simp] theorem Works.moveBarrier_plan (n : Nat) (m : Motion) (w : Works) : (w.moveBarrier n m).lights.plan = w.lights.plan := by
  simp [Works.moveBarrier]

@[simp] theorem Works.beginStop_plan (n : Nat) (w : Works) : (w.beginStop n).lights.plan = w.lights.plan := by
  unfold Works.beginStop
  dsimp only
  repeat' split
  all_goals simp

@[simp] theorem Works.stopGate_plan (n : Nat) (w : Works) : (w.stopGate n).lights.plan = w.lights.plan := by
  simp [Works.stopGate]

@[simp] theorem Works.barringGo_plan (n : Nat) (w : Works) : (w.barringGo n).2.lights.plan = w.lights.plan := by
  unfold Works.barringGo
  dsimp only
  repeat' split
  all_goals simp

@[simp] theorem Works.workStep_plan (n : Nat) (w : Works) : (w.workStep n).2.lights.plan = w.lights.plan := by
  unfold Works.workStep
  dsimp only
  repeat' split
  all_goals simp

@[simp] theorem Works.work_plan (n : Nat) (w : Works) : (w.work n).lights.plan = w.lights.plan :=
  workLoop_induction (P := fun v => v.lights.plan = w.lights.plan) n 8 rfl
    (fun v h => (Works.workStep_plan n v).trans h)
    fun v c h _ => (Works.changeClosure_plan n c _).trans ((Works.workStep_plan n v).trans h)

@[simp] theorem Works.enter_plan (n : Nat) (c : Closure) (w : Works) : (w.enter n c).lights.plan = w.lights.plan := by
  simp [Works.enter]

@[simp] theorem Works.portalAlert_plan (n : Nat) (w : Works) : (w.portalAlert n).lights.plan = w.lights.plan := by
  unfold Works.portalAlert
  split
  · simp [Works.beginSequence]
  · simp
  · simp
  · rfl

end Portals

end Sys2Proof.Machine

namespace Sys2Proof.Machine

open Sys2Proof

/-! # Zone orders, modes, and the events that compute the targets again (R102 to R106, R115, R116) -/

/-! ## ZONE SET and ZONE AUTO (R115, R116) -/

section Orders

variable {w : Works} {o : Order} {z : Zone} {a : Active} {k : Nat} {s : State}

theorem exec_zoneSet (h : s.orderWaits k o) (hc : o.code = .zoneSet) (hs : s.works.takesOrders) :
    exec (.zoneSet k) s = .next (s.takenUp k (s.works.zoneSetOrder o)) := takeUp_of_waits _ _ k o s h hc hs

theorem exec_zoneAuto (h : s.orderWaits k o) (hc : o.code = .zoneAuto) (hs : s.works.takesOrders) :
    exec (.zoneAuto k) s = .next (s.takenUp k (s.works.zoneAutoOrder o)) := takeUp_of_waits _ _ k o s h hc hs

theorem Works.zoneOrders_refused (h : (w.claimOf (.zone o.subject)).commands = false) :
    w.zoneSetOrder o = o.finish 5 (w.claimOf (.zone o.subject)).code 0 [] w ∧
    w.zoneAutoOrder o = o.finish 5 (w.claimOf (.zone o.subject)).code 0 [] w :=
  ⟨if_pos (ClaimValue.refuses_of_not_commands h), if_pos (ClaimValue.refuses_of_not_commands h)⟩

theorem Works.zoneSetOrder_failed (h : (w.claimOf (.zone o.subject)).commands = true) (hp : 7 < o.param) :
    w.zoneSetOrder o = o.finish 10 5 o.param [] w :=
  (if_neg (ClaimValue.not_refuses_of_commands h)).trans (if_pos hp)

/-- The ordered step of the order's zone set or given up, and every target computed again. -/
def Works.reordered (o : Order) (step : Option Nat) (w : Works) : Works :=
  (w.updZone o.subject (fun x => { x with ordered := step })).retarget

theorem Works.reordered_only (o : Order) (step : Option Nat) (w : Works) : Works.Leads Part.ofLuminance w (w.reordered o step) :=
  Works.retarget_leads _ (by decide) (Works.updZone_leads _ _ _ (by decide) .refl)

theorem Works.reordered_zone (hz : w.lights.zones[o.subject]? = some z) (step : Option Nat) : ∃ n,
    (w.reordered o step).lights.zones[o.subject]? = some { z with ordered := step, target := n } ∧
    (w.reordered o step).lights.targets[o.subject]? = some n :=
  Works.retarget_zone (Works.updZone_self (w := w) _ hz)

/-- The ACTIVE ZONE SET superseded and the claim taken by a ZONE SET. -/
def Works.zoneTaken (o : Order) (w : Works) : Works :=
  (w.endZoneSet o.subject 7 o.slot 0).orderClaim (.zone o.subject) o.slot

/-- The ACTIVE ZONE SET failed and the claim given back by a ZONE AUTO. -/
def Works.zoneGiven (o : Order) (w : Works) : Works :=
  (w.endZoneSet o.subject 10 3 o.slot).autoClaim (.zone o.subject) o.slot

theorem Works.zoneSetOrder_accepted (h : (w.claimOf (.zone o.subject)).commands = true) (hp : o.param ≤ 7) :
    w.zoneSetOrder o =
      (((w.zoneTaken o).reordered o (some o.param)).hold (o.active 0)).judgeZoneSet o.subject :=
  (if_neg (ClaimValue.not_refuses_of_commands h)).trans (if_neg (Nat.not_lt.mpr hp))

/-- An accepted ZONE SET (R115). -/
theorem Works.zoneSetOrder_spec (h : (w.claimOf (.zone o.subject)).commands = true) (hp : o.param ≤ 7)
    (hz : w.lights.zones[o.subject]? = some z) :
    (w.zoneSetOrder o).claimOf (.zone o.subject) = .ordered ∧
    (∃ y, (w.zoneSetOrder o).lights.zones[o.subject]? = some y ∧ y.ordered = some o.param ∧ y.mode = z.mode ∧
      (o.subject ≠ 1 → o.subject ≠ 3 → y.target = o.param)) ∧
    ∀ a ∈ w.active, a.code = .zoneSet → a.subject = o.subject → (w.zoneSetOrder o).completed a.slot 7 o.slot 0 := by
  have hend := w.endZoneSet_only o.subject 7 o.slot 0
  have hclaim : Works.Leads [.claims] (w.endZoneSet o.subject 7 o.slot 0) (w.zoneTaken o) := Works.orderClaim_only _ _ _
  have hafter : Works.Leads Part.ofLuminance (w.zoneTaken o) (w.zoneSetOrder o) := by
    rw [Works.zoneSetOrder_accepted h hp]
    exact Works.judgeZoneSet_leads _ _ (by decide) (Works.hold_leads _ _ (by decide) (Works.reordered_only o _ _))
  refine ⟨?_, ?_, fun a ha hc hs => ?_⟩
  · rw [Works.claimOf_congr (hafter.claims_eq (by decide))]
    exact Works.orderClaim_claimOf _ (by rw [Works.claimOf_congr (hend.claims_eq (by decide)), h])
  · obtain ⟨n, hn, ht⟩ := Works.reordered_zone (o := o) (z := z) (w := w.zoneTaken o)
      (by rw [hclaim.lights_eq (by decide), hend.lights_eq (by decide), hz]) (some o.param)
    refine ⟨{ z with ordered := some o.param, target := n },
      by rw [Works.zoneSetOrder_accepted h hp, Works.judgeZoneSet_lights, Works.hold_lights, hn], rfl, rfl, fun h1 h3 => ?_⟩
    rw [Lights.targets_own hn h1 h3, Zone.ownTarget_ordered rfl, Option.some.injEq] at ht
    exact ht.symm
  · exact hafter.completed (by decide) (hclaim.completed (by decide) (Works.endZoneSet_completed ha hc hs 7 o.slot 0))

theorem Works.zoneAutoOrder_accepted (h : (w.claimOf (.zone o.subject)).commands = true)
    (hz : ((w.zoneGiven o).reordered o none).lights.zones[o.subject]? = some z) :
    w.zoneAutoOrder o = o.finish 0 0 0 [z.target] ((w.zoneGiven o).reordered o none) := by
  refine (if_neg (ClaimValue.not_refuses_of_commands h)).trans ?_
  simp only [Works.reordered, Works.zoneGiven, Works.endZoneSet] at hz
  simp only [Status.failed, hz]
  rfl

/-- An accepted ZONE AUTO (R116). -/
theorem Works.zoneAutoOrder_spec (h : (w.claimOf (.zone o.subject)).commands = true)
    (hz : w.lights.zones[o.subject]? = some z) :
    (w.zoneAutoOrder o).claimOf (.zone o.subject) = .auto ∧ (w.zoneAutoOrder o).completed o.slot 0 0 0 ∧
    (∃ y, (w.zoneAutoOrder o).lights.zones[o.subject]? = some y ∧ y.ordered = none) ∧
    ∀ a ∈ w.active, a.code = .zoneSet → a.subject = o.subject → (w.zoneAutoOrder o).completed a.slot 10 3 o.slot := by
  have hend := w.endZoneSet_only o.subject 10 3 o.slot
  have hclaim : Works.Leads [.claims] (w.endZoneSet o.subject 10 3 o.slot) (w.zoneGiven o) := Works.autoClaim_only _ _ _
  obtain ⟨n, hn, -⟩ := Works.reordered_zone (o := o) (z := z) (w := w.zoneGiven o)
    (by rw [hclaim.lights_eq (by decide), hend.lights_eq (by decide), hz]) none
  have hafter : Works.Leads Part.ofLuminance (w.zoneGiven o) (w.zoneAutoOrder o) := by
    rw [Works.zoneAutoOrder_accepted h hn]
    exact Order.finish_leads _ _ _ _ _ _ (by decide) (Works.reordered_only o _ _)
  refine ⟨?_, ?_, ⟨{ z with ordered := none, target := n }, ?_, rfl⟩, fun a ha hc hs => ?_⟩
  · rw [Works.claimOf_congr (hafter.claims_eq (by decide))]
    exact Works.autoClaim_claimOf _ (by rw [Works.claimOf_congr (hend.claims_eq (by decide)), h])
  · rw [Works.zoneAutoOrder_accepted h hn]
    exact ⟨_, Works.handed_send _ _⟩
  · rw [Works.zoneAutoOrder_accepted h hn]
    exact hn
  · exact hafter.completed (by decide) (hclaim.completed (by decide) (Works.endZoneSet_completed ha hc hs 10 3 o.slot))

end Orders

/-! ## Modes (R105) -/

section Modes

variable {w v : Works} {z i : Nat} {x : Zone} {m : ZoneMode} {safe : Option Nat}

/-- The minimum safe step that a mode brings. -/
def Zone.safeFor (m : ZoneMode) (x : Zone) : Option Nat :=
  if m = x.mode ∨ x.minSafe = none then x.minSafe else some (if m = .normal then x.minNormal else x.minStorm)

theorem Zone.safeIn_eq (h : m ≠ x.mode) : x.safeIn m = x.safeFor m := by
  unfold Zone.safeIn Zone.safeFor
  cases hs : x.minSafe with
  | none => simp
  | some s => cases m <;> simp [h]

/-- The mode that Table 5-3 gives a zone. -/
def Works.modeOf (z : Nat) (w : Works) : ZoneMode := zoneMode z w.water.stage.stage (w.zoneView z)

theorem Works.zoneView_congr (h : v.water = w.water) (z : Nat) : v.zoneView z = w.zoneView z := by
  rw [Works.zoneView, Works.zoneView, h]

theorem Works.modeOf_congr (h : v.water = w.water) (z : Nat) : v.modeOf z = w.modeOf z := by
  rw [Works.modeOf, Works.modeOf, Works.zoneView_congr h, h]

/-- The zone with another mode, and its ZONE_MODE record. -/
def Works.modeTurned (z : Nat) (x : Zone) (w : Works) : Works :=
  (w.updZone z (fun y => { y with mode := w.modeOf z, minSafe := x.safeFor (w.modeOf z) })).record .zoneMode z (some x.mode.code)
    (some (w.modeOf z).code)
    [w.water.stage.stage.code, viewDetail (w.zoneView z), stepCode (x.safeFor (w.modeOf z)), x.target] false

theorem Works.judgeMode_stays (hx : w.lights.zones[z]? = some x) (h : w.modeOf z = x.mode) : w.judgeMode z = w := by
  simp only [Works.judgeMode, hx]
  exact if_pos h

/-- After the record only the floors are given to the budget. -/
theorem Works.judgeMode_turns (hx : w.lights.zones[z]? = some x) (h : w.modeOf z ≠ x.mode) :
    Works.Leads [.budget] (w.modeTurned z x) (w.judgeMode z) := by
  have heq : w.judgeMode z =
      if x.safeFor (w.modeOf z) = x.minSafe then w.modeTurned z x else (w.modeTurned z x).giveFloors z := by
    rw [← Zone.safeIn_eq h, Works.modeTurned, ← Zone.safeIn_eq h]
    simp only [Works.judgeMode, hx]
    exact if_neg h
  rw [heq]
  exact ite_leads .refl (Works.giveFloors_leads _ _ (by decide) .refl)

theorem Works.judgeMode_other (h : i ≠ z) (w : Works) : (w.judgeMode i).lights.zones[z]? = w.lights.zones[z]? := by
  cases hx : w.lights.zones[i]? with
  | none => simp only [Works.judgeMode, hx]
  | some x =>
    by_cases hm : w.modeOf i = x.mode
    · rw [Works.judgeMode_stays hx hm]
    · rw [(Works.judgeMode_turns hx hm).lights_eq (by decide)]
      exact Works.updZone_other _ h.symm w

theorem Works.judgeMode_self (hx : w.lights.zones[z]? = some x) :
    (w.judgeMode z).lights.zones[z]? = some { x with mode := w.modeOf z, minSafe := x.safeFor (w.modeOf z) } := by
  by_cases hm : w.modeOf z = x.mode
  · rw [Works.judgeMode_stays hx hm, hx, hm, Zone.safeFor, if_pos (.inl rfl)]
  · rw [(Works.judgeMode_turns hx hm).lights_eq (by decide)]
    exact Works.updZone_self _ hx

theorem Works.judgeMode_recorded (hx : w.lights.zones[z]? = some x) (h : w.modeOf z ≠ x.mode) :
    (w.judgeMode z).recorded .zoneMode z (some x.mode.code) (some (w.modeOf z).code)
      [w.water.stage.stage.code, viewDetail (w.zoneView z), stepCode (x.safeFor (w.modeOf z)), x.target] false :=
  (Works.judgeMode_turns hx h).recorded (by decide) (Works.recorded_record _ _ _ _ _ _ _)

theorem Works.judgeMode_only (z : Nat) (w : Works) : Works.Leads [.lights, .budget] w (w.judgeMode z) :=
  Works.judgeMode_leads z w (by decide) .refl

/-- Every zone has the mode of Table 5-3, its minimum safe step and its target (R105, R106). -/
theorem Works.judgeModes_zone (hx : w.lights.zones[z]? = some x) : ∃ n,
    w.judgeModes.lights.zones[z]? = some { x with mode := w.modeOf z, minSafe := x.safeFor (w.modeOf z), target := n } ∧
    w.judgeModes.lights.targets[z]? = some n ∧
    (w.modeOf z ≠ x.mode → w.judgeModes.recorded .zoneMode z (some x.mode.code) (some (w.modeOf z).code)
      [w.water.stage.stage.code, viewDetail (w.zoneView z), stepCode (x.safeFor (w.modeOf z)), x.target] false) := by
  have hmem : z ∈ List.range w.lights.zones.length := List.mem_range.mpr (List.getElem?_eq_some_iff.mp hx).1
  obtain ⟨l1, l2, heach, h1, h2⟩ := each_turn List.nodup_range hmem (fun v : Works => v.lights.zones[z]?)
    (fun i v h => Works.judgeMode_other h v) w
  have hleads (l : List Nat) (v : Works) : Works.Leads [.lights, .budget] v (each l Works.judgeMode v) :=
    each_leads _ _ _ (fun i u h => h.trans (u.judgeMode_only i)) .refl
  have hwater : (each l1 Works.judgeMode w).water = w.water := (hleads l1 w).water_eq (by decide)
  have hself := h1.trans hx
  have hmode := Works.modeOf_congr hwater z
  obtain ⟨n, hn, ht⟩ := Works.retarget_zone (h2.trans (Works.judgeMode_self hself))
  rw [hmode] at hn
  refine ⟨n, hn, ht, fun hm => ?_⟩
  have hrec := Works.judgeMode_recorded hself (by rw [hmode]; exact hm)
  rw [hmode, hwater, Works.zoneView_congr hwater] at hrec
  refine (Works.retarget_leads (ps := Part.ofLuminance) _ (by decide) .refl).recorded (by decide) ?_
  rw [heach]
  exact (hleads l2 _).recorded (by decide) hrec

end Modes

/-! ## A change of stage (R13, R105) -/

section Stage

variable {w : Works} {z : Nat} {x : Zone} {st : Stage}

/-- Dewatering and the portals told of a stage, ahead of lighting. -/
def Works.toldAhead (st : Stage) (w : Works) : Works :=
  if st = .alert then (w.dutyFromStage.portalAlert 0).portalAlert 1 else w.dutyFromStage

theorem Works.toldJobs_eq (st : Stage) (w : Works) : w.toldJobs st = (w.toldAhead st).judgeModes.wantImage := rfl

theorem Works.toldAhead_plan (st : Stage) (w : Works) : (w.toldAhead st).lights.plan = w.lights.plan := by
  unfold Works.toldAhead
  split <;> simp

theorem Works.toldAhead_spares (st : Stage) (w : Works) : Works.Spares w (w.toldAhead st) := by
  have hd : Works.Spares w w.dutyFromStage := Works.dutyFromStage_spares (.refl w)
  unfold Works.toldAhead
  split
  · exact Works.portalAlert_spares 1 (Works.portalAlert_spares 0 hd)
  · exact hd

theorem Works.toldAhead_turned_stage (st : Stage) (cause : StageCause) (w : Works) :
    ((w.turned st cause).toldAhead st).water.stage.stage = st := by
  obtain ⟨d, hd⟩ := Works.turned_stage (w := w) (st := st) cause
  obtain ⟨n, s, hs⟩ := ((w.turned st cause).toldAhead_spares st).stage
  rw [hs, hd]

/-- At a change of stage every zone takes the mode that the new stage and its portal's view give it. -/
theorem changeStage_zone (w v : Works) (z : Nat) (x : Zone) (st : Stage) (cause : StageCause) (hx : w.lights.zones[z]? = some x)
    (hs : w.water.stage.stage ≠ st) (hv : v = w.changeStage st cause) :
    ∃ q, v.lights.zones[z]? = some q ∧ q.mode = zoneMode z st (v.zoneView z) ∧ v.lights.targets[z]? = some q.target := by
  have hx' : ((w.turned st cause).toldAhead st).lights.zones[z]? = some x := by
    rw [Works.zones_of_plan (Works.toldAhead_plan _ _)]
    exact hx
  obtain ⟨n, hn, ht, -⟩ := Works.judgeModes_zone hx'
  have horders := ((w.turned st cause).toldJobs st).judgeStageOrders_only
  have hmodes : Works.Leads [.dewater, .portals, .lights, .active, .budget, .line] ((w.turned st cause).toldAhead st)
      ((w.turned st cause).toldAhead st).judgeModes := Works.judgeModes_leads _ (by decide) .refl
  have hwater : v.water = ((w.turned st cause).toldAhead st).water := by
    rw [hv, Works.changeStage_water cause hs, Works.toldJobs_eq, Works.wantImage_water, hmodes.water_eq (by decide)]
  have hlights : v.lights = ((w.turned st cause).toldAhead st).judgeModes.lights := by
    rw [hv, Works.changeStage_eq cause hs, horders.lights_eq (by decide), Works.toldJobs_eq, Works.wantImage_lights]
  have hmode : ((w.turned st cause).toldAhead st).modeOf z = zoneMode z st (v.zoneView z) := by
    rw [Works.modeOf, w.toldAhead_turned_stage st cause, Works.zoneView_congr hwater]
  rw [hlights]
  exact ⟨_, hn, hmode, ht⟩

end Stage

end Sys2Proof.Machine

namespace Sys2Proof.Machine

open Sys2Proof

/-! # The clauses of R102 to R106 on samples, losses and the two tables -/

/-! ## Events at a luminance channel (Table 1-5) -/

section HandOn

variable {w u : Works} {ch n : Nat} {x y : Channel} {facts : Facts} {rise : Bool}

/-- A sample in range: the channel's return, if it was not VALID, and then the sample. -/
theorem Works.handOn_luminance_valid (hy : w.water.channels[ch]? = some y) (hk : y.kind = .luminance) (hv : y.validity = .valid)
    (old : Channel) : w.handOn ch old facts rise =
      (if old.validity = .valid then w else w.luminanceValidity ch true).luminanceSample ch y.value := by
  simp only [Works.handOn, hy, hk, hv]
  by_cases h : old.validity = .valid <;> simp [h]

/-- A VALID channel that ceases to be VALID. -/
theorem Works.handOn_luminance_lost (hy : w.water.channels[ch]? = some y) (hk : y.kind = .luminance) (hv : y.validity ≠ .valid)
    {old : Channel} (ho : old.validity = .valid) : w.handOn ch old facts rise = w.luminanceValidity ch false := by
  simp [Works.handOn, hy, hk, hv, ho, hv.symm]

/-- A VALID sample reaches lighting as it stands. -/
theorem Works.sample_luminance (hx : w.water.channels[ch]? = some x) (hk : x.kind = .luminance) (hl : x.low ≤ n)
    (hh : n ≤ x.high) :
    ∃ u : Works, u.lights = w.lights ∧
      w.sample ch n = (if x.validity = .valid then u else u.luminanceValidity ch true).luminanceSample ch n := by
  obtain ⟨b, hb⟩ := Works.comparePartner_flag (Works.riseSample_advanced_self hx hl hh)
  have hleads : Works.Leads [.water, .channels] w (((w.advanced ch n x).riseSample ch n).comparePartner ch) :=
    Works.comparePartner_leads _ _ (by decide) (Works.riseSample_leads _ _ _ (by decide) (Works.advanced_leads ch n x w))
  refine ⟨_, hleads.lights_eq (by decide), ?_⟩
  rw [Works.sample_of_inRange hx hl hh]
  exact Works.handOn_luminance_valid hb hk rfl x

/-- So does a sample out of range at a VALID channel. -/
theorem Works.sample_luminance_outOfRange (hx : w.water.channels[ch]? = some x) (hk : x.kind = .luminance)
    (hv : x.validity = .valid) (hn : n < x.low ∨ x.high < n) :
    ∃ u : Works, u.lights = w.lights ∧ w.sample ch n = u.luminanceValidity ch false := by
  have hr : x.validityAt n ≠ .valid := by
    rw [Channel.validityAt, if_neg (by omega)]
    decide
  refine ⟨_, (Works.taken_leads ch n x w).lights_eq (by decide), ?_⟩
  rw [Works.sample_of_outOfRange hx hn]
  exact Works.handOn_luminance_lost (Works.taken_self hx) hk hr hv

/-- And the loss of a VALID channel. -/
theorem Works.channelLost_luminance (hx : w.water.channels[ch]? = some x) (hk : x.kind = .luminance) (hv : x.validity = .valid) :
    ∃ u : Works, u.lights = w.lights ∧ w.channelLost ch = u.luminanceValidity ch false := by
  have hlost := Works.updChannel_lost hx
  have hstale : x.lost.validity = .stale := rfl
  rw [Works.channelLost_of_live hx (by rw [hv]; decide)]
  exact ⟨_, by rw [Works.record_lights, Works.updChannel_lights, Works.updChannel_lights],
    Works.handOn_luminance_lost (y := x.lost) (by rw [Works.record_water]; exact hlost) hk (by rw [hstale]; decide) hv⟩

end HandOn

section Clauses

/-- R102, R103: what a sample and a loss make of the selection of a threshold zone. -/
theorem luminance_selects (w : Works) (ch v z : Nat) (x : Channel) (y : Zone) (t : StepTable) (c : StepChoice)
    (hx : w.water.channels[ch]? = some x) (hk : x.kind = .luminance) (hy : w.lights.zones[z]? = some y)
    (ht : y.table = some t) (hc : y.choice = some c) (hch : t.channel = ch) :
    (x.low ≤ v → v ≤ x.high → ∃ q, (w.sample ch v).lights.zones[z]? = some q ∧ q.choice = some (c.next t v) ∧
      (w.sample ch v).lights.targets[z]? = some q.target) ∧
    (x.validity = .valid → (v < x.low ∨ x.high < v) →
      ∃ q, (w.sample ch v).lights.zones[z]? = some q ∧ (w.sample ch v).lights.targets[z]? = some q.target ∧
        q.choice = some c.full) ∧
    (x.validity = .valid →
      ∃ q, (w.channelLost ch).lights.zones[z]? = some q ∧ (w.channelLost ch).lights.targets[z]? = some q.target ∧
        q.choice = some c.full) := by
  refine ⟨fun hl hh => ?_, fun hv hn => ?_, fun hv => ?_⟩
  · obtain ⟨u, hu, hs⟩ := Works.sample_luminance hx hk hl hh
    have hyu : u.lights.zones[z]? = some y := by rw [hu, hy]
    rw [hs]
    by_cases hv : x.validity = .valid
    · rw [if_pos hv]
      exact Works.luminanceSample_zone hyu ht hc hch v
    · obtain ⟨n, hn⟩ := Works.luminanceValidity_valid hyu ch
      rw [if_neg hv]
      exact Works.luminanceSample_zone hn ht hc hch v
  · obtain ⟨u, hu, hs⟩ := Works.sample_luminance_outOfRange hx hk hv hn
    rw [hs]
    exact Works.luminanceValidity_full (by rw [hu, hy]) ht hc hch
  · obtain ⟨u, hu, hs⟩ := Works.channelLost_luminance hx hk hv
    rw [hs]
    exact Works.luminanceValidity_full (by rw [hu, hy]) ht hc hch

/-- R104: the loss of a channel judges the deciding channel. -/
theorem channelLost_decides (w v : Works) (ch : Nat) (x : Channel) (d : Day) (hx : w.water.channels[ch]? = some x)
    (hk : x.kind = .luminance) (hval : x.validity = .valid) (hv : v = w.channelLost ch) (hd : d = w.lights.day) :
    v.lights.day = d.judged v.dayDecider := by
  obtain ⟨u, hu, hs⟩ := Works.channelLost_luminance hx hk hval
  rw [hv, hs, Works.luminanceValidity_day, Works.luminanceValidity_decider, hu, hd]

/-- R104: a sample of the deciding channel is one of the day decision's threshold; `e` is the decision once a return of the
channel has judged who decides. -/
theorem sample_decides (w v : Works) (ch n : Nat) (x : Channel) (d e : Day) (st : ThState) (hx : w.water.channels[ch]? = some x)
    (hk : x.kind = .luminance) (hl : x.low ≤ n) (hh : n ≤ x.high) (hv : v = w.sample ch n) (hd : d = w.lights.day)
    (he : e = if x.validity = .valid ∨ d.decider = v.dayDecider then d
      else { d with state := d.state.settled, decider := v.dayDecider })
    (hst : st = upStep e.boundary e.hysteresis e.qualify e.state n) :
    (e.decider ≠ some ch → v.lights.day = e) ∧
    (e.decider = some ch → v.lights.day = { e with state := st } ∧
      (st.settled ≠ e.state.settled →
        v.recorded .daylight 4 (some (flag e.isDay)) (some (flag (!e.isDay))) [ch, n] false)) := by
  obtain ⟨u, hu, hs⟩ := Works.sample_luminance hx hk hl hh
  obtain ⟨u', hvu, hday⟩ : ∃ u' : Works, v = u'.luminanceSample ch n ∧ u'.lights.day = e := by
    refine ⟨_, hv.trans hs, ?_⟩
    by_cases hval : x.validity = .valid
    · rw [if_pos hval, he, if_pos (.inl hval), hu, hd]
    · have hdec : v.dayDecider = u.dayDecider := by
        rw [hv, hs, if_neg hval, Works.luminanceSample_decider, Works.luminanceValidity_decider]
      rw [if_neg hval, Works.luminanceValidity_day, hu, ← hd, ← hdec, he, Day.judged]
      simp [hval]
  subst hday hvu
  exact ⟨fun h => Works.luminanceSample_day_idle h n, fun h => Works.luminanceSample_day h hst⟩

/-- Table 5-3. -/
theorem zoneMode_table (z : Nat) (view : Option View) :
    zoneMode z .dry view = .normal ∧ zoneMode z .watch view = .normal ∧ (∀ st, 5 ≤ z → zoneMode z st view = .normal) ∧
    (z < 5 → zoneMode z .closed view = .closure) ∧
    (z = 4 → zoneMode z .alert view = .clearingFull ∧ zoneMode z .draining view = .closure) ∧
    (z < 4 → view = some .shut → zoneMode z .alert view = .closure ∧ zoneMode z .draining view = .closure) ∧
    (z = 0 ∨ z = 2 → view ≠ some .shut → zoneMode z .alert view = .normal ∧ zoneMode z .draining view = .normal) ∧
    (z = 1 ∨ z = 3 → view ≠ some .shut → zoneMode z .alert view = .clearingFull ∧ zoneMode z .draining view = .normal) := by
  have hegress (st : Stage) (h : 5 ≤ z) : zoneMode z st view = .normal := if_pos h
  have hother (st : Stage) (h : z < 5) : zoneMode z st view = _ := if_neg (Nat.not_le.mpr h)
  have hrow (st : Stage) (h : st = .dry ∨ st = .watch) : zoneMode z st view = .normal := by
    by_cases hz : 5 ≤ z
    · exact hegress st hz
    · rw [hother st (Nat.not_le.mp hz)]
      rcases h with rfl | rfl <;> rfl
  refine ⟨hrow _ (.inl rfl), hrow _ (.inr rfl), hegress, fun h => hother _ h, ?_, fun h hs => ?_, ?_, ?_⟩
  · rintro rfl
    exact ⟨rfl, rfl⟩
  · have h4 : z ≠ 4 := Nat.ne_of_lt h
    rw [hother _ (by omega), hother _ (by omega)]
    simp [h4, hs]
  · rintro (rfl | rfl) hs <;> simp [zoneMode, hs]
  · rintro (rfl | rfl) hs <;> simp [zoneMode, hs]

/-- Table 5-4, for a threshold zone, INTERIOR and EGRESS. -/
theorem ownTarget_table (l : Lights) (z : Nat) (x : Zone) (hx : l.zones[z]? = some x) (h1 : z ≠ 1) (h3 : z ≠ 3) :
    (∀ k, x.ordered = some k → l.targets[z]? = some k) ∧
    (x.ordered = none → x.mode = .clearingFull → l.targets[z]? = some 7) ∧
    (∀ k, x.ordered = none → x.mode = .closure → x.closure = some k → l.targets[z]? = some k) ∧
    (∀ c, x.ordered = none → x.mode = .normal → x.choice = some c → l.targets[z]? = some c.selected) ∧
    (x.ordered = none → x.mode = .normal → x.choice = none →
      l.targets[z]? = some (if l.day.state.settled = .above then x.day else x.night)) := by
  rw [Lights.targets_own hx h1 h3]
  refine ⟨fun k ho => ?_, fun ho hm => ?_, fun k ho hm hc => ?_, fun c ho hm hc => ?_, fun ho hm hc => ?_⟩
  · rw [Zone.ownTarget_ordered ho]
  · simp [Zone.ownTarget, ho, hm]
  · simp [Zone.ownTarget, ho, hm, hc]
  · simp [Zone.ownTarget, ho, hm, hc]
  · simp [Zone.ownTarget, ho, hm, hc, Day.isDay]

/-- Table 5-4, for a transition zone: never above its threshold zone. -/
theorem transitionTarget_table (l : Lights) (z thr int : Nat) (x : Zone) (hx : l.zones[z]? = some x) (hz : z = 1 ∨ z = 3)
    (ht : l.targets[z - 1]? = some thr) (hi : l.targets[4]? = some int) :
    (∀ k, x.ordered = some k → l.targets[z]? = some (min k thr)) ∧
    (x.ordered = none → x.mode = .normal → l.targets[z]? = some (min (max (thr - x.offset) int) thr)) ∧
    (x.ordered = none → x.mode = .clearingFull → l.targets[z]? = some (min 7 thr)) ∧
    (∀ k, x.ordered = none → x.mode = .closure → x.closure = some k → l.targets[z]? = some (min k thr)) ∧
    ∀ k, l.targets[z]? = some k → k ≤ thr := by
  rw [Lights.targets_transition hx hz ht hi]
  refine ⟨fun k ho => ?_, fun ho hm => ?_, fun ho hm => ?_, fun k ho hm hc => ?_, fun k hk => ?_⟩
  · simp [Zone.transitionTarget, ho]
  · simp [Zone.transitionTarget, ho, hm]
  · simp [Zone.transitionTarget, ho, hm]
  · simp [Zone.transitionTarget, ho, hm, hc]
  · rw [← Option.some.inj hk]
    exact x.transitionTarget_le thr int

end Clauses

/-- Settles O48: the orders by their accepted and refused forms, the selections and the day decision at their channel's events,
and the two tables. -/
theorem zonesAndTheirOrders : Obligations.ZonesAndTheirOrders := by
  unfold Obligations.ZonesAndTheirOrders
  refine ⟨fun k o s h ht hc => ?_, fun k o s h ht hc => ?_, fun t c v up down n b hup hdown => ?_, luminance_selects,
    dayDecider_north_first, channelLost_decides, sample_decides, zoneMode_table, fun w v z x m safe hx hv hm hsafe => ?_,
    changeStage_zone, ownTarget_table, transitionTarget_table⟩
  · obtain rfl := State.orderWaits_slot s k o h
    rw [exec_zoneSet h hc ht]
    refine ⟨fun hr => by rw [(Works.zoneOrders_refused hr).1], fun hr hp => by rw [Works.zoneSetOrder_failed hr hp],
      fun z hr hp hz => ⟨_, rfl, ?_, Works.zoneSetOrder_spec hr hp hz⟩⟩
    exact (Works.zoneSetOrder_leads o _ (by decide) .refl : Works.Leads Part.ofPumpOrder _ _).keepsButClaims
  · obtain rfl := State.orderWaits_slot s k o h
    rw [exec_zoneAuto h hc ht]
    refine ⟨fun hr => by rw [(Works.zoneOrders_refused hr).2], fun z hr hz => ⟨_, rfl, ?_, Works.zoneAutoOrder_spec hr hz⟩⟩
    exact (Works.zoneAutoOrder_leads o _ (by decide) .refl : Works.Leads Part.ofPumpOrder _ _).keepsButClaims
  · subst hup hdown
    exact ⟨StepChoice.next_up, StepChoice.next_down, StepChoice.next_stays⟩
  · obtain ⟨n, hn, htarget, hrec⟩ := Works.judgeModes_zone hx
    subst hv hm hsafe
    exact ⟨_, hn, rfl, rfl, htarget, hrec⟩

end Sys2Proof.Machine

namespace Sys2Proof.Machine

open Sys2Proof

/-! # The line queue's bound, and the events of the line (R130, R134, R138, R139) -/

/-- Settles O60: one of the laws that every command keeps, since a request joins the queue only where it has room. -/
theorem stepKeepsLineQueueFits : Obligations.StepKeepsLineQueueFits :=
  fun s t h hstep => ((step_keepsLaws s).of_next t hstep).lineQueueFits h

/-! ## The end of a request (R134) -/

section Transmitted

variable {x : Exchange} {s : State}

theorem exec_requestTransmitted (s : State) : exec .requestTransmitted s = .next (s.ended s.works.requestTransmitted) := rfl

theorem exec_broadcastTransmitted (hx : s.works.line.exchange = some x) (ha : x.awaiting = false) (hu : x.unit = 31) :
    exec .requestTransmitted s = .next (s.ended (s.works.setLine { s.works.line with exchange := none })) := by
  simp [exec_requestTransmitted, Works.requestTransmitted, hx, ha, hu, broadcastAddress]

theorem exec_windowOpened (hx : s.works.line.exchange = some x) (ha : x.awaiting = false) (hu : x.unit ≠ 31) :
    exec .requestTransmitted s = .next (s.ended (s.works.setLine { s.works.line with
      exchange := some { x with awaiting := true, windowStart := s.works.now },
      rx := { frame := [], lastByte := s.works.now, gapSeen := false } })) := by
  simp [exec_requestTransmitted, Works.requestTransmitted, hx, ha, hu, broadcastAddress]

end Transmitted

/-! ## The receiver (R130) -/

section Receiving

variable {r : Receiver} {b : Byte} {now : Nat} {w : Works} {s : State}

theorem frameComplete_of_short {f : List Byte} (h : f.length < 5) : frameComplete f = false := by
  rw [frameComplete, frameLength, if_neg (by omega)]

/-- A frame starts at a sync byte; another first byte is left. -/
theorem Receiver.take_of_empty (h : r.frame = []) :
    r.take b now = if b = 0xC3 then { r with frame := [b], lastByte := now } else r := by
  simp [Receiver.take, Receiver.overGap, h, syncByte]

theorem Receiver.take_of_open (h : r.frame ≠ []) (ht : now ≤ r.lastByte + 2) :
    r.take b now = { r with frame := r.frame ++ [b], lastByte := now } := by
  have hgap : r.overGap now = false := by simp [Receiver.overGap, Nat.not_lt.mpr ht]
  simp [Receiver.take, hgap, h]

/-- A late byte drops the frame and is taken as a first one (log 5). -/
theorem Receiver.take_of_late (h : r.frame ≠ []) (hc : frameComplete r.frame = false) (ht : r.lastByte + 2 < now) :
    r.take b now = { frame := if b = 0xC3 then [b] else [],
                     lastByte := if b = 0xC3 then now else r.lastByte, gapSeen := true } := by
  have hgap : r.overGap now = true := by simp [Receiver.overGap, h, hc, ht]
  have htake : r.take b now = r.gap.take b now := by
    rw [Receiver.take, hgap]
    rfl
  rw [htake, Receiver.take_of_empty rfl]
  split <;> rfl

/-- The works with a byte in the receiver. -/
def Works.received (b : Byte) (w : Works) : Works := w.setLine { w.line with rx := w.line.rx.take b w.now }

theorem exec_responseByteReceived (b : Byte) (s : State) :
    exec (.responseByteReceived b) s = .next { s with works := s.works.byteReceived b } := rfl

theorem Works.byteReceived_eq (ha : w.line.awaits = true) (hc : frameComplete w.line.rx.frame = false) (b : Byte) :
    w.byteReceived b = if frameComplete (w.line.rx.take b w.now).frame then (w.received b).send .responseFrameComplete
      else w.received b := by
  simp only [Works.byteReceived, ha, hc]
  rfl

theorem Works.byteReceived_short (ha : w.line.awaits = true) (hc : frameComplete w.line.rx.frame = false)
    (hs : (w.line.rx.take b w.now).frame.length < 5) : w.byteReceived b = w.received b := by
  rw [Works.byteReceived_eq ha hc, frameComplete_of_short hs]
  rfl

/-- Outside a response window, and after a complete frame, a byte is not taken (log 31). -/
theorem Works.byteReceived_deaf (h : w.line.awaits = false ∨ frameComplete w.line.rx.frame = true) :
    w.byteReceived b = w := by
  obtain h | h := h <;> simp [Works.byteReceived, h]

theorem exec_byteIgnored (ha : s.works.line.awaits = true) (hf : s.works.line.rx.frame = []) (hb : b ≠ 0xC3) :
    exec (.responseByteReceived b) s = .next s := by
  have htake : s.works.line.rx.take b s.works.now = s.works.line.rx := by rw [Receiver.take_of_empty hf, if_neg hb]
  rw [exec_responseByteReceived, Works.byteReceived_short ha (by rw [hf]; rfl) (by rw [htake, hf]; decide), Works.received, htake]
  rfl

theorem exec_frameStarts (ha : s.works.line.awaits = true) (hf : s.works.line.rx.frame = []) (hb : b = 0xC3) :
    exec (.responseByteReceived b) s = .next { s with works := s.works.setLine { s.works.line with
      rx := { s.works.line.rx with frame := [b], lastByte := s.works.now } } } := by
  have htake := Receiver.take_of_empty (b := b) (now := s.works.now) hf
  rw [if_pos hb] at htake
  rw [exec_responseByteReceived, Works.byteReceived_short ha (by rw [hf]; rfl) (by rw [htake]; simp), Works.received, htake]

theorem exec_byteJoins (ha : s.works.line.awaits = true) (hc : frameComplete s.works.line.rx.frame = false)
    (hf : s.works.line.rx.frame ≠ []) (ht : s.works.now ≤ s.works.line.rx.lastByte + 2) :
    ∃ v, exec (.responseByteReceived b) s = .next { s with works := v } ∧
      v.line = { s.works.line with
        rx := { s.works.line.rx with frame := s.works.line.rx.frame ++ [b], lastByte := s.works.now } } ∧
      v.notices = s.works.notices ++
        (if frameComplete (s.works.line.rx.frame ++ [b]) then [.responseFrameComplete] else []) ∧
      s.works.sameOutsideLine v := by
  refine ⟨_, exec_responseByteReceived b s, ?_⟩
  rw [Works.byteReceived_eq ha hc, Works.received, Receiver.take_of_open hf ht]
  dsimp only
  split
  · exact ⟨rfl, rfl, rfl, rfl, rfl, rfl, rfl, rfl, rfl, rfl, rfl, rfl, rfl⟩
  · exact ⟨rfl, (List.append_nil _).symm, rfl, rfl, rfl, rfl, rfl, rfl, rfl, rfl, rfl, rfl, rfl⟩

theorem exec_lateByte (ha : s.works.line.awaits = true) (hc : frameComplete s.works.line.rx.frame = false)
    (hf : s.works.line.rx.frame ≠ []) (ht : s.works.line.rx.lastByte + 2 < s.works.now) :
    exec (.responseByteReceived b) s = .next { s with works := s.works.setLine { s.works.line with
      rx := { frame := if b = 0xC3 then [b] else [],
              lastByte := if b = 0xC3 then s.works.now else s.works.line.rx.lastByte, gapSeen := true } } } := by
  have htake := Receiver.take_of_late (b := b) hf hc ht
  rw [exec_responseByteReceived, Works.byteReceived_short ha hc (by rw [htake]; dsimp only; split <;> simp), Works.received, htake]

/-! ## The frame gap (R130) -/

theorem exec_frameGapTimeout (s : State) : exec .frameGapTimeout s = .next { s with works := s.works.gapTimeout } := rfl

theorem exec_frameDropped (ha : s.works.line.awaits = true) (hf : s.works.line.rx.frame ≠ [])
    (hc : frameComplete s.works.line.rx.frame = false) (ht : s.works.line.rx.lastByte + 2 ≤ s.works.now) :
    exec .frameGapTimeout s = .next { s with works := s.works.setLine { s.works.line with
      rx := { s.works.line.rx with frame := [], gapSeen := true } } } := by
  simp [exec_frameGapTimeout, Works.gapTimeout, ha, hf, hc, ht, Receiver.gap]

theorem exec_gapEarly (ht : s.works.now < s.works.line.rx.lastByte + 2) : exec .frameGapTimeout s = .next s := by
  simp [exec_frameGapTimeout, Works.gapTimeout, Nat.not_le.mpr ht]

end Receiving

/-! ## The start of a poll round (R138) -/

section Rounds

variable {s : State}

theorem exec_pollRoundStart (s : State) : exec .pollRoundStart s = .next (s.ended s.works.pollRoundStart) := rfl

theorem exec_roundStarts (hs : s.works.stageRuns = true) (hp : s.works.line.round.inProgress = false)
    (ht : elapsed s.works.line.round.start (s.works.siteTime Site.roundPeriod) s.works.now = true) :
    exec .pollRoundStart s = .next (s.ended (s.works.setLine { s.works.line with
      round := { s.works.line.round with start := s.works.now, lastAddr := 0, inProgress := true } })) := by
  simp [exec_pollRoundStart, Works.pollRoundStart, hs, hp, ht, Works.startRound]

theorem exec_roundEarly (ht : elapsed s.works.line.round.start (s.works.siteTime Site.roundPeriod) s.works.now = false) :
    exec .pollRoundStart s = .next (s.ended s.works) := by
  simp [exec_pollRoundStart, Works.pollRoundStart, ht]

end Rounds

/-- Settles O49: the receiver by the frame in progress and the time since its last byte. -/
theorem lineEvents : Obligations.LineEvents := by
  unfold Obligations.LineEvents
  refine ⟨fun x s hx ha => ⟨exec_broadcastTransmitted hx ha, exec_windowOpened hx ha⟩, fun b s ha hc => ?_, fun b s h => ?_,
    fun s ha hf hc => ⟨exec_frameDropped ha hf hc, exec_gapEarly⟩, fun s hs hp => ⟨exec_roundStarts hs hp, exec_roundEarly⟩⟩
  · exact ⟨exec_byteIgnored ha, exec_frameStarts ha, exec_byteJoins ha hc, exec_lateByte ha hc⟩
  · rw [exec_responseByteReceived, Works.byteReceived_deaf h]

end Sys2Proof.Machine

namespace Sys2Proof.Machine

open Sys2Proof

/-! # The end of an event (log 9): nothing to report, a displaced request -/

section Quiet

variable {v u w : Works} {s : State} {q : QEntry}

/-- No UNIT RETIRE waits for its unit. -/
theorem Works.judgeRetire_of_none (h : ∀ a ∈ w.active, a.code ≠ .unitRetire) : w.judgeRetire = w := by
  have hnil : w.active.filter (fun a => decide (a.code = .unitRetire)) = [] :=
    List.filter_eq_nil_iff.mpr fun a ha => by simpa using h a ha
  rw [Works.judgeRetire, Works.completeAll, hnil]
  rfl

theorem Works.runReports_of_nil (h : w.reports = []) : w.runReports = w := by
  simp [Works.runReports, reportLoop, h]

theorem drainLoop_of_nil (n : Nat) (hr : w.reports = []) (hd : w.line.displaced = []) : drainLoop n w = w := by
  cases n <;> simp [drainLoop, Works.runReports_of_nil hr, hd]

theorem Works.endDisplaced_of_single (h : w.line.displaced = [q]) : w.endDisplaced =
    (w.setLine { w.line with displaced := [] }).reportEntry q .removed .removed := by
  rw [Works.endDisplaced, h]
  rfl

/-- One displaced request: its end is reported, and the line's choices go on from there. -/
theorem Works.drain_of_displaced (hr : w.reports = []) (hd : w.line.displaced = [q])
    (hu : u = (w.setLine { w.line with displaced := [] }).reportEntry q .removed .removed) (hur : u.reports = [])
    (hud : u.line.displaced = []) : w.drain = u := by
  have hstep : w.drain = drainLoop 63 w.endDisplaced := by
    simp [Works.drain, drainLoop, Works.runReports_of_nil hr, hd]
  rw [hstep, Works.endDisplaced_of_single hd, ← hu, drainLoop_of_nil _ hur hud]

theorem Works.judgeRound_of_none (h : w.line.round.inProgress = false) : w.judgeRound = w := by
  simp [Works.judgeRound, Line.roundOver, h]

/-- The line is taken: the arbiter has no choice to make. -/
theorem Works.settle_of_drained (ha : ∀ a ∈ v.active, a.code ≠ .unitRetire) (hd : v.drain = u)
    (hx : u.line.exchange.isSome = true) (hr : u.line.round.inProgress = false) : v.settle = u := by
  simp [Works.settle, Works.judgeRetire_of_none ha, arbitrateLoop, hd, Works.judgeRound_of_none hr, hx]

/-- While the line is taken the roll call is not over. -/
theorem State.ended_of_taken (h : v.settle = u) (hx : u.line.exchange.isSome = true) : (s.ended v).works = u := by
  have hover : u.rollCallOver = false := by
    rw [Works.rollCallOver, Option.isNone_eq_false_iff.mpr hx, Bool.and_false, Bool.false_and, Bool.false_and]
  simp [State.ended, settleState, h, hover]

theorem State.ended_quiet (hx : v.line.exchange.isSome = true) (hr : v.reports = []) (hd : v.line.displaced = [])
    (ha : ∀ a ∈ v.active, a.code ≠ .unitRetire) (hp : v.line.round.inProgress = false) : (s.ended v).works = v :=
  State.ended_of_taken (Works.settle_of_drained ha (Works.drain_of_nil hr hd) hx hp) hx

theorem State.ended_displaced (hr : v.reports = []) (hd : v.line.displaced = [q]) (ha : ∀ a ∈ v.active, a.code ≠ .unitRetire)
    (hu : u = (v.setLine { v.line with displaced := [] }).reportEntry q .removed .removed) (hur : u.reports = [])
    (hud : u.line.displaced = []) (hx : u.line.exchange.isSome = true) (hp : u.line.round.inProgress = false) :
    (s.ended v).works = u :=
  State.ended_of_taken (Works.settle_of_drained ha (Works.drain_of_displaced hr hd hu hur hud) hx hp) hx

end Quiet

/-! # A HALT that displaces a pair from the full queue (R140, R143) -/

section Displaced

variable {w v : Works} {e q : QEntry} {r : Requester} {m : Motion}

theorem Works.addRetry_of_job {b : Block} (h : b ≠ .dropLine) (u : Nat) (w : Works) : w.addRetry u b =
    w.updRoster u (fun r => if r.retry.contains b then r else { r with retry := r.retry ++ [b] }) := if_neg h

/-- The block of the requester enters the unit's retry list. -/
theorem Works.addRetry_enters {b : Block} {y : RosterEntry} {u : Nat} (h : b ≠ .dropLine) (hy : w.rosterEntry u = some y) :
    ∃ z, (w.addRetry u b).rosterEntry u = some z ∧ b ∈ z.retry := by
  rw [Works.addRetry_of_job h, Works.rosterEntry_updRoster_of (fun r => by split <;> rfl) hy]
  refine ⟨_, rfl, ?_⟩
  split
  · next hb => simpa using hb
  · simp

/-- The requester of a request that is refused hears of it while it still wants it, and its block waits for a retry notice. -/
def Works.refusedTo (e : QEntry) (r : Requester) (w : Works) : Works :=
  (if r.fate = .live then w.refusedFull r else w).addRetry e.unit r.who.block

/-- The record of the first refusal of a full-queue episode. -/
def Works.openFull (e : QEntry) (w : Works) : Works :=
  if w.line.fullEpisode then w else
    (w.setLine { w.line with fullEpisode := true }).record .lineQueueFull 0 none none
      [e.unit, e.req.cmd.code, e.block.code] true

theorem Works.refuse_of_single (h : q.requesters = [r]) (w : Works) :
    w.refuse q = ((w.refusedTo q r).displace q).openFull q := by
  rw [Works.refuse, h]
  rfl

theorem Works.openFull_only (e : QEntry) (w : Works) : Works.Leads [.line] w (w.openFull e) :=
  ite_leads .refl (Works.record_leads _ _ _ _ _ _ _ (Works.setLine_leads _ _ id (by decide) .refl))

theorem Works.openFull_line (e : QEntry) (w : Works) : (w.openFull e).line = { w.line with fullEpisode := true } := by
  unfold Works.openFull
  split
  · next h => rw [← h]
  · rfl

theorem Works.openFull_records (e : QEntry) (h : w.line.fullEpisode = false) :
    (w.openFull e).recorded .lineQueueFull 0 none none [e.unit, e.req.cmd.code, e.block.code] true := by
  rw [Works.openFull, if_neg (by simp [h])]
  exact Works.recorded_record ..

/-- Of the line, only retry lists change as a requester hears of the refusal. -/
theorem Works.refusedTo_line (e : QEntry) (r : Requester) (w : Works) :
    ∃ l, (w.refusedTo e r).line = { w.line with roster := l } := by
  have hline : (if r.fate = .live then w.refusedFull r else w).line = w.line := by
    split
    · exact Works.refusedFull_line r w
    · rfl
  unfold Works.refusedTo Works.addRetry
  split
  · exact ⟨w.line.roster, hline⟩
  · exact ⟨_, by rw [← hline]; rfl⟩

theorem Works.refusedTo_enters {y : RosterEntry} (hb : r.who.block ≠ .dropLine) (hy : w.rosterEntry e.unit = some y) :
    ∃ z, (w.refusedTo e r).rosterEntry e.unit = some z ∧ r.who.block ∈ z.retry := by
  refine Works.addRetry_enters (y := y) hb ?_
  split
  · rw [Works.rosterEntry_congr (Works.refusedFull_line r w), hy]
  · exact hy

theorem Works.refusedTo_givenUp (h : r.fate ≠ .live) (e : QEntry) (w : Works) : Works.Leads [.line] w (w.refusedTo e r) := by
  rw [Works.refusedTo, if_neg h]
  exact Works.addRetry_leads _ _ _ (by decide) .refl

/-- A request that is still wanted waits; one that was given up has ended. -/
theorem Works.displace_of_single (h : q.requesters = [r]) (w : Works) : w.displace q =
    if r.fate = .live then w else w.setLine { w.line with displaced := w.line.displaced ++ [q] } := by
  by_cases hl : r.fate = .live
  · simp [Works.displace, QEntry.givenUp, h, hl]
  · have hg : q.givenUp = q.requesters := by simp [QEntry.givenUp, h, hl]
    rw [Works.displace, hg, if_neg hl, if_neg (by simp [h])]

/-- The works without the last entry of the queue, the HALT in its place. -/
def Works.ousted (e q : QEntry) (w : Works) : Works :=
  let v := each q.requesters (fun r w => w.setLeaves r q.req.value) w
  v.setLine { v.line with queue := joinLine e v.line.queue.dropLast }

theorem Works.ousted_line (e q : QEntry) (w : Works) :
    (w.ousted e q).line = { w.line with queue := joinLine e w.line.queue.dropLast } := by
  have hline : (each q.requesters (fun r w => w.setLeaves r q.req.value) w).line = w.line :=
    (each_leads (ps := [.lights]) _ _ _ (fun r v hv => Works.setLeaves_leads r _ v (by decide) hv) .refl).line_eq (by decide)
  simp only [Works.ousted, hline]
  rfl

theorem Works.ousted_only (e q : QEntry) (w : Works) :
    Works.Leads [.lights, .line] w (w.ousted e q) := by
  have hleaves : Works.Leads [.lights, .line] w (each q.requesters (fun r w => w.setLeaves r q.req.value) w) :=
    each_leads _ _ _ (fun r v hv => Works.setLeaves_leads r _ v (by decide) hv) .refl
  refine Works.setLine_leads _ _ (fun hq => ?_) (by decide) hleaves
  rw [joinLine_length, List.length_dropLast]
  omega

theorem Works.enqueue_displaces (he : e.req = .halt) (hs : ∀ x ∈ w.line.queue, x.req.isHalt = true → sameOutput e x = false)
    (hl : w.line.queue.length = 32) (hq : w.line.queue.getLast? = some q) (hm : q.req = .pair m) :
    w.enqueue e = (true, (w.ousted e q).refuse q) := by
  have hany : (w.line.queue.any fun x => x.req.isHalt && sameOutput e x) = false := by
    simpa [List.any_eq_false] using hs
  have hhalt : q.req.isHalt = false := by rw [hm]; rfl
  simp only [Works.enqueue, he, hany, Works.joinHalt, hl, hq, hhalt]
  rfl

theorem halt_displaces (e q : QEntry) (r : Requester) (m : Motion) (v : Works) (he : e.req = .halt)
    (hs : ∀ x ∈ v.line.queue, x.req.isHalt = true → sameOutput e x = false) (hl : v.line.queue.length = 32)
    (hq : v.line.queue.getLast? = some q) (hm : q.req = .pair m) (hr : q.requesters = [r]) (hb : r.who.block ≠ .dropLine) :
    ∃ u, v.enqueue e = (true, u) ∧ u.line.queue = joinLine e v.line.queue.dropLast ∧
      (∀ y, v.rosterEntry q.unit = some y → ∃ z, u.rosterEntry q.unit = some z ∧ r.who.block ∈ z.retry) ∧
      (v.line.fullEpisode = false → u.recorded .lineQueueFull 0 none none [q.unit, 0x12, r.who.block.code] true) ∧
      (r.fate = .live → u.line.displaced = v.line.displaced) ∧
      (r.fate ≠ .live → u.line.displaced = v.line.displaced ++ [q] ∧ u.dewater = v.dewater ∧ u.portals = v.portals) := by
  have houst := v.ousted_line e q
  obtain ⟨l, hto⟩ := Works.refusedTo_line q r (v.ousted e q)
  have hrec : [q.unit, q.req.cmd.code, q.block.code] = [q.unit, 0x12, r.who.block.code] := by rw [QEntry.block, hr, hm]; rfl
  rw [houst] at hto
  refine ⟨_, Works.enqueue_displaces he hs hl hq hm, ?_⟩
  rw [Works.refuse_of_single hr, Works.displace_of_single hr]
  refine ⟨?_, fun y hy => ?_, fun hf => ?_, fun hlive => ?_, fun hgone => ⟨?_, ?_⟩⟩
  · rw [Works.openFull_line]
    split <;> simp [hto]
  · obtain ⟨z, hz, hmem⟩ := Works.refusedTo_enters (w := v.ousted e q) (e := q) (y := y) hb
      (by rw [Works.rosterEntry, houst]; exact hy)
    refine ⟨z, ?_, hmem⟩
    rw [Works.rosterEntry, Works.openFull_line]
    split <;> exact hz
  · rw [← hrec]
    refine Works.openFull_records q ?_
    split <;> simp [hto, hf]
  · rw [Works.openFull_line, if_pos hlive, hto]
  · rw [Works.openFull_line, if_neg hgone]
    simp [hto]
  · rw [if_neg hgone]
    have hout : Works.Leads [.lights, .line] v ((v.ousted e q).refusedTo q r) :=
      (Works.ousted_only e q v).trans ((Works.refusedTo_givenUp hgone q _).mono (by decide))
    have hlead := hout.trans ((Works.setLine_leads (ps := [.lights, .line]) { ((v.ousted e q).refusedTo q r).line with
      displaced := ((v.ousted e q).refusedTo q r).line.displaced ++ [q] } _ id (by decide) .refl).trans
        ((Works.openFull_only q _).mono (by decide)))
    exact ⟨hlead.dewater_eq (by decide), hlead.portals_eq (by decide)⟩

end Displaced

/-! # The end of the roll call (R175) -/

section RollCall

variable {w v : Works} {s : State} {site : Site}

/-- The station leaves the roll call (R172, R175). -/
theorem Works.enterState_fromRollCall (h : w.station.state = .rollCall) {new : StationState} (hn : new ≠ .unset)
    (c : StationCause) : (w.enterState new c 0 absent16).station = { w.station with state := new } ∧
      (w.enterState new c 0 absent16).recorded .station 0 (some 2) (some new.code) [c.code, 0, 0, absent16] false ∧
      (w.enterState new c 0 absent16).handed .imageRewriteRequest := by
  refine ⟨rfl, ?_, Works.handed_send ..⟩
  have hrec := Works.recorded_record (w.setStation { w.station with state := new }) .station 0 (some w.station.state.code)
    (some new.code) [c.code, 0, 0, absent16] (decide (new = .unset))
  rw [h, decide_eq_false hn] at hrec
  simp only [Works.enterState, h, reduceCtorEq, if_false, decide_eq_false hn]
  exact (Works.wantImage_leads (ps := []) _ .refl).handed (by decide) hrec

/-- What the jobs do after the change of station state (R175 steps 3 to 5). -/
theorem rollCallTail_leads (auto : Bool) (v : Works) :
    Works.Leads Part.kept (v.enterState (if auto then .running else .held) (if auto then .autorunSet else .autorunClear) 0 absent16)
      (if auto then (if auto then v.enterState .running .autorunSet 0 absent16
          else v.enterState .held .autorunClear 0 absent16).judgeStanding.runReports.jobsRun
        else (if auto then v.enterState .running .autorunSet 0 absent16
          else v.enterState .held .autorunClear 0 absent16).judgeStanding.runReports.jobsHold).runReports := by
  have hstanding (u : Works) : Works.Leads Part.kept u u.judgeStanding.runReports :=
    Works.runReports_leads _ (by decide) (Works.judgeStanding_leads _ (by decide) .refl)
  cases auto
  · exact Works.runReports_leads _ (by decide) (Works.jobsHold_leads _ (by decide) (hstanding _))
  · exact Works.runReports_leads _ (by decide) (Works.jobsRun_leads _ (by decide) (hstanding _))

/-- The reconciliation, the change of station state, and what the jobs do after it (R175 steps 1 to 5). -/
theorem Works.rollCallDecide_leads (hs : w.station.site = some site) : ∃ v, Works.Leads Part.all w v ∧
    Works.Leads Part.kept (v.enterState (if site.autorun then .running else .held)
      (if site.autorun then .autorunSet else .autorunClear) 0 absent16) w.rollCallDecide := by
  refine ⟨w.rollCallReconcile.stageFromPortals, Works.stageFromPortals_leads _ (by decide)
    (Works.rollCallReconcile_leads _ (by decide) .refl), ?_⟩
  rw [Works.rollCallDecide, hs]
  exact rollCallTail_leads _ _

/-- A roll call that is over left the station in ROLL_CALL. -/
theorem Works.rollCallOver_state (h : w.rollCallOver = true) : w.station.state = .rollCall := by
  simp only [Works.rollCallOver, Bool.and_eq_true, decide_eq_true_eq] at h
  exact h.1.1.1

/-- What the end of the roll call decides of the station. -/
theorem Works.rollCallDecide_station (hs : w.station.site = some site) (ho : w.station.state = .rollCall) :
    w.rollCallDecide.station = { w.station with state := if site.autorun then .running else .held } ∧
    w.rollCallDecide.recorded .station 0 (some 2) (some (if site.autorun then 4 else 3))
      [if site.autorun then 4 else 5, 0, 0, absent16] false ∧
    w.rollCallDecide.handed .imageRewriteRequest := by
  obtain ⟨v, hv, hjobs⟩ := Works.rollCallDecide_leads hs
  obtain ⟨hst, hrec, himage⟩ := Works.enterState_fromRollCall (w := v)
    (new := if site.autorun then .running else .held) (by rw [hv.station_eq, ho]) (by split <;> decide)
    (if site.autorun then .autorunSet else .autorunClear)
  refine ⟨by rw [hjobs.station_eq, hst, hv.station_eq], ?_, hjobs.handed (by decide) himage⟩
  have hkept := hjobs.recorded (by decide) hrec
  cases hauto : site.autorun <;> rw [hauto] at hkept <;> exact hkept

/-- The LOAD SITE that brought the table completes, and is waited for no more (R177). -/
theorem Works.completeLoad_spec (w : Works) :
    w.completeLoad.station = { w.station with load := none } ∧ w.completeLoad.now = w.now ∧
    (∀ i, w.handed i → w.completeLoad.handed i) ∧
    ∀ l, w.station.load = some l → w.completeLoad.completed l.slot 0 0 0 := by
  unfold Works.completeLoad
  split
  · next h =>
    refine ⟨?_, rfl, fun _ hi => hi, fun l hl => ?_⟩
    · rw [← h]
    · rw [h] at hl
      cases hl
  · next l h =>
    refine ⟨rfl, rfl, fun i hi => List.mem_append_left _ hi, fun l' hl => ?_⟩
    obtain rfl : l = l' := Option.some.inj (h.symm.trans hl)
    exact ⟨_, Works.handed_send ..⟩

/-- Every order of a slot has been taken up by its owner. -/
def Port.allTaken (p : Port) (k : Nat) : Prop := ∀ e ∈ p.working, e.slot = k → e.takenUp = true

theorem markTaken_allTaken (j k : Nat) (s : State) (h : s.port.allTaken k ∨ k = j) : (markTaken j s).port.allTaken k := by
  intro e he hk
  obtain ⟨d, hd, rfl⟩ := List.mem_map.mp he
  dsimp only at hk ⊢
  split
  · rfl
  · next hne =>
    rw [if_neg hne] at hk
    exact h.elim (fun h => h d hd hk) fun hkj => absurd (hk.trans hkj) hne

theorem takeWaiting_allTaken (o : Order) (k : Nat) (s : State) (h : s.port.allTaken k ∨ k = o.slot) :
    (takeWaiting o s).port.allTaken k := markTaken_allTaken o.slot k _ h

/-- Every order that waited is taken up (R175). -/
theorem takeAllWaiting_allTaken (l : List Order) (s : State) : ∀ o ∈ l, (each l takeWaiting s).port.allTaken o.slot := by
  intro o ho
  induction l generalizing s with
  | nil => cases ho
  | cons a l ih =>
    obtain rfl | ho := List.mem_cons.mp ho
    · change (each l takeWaiting (takeWaiting o s)).port.allTaken o.slot
      exact each_induction (P := fun t : State => t.port.allTaken o.slot) (takeWaiting_allTaken o _ s (.inr rfl))
        fun b _ t ht => takeWaiting_allTaken b _ t (.inl ht)
    · exact ih (takeWaiting a s) ho

/-- The roll call ends with the event (R175). -/
theorem rollCall_ends (s : State) (v : Works) (site : Site) (ho : v.settle.rollCallOver = true)
    (hs : v.station.site = some site) :
    (s.ended v).works.station = { v.station with state := if site.autorun then .running else .held, load := none } ∧
      (s.ended v).works.recorded .station 0 (some 2) (some (if site.autorun then 4 else 3))
        [if site.autorun then 4 else 5, 0, 0, absent16] false ∧
      (s.ended v).works.handed .imageRewriteRequest ∧
      (∀ l, v.station.load = some l → (s.ended v).works.completed l.slot 0 0 0) ∧
      (∀ o ∈ waitingJobOrders s.port.working, ∀ e ∈ (s.ended v).port.working, e.slot = o.slot → e.takenUp = true) ∧
      ∃ u, (s.ended v).works = Works.settle u ∧
        u.line.round = { u.line.round with start := v.now, lastAddr := 0, inProgress := true } := by
  have hsettle := v.settle_leads
  have hended : s.ended v = endRollCall { s with works := v.settle } := if_pos ho
  obtain ⟨hst, hrec, himage⟩ := Works.rollCallDecide_station (w := v.settle) (site := site)
    (by rw [hsettle.station_eq, hs]) (Works.rollCallOver_state ho)
  have hdecided := Works.rollCallDecide_settles v.settle (Works.rollCallOver_state ho)
  rw [hsettle.station_eq] at hst
  rw [hended]
  set t := each (waitingJobOrders s.port.working) takeWaiting { s with works := v.settle.rollCallDecide } with ht
  have htakes : State.Takes { s with works := v.settle.rollCallDecide } t := takeAllWaiting_takes _ _
  obtain ⟨hload, hnow, hkept, hdone⟩ := t.works.completeLoad_spec
  have hfinish := (t.works.rollCallFinish).settle_leads
  rw [htakes.works.station_eq, hst] at hload
  rw [htakes.works.station_eq] at hdone
  have hthrough {i : Instr} (hi : v.settle.rollCallDecide.handed i) : t.works.rollCallFinish.settle.handed i :=
    hfinish.handed (by decide) (hkept i (htakes.works.handed (by decide) hi))
  refine ⟨hfinish.station_eq.trans hload, hthrough hrec, hthrough himage, fun l hl => ?_, takeAllWaiting_allTaken _ _,
    t.works.rollCallFinish, rfl, ?_⟩
  · exact hfinish.completed (by decide) (hdone l (by rw [hst]; exact hl))
  · have hstart : t.works.completeLoad.now = v.now := by
      rw [hnow, htakes.works.now_eq, hdecided.now_eq, hsettle.now_eq]
    rw [← hstart]
    rfl

end RollCall

/-- Settles O56: an event's end by its parts, the retirements, the reports with the displaced requests, the arbiter, and the end
of the roll call. -/
theorem eventEnd : Obligations.EventEnd := by
  unfold Obligations.EventEnd
  intro s v
  have hends := settleState_ends { s with works := v }
  refine ⟨hends.port, hends.store, hends.pending, hends.works.now_eq, fun hst => ?_, fun hx hr hd ha hp => ?_,
    fun q u hr hd ha hu hur hud hx hp => ?_, fun e q r m he hs hl hq hm hr hb => ?_, fun site ho hs => rollCall_ends s v site ho hs⟩
  · rw [State.ended, settleState_of_state _ hst]
    exact ⟨rfl, v.settle_leads.station_eq⟩
  · exact State.ended_quiet hx hr hd ha hp
  · exact State.ended_displaced hr hd ha hu hur hud hx hp
  · exact halt_displaces e q r m v he hs hl hq hm hr hb

end Sys2Proof.Machine

namespace Sys2Proof.Machine

open Sys2Proof

/-! # The unit orders (R147, R148) -/

section UnitOrders

variable {w : Works} {o : Order} {r : RosterEntry} {s : State} {k u : Nat}

theorem Works.unitRetireOrder_closing (hr : w.rosterEntry o.subject = some r) (ht : r.type = .portal)
    (hs : w.water.stage.stage = .alert ∨ w.water.stage.stage = .closed ∨ w.water.stage.stage = .draining) :
    w.unitRetireOrder o = o.finish 4 w.water.stage.stage.code 0 [r.state.code] w := by
  rw [Works.unitRetireOrder, hr]
  rcases hs with hs | hs | hs <;> simp [ht, hs, Status.refusedStage]

/-- Outside a closure, and of a unit without a portal, the order is judged by the roster state. -/
theorem Works.unitRetireOrder_allowed (hr : w.rosterEntry o.subject = some r)
    (ha : r.type ≠ .portal ∨ w.water.stage.stage = .dry ∨ w.water.stage.stage = .watch) :
    w.unitRetireOrder o = if r.state = .retired then o.finish 0 0 0 [r.state.code] w else w.hold (o.active 0) := by
  rw [Works.unitRetireOrder, hr]
  rcases ha with ht | hs | hs
  · simp [ht, Status.doneOk]
  · simp [hs, Status.doneOk]
  · simp [hs, Status.doneOk]

theorem Works.recordUnit_records (hr : w.rosterEntry u = some r) (old : RosterState) (cause : UnitCause) :
    (w.recordUnit u old cause).recorded .unit u (some old.code) (some r.state.code)
      [r.type.code, r.missCount, LineError.code r.lastError, cause.code] (decide (r.state = .lost)) := by
  rw [Works.recordUnit, hr]
  exact Works.recorded_record ..

/-- The retirement of a unit that is not retired yet has its record and its completion (R147). -/
theorem Works.retireUnit_done (hr : w.rosterEntry u = some r) (hs : r.state ≠ .retired) :
    (w.retireUnit k u).recorded .unit u (some r.state.code) (some 4) [r.type.code, r.missCount, LineError.code r.lastError, 4]
      false ∧ (w.retireUnit k u).completed k 0 0 0 := by
  have hretired := Works.rosterEntry_updRoster_of (f := fun r => { r with state := .retired }) (fun _ => rfl) hr
  rw [Works.retireUnit, hr]
  dsimp only
  rw [if_neg hs]
  refine ⟨?_, _, Works.handed_send ..⟩
  exact Works.Leads.recorded (ps := Part.kept) (Works.complete_leads _ _ _ _ _ _ (by decide)
    (Works.removeRequests_leads _ _ (by decide) (Works.unitGone_leads _ _ _ (by decide) .refl))) (by decide)
      (Works.recordUnit_records hretired r.state .retire)

/-- One ACTIVE UNIT RETIRE, whose unit is free, is carried out. -/
theorem Works.judgeRetire_hold (ho : o.code = .unitRetire) (hb : w.busy o.subject = false)
    (ha : ∀ a ∈ w.active, a.code ≠ .unitRetire) :
    (w.hold (o.active 0)).judgeRetire = (w.hold (o.active 0)).retireUnit o.slot o.subject := by
  have hothers : w.active.filter (fun a => decide (a.code = .unitRetire)) = [] :=
    List.filter_eq_nil_iff.mpr fun a hm => by simpa using ha a hm
  have hone : (w.hold (o.active 0)).active.filter (fun a => decide (a.code = .unitRetire)) = [o.active 0] := by
    rw [Works.hold, List.filter_append, hothers]
    simp [Order.active, ho]
  rw [Works.judgeRetire, Works.completeAll, hone]
  exact if_neg (by simpa [Works.busy, Works.hold, Order.active] using hb)

theorem State.takenUp_works (hs : s.works.takesOrders) {v : Works} (hv : v.station = s.works.station) :
    (s.takenUp k v).works = v.settle := by
  have hstate : v.station.state ≠ .rollCall := by
    rw [hv]
    rcases hs with hs | hs <;> rw [hs] <;> decide
  rw [State.takenUp, State.ended, settleState_of_state _ hstate]
  rfl

/-- A UNIT RETIRE whose unit is free is done by the end of the event (R147). -/
theorem unitRetire_done (h : s.orderWaits k o) (hs : s.works.takesOrders) (ho : o.code = .unitRetire)
    (hr : s.works.rosterEntry o.subject = some r) (hn : r.state ≠ .retired) (hb : s.works.busy o.subject = false)
    (ha : ∀ a ∈ s.works.active, a.code ≠ .unitRetire) :
    (s.takenUp k (s.works.hold (o.active 0))).works.recorded .unit o.subject (some r.state.code) (some 4)
      [r.type.code, r.missCount, LineError.code r.lastError, 4] false ∧
    (s.takenUp k (s.works.hold (o.active 0))).works.completed k 0 0 0 := by
  obtain rfl := s.orderWaits_slot k o h
  obtain ⟨hrec, hdone⟩ := Works.retireUnit_done (w := s.works.hold (o.active 0)) (k := o.slot) hr hn
  rw [State.takenUp_works (v := s.works.hold (o.active 0)) hs rfl, Works.settle, Works.judgeRetire_hold ho hb ha]
  have hloop := arbitrateLoop_leads 64 ((s.works.hold (o.active 0)).retireUnit o.slot o.subject)
  exact ⟨hloop.recorded (by decide) hrec, hloop.completed (by decide) hdone⟩

theorem Works.unitRestoreOrder_failed (hr : w.rosterEntry o.subject = some r) (hs : r.state ≠ .retired) :
    w.unitRestoreOrder o = o.finish 10 1 r.state.code [r.state.code] w := by
  rw [Works.unitRestoreOrder, hr]
  exact if_pos hs

theorem Order.finish_rosterEntry (o : Order) (st d d2 : Nat) (l : List Nat) (w : Works) (u : Nat) :
    (o.finish st d d2 l w).rosterEntry u = w.rosterEntry u := rfl

/-- The entry of a restored unit as the restoration begins. -/
def RosterEntry.restored (r : RosterEntry) : RosterEntry :=
  { r with state := .unseen, missCount := 0, lastError := none, retry := [] }

/-- A retired unit is UNSEEN again, its blocks told (R148). -/
def Works.restoreUnit (u : Nat) (w : Works) : Works :=
  ((w.updRoster u RosterEntry.restored).recordUnit u .retired .restore).unitGone u false

theorem Works.unitRestoreOrder_retired (hr : w.rosterEntry o.subject = some r) (hs : r.state = .retired) :
    w.unitRestoreOrder o = o.finish 0 0 0 [4] (w.restoreUnit o.subject) := by
  rw [Works.unitRestoreOrder, hr]
  dsimp only
  rw [if_neg (by simp [hs]), hs]
  rfl

theorem Works.updRoster_restored (hr : w.rosterEntry u = some r) :
    (w.updRoster u RosterEntry.restored).rosterEntry u = some r.restored :=
  Works.rosterEntry_updRoster_of (fun _ => rfl) hr

theorem Works.restoreUnit_entry (hr : w.rosterEntry u = some r) :
    ∃ q, (w.restoreUnit u).rosterEntry u = some q ∧ q.state = .unseen ∧ q.missCount = 0 ∧ q.lastError = none := by
  obtain ⟨q, hq, hpolled⟩ := Works.entry_of_stand (Works.unitGone_stand u false _)
    ((Works.rosterEntry_congr (Works.recordUnit_line u .retired .restore _) u).trans (Works.updRoster_restored hr))
  obtain ⟨-, -, hstate, hmiss, -, -, herror, -, -⟩ := RosterEntry.polled_eq_iff.mp hpolled
  exact ⟨q, hq, hstate, hmiss, herror⟩

theorem Works.restoreUnit_records (hr : w.rosterEntry u = some r) :
    (w.restoreUnit u).recorded .unit u (some 4) (some 0) [r.type.code, 0, 0, 5] false :=
  Works.Leads.recorded (ps := Part.kept) (Works.unitGone_leads _ _ _ (by decide) .refl) (by decide)
    (Works.recordUnit_records (Works.updRoster_restored hr) .retired .restore)

/-- UNIT RETIRE (R147). -/
theorem unitRetire_cases (h : s.orderWaits k o) (hs : s.works.takesOrders) (ho : o.code = .unitRetire)
    (hr : s.works.rosterEntry o.subject = some r) :
    (r.type = .portal → (s.works.water.stage.stage = .alert ∨ s.works.water.stage.stage = .closed ∨
        s.works.water.stage.stage = .draining) →
      exec (.unitRetire k) s =
        .next (s.takenUp k (o.finish 4 s.works.water.stage.stage.code 0 [r.state.code] s.works))) ∧
    ((r.type ≠ .portal ∨ s.works.water.stage.stage = .dry ∨ s.works.water.stage.stage = .watch) →
      r.state = .retired → exec (.unitRetire k) s = .next (s.takenUp k (o.finish 0 0 0 [4] s.works))) ∧
    ((r.type ≠ .portal ∨ s.works.water.stage.stage = .dry ∨ s.works.water.stage.stage = .watch) →
      r.state ≠ .retired →
      exec (.unitRetire k) s = .next (s.takenUp k (s.works.hold (o.active 0))) ∧
      (s.works.busy o.subject = false → (∀ a ∈ s.works.active, a.code ≠ .unitRetire) →
        (s.takenUp k (s.works.hold (o.active 0))).works.recorded .unit o.subject (some r.state.code) (some 4)
          [r.type.code, r.missCount, LineError.code r.lastError, 4] false ∧
        (s.takenUp k (s.works.hold (o.active 0))).works.completed k 0 0 0)) := by
  have hexec : exec (.unitRetire k) s = .next (s.takenUp k (s.works.unitRetireOrder o)) := takeUp_of_waits _ _ k o s h ho hs
  refine ⟨fun ht hst => ?_, fun hallowed hst => ?_, fun hallowed hst => ⟨?_, unitRetire_done h hs ho hr hst⟩⟩
  · rw [hexec, Works.unitRetireOrder_closing hr ht hst]
  · rw [hexec, Works.unitRetireOrder_allowed hr hallowed, if_pos hst, hst]
    rfl
  · rw [hexec, Works.unitRetireOrder_allowed hr hallowed, if_neg hst]

/-- UNIT RESTORE (R148). -/
theorem unitRestore_cases (h : s.orderWaits k o) (hs : s.works.takesOrders) (ho : o.code = .unitRestore)
    (hr : s.works.rosterEntry o.subject = some r) :
    (r.state ≠ .retired →
      exec (.unitRestore k) s = .next (s.takenUp k (o.finish 10 1 r.state.code [r.state.code] s.works))) ∧
    (r.state = .retired →
      ∃ v q, exec (.unitRestore k) s = .next (s.takenUp k v) ∧ v.now = s.works.now ∧ v.station = s.works.station ∧
        v.rosterEntry o.subject = some q ∧ q.state = .unseen ∧ q.missCount = 0 ∧ q.lastError = none ∧
        v.recorded .unit o.subject (some 4) (some 0) [r.type.code, 0, 0, 5] false ∧ v.completed k 0 0 0) := by
  have hexec : exec (.unitRestore k) s = .next (s.takenUp k (s.works.unitRestoreOrder o)) := takeUp_of_waits _ _ k o s h ho hs
  refine ⟨fun hst => ?_, fun hst => ?_⟩
  · rw [hexec, Works.unitRestoreOrder_failed hr hst]
  · obtain rfl := s.orderWaits_slot k o h
    obtain ⟨q, hq, hstate, hmiss, herror⟩ := Works.restoreUnit_entry hr
    have hleads : Works.Leads Part.kept s.works (s.works.unitRestoreOrder o) := Works.unitRestoreOrder_leads o _ (by decide) .refl
    have hv := Works.unitRestoreOrder_retired hr hst
    have hfinish : Works.Leads Part.kept (s.works.restoreUnit o.subject) (s.works.unitRestoreOrder o) := by
      rw [hv]
      exact Works.complete_leads _ _ _ _ _ _ (by decide) .refl
    refine ⟨_, q, hexec, hleads.now_eq, hleads.station_eq, ?_, hstate, hmiss, herror,
      hfinish.recorded (by decide) (Works.restoreUnit_records hr), ?_⟩
    · rw [hv, Order.finish_rosterEntry, hq]
    · rw [hv]
      exact ⟨_, Works.handed_send ..⟩

end UnitOrders

end Sys2Proof.Machine

namespace Sys2Proof.Machine

open Sys2Proof

/-! # The claims of a unit (R120, R122, R127): values and records -/

/-- Where each element is worked on once: the works before and after the turn of one. -/
theorem each_own_turn {α β : Type} {l : List α} {a : α} (hl : l.Nodup) (ha : a ∈ l) (f : α → β → β) (v : β) :
    ∃ l1 l2, each l f v = each l2 f (f a (each l1 f v)) ∧ (∀ b ∈ l1, b ∈ l ∧ b ≠ a) ∧ ∀ b ∈ l2, b ∈ l ∧ b ≠ a := by
  obtain ⟨l1, l2, rfl⟩ := List.append_of_mem ha
  have hnot : a ∉ l1 ++ l2 := (List.nodup_middle.mp hl).notMem
  rw [List.mem_append, not_or] at hnot
  refine ⟨l1, l2, by simp [each], fun b hb => ⟨List.mem_append_left _ hb, ?_⟩,
    fun b hb => ⟨List.mem_append_right _ (List.mem_cons_of_mem _ hb), ?_⟩⟩
  · rintro rfl
    exact hnot.1 hb
  · rintro rfl
    exact hnot.2 hb

section ClaimValues

variable {w v t : Works} {c d : Claim} {k u : Nat} {cause : ClaimCause} {l : List NewClaim} {n : NewClaim} {x : ClaimValue}

/-! ## Values set, and blocks told -/

theorem Works.handClaims_claims (images : Nat → Option (List Byte)) (reports : List (Option Nat)) (joined : Bool)
    (l : List NewClaim) (w : Works) : (w.handClaims images reports joined l).claims = w.claims :=
  (w.handClaims_only images reports joined l).claims_eq (by decide)

theorem Works.takesValue.later (h : w.takesValue v k c x cause) (hc : t.claims[k]? = v.claims[k]?) {ps : List Part}
    (hl : Works.Leads ps v t) (hp : Part.voids ∉ ps) : w.takesValue t k c x cause :=
  ⟨hc.trans h.1, hl.recorded hp h.2⟩

/-- The blocks told of their changes leave the claims and their records. -/
theorem Works.takesValue.told (h : w.takesValue v k c x cause) (images : Nat → Option (List Byte)) (reports : List (Option Nat))
    (joined : Bool) (l : List NewClaim) : w.takesValue (v.handClaims images reports joined l) k c x cause :=
  h.later (by rw [Works.handClaims_claims]) (v.handClaims_only images reports joined l) (by decide)

theorem Works.takesValue.earlier (h : v.takesValue t k c x cause) (hn : v.now = w.now) (hl : v.line = w.line) :
    w.takesValue t k c x cause := by
  simpa only [Works.takesValue, hn, Works.unitStateCode_congr hl] using h

theorem Works.setClaims_only (cause : ClaimCause) (l : List NewClaim) (w : Works) : Works.Leads [.claims] w (w.setClaims cause l) :=
  Works.setClaims_leads cause l w (by decide) .refl

theorem Works.setClaims_subjects (cause : ClaimCause) (l : List NewClaim) (w : Works) :
    (w.setClaims cause l).claims.map Claim.subject = w.claims.map Claim.subject :=
  each_induction (P := fun v : Works => v.claims.map Claim.subject = w.claims.map Claim.subject) rfl
    fun _ _ v h => (Works.setClaim_subjects _ _ _ _ _ v).trans h

/-! ## The claims of one unit -/

theorem Works.mem_unitClaims : d ∈ w.unitClaims u ↔ d ∈ w.claims ∧ d.unit = u := by
  simp [Works.unitClaims]

theorem Works.unitClaims_nodup (hw : (w.claims.map Claim.subject).Nodup) (u : Nat) :
    ((w.unitClaims u).map Claim.subject).Nodup := hw.sublist (List.filter_sublist.map _)

/-- A subject has one claim. -/
theorem Works.unitClaims_own (hw : (w.claims.map Claim.subject).Nodup) (hc : c ∈ w.claims) (hd : d ∈ w.unitClaims u)
    (hs : d.subject = c.subject) : d = c := List.inj_on_of_nodup_map hw (Works.mem_unitClaims.mp hd).1 hc hs

/-! ## The loss of a unit (R120) -/

/-- The claims that the loss of a unit makes LOCAL. -/
def Works.lostClaims (u : Nat) (w : Works) : List NewClaim :=
  ((w.unitClaims u).filter (fun c => !decide (c.value = .away))).map
    (fun c => { subject := c.subject, value := ClaimValue.away : NewClaim })

/-- The key views of a lost unit are UNKNOWN. -/
def Works.keysUnknown (u : Nat) (w : Works) : Works :=
  w.updClaims (fun c => if c.unit = u then { c with keyView := .unknown } else c)

theorem Works.claimsLost_eq (u : Nat) (w : Works) : w.claimsLost u =
    if (w.lostClaims u).isEmpty then w.keysUnknown u
    else ((w.keysUnknown u).setClaims .unitLost (w.lostClaims u)).handClaims (fun _ => none) [] false (w.lostClaims u) := rfl

theorem Works.mem_lostClaims : n ∈ w.lostClaims u ↔ ∃ d ∈ w.unitClaims u, d.value ≠ .away ∧ n = ⟨d.subject, .away⟩ := by
  rw [Works.lostClaims, List.mem_map]
  refine exists_congr fun d => ?_
  rw [List.mem_filter, and_assoc, eq_comm (a := n)]
  simp

theorem Works.lostClaim_mem (hc : w.claims[k]? = some c) (hu : c.unit = u) (hv : c.value ≠ .away) :
    (⟨c.subject, .away⟩ : NewClaim) ∈ w.lostClaims u :=
  Works.mem_lostClaims.mpr ⟨c, Works.mem_unitClaims.mpr ⟨List.mem_of_getElem? hc, hu⟩, hv, rfl⟩

theorem Works.lostClaims_nodup (hw : (w.claims.map Claim.subject).Nodup) (u : Nat) :
    ((w.lostClaims u).map NewClaim.subject).Nodup := by
  rw [Works.lostClaims, List.map_map]
  exact (Works.unitClaims_nodup hw u).sublist (List.filter_sublist.map _)

theorem Works.keysUnknown_subjects (u : Nat) (w : Works) :
    (w.keysUnknown u).claims.map Claim.subject = w.claims.map Claim.subject := by
  rw [Works.keysUnknown, Works.updClaims, List.map_map]
  refine List.map_congr_left fun c _ => ?_
  rw [Function.comp_apply]
  split <;> rfl

theorem Works.keysUnknown_claim (hc : w.claims[k]? = some c) (u : Nat) :
    (w.keysUnknown u).claims[k]? = some (if c.unit = u then { c with keyView := .unknown } else c) := by
  simp [Works.keysUnknown, Works.updClaims, hc]

/-- The values are set ahead of the handing, which leaves them. -/
theorem Works.claimsLost_claims (u : Nat) (w : Works) :
    (w.claimsLost u).claims = ((w.keysUnknown u).setClaims .unitLost (w.lostClaims u)).claims := by
  rw [Works.claimsLost_eq]
  split
  · next h =>
    rw [List.isEmpty_iff.mp h]
    rfl
  · rw [Works.handClaims_claims]

/-- A claim that the loss leaves as it is, but for the key view. -/
theorem Works.claimsLost_keeps (hw : (w.claims.map Claim.subject).Nodup) (hc : w.claims[k]? = some c)
    (h : c.unit ≠ u ∨ c.value = .away) :
    (w.claimsLost u).claims[k]? = some (if c.unit = u then { c with keyView := .unknown } else c) := by
  have hother : ∀ n ∈ w.lostClaims u, n.subject ≠ c.subject := fun n hn hs => by
    obtain ⟨d, hd, hv, rfl⟩ := Works.mem_lostClaims.mp hn
    obtain rfl := Works.unitClaims_own hw (List.mem_of_getElem? hc) hd hs
    exact h.elim (fun hu => hu (Works.mem_unitClaims.mp hd).2) hv
  rw [Works.claimsLost_claims]
  refine Works.setClaims_other ?_ (Works.keysUnknown_claim hc u)
  split <;> exact hother

/-- A claim of the unit becomes LOCAL with its record. -/
theorem Works.claimsLost_takes (hw : (w.claims.map Claim.subject).Nodup) (hc : w.claims[k]? = some c) (hu : c.unit = u)
    (hv : c.value ≠ .away) : w.takesValue (w.claimsLost u) k { c with keyView := .unknown } .away .unitLost := by
  have hn : (⟨c.subject, .away⟩ : NewClaim) ∈ w.lostClaims u :=
    Works.lostClaim_mem hc hu hv
  have hk := Works.keysUnknown_claim hc u
  rw [if_pos hu] at hk
  rw [Works.claimsLost_eq, if_neg (by simpa using List.ne_nil_of_mem hn)]
  refine Works.takesValue.told ?_ _ _ _ _
  exact (Works.setClaims_takes (w := w.keysUnknown u) (c := { c with keyView := .unknown })
    (by rwa [Works.keysUnknown_subjects]) (Works.lostClaims_nodup hw u) hn rfl hk).earlier rfl rfl

/-! ## The keys of a unit (R122, R123) -/

/-- The value that its key gives a claim, where it changes. -/
def Claim.keyChange (c : Claim) : Option NewClaim :=
  match c.keyView, c.value with
  | .panel, .auto => some { subject := c.subject, value := .panel }
  | .panel, .ordered => some { subject := c.subject, value := .panel }
  | .normal, .panel => some { subject := c.subject, value := .auto }
  | _, _ => none

theorem Works.keyChanges_eq (u : Nat) (w : Works) : w.keyChanges u = (w.unitClaims u).filterMap Claim.keyChange := rfl

theorem Claim.keyChange_subject (h : c.keyChange = some n) : n.subject = c.subject := by
  unfold Claim.keyChange at h
  split at h <;> cases h <;> rfl

theorem Claim.keyChange_panel (hk : c.keyView = .panel) (hv : c.value = .auto ∨ c.value = .ordered) :
    c.keyChange = some ⟨c.subject, .panel⟩ := by
  rcases hv with hv | hv <;> simp [Claim.keyChange, hk, hv]

theorem Claim.keyChange_normal (hk : c.keyView = .normal) (hv : c.value = .panel) : c.keyChange = some ⟨c.subject, .auto⟩ := by
  simp [Claim.keyChange, hk, hv]

theorem Claim.keyChange_none (h : c.value = .away ∨ c.keyView = .unknown ∨ (c.keyView = .panel ↔ c.value = .panel)) :
    c.keyChange = none := by
  rcases h with h | h | h
  · simp [Claim.keyChange, h]
  · simp [Claim.keyChange, h]
  · cases hk : c.keyView <;> cases hv : c.value <;> simp [Claim.keyChange, hk, hv] at h ⊢

theorem Works.mem_keyChanges : n ∈ w.keyChanges u ↔ ∃ d ∈ w.unitClaims u, d.keyChange = some n := by
  rw [Works.keyChanges_eq, List.mem_filterMap]

theorem Works.keyChange_mem (hc : w.claims[k]? = some c) (hu : c.unit = u) (h : c.keyChange = some n) : n ∈ w.keyChanges u :=
  Works.mem_keyChanges.mpr ⟨c, Works.mem_unitClaims.mpr ⟨List.mem_of_getElem? hc, hu⟩, h⟩

theorem Works.keyChanges_nodup (hw : (w.claims.map Claim.subject).Nodup) (u : Nat) :
    ((w.keyChanges u).map NewClaim.subject).Nodup := by
  have hunit := Works.unitClaims_nodup hw u
  rw [List.Nodup, List.pairwise_map] at hunit ⊢
  refine List.Pairwise.filterMap Claim.keyChange (fun a b hab m hm n hn => ?_) hunit
  rw [Claim.keyChange_subject hm, Claim.keyChange_subject hn]
  exact hab

/-- The changes to PANEL, and those to AUTO. -/
def Works.changesTo (u : Nat) (x : ClaimValue) (w : Works) : List NewClaim := (w.keyChanges u).filter (fun n => decide (n.value = x))

theorem Works.mem_changesTo : n ∈ w.changesTo u x ↔ n ∈ w.keyChanges u ∧ n.value = x := by
  simp [Works.changesTo]

theorem Works.changesTo_nodup (hw : (w.claims.map Claim.subject).Nodup) (u : Nat) (x : ClaimValue) :
    ((w.changesTo u x).map NewClaim.subject).Nodup := (Works.keyChanges_nodup hw u).sublist (List.filter_sublist.map _)

/-- The values that the keys give are set. -/
def Works.keysSet (u : Nat) (w : Works) : Works :=
  (w.setClaims .keyPanel (w.changesTo u .panel)).setClaims .keyNormal (w.changesTo u .auto)

theorem Works.judgeKeys_eq (u : Nat) (images : Nat → Option (List Byte)) (w : Works) : w.judgeKeys u images =
    if (w.keyChanges u).isEmpty then w
    else (w.keysSet u).handClaims images ((w.keysSet u).lampReports images) false (w.keyChanges u) := rfl

theorem Works.judgeKeys_claims (u : Nat) (images : Nat → Option (List Byte)) (w : Works) :
    (w.judgeKeys u images).claims = (w.keysSet u).claims := by
  rw [Works.judgeKeys_eq]
  split
  · next h =>
    rw [Works.keysSet, Works.changesTo, Works.changesTo, List.isEmpty_iff.mp h]
    rfl
  · rw [Works.handClaims_claims]

/-- What changes the value of a subject is the change of its claim. -/
theorem Works.keyChanges_own (hw : (w.claims.map Claim.subject).Nodup) (hc : w.claims[k]? = some c) (hn : n ∈ w.keyChanges u)
    (hs : n.subject = c.subject) : c.unit = u ∧ c.keyChange = some n := by
  obtain ⟨d, hd, hdn⟩ := Works.mem_keyChanges.mp hn
  obtain rfl := Works.unitClaims_own hw (List.mem_of_getElem? hc) hd ((Claim.keyChange_subject hdn).symm.trans hs)
  exact ⟨(Works.mem_unitClaims.mp hd).2, hdn⟩

/-- The list of one value leaves the claims that take another, or none. -/
theorem Works.changesTo_other (hw : (w.claims.map Claim.subject).Nodup) (hc : w.claims[k]? = some c)
    (h : c.unit = u → c.keyChange ≠ some ⟨c.subject, x⟩) : ∀ n ∈ w.changesTo u x, n.subject ≠ c.subject := by
  rintro ⟨s, y⟩ hn hs
  obtain ⟨hkey, hx⟩ := Works.mem_changesTo.mp hn
  obtain ⟨hu, hown⟩ := Works.keyChanges_own hw hc hkey hs
  dsimp only at hs hx
  exact h hu (by rw [hown, hs, hx])

theorem Works.judgeKeys_keeps (hw : (w.claims.map Claim.subject).Nodup) (hc : w.claims[k]? = some c)
    (images : Nat → Option (List Byte))
    (h : c.unit ≠ u ∨ c.value = .away ∨ c.keyView = .unknown ∨ (c.keyView = .panel ↔ c.value = .panel)) :
    (w.judgeKeys u images).claims[k]? = some c := by
  have hnone (x : ClaimValue) : c.unit = u → c.keyChange ≠ some ⟨c.subject, x⟩ := fun hu => by
    rw [Claim.keyChange_none (h.resolve_left (not_not_intro hu))]
    exact nofun
  rw [Works.judgeKeys_claims]
  exact Works.setClaims_other (Works.changesTo_other hw hc (hnone _))
    (Works.setClaims_other (Works.changesTo_other hw hc (hnone _)) hc)

theorem Works.keysSet_panel (hw : (w.claims.map Claim.subject).Nodup) (hc : w.claims[k]? = some c) (hu : c.unit = u)
    (hchange : c.keyChange = some ⟨c.subject, .panel⟩) : w.takesValue (w.keysSet u) k c .panel .keyPanel := by
  have hn : (⟨c.subject, .panel⟩ : NewClaim) ∈ w.changesTo u .panel := Works.mem_changesTo.mpr
    ⟨Works.keyChange_mem hc hu hchange, rfl⟩
  have htakes := Works.setClaims_takes (cause := .keyPanel) hw (Works.changesTo_nodup hw u .panel) hn rfl hc
  refine htakes.later ?_ (Works.setClaims_only ..) (by decide)
  rw [htakes.1]
  have hother := Works.changesTo_other (u := u) (x := .auto) hw hc fun _ => by simp [hchange]
  exact Works.setClaims_other (c := { c with value := .panel, slot := none, changed := w.now }) hother htakes.1

theorem Works.keysSet_normal (hw : (w.claims.map Claim.subject).Nodup) (hc : w.claims[k]? = some c) (hu : c.unit = u)
    (hchange : c.keyChange = some ⟨c.subject, .auto⟩) : w.takesValue (w.keysSet u) k c .auto .keyNormal := by
  have hn : (⟨c.subject, .auto⟩ : NewClaim) ∈ w.changesTo u .auto := Works.mem_changesTo.mpr
    ⟨Works.keyChange_mem hc hu hchange, rfl⟩
  have hpanel := w.setClaims_only .keyPanel (w.changesTo u .panel)
  have hkept : (w.setClaims .keyPanel (w.changesTo u .panel)).claims[k]? = some c :=
    Works.setClaims_other (Works.changesTo_other hw hc fun _ => by simp [hchange]) hc
  exact (Works.setClaims_takes (by rwa [Works.setClaims_subjects]) (Works.changesTo_nodup hw u .auto) hn rfl hkept).earlier
    hpanel.now_eq (hpanel.line_eq (by decide))

/-- A claim that its key changes takes its value with its record. -/
theorem Works.judgeKeys_takes (hc : w.claims[k]? = some c) (hu : c.unit = u) (hchange : c.keyChange = some n)
    (images : Nat → Option (List Byte)) (h : w.takesValue (w.keysSet u) k c x cause) :
    w.takesValue (w.judgeKeys u images) k c x cause := by
  have hn : n ∈ w.keyChanges u := Works.keyChange_mem hc hu hchange
  rw [Works.judgeKeys_eq, if_neg (by simpa using List.ne_nil_of_mem hn)]
  exact h.told _ _ _ _

/-! ## A forced reconciliation (R127) -/

/-- The values that the key views of a unit give. -/
def Works.joinedClaims (u : Nat) (w : Works) : List NewClaim := (w.unitClaims u).map Claim.joined

theorem Works.joinedClaims_nodup (hw : (w.claims.map Claim.subject).Nodup) (u : Nat) :
    ((w.joinedClaims u).map NewClaim.subject).Nodup := by
  rw [Works.joinedClaims, List.map_map]
  exact Works.unitClaims_nodup hw u

theorem Works.joinedClaims_own (hw : (w.claims.map Claim.subject).Nodup) (hc : w.claims[k]? = some c)
    (hn : n ∈ w.joinedClaims u) (hs : n.subject = c.subject) : c.unit = u ∧ n = c.joined := by
  obtain ⟨d, hd, rfl⟩ := List.mem_map.mp hn
  obtain rfl := Works.unitClaims_own hw (List.mem_of_getElem? hc) hd hs
  exact ⟨(Works.mem_unitClaims.mp hd).2, rfl⟩

/-- The claims of the unit as if it had been lost, and their owners told. -/
def Works.givenUpClaims (u : Nat) (w : Works) : Works :=
  each (w.joinedClaims u) (fun n w => w.handClaim (fun _ => none) [] false { n with value := .away })
    (w.updClaims (fun c => if c.unit = u then { c with value := .away, slot := none } else c))

theorem Works.forceReconcile_eq (u : Nat) (cause : ClaimCause) (images : Nat → Option (List Byte)) (w : Works) :
    w.forceReconcile u cause images = if (w.joinedClaims u).isEmpty then w
      else (each (w.joinedClaims u) (Works.forceClaim w.claims cause) (w.givenUpClaims u)).handClaims images
        (w.lampReports images) true (w.joinedClaims u) := rfl

theorem Works.givenUpClaims_leads (u : Nat) (w : Works) : Works.Leads Part.ofHanding
    (w.updClaims (fun c => if c.unit = u then { c with value := .away, slot := none } else c)) (w.givenUpClaims u) :=
  each_leads _ _ _ (fun _ _ h => Works.handClaim_leads _ _ _ _ _ (by decide) h) .refl

theorem Works.givenUpClaims_claim (hc : w.claims[k]? = some c) (u : Nat) :
    (w.givenUpClaims u).claims[k]? = some (if c.unit = u then { c with value := .away, slot := none } else c) := by
  rw [(w.givenUpClaims_leads u).claims_eq (by decide)]
  simp [Works.updClaims, hc]

theorem Works.givenUpClaims_now (u : Nat) (w : Works) : (w.givenUpClaims u).now = w.now := (w.givenUpClaims_leads u).now_eq

theorem Works.forceClaim_own {old : List Claim} (hold : (old.map Claim.subject).Nodup) (hc : old[k]? = some c)
    (hs : n.subject = c.subject) (w : Works) : w.forceClaim old cause n =
      ({ w with claims := updAt (fun d =>
        { d with value := n.value, slot := none, changed := if c.value = n.value then c.changed else w.now }) k w.claims } : Works).record
        .claim k (some c.value.code) (some n.value.code) [cause.code, absent16, c.unit, w.unitStateCode c.unit] false := by
  simp only [Works.forceClaim, hs, posOf_subject hold hc, hc]
  rfl

theorem Works.forceClaim_other {old : List Claim} (hc : old[k]? = some c) (hs : n.subject ≠ c.subject) (w : Works) :
    (w.forceClaim old cause n).claims[k]? = w.claims[k]? := by
  unfold Works.forceClaim
  split
  · rfl
  · next j hj =>
    obtain ⟨b, hb, hbs⟩ := getElem?_of_posOf hj
    have hkj : k ≠ j := by
      rintro rfl
      obtain rfl : c = b := by simpa [hc] using hb
      exact hs (of_decide_eq_true hbs).symm
    simp only [hb]
    exact getElem?_updAt_ne hkj

theorem Works.forceClaim_only (old : List Claim) (cause : ClaimCause) (n : NewClaim) (w : Works) :
    Works.Leads [.claims] w (w.forceClaim old cause n) :=
  Works.forceClaim_leads old cause n w (by decide) .refl

theorem Works.forceClaims_other {old : List Claim} (hc : old[k]? = some c) (hl : ∀ n ∈ l, n.subject ≠ c.subject) (w : Works) :
    (each l (Works.forceClaim old cause) w).claims[k]? = w.claims[k]? :=
  each_induction (P := fun v : Works => v.claims[k]? = w.claims[k]?) rfl
    fun n hn v h => (Works.forceClaim_other hc (hl n hn) v).trans h

theorem Works.forceReconcile_keeps (hw : (w.claims.map Claim.subject).Nodup) (hc : w.claims[k]? = some c) (hu : c.unit ≠ u)
    (cause : ClaimCause) (images : Nat → Option (List Byte)) : (w.forceReconcile u cause images).claims[k]? = some c := by
  rw [Works.forceReconcile_eq]
  split
  · exact hc
  · rw [Works.handClaims_claims, Works.forceClaims_other hc (fun n hn hs => hu (Works.joinedClaims_own hw hc hn hs).1),
      Works.givenUpClaims_claim hc, if_neg hu]

/-- Every claim of the unit takes what its key gives, with a record whether it changes or not. -/
theorem Works.forceReconcile_takes (hw : (w.claims.map Claim.subject).Nodup) (hc : w.claims[k]? = some c) (hu : c.unit = u)
    (cause : ClaimCause) (images : Nat → Option (List Byte)) :
    (w.forceReconcile u cause images).claims[k]? = some
      { c with value := c.joined.value, slot := none, changed := if c.value = c.joined.value then c.changed else w.now } ∧
    ∃ code, (w.forceReconcile u cause images).recorded .claim k (some c.value.code) (some c.joined.value.code)
      [cause.code, absent16, c.unit, code] false := by
  have hn : c.joined ∈ w.joinedClaims u :=
    List.mem_map_of_mem (Works.mem_unitClaims.mpr ⟨List.mem_of_getElem? hc, hu⟩)
  obtain ⟨l1, l2, heach, h1, h2⟩ := each_own_turn (Works.joinedClaims_nodup hw u).of_map hn
    (Works.forceClaim w.claims cause) (w.givenUpClaims u)
  have hother (m : NewClaim) (hm : m ∈ w.joinedClaims u ∧ m ≠ c.joined) : m.subject ≠ c.subject := fun hs =>
    hm.2 (Works.joinedClaims_own hw hc hm.1 hs).2
  have hleads (l : List NewClaim) (v : Works) : Works.Leads [.claims] v (each l (Works.forceClaim w.claims cause) v) :=
    each_leads _ _ _ (fun n v h => h.trans (v.forceClaim_only w.claims cause n)) .refl
  have hbefore := (Works.forceClaims_other (cause := cause) hc (fun m hm => hother m (h1 m hm)) (w.givenUpClaims u)).trans
    (Works.givenUpClaims_claim hc u)
  have hnow : (each l1 (Works.forceClaim w.claims cause) (w.givenUpClaims u)).now = w.now :=
    (hleads l1 _).now_eq.trans (w.givenUpClaims_now u)
  rw [if_pos hu] at hbefore
  rw [Works.forceReconcile_eq, if_neg (by simpa using List.ne_nil_of_mem hn), Works.handClaims_claims, heach,
    Works.forceClaims_other hc (fun m hm => hother m (h2 m hm)), Works.forceClaim_own hw hc rfl, hnow]
  exact ⟨(getElem?_updAt_self hbefore).trans rfl, _, (Works.handClaims_only ..).recorded (by decide)
    ((hleads l2 _).recorded (by decide) (Works.recorded_record ..))⟩

/-- A claim of a unit that joins takes what its key gives (R126, R127). -/
theorem unit_joins (hw : (w.claims.map Claim.subject).Nodup) (hc : w.claims[k]? = some c) (u : Nat) (cause : ClaimCause)
    (images : Nat → Option (List Byte)) :
    (c.unit ≠ u → (w.reconcile [u] cause images).claims[k]? = some c ∧
      (w.forceReconcile u cause images).claims[k]? = some c) ∧
    (c.unit = u → w.claimTurns (w.reconcile [u] cause images) k c (if c.keyView = .panel then .panel else .auto) cause ∧
      ∃ x code, x = (if c.keyView = .panel then ClaimValue.panel else .auto) ∧
        (w.forceReconcile u cause images).claims[k]? =
          some { c with value := x, slot := none, changed := if c.value = x then c.changed else w.now } ∧
        (w.forceReconcile u cause images).recorded .claim k (some c.value.code) (some x.code)
          [cause.code, absent16, c.unit, code] false) := by
  obtain ⟨hkeep, htake⟩ := Works.reconcile_claims hw hc [u] cause images
  refine ⟨fun hu => ⟨hkeep (by simpa using hu), Works.forceReconcile_keeps hw hc hu cause images⟩,
    fun hu => ⟨htake (by simpa using hu), ?_⟩⟩
  obtain ⟨hclaim, code, hrec⟩ := Works.forceReconcile_takes hw hc hu cause images
  exact ⟨c.joined.value, code, rfl, hclaim, hrec⟩

/-! ## A change handed to its owner (R124) -/

theorem handClaim_tells (w : Works) (images : Nat → Option (List Byte)) (reports : List (Option Nat)) (joined : Bool)
    (n : NewClaim) (c : Claim) (tell : Works → Works) (hc : w.claimEntry n.subject = some c)
    (ht : tell = Works.handClaim images reports joined n) :
    (∀ i, n.subject = .pump i →
      (n.value = .away → tell w = w.uncommandPump i .away) ∧
      (∀ b, images c.unit = some b →
        (n.value = .panel → tell w = (w.pumpViews i b).uncommandPump i .panel) ∧
        (n.value = .auto → tell w = (w.pumpViews i b).settlePump i)) ∧
      (images c.unit = none → (n.value = .panel → tell w = w.uncommandPump i .panel) ∧
        (n.value = .auto → tell w = w.settlePump i))) ∧
    (∀ p, n.subject = .portal p →
      ((n.value = .away ∨ n.value = .panel) → tell w = w.uncommandPortal p n.value) ∧
      (n.value = .auto → tell w = w.settlePortal p (images c.unit))) ∧
    ∀ z, n.subject = .zone z →
      ((n.value = .away ∨ n.value = .panel ∧ joined = false) → tell w = w.uncommandZone z n.value) ∧
      ((n.value = .auto ∨ n.value = .panel ∧ joined = true) → tell w = w.settleZone reports (images c.unit) z) := by
  subst ht
  refine ⟨fun i hs => ?_, fun p hs => ?_, fun z hs => ?_⟩ <;> rw [hs] at hc
  · refine ⟨fun hx => ?_, fun b hb => ⟨fun hx => ?_, fun hx => ?_⟩, fun hb => ⟨fun hx => ?_, fun hx => ?_⟩⟩
    · simp [Works.handClaim, hs, hc, hx]
    · simp [Works.handClaim, hs, hc, hx, hb]
    · simp [Works.handClaim, hs, hc, hx, hb]
    · simp [Works.handClaim, hs, hc, hx, hb]
    · simp [Works.handClaim, hs, hc, hx, hb]
  · refine ⟨fun hx => ?_, fun hx => ?_⟩
    · rcases hx with hx | hx <;> simp [Works.handClaim, hs, hc, hx]
    · simp [Works.handClaim, hs, hc, hx]
  · refine ⟨fun hx => ?_, fun hx => ?_⟩
    · rcases hx with hx | ⟨hx, hj⟩
      · simp [Works.handClaim, hs, hc, hx]
      · simp [Works.handClaim, hs, hc, hx, hj]
    · rcases hx with hx | ⟨hx, hj⟩
      · simp [Works.handClaim, hs, hc, hx]
      · simp [Works.handClaim, hs, hc, hx, hj]

end ClaimValues

end Sys2Proof.Machine

namespace Sys2Proof.Machine

open Sys2Proof

/-! # What an event's changes of claims leave of the other subjects (R124): lighting

Lighting reaches the pumps and the portals only by requests at the line queue, which set marks of refusal there. A relation that
requests keep, and that speaks of dewatering and the portals alone, holds across everything that lighting does. -/

/-- All records but those of dewatering and of the portals. -/
def Part.besidePlant : List Part := [.lights, .claims, .active, .reports, .water, .budget, .line]

section Beside

theorem Works.judgeRequest_only (c : Nat) (w : Works) : Works.Leads [.lights] w (w.judgeRequest c) := by
  unfold Works.judgeRequest
  split
  · exact .refl
  · split
    · exact .refl
    · exact ite_leads (Works.send_leads _ _ (Works.updCircuit_leads _ _ _ (by decide) .refl)) .refl

theorem Works.judgeWanted_only (c : Nat) (w : Works) : Works.Leads [.lights] w (w.judgeWanted c) := by
  unfold Works.judgeWanted
  split
  · exact .refl
  · split
    · exact .refl
    · exact ite_leads ((Works.updCircuit_leads _ _ _ (by decide) .refl).trans (Works.judgeRequest_only c _)) .refl

theorem Works.uncommandCircuit_lights (v : ClaimValue) (c : Nat) (w : Works) :
    Works.Leads [.lights, .line] w (w.uncommandCircuit v c) := by
  have hgive : Works.Leads [.lights, .line] w (w.giveUp (.lampSet c) .disregarded) := Works.giveUp_leads _ _ _ (by decide) .refl
  cases hx : w.lights.circuits[c]? with
  | none =>
    rw [Works.uncommandCircuit_of_none hx]
    exact .refl
  | some x =>
    cases hg : x.grant with
    | none =>
      rw [Works.uncommandCircuit_free hx hg]
      exact Works.updCircuit_leads _ _ _ (by decide) hgive
    | some g =>
      rw [Works.uncommandCircuit_told hx hg]
      exact Works.updCircuit_leads _ _ _ (by decide) (hgive.trans ((Works.tellLoss_only g _ _).mono (by decide)))

/-- A zone that loses its claim: its orders, its circuits and its line requests. -/
theorem Works.uncommandZone_lights (z : Nat) (v : ClaimValue) (w : Works) :
    Works.Leads [.lights, .active, .line] w (w.uncommandZone z v) := by
  rw [Works.uncommandZone_eq]
  have hcircuits (u : Works) : Works.Leads [.lights, .line] u (u.uncommandCircuits z v) :=
    each_leads _ _ _ (fun c t h => h.trans (t.uncommandCircuit_lights v c)) .refl
  exact ((w.endZoneSet_only z 9 v.code 0).mono (by decide)).trans (((hcircuits _).mono (by decide)).trans
    ((Works.dropOrdered_only z _).mono (by decide)))

theorem Works.dropLampGrant_only (c : Nat) (w : Works) : Works.Leads [.lights] w (w.dropLampGrant c) := by
  unfold Works.dropLampGrant
  split
  · exact .refl
  · next x _ =>
    split
    · exact .refl
    · next g _ =>
      have hwithdraw : Works.Leads [.lights] w (if x.request.isSome then w.send (.loadWithdrawal g) else w) :=
        ite_leads (Works.send_leads _ _ .refl) .refl
      exact Works.updCircuit_leads _ _ _ (by decide) (ite_leads (Works.send_leads _ _ hwithdraw) hwithdraw)

theorem Works.markFault_only (c : Nat) (f : LampFlag) (code : Nat) (w : Works) :
    Works.Leads [.lights] w (w.markFault c f code) := by
  unfold Works.markFault
  split
  · exact .refl
  · exact ite_leads .refl (Works.record_leads _ _ _ _ _ _ _ (Works.updZone_leads _ _ _ (by decide)
      (Works.updCircuit_leads _ _ _ (by decide) (w.dropLampGrant_only c))))

theorem Works.clearFault_only (c : Nat) (w : Works) : Works.Leads [.lights] w (w.clearFault c) :=
  Works.clearFault_leads c w (by decide) .refl

theorem Works.settleFault_lights (img : Option (List Byte)) (c : Nat) (w : Works) :
    Works.Leads [.lights] w (w.settleFault img c) := by
  unfold Works.settleFault
  split
  · exact .refl
  · next x _ =>
    have hclear : Works.Leads [.lights] w (if x.fault = .refused then w.clearFault c else w) :=
      ite_leads (w.clearFault_only c) .refl
    dsimp only
    split
    · exact ite_leads (hclear.trans (Works.markFault_only ..)) (ite_leads (hclear.trans (Works.clearFault_only ..)) hclear)
    · exact hclear

/-- The settlement of a zone sends no request at the line queue. -/
theorem Works.settleZone_lights (reports : List (Option Nat)) (img : Option (List Byte)) (z : Nat) (w : Works) :
    Works.Leads [.lights, .active] w (w.settleZone reports img z) := by
  refine Works.judgeCurrent_leads _ _ (by decide) ?_
  refine each_leads _ _ _ (fun c v h => h.trans ((v.settleFault_lights img c).mono (by decide))) ?_
  refine each_leads _ _ _ (fun c v h => Works.adoptCircuit_leads c v (by decide) h) ?_
  exact each_leads _ _ _ (fun c v h => Works.takeReport_leads reports c v (by decide) h) .refl

end Beside

/-! ## Relations that requests at the line queue keep -/

/-- `R` holds across requests at the line queue, and across what leaves dewatering and the portals. -/
structure Works.BearsRequests (R : Works → Works → Prop) : Prop where
  trans : ∀ {w v u}, R w v → R v u → R w u
  beside : ∀ {w v}, Works.Leads Part.besidePlant w v → R w v
  request : ∀ r n m who w, R w (Works.request r n m who w).2

section Requests

variable {R : Works → Works → Prop} (hR : Works.BearsRequests R)

include hR

theorem Works.BearsRequests.refl (w : Works) : R w w := hR.beside .refl

theorem Works.BearsRequests.each {α : Type} (l : List α) {f : α → Works → Works} (hf : ∀ a v, R v (f a v)) (w : Works) :
    R w (each l f w) :=
  each_induction (P := R w) (hR.refl w) fun a _ v hv => hR.trans hv (hf a v)

theorem Works.BearsRequests.queueSet (c step : Nat) (w : Works) : R w (w.queueSet c step) := by
  unfold Works.queueSet
  split
  · exact hR.refl w
  · next x _ =>
    split
    · exact hR.refl w
    · next z _ =>
      have hrequest := hR.request (.set step) z.unit x.output (.lampSet c) w
      exact iteInduction (motive := R w) (fun _ => hR.trans hrequest (hR.beside (Works.updCircuit_leads _ _ _ (by decide) .refl)))
        fun _ => hrequest

theorem Works.BearsRequests.judgeSet (c : Nat) (w : Works) : R w (w.judgeSet c) := by
  unfold Works.judgeSet
  split
  · exact hR.refl w
  · exact iteInduction (motive := R w) (fun _ => hR.queueSet c _ w) fun _ => hR.refl w

theorem Works.BearsRequests.judgeWanted (c : Nat) (w : Works) : R w (w.judgeWanted c) :=
  hR.beside ((w.judgeWanted_only c).mono (by decide))

theorem Works.BearsRequests.endHold (c : Nat) (w : Works) : R w (w.endHold c) := by
  unfold Works.endHold
  split
  · exact hR.refl w
  · split
    · exact hR.refl w
    · refine iteInduction (motive := R w) (fun _ => ?_) fun _ => hR.refl w
      exact hR.trans (hR.beside (Works.updCircuit_leads _ _ _ (by decide) .refl))
        (hR.trans (hR.judgeWanted c _) (hR.judgeSet c _))

theorem Works.BearsRequests.judgeShrink (c : Nat) (w : Works) : R w (w.judgeShrink c) := by
  unfold Works.judgeShrink
  split
  · exact hR.refl w
  · split
    · exact hR.refl w
    · refine iteInduction (motive := R w) (fun _ => ?_) fun _ => hR.refl w
      exact hR.trans (hR.beside (Works.send_leads _ _ (Works.updCircuit_leads _ _ _ (by decide) .refl))) (hR.endHold c _)

theorem Works.BearsRequests.settleCircuit (c : Nat) (w : Works) : R w (w.settleCircuit c) :=
  hR.trans (hR.judgeWanted c w) (hR.trans (hR.beside ((Works.judgeRequest_only c _).mono (by decide)))
    (hR.trans (hR.judgeSet c _) (hR.judgeShrink c _)))

theorem Works.BearsRequests.followTarget (c : Nat) (w : Works) : R w (w.followTarget c) :=
  iteInduction (motive := R w)
    (fun _ => hR.trans (hR.judgeWanted c w) (hR.trans (hR.judgeSet c _) (hR.judgeShrink c _))) fun _ => hR.refl w

/-- The circuits follow in one pass (R107, R113). -/
theorem Works.BearsRequests.followCircuits (settled : List Nat) (w : Works) : R w (w.followCircuits settled) := by
  refine hR.each _ (fun c v => ?_) w
  split
  · exact iteInduction (motive := R v) (fun _ => hR.settleCircuit c v) fun _ => hR.followTarget c v
  · exact hR.refl v

end Requests

end Sys2Proof.Machine

namespace Sys2Proof.Machine

open Sys2Proof

/-! # What an event's changes of claims leave of the other subjects (R124) -/

/-- What the steps of an event that hands changes of claims, the changes of claims themselves aside, keep. -/
structure Works.BearsHanding (R : Works → Works → Prop) : Prop where
  trans : ∀ {w v u}, R w v → R v u → R w u
  beside : ∀ {w v}, Works.Leads [.claims, .active, .budget] w v → R w v
  panelReports : ∀ reports w, R w (Works.panelReports reports w)
  setTargets : ∀ w, R w (Works.setTargets w)
  takeFloats : ∀ images w, R w (Works.takeFloats images w)
  followCircuits : ∀ l w, R w (Works.followCircuits l w)
  serve : ∀ si w, R w (Works.serve si w)

section Handing

variable {R : Works → Works → Prop} {w : Works} {l : List NewClaim} {n : NewClaim}

theorem Works.BearsHanding.refl (hR : Works.BearsHanding R) (w : Works) : R w w := hR.beside .refl

theorem Works.BearsHanding.each (hR : Works.BearsHanding R) {α : Type} {l : List α} {f : α → Works → Works}
    (hf : ∀ a ∈ l, ∀ v, R v (f a v)) (w : Works) : R w (each l f w) :=
  each_induction (P := R w) (hR.refl w) fun a ha v hv => hR.trans hv (hf a ha v)

theorem Works.handClaim_only (images : Nat → Option (List Byte)) (reports : List (Option Nat)) (joined : Bool) (n : NewClaim)
    (w : Works) : Works.Leads Part.ofHanding w (w.handClaim images reports joined n) :=
  Works.handClaim_leads _ _ _ _ _ (by decide) .refl

/-- The changes of an event to PANEL and LOCAL, and those to AUTO. -/
def goneOf (l : List NewClaim) : List NewClaim := l.filter (fun n => !decide (n.value = .auto))

def backOf (l : List NewClaim) : List NewClaim := l.filter (fun n => decide (n.value = .auto))

theorem mem_goneOf : n ∈ goneOf l ↔ n ∈ l ∧ n.value ≠ .auto := by simp [goneOf]

theorem mem_backOf : n ∈ backOf l ↔ n ∈ l ∧ n.value = .auto := by simp [backOf]

/-- What follows once the subjects that become PANEL and LOCAL have been told. -/
theorem Works.BearsHanding.settlements (hR : Works.BearsHanding R) (images : Nat → Option (List Byte))
    (reports : List (Option Nat)) {back : List NewClaim} (gone : List NewClaim)
    (hback : ∀ m ∈ back, ∀ v, R v (v.handClaim images reports false m)) (w : Works) :
    R w (w.tellSettlements images reports false gone back) :=
  hR.trans (hR.takeFloats images w) (hR.each hback _)

theorem Works.BearsHanding.finish (hR : Works.BearsHanding R) (w : Works) : R w w.serveAll.judgeBudget :=
  hR.trans (hR.each (fun si _ v => hR.serve si v) w) (hR.beside (Works.judgeBudget_leads _ (by decide) .refl))

/-- The event after the losses have been told. -/
def Works.afterLosses (images : Nat → Option (List Byte)) (reports : List (Option Nat)) (l : List NewClaim) (told : Works) : Works :=
  (if (zonesOf l).isEmpty then told.tellSettlements images reports false (goneOf l) (backOf l)
    else each told.movedTargets Works.judgeZoneSet
      ((told.setTargets.tellSettlements images reports false (goneOf l) (backOf l)).followCircuits
        (zonesOf (backOf l)))).serveAll.judgeBudget

theorem Works.handClaims_eq (images : Nat → Option (List Byte)) (reports : List (Option Nat)) (l : List NewClaim) (w : Works) :
    w.handClaims images reports false l =
      (each (goneOf l) (Works.handClaim images reports false) (w.panelReports reports)).afterLosses images reports l := rfl

theorem Works.BearsHanding.afterLosses (hR : Works.BearsHanding R) (images : Nat → Option (List Byte))
    (reports : List (Option Nat)) (hback : ∀ m ∈ backOf l, ∀ v, R v (v.handClaim images reports false m)) (w : Works) :
    R w (w.afterLosses images reports l) := by
  refine hR.trans (iteInduction (motive := R w) (fun _ => hR.settlements images reports _ hback w) fun _ => ?_) (hR.finish _)
  refine hR.trans (hR.setTargets w) (hR.trans (hR.settlements images reports _ hback _)
    (hR.trans (hR.followCircuits _ _) (hR.each (fun z _ v => ?_) _)))
  exact hR.beside (Works.judgeZoneSet_leads z v (by decide) .refl)

/-- The turn of one subject that becomes PANEL or LOCAL: all else that the event does leaves what `R` speaks of. -/
theorem Works.BearsHanding.turn (hR : Works.BearsHanding R) {images : Nat → Option (List Byte)} {reports : List (Option Nat)}
    (hl : l.Nodup) (hn : n ∈ l) (hv : n.value ≠ .auto)
    (hother : ∀ m ∈ l, m ≠ n → ∀ v, R v (v.handClaim images reports false m)) (w : Works) :
    ∃ v, v.claims = w.claims ∧ R w v ∧ R (v.handClaim images reports false n) (w.handClaims images reports false l) := by
  obtain ⟨l1, l2, heach, h1, h2⟩ := each_own_turn (hl.filter _) (mem_goneOf.mpr ⟨hn, hv⟩)
    (Works.handClaim images reports false) (w.panelReports reports)
  have hturns {m : List NewClaim} (hm : ∀ b ∈ m, b ∈ goneOf l ∧ b ≠ n) (v : Works) :
      R v (Machine.each m (Works.handClaim images reports false) v) :=
    hR.each (fun b hb u => hother b (mem_goneOf.mp (hm b hb).1).1 (hm b hb).2 u) v
  have hleads : Works.Leads Part.ofHanding w (Machine.each l1 (Works.handClaim images reports false) (w.panelReports reports)) :=
    each_leads _ _ _ (fun m v h => h.trans (v.handClaim_only images reports false m))
      (Works.panelReports_leads _ _ (by decide) .refl)
  refine ⟨_, hleads.claims_eq (by decide), hR.trans (hR.panelReports reports w) (hturns h1 _), ?_⟩
  rw [Works.handClaims_eq, goneOf, heach]
  refine hR.trans (hturns h2 _) (hR.afterLosses images reports (fun m hm => hother m (mem_backOf.mp hm).1 ?_) _)
  rintro rfl
  exact hv (mem_backOf.mp hm).2

/-- What can be done to the subject of a change (R124). -/
theorem Works.handClaim_cases {P : Works → Prop} (images : Nat → Option (List Byte)) (reports : List (Option Nat))
    (joined : Bool) (n : NewClaim) (w : Works) (hnone : P w)
    (hpump : ∀ i, n.subject = .pump i → (∀ x, P (w.uncommandPump i x)) ∧ P (w.settlePump i) ∧
      ∀ b, (∀ x, P ((w.pumpViews i b).uncommandPump i x)) ∧ P ((w.pumpViews i b).settlePump i))
    (hportal : ∀ p, n.subject = .portal p → (∀ x, P (w.uncommandPortal p x)) ∧ ∀ img, P (w.settlePortal p img))
    (hzone : ∀ z, n.subject = .zone z → (∀ x, P (w.uncommandZone z x)) ∧ ∀ img, P (w.settleZone reports img z)) :
    P (w.handClaim images reports joined n) := by
  unfold Works.handClaim
  split
  · exact hnone
  · next c _ =>
    dsimp only
    split
    · next i hs _ =>
      obtain ⟨-, hsettle, hviews⟩ := hpump i hs
      split
      · exact (hviews _).2
      · exact hsettle
    · next i hs _ =>
      obtain ⟨huncommand, -, hviews⟩ := hpump i hs
      split
      · exact (hviews _).1 _
      · exact huncommand _
    · next hs _ _ => exact (hpump _ hs).1 _
    · next hs _ => exact (hportal _ hs).2 _
    · next hs _ => exact (hportal _ hs).1 _
    · next z hs _ => exact (hzone z hs).2 _
    · next z hs _ => exact iteInduction (motive := P) (fun _ => (hzone z hs).2 _) fun _ => (hzone z hs).1 _
    · next hs _ _ => exact (hzone _ hs).1 _

end Handing

end Sys2Proof.Machine

namespace Sys2Proof.Machine

open Sys2Proof

/-! ## The floats of a response (R49): dismissals, and figures of the sumps -/

/-- `R` holds across dismissals of pumps, and across what changes sump records alone. -/
structure Works.BearsDismissal (R : Works → Works → Prop) : Prop where
  trans : ∀ {w v u}, R w v → R v u → R w u
  sumps : ∀ {w v}, Works.Leads [.dewater] w v → v.dewater.pumps = w.dewater.pumps → R w v
  dismiss : ∀ i w, R w (Works.dismiss i w)

section Floats

variable {R : Works → Works → Prop} (hR : Works.BearsDismissal R)

include hR

theorem Works.BearsDismissal.refl (w : Works) : R w w := hR.sumps .refl rfl

theorem Works.BearsDismissal.each {α : Type} (l : List α) {f : α → Works → Works} (hf : ∀ a v, R v (f a v)) (w : Works) :
    R w (each l f w) :=
  each_induction (P := R w) (hR.refl w) fun a _ v hv => hR.trans hv (hf a v)

theorem Works.BearsDismissal.setFigures (si d : Nat) (w : Works) : R w (w.setFigures si d) :=
  hR.sumps (Works.setFigures_leads si d w (by decide) .refl) (by rw [Works.setFigures_dewater])

theorem Works.BearsDismissal.refigure (si : Nat) (w : Works) : R w (w.refigure si) := by
  unfold Works.refigure
  split
  · exact hR.refl w
  · exact hR.setFigures _ _ w

theorem Works.BearsDismissal.cutoutActive (si : Nat) (w : Works) : R w (w.cutoutActive si) := by
  unfold Works.cutoutActive
  split
  · exact hR.refl w
  · exact hR.trans (hR.setFigures _ _ w) (hR.each _ hR.dismiss _)

theorem Works.BearsDismissal.takeFloat (si : Nat) (high : Bool) (x : FloatState) (w : Works) : R w (w.takeFloat si high x) := by
  unfold Works.takeFloat
  split
  · exact hR.refl w
  · refine iteInduction (motive := R w) (fun _ => hR.refl w) fun _ => ?_
    refine iteInduction (motive := R w) (fun _ => hR.trans ?_ (hR.cutoutActive _ _)) fun _ => hR.trans ?_ (hR.refigure _ _)
    all_goals exact hR.sumps (Works.record_leads _ _ _ _ _ _ _ (Works.updSump_leads _ _ _ (by decide) .refl)) rfl

theorem Works.BearsDismissal.floatsAhead (u : Nat) (t : UnitType) (img : List Byte) (w : Works) : R w (w.floatsAhead u t img) := by
  refine hR.each _ (fun is v => ?_) w
  have hcutout : R v (if is.2.cutout.unit = u then v.takeFloat is.1 false (floatOf (t.digital img is.2.cutout.input)) else v) :=
    iteInduction (motive := R v) (fun _ => hR.takeFloat _ _ _ v) fun _ => hR.refl v
  exact iteInduction (motive := R v) (fun _ => hR.trans hcutout (hR.takeFloat _ _ _ _)) fun _ => hcutout

theorem Works.BearsDismissal.takeFloats (images : Nat → Option (List Byte)) (w : Works) : R w (w.takeFloats images) := by
  refine hR.each _ (fun r v => ?_) w
  split
  · exact hR.floatsAhead _ _ _ v
  · exact hR.refl v

end Floats

/-! ## A pump that is UNCOMMANDED without an intent -/

/-- A pump as the loss of its claim leaves it. -/
def Pump.surrendered (x : Pump) : Prop := x.state = .uncommanded ∧ x.intent = none

/-- Pump `i` is there still, and no event at another subject takes it from UNCOMMANDED. -/
def Works.sparesPump (i : Nat) (w v : Works) : Prop :=
  ∀ x, w.dewater.pumps[i]? = some x → ∃ y, v.dewater.pumps[i]? = some y ∧ (x.surrendered → y.surrendered)

section SparesPump

variable {w v u : Works} {i j : Nat} {x : Pump}

theorem Works.sparesPump.trans (h1 : w.sparesPump i v) (h2 : v.sparesPump i u) : w.sparesPump i u := fun x hx => by
  obtain ⟨y, hy, hxy⟩ := h1 x hx
  obtain ⟨z, hz, hyz⟩ := h2 y hy
  exact ⟨z, hz, fun h => hyz (hxy h)⟩

theorem Works.sparesPump.of_eq (h : v.dewater.pumps = w.dewater.pumps) : w.sparesPump i v :=
  fun x hx => ⟨x, by rw [h]; exact hx, id⟩

theorem Works.sparesPump.of_alike (h : w.pumpsAlike v) : w.sparesPump i v := fun x hx => by
  obtain ⟨a, b, hy⟩ := h i x hx
  exact ⟨_, hy, id⟩

/-- Another pump changes, or this one keeps its state and its intent. -/
theorem Works.sparesPump.of_updAt {f : Pump → Pump} (hv : v.dewater.pumps = updAt f j w.dewater.pumps)
    (h : j = i → ∀ x : Pump, x.surrendered → (f x).surrendered) : w.sparesPump i v := fun x hx => by
  rw [hv]
  by_cases hj : i = j
  · subst hj
    exact ⟨f x, getElem?_updAt_self hx, h rfl x⟩
  · exact ⟨x, by rw [getElem?_updAt_ne hj, hx], id⟩

theorem Works.sparesPump_bearsRequests (i : Nat) : Works.BearsRequests (Works.sparesPump i) where
  trans := .trans
  beside h := .of_eq (by rw [h.dewater_eq (by decide)])
  request r n m who w := .of_alike (Works.request_asks r n m who w).alike

theorem Pump.dismissed_of_surrendered (h : x.surrendered) (now : Nat) : x.dismissed now = x := by
  simp only [Pump.dismissed, h.1]

theorem Works.dismiss_sparesPump (i j : Nat) (w : Works) : w.sparesPump i (w.dismiss j) := fun x hx => by
  obtain ⟨a, b, hy⟩ := Works.dismiss_pump (i := j) hx
  refine ⟨_, hy, fun hs => ?_⟩
  split
  · rw [Pump.dismissed_of_surrendered hs]
    exact hs
  · exact hs

theorem Works.sparesPump_bearsDismissal (i : Nat) : Works.BearsDismissal (Works.sparesPump i) where
  trans := .trans
  sumps _ h := .of_eq h
  dismiss j w := w.dismiss_sparesPump i j

/-- Serving neither calls nor dismisses it (R52). -/
theorem Works.serve_sparesPump (i si : Nat) (w : Works) : w.sparesPump i (w.serve si) := fun x hx =>
  (w.serve_serves si).pump (Q := fun y => x.surrendered → y.surrendered) hx id (fun _ _ _ h hs => h hs)
    (fun _ y h hs => by rw [Pump.dismissed_of_surrendered (h hs)]; exact h hs)
    (fun y h hidle hs => absurd ((h hs).1.symm.trans hidle) (by decide))

theorem Works.sparesPump_bearsHanding (i : Nat) : Works.BearsHanding (Works.sparesPump i) where
  trans := .trans
  beside h := .of_eq (by rw [h.dewater_eq (by decide)])
  panelReports reports w := .of_eq (by
    rw [(Works.panelReports_leads (ps := [.lights]) reports w (by decide) .refl).dewater_eq (by decide)])
  setTargets _ := .of_eq rfl
  takeFloats := (Works.sparesPump_bearsDismissal i).takeFloats
  followCircuits := (Works.sparesPump_bearsRequests i).followCircuits
  serve si w := w.serve_sparesPump i si

/-! ### Changes of claims at the other subjects -/

theorem Works.addRun_sparesPump (i j : Nat) (w : Works) : w.sparesPump i (w.addRun j) := by
  unfold Works.addRun
  split
  · exact .of_eq rfl
  · split
    · exact .of_eq rfl
    · exact iteInduction (motive := w.sparesPump i) (fun _ => .of_updAt rfl fun _ _ h => h) fun _ => .of_updAt rfl fun _ _ h => h

theorem Works.setRunning_sparesPump (i j : Nat) (r : RunView) (w : Works) : w.sparesPump i (w.setRunning j r) := by
  unfold Works.setRunning
  split
  · exact .of_eq rfl
  · refine iteInduction (motive := w.sparesPump i) (fun _ => .of_eq rfl) fun _ => ?_
    refine iteInduction (motive := w.sparesPump i) (fun _ => ?_) fun _ => ?_
    · exact (w.addRun_sparesPump i j).trans (.of_updAt rfl fun _ _ h => h)
    · exact .of_updAt rfl fun _ _ h => h

theorem Works.pumpViews_sparesPump (i j : Nat) (img : List Byte) (w : Works) : w.sparesPump i (w.pumpViews j img) := by
  unfold Works.pumpViews
  split
  · exact .of_eq rfl
  · exact (w.setRunning_sparesPump i j _).trans (.of_updAt rfl fun _ _ h => h)

theorem Works.keepOrAdoptPump_sparesPump (i j : Nat) (w : Works) : w.sparesPump i (w.keepOrAdoptPump j) :=
  .of_updAt (w.keepOrAdoptPump_pumps j) fun _ _ h => h

theorem Works.dropPumpGrant_sparesPump (i j : Nat) (w : Works) : w.sparesPump i (w.dropPumpGrant j) :=
  .of_updAt (w.dropPumpGrant_pumps j) fun _ _ h => h

theorem Works.settleLost_sparesPump (i j : Nat) (c : ClaimValue) (x : Pump) (w : Works) : w.sparesPump i (w.settleLost j c x) :=
  iteInduction (motive := w.sparesPump i) (fun _ => w.keepOrAdoptPump_sparesPump i j) fun _ =>
    iteInduction (motive := w.sparesPump i) (fun _ => w.dropPumpGrant_sparesPump i j) fun _ =>
      iteInduction (motive := w.sparesPump i) (fun _ => w.dropPumpGrant_sparesPump i j) fun _ => .of_eq rfl

theorem Works.uncommandPump_sparesPump (i j : Nat) (c : ClaimValue) (w : Works) : w.sparesPump i (w.uncommandPump j c) := by
  cases hx : w.dewater.pumps[j]? with
  | none =>
    rw [Works.uncommandPump, hx]
    exact .of_eq rfl
  | some x =>
    rw [Works.uncommandPump_eq hx]
    refine .trans (.of_eq (Works.unlisted_pumps j c w)) (.trans (Works.settleLost_sparesPump i j c x _) (.trans (.of_eq ?_)
      (.of_updAt (Works.movePump_pumps ..) fun _ _ _ => ⟨rfl, rfl⟩)))
    rw [(Works.tellKept_only j c x _).dewater_eq (by decide)]

theorem Works.settleGrant_sparesPump (i j : Nat) (x : Pump) (w : Works) : w.sparesPump i (w.settleGrant j x) :=
  iteInduction (motive := w.sparesPump i) (fun _ => w.keepOrAdoptPump_sparesPump i j) fun _ =>
    (w.dropPumpGrant_sparesPump i j).trans (.of_updAt rfl fun _ _ h => h)

theorem Works.settling_sparesPump (i j : Nat) (x : Pump) (s : Sump) (w : Works) : w.sparesPump i (w.settling j x s) :=
  .trans (iteInduction (motive := w.sparesPump i) (fun _ => .of_eq (w.joinTold_pumps j)) fun _ => .of_eq rfl)
    (Works.settleGrant_sparesPump i j x _)

/-- The settlement of a pump (R65) ends in a change of its state, or in a HALT after one. -/
theorem Works.settlePump_cases {P : Works → Prop} (i : Nat) (w : Works) (hnone : P w)
    (hmove : ∀ x s f, P ((w.settling i x s).movePump i f))
    (hstop : ∀ x s f, P (((w.settling i x s).movePump i f).haltPump i)) : P (w.settlePump i) := by
  cases hx : w.dewater.pumps[i]? with
  | none =>
    rw [Works.settlePump, hx]
    exact hnone
  | some x =>
    cases hs : w.dewater.sumps[x.sump]? with
    | none =>
      simp only [Works.settlePump, hx, hs]
      exact hnone
    | some s =>
      rw [Works.settlePump_eq hx hs]
      refine iteInduction (motive := P) (fun _ => hmove x s _) fun _ => iteInduction (motive := P) (fun _ => ?_) fun _ => ?_
      · exact iteInduction (motive := P) (fun _ => hstop x s _) fun _ => hmove x s _
      · refine iteInduction (motive := P) (fun _ => hmove x s _) fun _ => ?_
        exact iteInduction (motive := P) (fun _ => hmove x s _) fun _ => hstop x s _

/-- The settlement of another pump. -/
theorem Works.settlePump_sparesPump (h : j ≠ i) (w : Works) : w.sparesPump i (w.settlePump j) := by
  have hmove (x : Pump) (s : Sump) (f : Pump → Pump) : w.sparesPump i ((w.settling j x s).movePump j f) :=
    (w.settling_sparesPump i j x s).trans (.of_updAt (Works.movePump_pumps ..) fun hj => absurd hj h)
  exact Works.settlePump_cases j w (.of_eq rfl) hmove fun x s f => (hmove x s f).trans (.of_alike (Works.haltPump_asks ..).alike)

end SparesPump

end Sys2Proof.Machine

namespace Sys2Proof.Machine

open Sys2Proof

/-! ## The closure state of a portal -/

/-- The closure state of portal `n` stands. -/
def Works.sparesPortal (n : Nat) (w v : Works) : Prop := (v.portal n).closure = (w.portal n).closure

section SparesPortal

variable {w v u : Works} {n m i : Nat}

theorem Works.sparesPortal.trans (h1 : w.sparesPortal n v) (h2 : v.sparesPortal n u) : w.sparesPortal n u := Eq.trans h2 h1

theorem Works.sparesPortal.of_eq (h : v.portals = w.portals) : w.sparesPortal n v := by
  rw [Works.sparesPortal, Works.portal_congr h]

theorem Works.sparesPortal.of_core (h : (v.portal n).core = (w.portal n).core) : w.sparesPortal n v :=
  (Portal.Alike.of_observed (Portal.observed_of_core h)).closure

theorem Works.sparesPortal_bearsRequests (n : Nat) : Works.BearsRequests (Works.sparesPortal n) where
  trans := .trans
  beside h := .of_eq (h.portals_eq (by decide))
  request r x out who w := .of_core ((Works.request_marks r x out who w).portal n)

theorem Works.haltPump_sparesPortal (n i : Nat) (w : Works) : w.sparesPortal n (w.haltPump i) := by
  cases hx : w.dewater.pumps[i]? with
  | none =>
    rw [Works.haltPump, hx]
    exact .of_eq rfl
  | some x =>
    rw [Works.haltPump_eq hx]
    exact .trans (.of_eq rfl) ((Works.sparesPortal_bearsRequests n).request ..)

theorem Works.Leads.sparesPortal {ps : List Part} (h : Works.Leads ps w v) (hp : Part.portals ∉ ps) : w.sparesPortal n v :=
  .of_eq (h.portals_eq hp)

theorem Works.dismiss_sparesPortal (n i : Nat) (w : Works) : w.sparesPortal n (w.dismiss i) := by
  have hlist : Works.Leads [.dewater, .active, .line] w (w.leaveList i) := Works.leaveList_leads i w (by decide) .refl
  have hmove (f : Pump → Pump) : Works.Leads [.dewater, .active, .line] w ((w.leaveList i).movePump i f) :=
    Works.movePump_leads i f _ (by decide) hlist
  have hstop (f : Pump → Pump) : w.sparesPortal n (((w.leaveList i).movePump i f).haltPump i) :=
    ((hmove f).sparesPortal (by decide)).trans (Works.haltPump_sparesPortal n i _)
  unfold Works.dismiss
  split
  · exact .of_eq rfl
  · dsimp only
    split
    · refine iteInduction (motive := w.sparesPortal n) (fun _ => ?_) fun _ => ?_
      · exact (Works.abandonStart_leads i _ (by decide) (hmove _)).sparesPortal (by decide)
      · refine iteInduction (motive := w.sparesPortal n) (fun _ => (hmove _).sparesPortal (by decide)) fun _ => ?_
        exact (Works.movePump_leads i _ _ (by decide) (Works.dropPumpGrant_leads i _ (by decide) hlist)).sparesPortal (by decide)
    · exact hstop _
    · exact hstop _
    · exact (Works.updPump_leads _ _ _ (by decide) hlist).sparesPortal (by decide)
    · exact hlist.sparesPortal (by decide)

theorem Works.sparesPortal_bearsDismissal (n : Nat) : Works.BearsDismissal (Works.sparesPortal n) where
  trans := .trans
  sumps h _ := h.sparesPortal (by decide)
  dismiss i w := w.dismiss_sparesPortal n i

theorem Works.Serves.sparesPortal (h : w.Serves v) : w.sparesPortal n v := by
  induction h with
  | refl => exact .of_eq rfl
  | dismiss j v _ _ ih => exact ih.trans (v.dismiss_sparesPortal n j)
  | call j v q _ _ _ ih => exact ih.trans ((v.callPump_only j).sparesPortal (by decide))

theorem Works.sparesPortal_bearsHanding (n : Nat) : Works.BearsHanding (Works.sparesPortal n) where
  trans := .trans
  beside h := h.sparesPortal (by decide)
  panelReports reports w := (Works.panelReports_leads (ps := [.lights]) reports w (by decide) .refl).sparesPortal (by decide)
  setTargets _ := .of_eq rfl
  takeFloats := (Works.sparesPortal_bearsDismissal n).takeFloats
  followCircuits := (Works.sparesPortal_bearsRequests n).followCircuits
  serve si w := (w.serve_serves si).sparesPortal

/-! ### Changes of claims at the other subjects -/

theorem Works.uncommandPump_sparesPortal (n i : Nat) (c : ClaimValue) (w : Works) : w.sparesPortal n (w.uncommandPump i c) :=
  (Works.uncommandPump_leads (ps := [.dewater, .active, .line]) i c w (by decide) .refl).sparesPortal (by decide)

theorem Works.pumpViews_sparesPortal (n i : Nat) (img : List Byte) (w : Works) : w.sparesPortal n (w.pumpViews i img) :=
  (Works.pumpViews_leads (ps := [.dewater]) i img w (by decide) .refl).sparesPortal (by decide)

theorem Works.settlePump_sparesPortal (n i : Nat) (w : Works) : w.sparesPortal n (w.settlePump i) := by
  have hmove (x : Pump) (s : Sump) (f : Pump → Pump) : w.sparesPortal n ((w.settling i x s).movePump i f) :=
    (Works.movePump_leads (ps := [.dewater, .active]) i f _ (by decide)
      ((w.settling_only i x s).mono (by decide))).sparesPortal (by decide)
  exact Works.settlePump_cases i w (.of_eq rfl) hmove fun x s f => (hmove x s f).trans (Works.haltPump_sparesPortal n i _)

theorem Works.uncommandPortal_sparesPortal (hn : n < 2) (hm : m < 2) (h : m ≠ n) (c : ClaimValue) (w : Works) :
    w.sparesPortal n (w.uncommandPortal m c) := by
  have hpre : w.sparesPortal n ((w.portalPreempted m c).dropGateGrant m) :=
    ((Works.portalPreempted_only m c w).sparesPortal (by decide)).trans
      (.of_core ((Works.dropGateGrant_commands m _).other n hm hn h.symm))
  refine hpre.trans (.of_core ?_)
  have hother {f : Portal → Portal} (t : Works) : (t.updPortal m f).portal n = t.portal n :=
    Works.updPortal_other f t hm hn h.symm
  change (Portal.core (Works.portal (Works.uncommandPortal m c w) n)) = _
  rw [Works.uncommandPortal, hother, Works.updSignals, hother, Works.updBarrier, hother, Works.updGate, hother]
  rfl

theorem Works.uncommandPortal_keeps (n : Nat) (c : ClaimValue) (w : Works) : w.sparesPortal n (w.uncommandPortal n c) := by
  rw [Works.sparesPortal, Works.uncommandPortal_portal]
  rfl

/-! ### The settlement of a portal (R94) -/

/-- A change of one portal record alone, with records of it. -/
theorem Works.Moves.of_portals (h : Works.Leads [.portals] w v)
    (ho : ∀ m, n < 2 → m < 2 → m ≠ n → (v.portal m) = (w.portal m)) : w.Moves n v :=
  ⟨h.mono (by decide), .of_subset (h.dewater_eq (by decide)) fun e he _ => by rwa [h.line_eq (by decide)],
    by rw [h.dewater_eq (by decide)], fun m hn hm hne => by rw [ho m hn hm hne],
    by rw [h.reports_eq (by decide)]; exact List.Subset.refl _⟩

theorem Works.conflictFault_moves (n : Nat) (a b : Bool) (w : Works) : w.Moves n (w.conflictFault n a b) :=
  .of_portals (ite_leads (Works.portalFault_leads _ _ _ _ .refl) .refl) fun m _ _ _ => Works.conflictFault_portal n a b w m

theorem Works.setBarrier_moves (n : Nat) (s : BarrierState) (w : Works) : w.Moves n (w.setBarrier n s) := by
  refine .of_portals (Works.setBarrier_leads n s w (by decide) .refl) fun m hn hm hne => ?_
  exact iteInduction (motive := fun v : Works => v.portal m = w.portal m) (fun _ => rfl)
    fun _ => Works.updPortal_other _ w hn hm hne

theorem Works.setGate_moves (n : Nat) (s : GateState) (w : Works) : w.Moves n (w.setGate n s) := by
  refine .of_portals (Works.setGate_leads n s w (by decide) .refl) fun m hn hm hne => ?_
  exact iteInduction (motive := fun v : Works => v.portal m = w.portal m) (fun _ => rfl)
    fun _ => Works.updPortal_other _ w hn hm hne

theorem Works.takeBarrier_moves (n : Nat) (img : List Byte) (w : Works) : w.Moves n (w.takeBarrier n img) := by
  rw [Works.takeBarrier_eq]
  exact (Works.conflictFault_moves n _ _ w).trans ((Works.updPortal_moves n _ _).trans (Works.setBarrier_moves n _ _))

theorem Works.takeGate_moves (n : Nat) (img : List Byte) (w : Works) : w.Moves n (w.takeGate n img) := by
  rw [Works.takeGate_eq]
  exact (Works.conflictFault_moves n _ _ w).trans ((Works.updPortal_moves n _ _).trans (Works.setGate_moves n _ _))

theorem Works.settleFound_moves (n : Nat) (w : Works) : w.Moves n (w.settlePortal n none) :=
  iteInduction (motive := w.Moves n)
    (fun _ => (Works.haltFound_commands n w).moves.trans ((Works.enter_moves n _ _).trans (Works.beginSequence_moves n _)))
    fun _ => (Works.haltFound_commands n w).moves.trans (Works.work_moves n _)

theorem Works.settlePortal_moves (n : Nat) (img : Option (List Byte)) (w : Works) : w.Moves n (w.settlePortal n img) := by
  cases img with
  | none => exact w.settleFound_moves n
  | some img =>
    rw [Works.settlePortal_taken]
    exact (Works.takeBarrier_moves n img w).trans ((Works.takeGate_moves n img _).trans (Works.settleFound_moves n _))

theorem Works.settlePortal_sparesPortal (hn : n < 2) (hm : m < 2) (h : m ≠ n) (img : Option (List Byte)) (w : Works) :
    w.sparesPortal n (w.settlePortal m img) := .of_core ((w.settlePortal_moves m img).other n hm hn h.symm)

end SparesPortal

/-! ## A zone without an ordered step -/

/-- Zone `z` is there still, and no event but an order gives it an ordered step. -/
def Works.sparesZone (z : Nat) (w v : Works) : Prop :=
  ∀ x, w.lights.zones[z]? = some x → ∃ y, v.lights.zones[z]? = some y ∧ (x.ordered = none → y.ordered = none)

section SparesZone

variable {w v u : Works} {z i n : Nat}

theorem Works.sparesZone.trans (h1 : w.sparesZone z v) (h2 : v.sparesZone z u) : w.sparesZone z u := fun x hx => by
  obtain ⟨y, hy, hxy⟩ := h1 x hx
  obtain ⟨t, ht, hyt⟩ := h2 y hy
  exact ⟨t, ht, fun h => hyt (hxy h)⟩

theorem Works.sparesZone.of_zones (h : v.lights.zones = w.lights.zones) : w.sparesZone z v :=
  fun x hx => ⟨x, by rw [h]; exact hx, id⟩

theorem Works.sparesZone.of_plan (h : v.lights.plan = w.lights.plan) : w.sparesZone z v := .of_zones (Works.zones_of_plan h)

theorem Works.Leads.sparesZone {ps : List Part} (h : Works.Leads ps w v) (hp : Part.lights ∉ ps) : w.sparesZone z v :=
  .of_plan (h.plan_eq hp)

theorem Works.sparesZone.of_updAt {f : Zone → Zone} (hv : v.lights.zones = updAt f i w.lights.zones)
    (hf : ∀ x, x.ordered = none → (f x).ordered = none) : w.sparesZone z v := fun x hx => by
  rw [hv]
  by_cases h : z = i
  · subst h
    exact ⟨f x, getElem?_updAt_self hx, hf x⟩
  · exact ⟨x, by rw [getElem?_updAt_ne h, hx], id⟩

theorem Works.setTargets_sparesZone (z : Nat) (w : Works) : w.sparesZone z w.setTargets := fun x hx => by
  have hz : (indexed 0 w.lights.zones)[z]? = some (z, x) := by rw [getElem?_indexed, hx, Option.map_some, Nat.zero_add]
  exact ⟨_, (List.getElem?_map ..).trans (congrArg _ hz), id⟩

theorem Works.takeReport_plan (reports : List (Option Nat)) (c : Nat) (w : Works) :
    (w.takeReport reports c).lights.plan = w.lights.plan := Works.updCircuit_plan c _ w fun _ => rfl

theorem Works.panelReports_plan (reports : List (Option Nat)) (w : Works) :
    (w.panelReports reports).lights.plan = w.lights.plan := by
  refine each_plan _ _ w fun c v => ?_
  split
  · exact iteInduction (motive := fun u : Works => u.lights.plan = v.lights.plan) (fun _ => v.takeReport_plan reports c) fun _ => rfl
  · rfl

theorem Works.sparesZone_bearsDismissal (z : Nat) : Works.BearsDismissal (Works.sparesZone z) where
  trans := .trans
  sumps h _ := h.sparesZone (by decide)
  dismiss i w := .of_plan (w.dismiss_plan i)

theorem Works.sparesZone_bearsHanding (z : Nat) : Works.BearsHanding (Works.sparesZone z) where
  trans := .trans
  beside h := h.sparesZone (by decide)
  panelReports reports w := .of_plan (w.panelReports_plan reports)
  setTargets := Works.setTargets_sparesZone z
  takeFloats := (Works.sparesZone_bearsDismissal z).takeFloats
  followCircuits l w := .of_plan (w.followCircuits_plan l)
  serve si w := .of_plan (w.serve_plan si)

/-! ### Changes of claims -/

theorem Works.uncommandPump_sparesZone (z i : Nat) (c : ClaimValue) (w : Works) : w.sparesZone z (w.uncommandPump i c) :=
  (Works.uncommandPump_leads (ps := [.dewater, .active, .line]) i c w (by decide) .refl).sparesZone (by decide)

theorem Works.pumpViews_sparesZone (z i : Nat) (img : List Byte) (w : Works) : w.sparesZone z (w.pumpViews i img) :=
  (Works.pumpViews_leads (ps := [.dewater]) i img w (by decide) .refl).sparesZone (by decide)

theorem Works.settlePump_sparesZone (z i : Nat) (w : Works) : w.sparesZone z (w.settlePump i) := by
  have hmove (x : Pump) (s : Sump) (f : Pump → Pump) : w.sparesZone z ((w.settling i x s).movePump i f) :=
    (Works.movePump_leads (ps := [.dewater, .active]) i f _ (by decide)
      ((w.settling_only i x s).mono (by decide))).sparesZone (by decide)
  exact Works.settlePump_cases i w (.of_zones rfl) hmove fun x s f => (hmove x s f).trans (.of_plan (Works.haltPump_plan i _))

theorem Works.uncommandPortal_sparesZone (z n : Nat) (c : ClaimValue) (w : Works) : w.sparesZone z (w.uncommandPortal n c) :=
  (Works.uncommandPortal_leads (ps := [.portals, .active, .line]) n c w (by decide) .refl).sparesZone (by decide)

theorem Works.takeBarrier_lights (n : Nat) (img : List Byte) (w : Works) : (w.takeBarrier n img).lights = w.lights :=
  (Works.takeBarrier_leads (ps := [.portals]) n img w (by decide) .refl).lights_eq (by decide)

theorem Works.takeGate_lights (n : Nat) (img : List Byte) (w : Works) : (w.takeGate n img).lights = w.lights :=
  (Works.takeGate_leads (ps := [.portals]) n img w (by decide) .refl).lights_eq (by decide)

theorem Works.settleFound_plan (n : Nat) (w : Works) : (w.settlePortal n none).lights.plan = w.lights.plan := by
  simp [Works.settlePortal, Works.reconstruct, Works.beginSequence, Works.haltFound]

theorem Works.settlePortal_sparesZone (z n : Nat) (img : Option (List Byte)) (w : Works) :
    w.sparesZone z (w.settlePortal n img) := by
  refine .of_plan ?_
  cases img with
  | none => exact w.settleFound_plan n
  | some img => rw [Works.settlePortal_taken, Works.settleFound_plan, Works.takeGate_lights, Works.takeBarrier_lights]

theorem Works.judgeCurrent_sparesZone (z i : Nat) (w : Works) : w.sparesZone z (w.judgeCurrent i) := by
  unfold Works.judgeCurrent
  split
  · exact .of_zones rfl
  · refine iteInduction (motive := w.sparesZone z) (fun _ => .of_zones rfl) fun _ => ?_
    exact .of_updAt (i := i) ((congrArg Lights.zones (Works.judgeZoneSet_lights i _)).trans rfl) fun _ h => h

theorem Works.uncommandZone_sparesZone (z i : Nat) (c : ClaimValue) (w : Works) : w.sparesZone z (w.uncommandZone i c) := by
  rw [Works.uncommandZone_eq]
  refine .trans ((w.endZoneSet_only i 9 c.code 0).sparesZone (by decide)) (.trans ?_
    (.trans (.of_updAt rfl fun _ _ => rfl) (Works.judgeCurrent_sparesZone z i _)))
  exact .of_zones (Works.uncommandCircuits_rest i c _).1

theorem Works.adoptCircuit_plan (c : Nat) (w : Works) : (w.adoptCircuit c).lights.plan = w.lights.plan := by
  unfold Works.adoptCircuit
  repeat' split
  all_goals simp

theorem Works.dropLampGrant_zones (c : Nat) (w : Works) : (w.dropLampGrant c).lights.zones = w.lights.zones := by
  unfold Works.dropLampGrant
  split
  · rfl
  · split
    · rfl
    · rw [Works.updCircuit_zones]
      split <;> split <;> rfl

theorem Works.markFault_sparesZone (z c : Nat) (f : LampFlag) (code : Nat) (w : Works) : w.sparesZone z (w.markFault c f code) := by
  unfold Works.markFault
  split
  · exact .of_zones rfl
  · refine iteInduction (motive := w.sparesZone z) (fun _ => .of_zones rfl) fun _ => ?_
    exact .trans (.of_zones (w.dropLampGrant_zones c)) (.of_updAt rfl fun _ h => h)

theorem Works.clearFault_sparesZone (z c : Nat) (w : Works) : w.sparesZone z (w.clearFault c) := by
  unfold Works.clearFault
  split
  · exact .of_zones rfl
  · refine iteInduction (motive := w.sparesZone z) (fun _ => .of_zones rfl) fun _ => ?_
    exact .of_updAt rfl fun _ h => h

theorem Works.settleFault_sparesZone (z c : Nat) (img : Option (List Byte)) (w : Works) : w.sparesZone z (w.settleFault img c) := by
  unfold Works.settleFault
  split
  · exact .of_zones rfl
  · next x _ =>
    have hclear : w.sparesZone z (if x.fault = .refused then w.clearFault c else w) :=
      iteInduction (motive := w.sparesZone z) (fun _ => w.clearFault_sparesZone z c) fun _ => .of_zones rfl
    dsimp only
    split
    · refine iteInduction (motive := w.sparesZone z) (fun _ => hclear.trans (Works.markFault_sparesZone z c _ _ _)) fun _ => ?_
      exact iteInduction (motive := w.sparesZone z) (fun _ => hclear.trans (Works.clearFault_sparesZone z c _)) fun _ => hclear
    · exact hclear

theorem Works.settleZone_sparesZone (z i : Nat) (reports : List (Option Nat)) (img : Option (List Byte)) (w : Works) :
    w.sparesZone z (w.settleZone reports img i) := by
  have heach (l : List Nat) (f : Nat → Works → Works) (hf : ∀ c v, v.sparesZone z (f c v)) (v : Works) :
      v.sparesZone z (each l f v) := each_induction (P := v.sparesZone z) (.of_zones rfl) fun c _ t h => h.trans (hf c t)
  refine .trans ?_ (Works.judgeCurrent_sparesZone z i _)
  refine .trans ?_ (heach _ _ (fun c v => v.settleFault_sparesZone z c img) _)
  refine .trans ?_ (heach _ _ (fun c v => .of_plan (v.adoptCircuit_plan c)) _)
  exact heach _ _ (fun c v => .of_plan (v.takeReport_plan reports c)) w

end SparesZone

end Sys2Proof.Machine

namespace Sys2Proof.Machine

open Sys2Proof

/-! # The owner of a claim that becomes PANEL or LOCAL (R64, R93, R113) -/

section Losing

variable {w v u : Works} {i k : Nat} {c : Claim} {l : List NewClaim} {n m : NewClaim} {x : ClaimValue} {s : ClaimSubject}
  {images : Nat → Option (List Byte)} {reports : List (Option Nat)}

/-! ## A change at another subject -/

theorem Works.handClaim_sparesPump (h : n.subject ≠ .pump i) (images : Nat → Option (List Byte)) (reports : List (Option Nat))
    (w : Works) : w.sparesPump i (w.handClaim images reports false n) := by
  refine Works.handClaim_cases images reports false n w (.of_eq rfl) (fun j hj => ?_) (fun p _ => ?_) fun z _ => ?_
  · have hne : j ≠ i := by
      rintro rfl
      exact h hj
    exact ⟨fun x => w.uncommandPump_sparesPump i j x, w.settlePump_sparesPump hne,
      fun b => ⟨fun x => (w.pumpViews_sparesPump i j b).trans (Works.uncommandPump_sparesPump i j x _),
        (w.pumpViews_sparesPump i j b).trans (Works.settlePump_sparesPump hne _)⟩⟩
  · refine ⟨fun x => .of_eq ?_, fun img => .of_alike (w.settlePortal_moves p img).asks.alike⟩
    rw [(Works.uncommandPortal_leads (ps := [.portals, .active, .line]) p x w (by decide) .refl).dewater_eq (by decide)]
  · refine ⟨fun x => .of_eq ?_, fun img => .of_eq ?_⟩
    · rw [(w.uncommandZone_lights z x).dewater_eq (by decide)]
    · rw [(w.settleZone_lights reports img z).dewater_eq (by decide)]

theorem Works.handClaim_sparesPortal {p : Nat} (hp : p < 2) (hn : ∀ q, n.subject = .portal q → q < 2) (h : n.subject ≠ .portal p)
    (images : Nat → Option (List Byte)) (reports : List (Option Nat)) (w : Works) :
    w.sparesPortal p (w.handClaim images reports false n) := by
  refine Works.handClaim_cases images reports false n w (.of_eq rfl) (fun j _ => ?_) (fun q hq => ?_) fun z _ => ?_
  · exact ⟨fun x => w.uncommandPump_sparesPortal p j x, w.settlePump_sparesPortal p j,
      fun b => ⟨fun x => (w.pumpViews_sparesPortal p j b).trans (Works.uncommandPump_sparesPortal p j x _),
        (w.pumpViews_sparesPortal p j b).trans (Works.settlePump_sparesPortal p j _)⟩⟩
  · have hne : q ≠ p := by
      rintro rfl
      exact h hq
    exact ⟨fun x => w.uncommandPortal_sparesPortal hp (hn q hq) hne x, fun img => w.settlePortal_sparesPortal hp (hn q hq) hne img⟩
  · exact ⟨fun x => (w.uncommandZone_lights z x).sparesPortal (by decide),
      fun img => (w.settleZone_lights reports img z).sparesPortal (by decide)⟩

theorem Works.handClaim_sparesZone (z : Nat) (n : NewClaim) (images : Nat → Option (List Byte)) (reports : List (Option Nat))
    (w : Works) : w.sparesZone z (w.handClaim images reports false n) := by
  refine Works.handClaim_cases images reports false n w (.of_zones rfl) (fun j _ => ?_) (fun q _ => ?_) fun y _ => ?_
  · exact ⟨fun x => w.uncommandPump_sparesZone z j x, w.settlePump_sparesZone z j,
      fun b => ⟨fun x => (w.pumpViews_sparesZone z j b).trans (Works.uncommandPump_sparesZone z j x _),
        (w.pumpViews_sparesZone z j b).trans (Works.settlePump_sparesZone z j _)⟩⟩
  · exact ⟨fun x => w.uncommandPortal_sparesZone z q x, fun img => w.settlePortal_sparesZone z q img⟩
  · exact ⟨fun x => w.uncommandZone_sparesZone z y x, fun img => w.settleZone_sparesZone z y reports img⟩

/-! ## The change at the subject itself -/

/-- The value of a claim that its owner loses. -/
def ClaimValue.lost (x : ClaimValue) : Prop := x = .away ∨ x = .panel

theorem ClaimValue.lost.ne_auto (h : x.lost) : x ≠ .auto := by
  rcases h with rfl | rfl <;> decide

/-- The pump is told, with its views ahead where a response brings the change. -/
theorem Works.handClaim_pump (hc : w.claimEntry (.pump i) = some c) (hx : x.lost) :
    ∃ v, w.sparesPump i v ∧ w.handClaim images reports false ⟨.pump i, x⟩ = v.uncommandPump i x := by
  obtain ⟨htell, -, -⟩ := handClaim_tells w images reports false ⟨.pump i, x⟩ c _ hc rfl
  obtain ⟨haway, himage, hnone⟩ := htell i rfl
  rcases hx with rfl | rfl
  · exact ⟨w, .of_eq rfl, haway rfl⟩
  · cases hb : images c.unit with
    | none => exact ⟨w, .of_eq rfl, (hnone hb).1 rfl⟩
    | some b => exact ⟨_, w.pumpViews_sparesPump i i b, (himage b hb).1 rfl⟩

theorem Works.handClaim_pump_loses {p : Pump} (hc : w.claimEntry (.pump i) = some c) (hx : x.lost)
    (hp : w.dewater.pumps[i]? = some p) :
    ∃ y, (w.handClaim images reports false ⟨.pump i, x⟩).dewater.pumps[i]? = some y ∧ y.surrendered := by
  obtain ⟨v, hv, htell⟩ := Works.handClaim_pump (images := images) (reports := reports) hc hx
  obtain ⟨q, hq, -⟩ := hv p hp
  rw [htell]
  exact ⟨_, Works.uncommandPump_pump hq, rfl, rfl⟩

theorem Works.handClaim_portal_keeps {p : Nat} (hc : w.claimEntry (.portal p) = some c) (hx : x.lost) :
    w.sparesPortal p (w.handClaim images reports false ⟨.portal p, x⟩) := by
  obtain ⟨-, htell, -⟩ := handClaim_tells w images reports false ⟨.portal p, x⟩ c _ hc rfl
  rw [(htell p rfl).1 hx]
  exact w.uncommandPortal_keeps p x

theorem Works.handClaim_zone_loses {z : Nat} {q : Zone} (hc : w.claimEntry (.zone z) = some c) (hx : x.lost)
    (hq : w.lights.zones[z]? = some q) :
    ∃ y, (w.handClaim images reports false ⟨.zone z, x⟩).lights.zones[z]? = some y ∧ y.ordered = none := by
  obtain ⟨-, -, htell⟩ := handClaim_tells w images reports false ⟨.zone z, x⟩ c _ hc rfl
  obtain ⟨-, -, ⟨y, hy⟩, -⟩ := uncommandZone_gives_up w _ z x q hq rfl
  rw [(htell z rfl).1 (hx.imp_right fun h => ⟨h, rfl⟩)]
  exact ⟨_, hy, rfl⟩

/-! ## The event -/

theorem Works.claimEntry_congr (h : v.claims = w.claims) (s : ClaimSubject) : v.claimEntry s = w.claimEntry s := by
  rw [Works.claimEntry, h, Works.claimEntry]

theorem Works.claimEntry_isSome (h : s ∈ w.claims.map Claim.subject) : ∃ c, w.claimEntry s = some c := by
  obtain ⟨c, hc, rfl⟩ := List.mem_map.mp h
  exact Option.isSome_iff_exists.mp (List.find?_isSome.mpr ⟨c, hc, by simp⟩)

/-- Another change of the event is at another subject. -/
theorem subject_ne_of_nodup (hl : (l.map NewClaim.subject).Nodup) (hn : n ∈ l) (hm : m ∈ l) (h : m ≠ n) :
    m.subject ≠ n.subject := fun hs => h (List.inj_on_of_nodup_map hl hm hn hs)

/-- The event's changes handed: the owner of one that becomes PANEL or LOCAL commands its subject no longer. -/
theorem Works.handClaims_loses (hl : (l.map NewClaim.subject).Nodup) (hn : (⟨s, x⟩ : NewClaim) ∈ l) (hx : x.lost)
    (hs : ∀ m ∈ l, m.subject ∈ w.claims.map Claim.subject) (images : Nat → Option (List Byte)) (reports : List (Option Nat)) :
    w.ownerLoses (w.handClaims images reports false l) s := by
  have hother (m : NewClaim) (hm : m ∈ l) (h : m ≠ ⟨s, x⟩) : m.subject ≠ s := subject_ne_of_nodup hl hn hm h
  obtain ⟨c, hc⟩ := Works.claimEntry_isSome (hs _ hn)
  refine ⟨?_, ?_, ?_⟩
  · rintro i p rfl hp
    obtain ⟨v, hclaims, hbefore, hafter⟩ := (Works.sparesPump_bearsHanding i).turn (images := images) (reports := reports)
      hl.of_map hn hx.ne_auto (fun m hm h v => Works.handClaim_sparesPump (hother m hm h) images reports v) w
    obtain ⟨q, hq, -⟩ := hbefore p hp
    obtain ⟨y, hy, hlost⟩ := Works.handClaim_pump_loses (images := images) (reports := reports)
      ((Works.claimEntry_congr hclaims _).trans hc) hx hq
    obtain ⟨t, ht, hkept⟩ := hafter y hy
    exact ⟨t, ht, hkept hlost⟩
  · rintro p rfl hp hports
    have hsmall (m : NewClaim) (hm : m ∈ l) (q : Nat) (hq : m.subject = .portal q) : q < 2 := by
      obtain ⟨d, hd, hds⟩ := List.mem_map.mp (hs m hm)
      exact hports d hd q (hds.trans hq)
    obtain ⟨v, hclaims, hbefore, hafter⟩ := (Works.sparesPortal_bearsHanding p).turn (images := images) (reports := reports)
      hl.of_map hn hx.ne_auto (fun m hm h v => Works.handClaim_sparesPortal hp (hsmall m hm) (hother m hm h) images reports v) w
    exact (hbefore.trans (Works.handClaim_portal_keeps ((Works.claimEntry_congr hclaims _).trans hc) hx)).trans hafter
  · rintro z q rfl hq
    obtain ⟨v, hclaims, hbefore, hafter⟩ := (Works.sparesZone_bearsHanding z).turn (images := images) (reports := reports)
      hl.of_map hn hx.ne_auto (fun m _ _ v => Works.handClaim_sparesZone z m images reports v) w
    obtain ⟨t, ht, -⟩ := hbefore q hq
    obtain ⟨y, hy, hlost⟩ := Works.handClaim_zone_loses (images := images) (reports := reports)
      ((Works.claimEntry_congr hclaims _).trans hc) hx ht
    obtain ⟨t', ht', hkept⟩ := hafter y hy
    exact ⟨t', ht', hkept hlost⟩

/-- Key views and values changed ahead, the subjects of the claims aside. -/
theorem Works.ownerLoses.of_claims (h : v.ownerLoses u s) (hl : Works.Leads [.claims] w v)
    (hs : v.claims.map Claim.subject = w.claims.map Claim.subject) : w.ownerLoses u s := by
  obtain ⟨hpump, hportal, hzone⟩ := h
  rw [hl.dewater_eq (by decide)] at hpump
  rw [hl.lights_eq (by decide)] at hzone
  refine ⟨hpump, fun p hp hlt hports => ?_, hzone⟩
  rw [hportal p hp hlt fun c hc m hm => ?_, Works.portal_congr (hl.portals_eq (by decide))]
  obtain ⟨d, hd, hds⟩ := List.mem_map.mp (hs ▸ List.mem_map_of_mem hc : c.subject ∈ w.claims.map Claim.subject)
  exact hports d hd m (hds.trans hm)

/-- The loss of a unit (R120). -/
theorem Works.claimsLost_loses (hw : (w.claims.map Claim.subject).Nodup) (hc : w.claims[k]? = some c) (hu : c.unit = i)
    (hv : c.value ≠ .away) : w.ownerLoses (w.claimsLost i) c.subject := by
  have hn : (⟨c.subject, .away⟩ : NewClaim) ∈ w.lostClaims i :=
    Works.lostClaim_mem hc hu hv
  have hsubjects : ((w.keysUnknown i).setClaims .unitLost (w.lostClaims i)).claims.map Claim.subject =
      w.claims.map Claim.subject := by
    rw [Works.setClaims_subjects, Works.keysUnknown_subjects]
  have hleads : Works.Leads [.claims] w ((w.keysUnknown i).setClaims .unitLost (w.lostClaims i)) :=
    Works.setClaims_leads _ _ _ (by decide) (Works.updClaims_leads _ _ (by decide) .refl)
  rw [Works.claimsLost_eq, if_neg (by simpa using List.ne_nil_of_mem hn)]
  refine (Works.handClaims_loses (Works.lostClaims_nodup hw i) hn (.inl rfl) (fun m hm => ?_) _ _).of_claims hleads hsubjects
  obtain ⟨d, hd, -, rfl⟩ := Works.mem_lostClaims.mp hm
  rw [hsubjects]
  exact List.mem_map_of_mem (Works.mem_unitClaims.mp hd).1

/-- A key turned to PANEL (R122). -/
theorem Works.judgeKeys_loses (hw : (w.claims.map Claim.subject).Nodup) (hc : w.claims[k]? = some c) (hu : c.unit = i)
    (hchange : c.keyChange = some ⟨c.subject, .panel⟩) (images : Nat → Option (List Byte)) :
    w.ownerLoses (w.judgeKeys i images) c.subject := by
  have hn : (⟨c.subject, .panel⟩ : NewClaim) ∈ w.keyChanges i :=
    Works.keyChange_mem hc hu hchange
  have hsubjects : (w.keysSet i).claims.map Claim.subject = w.claims.map Claim.subject := by
    rw [Works.keysSet, Works.setClaims_subjects, Works.setClaims_subjects]
  have hleads : Works.Leads [.claims] w (w.keysSet i) := (Works.setClaims_only ..).trans (Works.setClaims_only ..)
  rw [Works.judgeKeys_eq, if_neg (by simpa using List.ne_nil_of_mem hn)]
  refine (Works.handClaims_loses (Works.keyChanges_nodup hw i) hn (.inr rfl) (fun m hm => ?_) _ _).of_claims hleads hsubjects
  obtain ⟨d, hd, hdm⟩ := Works.mem_keyChanges.mp hm
  rw [hsubjects, Claim.keyChange_subject hdm]
  exact List.mem_map_of_mem (Works.mem_unitClaims.mp hd).1

end Losing

/-! # The unit orders and the claims of a unit, together -/

/-- UNIT_LOST_CLAIMS (R120). -/
theorem unitLost_claims (u k : Nat) (c : Claim) (w : Works) (hw : (w.claims.map Claim.subject).Nodup)
    (hc : w.claims[k]? = some c) :
    (c.unit ≠ u → (w.claimsLost u).claims[k]? = some c) ∧
    (c.unit = u → c.value ≠ .away →
      w.claimTurns (w.claimsLost u) k { c with keyView := .unknown } .away .unitLost) ∧
    (c.unit = u → c.value = .away → (w.claimsLost u).claims[k]? = some { c with keyView := .unknown }) ∧
    (c.unit = u → c.value ≠ .away → w.ownerLoses (w.claimsLost u) c.subject) := by
  refine ⟨fun hu => ?_, fun hu hv => Works.claimsLost_takes hw hc hu hv, fun hu hv => ?_,
    fun hu hv => Works.claimsLost_loses hw hc hu hv⟩
  · rw [Works.claimsLost_keeps hw hc (.inl hu), if_neg hu]
  · rw [Works.claimsLost_keeps hw hc (.inr hv), if_pos hu]

/-- KEY_PANEL and KEY_NORMAL (R122, R123). -/
theorem keys_turn (u k : Nat) (c : Claim) (images : Nat → Option (List Byte)) (w : Works)
    (hw : (w.claims.map Claim.subject).Nodup) (hc : w.claims[k]? = some c) :
    (c.unit = u → c.keyView = .panel → (c.value = .auto ∨ c.value = .ordered) →
      w.claimTurns (w.judgeKeys u images) k c .panel .keyPanel ∧ w.ownerLoses (w.judgeKeys u images) c.subject) ∧
    (c.unit = u → c.keyView = .normal → c.value = .panel →
      w.claimTurns (w.judgeKeys u images) k c .auto .keyNormal) ∧
    ((c.unit ≠ u ∨ c.value = .away ∨ c.keyView = .unknown ∨ (c.keyView = .panel ↔ c.value = .panel)) →
      (w.judgeKeys u images).claims[k]? = some c) := by
  refine ⟨fun hu hk hv => ?_, fun hu hk hv => ?_, fun h => Works.judgeKeys_keeps hw hc images h⟩
  · have hchange := Claim.keyChange_panel hk hv
    exact ⟨Works.judgeKeys_takes hc hu hchange images (Works.keysSet_panel hw hc hu hchange),
      Works.judgeKeys_loses hw hc hu hchange images⟩
  · have hchange := Claim.keyChange_normal hk hv
    exact Works.judgeKeys_takes hc hu hchange images (Works.keysSet_normal hw hc hu hchange)

/-- Settles O51: the unit orders by the roster state, and the claims of a unit by the values set ahead of their handing, which
takes one turn at each subject and leaves the others. -/
theorem unitOrders : Obligations.UnitOrders := by
  unfold Obligations.UnitOrders
  exact ⟨fun _ _ _ _ h hs ho hr => unitRetire_cases h hs ho hr, fun _ _ _ _ h hs ho hr => unitRestore_cases h hs ho hr,
    unitLost_claims, keys_turn, fun u _ _ cause images _ hw hc => unit_joins hw hc u cause images,
    handClaim_tells⟩

end Sys2Proof.Machine
